-- ==== Sys2Proof/Word.lean ====
section
/-! DEFINITION. The word types of the machine. -/
namespace Sys2Proof

/-- A byte of memory. -/
abbrev Byte := BitVec 8
/-- A 16-bit word. -/
abbrev Half := BitVec 16
/-- A 32-bit doubleword: a general register, a linear address, an offset. -/
abbrev Word := BitVec 32
/-- A 64-bit quadword: a model-specific register, a descriptor. -/
abbrev QWord := BitVec 64

end Sys2Proof
end

