-- ==== Sys2Proof/Machine/Bits.lean ====
section
/-! DEFINITION. Bit fields, sign extension and byte order. -/
namespace Sys2Proof.Machine

/-- Bit `i` of a value, numbered from the least significant bit (20_memory.md R201). -/
def bit {w : Nat} (x : BitVec w) (i : Nat) : Bool := x.getLsbD i

/-- The value with bit `i` set to `b`. -/
def setBit {w : Nat} (x : BitVec w) (i : Nat) (b : Bool) : BitVec w :=
  if b then x ||| BitVec.twoPow w i else x &&& ~~~(BitVec.twoPow w i)

/-- The `n` bits of `x` from bit `lo` up. -/
def field {w : Nat} (x : BitVec w) (lo n : Nat) : BitVec n := x.extractLsb' lo n

/-- `old` with the bits of `mask` replaced by those of `new`. -/
def blend {w : Nat} (mask old new : BitVec w) : BitVec w := (old &&& ~~~mask) ||| (new &&& mask)

/-- A one-bit value. -/
def ofBool (b : Bool) : Nat := if b then 1 else 0

/-- Zero extension or truncation to 32 bits. -/
def zx32 {w : Nat} (x : BitVec w) : Word := x.setWidth 32

/-- Sign extension to 32 bits. -/
def sx32 {w : Nat} (x : BitVec w) : Word := x.signExtend 32

/-- Little-endian bytes of a number, `n` of them (20_memory.md R201). -/
def leBytes : Nat → Nat → List Byte
  | 0, _ => []
  | n + 1, v => BitVec.ofNat 8 v :: leBytes n (v / 256)

/-- The number that little-endian bytes stand for (20_memory.md R201). -/
def leNat : List Byte → Nat
  | [] => 0
  | b :: bs => b.toNat + 256 * leNat bs

/-- The highest bit set among the low `n` bits. -/
def highestBit {w : Nat} (x : BitVec w) : Nat → Option Nat
  | 0 => none
  | n + 1 => if bit x n then some n else highestBit x n

/-- The lowest bit set among bits `i` to `i + n - 1`. -/
def lowestBit {w : Nat} (x : BitVec w) (i : Nat) : Nat → Option Nat
  | 0 => none
  | n + 1 => if bit x i then some i else lowestBit x (i + 1) n

end Sys2Proof.Machine
end

