-- ==== Sys2Proof/Config.lean ====
section
/-! DEFINITION. What an implementation or its platform fixes (93_implementation_defined.md section 3), and
the free values: constants without a body, of which nothing can be proved. -/
namespace Sys2Proof

/-- The state of the floating-point unit (10_state.md R78). The width 80 of a data register is that
rule's. The registers are the eight named ST0 to ST7. -/
structure Fpu where
  st0 : BitVec 80
  st1 : BitVec 80
  st2 : BitVec 80
  st3 : BitVec 80
  st4 : BitVec 80
  st5 : BitVec 80
  st6 : BitVec 80
  st7 : BitVec 80
  /-- control word -/
  cw : Half
  /-- status word -/
  sw : Half
  /-- tag word -/
  tw : Half
  /-- selector of the last instruction pointer -/
  ipSel : Half
  /-- offset of the last instruction pointer -/
  ip : Word
  /-- selector of the last data operand pointer -/
  dpSel : Half
  /-- offset of the last data operand pointer -/
  dp : Word
  deriving DecidableEq, Repr, Inhabited

namespace Config

/-! The values the architecture leaves to the implementation, as this processor has them (00_scope.md R7). -/

/-- XLEN: the width of a general register, that of `Word`. -/
abbrev xlen : Nat := 32
/-- LINEAR_BITS: the width of a linear address, that of `Word`. -/
abbrev linearBits : Nat := 32
/-- PHYS_BITS: the width of a physical address with CR4.PAE = 1. -/
abbrev physBits : Nat := 36
/-- NSEG: the segment registers, the constructors of `SegReg`. -/
abbrev nseg : Nat := 6
/-- The descriptors of one descriptor table, of 8 bytes each. -/
abbrev tableDescs : Nat := 8192
/-- The vectors of the interrupt descriptor table. -/
abbrev idtVectors : Nat := 256
/-- The breakpoint address registers, DR0 to DR3. -/
abbrev breakpoints : Nat := 4
/-- VCNT: the variable-range MTRRs. -/
abbrev vcnt : Nat := 8
/-- The fixed-range MTRRs. -/
abbrev fixedMtrrs : Nat := 11
/-- The sub-ranges of the fixed-range MTRRs. -/
abbrev fixedSubRanges : Nat := 88
/-- The sub-ranges of one fixed-range MTRR. -/
abbrev fixedFields : Nat := fixedSubRanges / fixedMtrrs
/-- FIX: the fixed-range MTRRs are supported. -/
abbrev fixSupported : Bool := true
/-- WC: the write-combining memory type is supported. -/
abbrev wcSupported : Bool := true
/-- Count: the machine-check banks. -/
abbrev mcBanks : Nat := 5
/-- MCG_CTL_P: the register MCG_CTL is implemented. -/
abbrev mcgCtlP : Bool := true
/-- The performance counters. -/
abbrev perfCounters : Nat := 2
/-- The width of a performance counter. -/
abbrev perfBits : Nat := 40
/-- The width of the time-stamp counter. -/
abbrev tscBits : Nat := 64
/-- LINE: the bytes of a cache line. -/
abbrev line : Nat := 32
/-- The width of a local APIC ID. -/
abbrev apicIdBits : Nat := 4
/-- The physical address of the local APIC page (20_memory.md R206). -/
abbrev apicPage : Nat := 0xFEE00000
/-- The default of SMBASE (64_smm.md R1065). -/
abbrev smbaseDefault : Word := 0x30000#32
/-- The most bytes of one instruction (30_encoding.md R482). -/
abbrev maxInstr : Nat := 15
/-- The processors the boot protocol serves on one bus. -/
abbrev processorsPerBus : Nat := 4

/-- The shape of a cache or of a TLB, machine specific: no rule depends on it (00_scope.md R7). -/
structure BufferShape where
  /-- bytes of a cache, entries of a TLB or of the write buffer -/
  size : Nat
  /-- associativity; none where the text gives none -/
  ways : Option Nat
  deriving DecidableEq, Repr

/-- L1 instruction cache. -/
def l1Code : BufferShape := ⟨8192, some 4⟩
/-- L1 data cache. -/
def l1Data : BufferShape := ⟨8192, some 2⟩
/-- L2 cache: of the two sizes the table prints, 256 KBytes or 512 KBytes, the first (log 54, DESIGN CHOICE). -/
def l2 : BufferShape := ⟨262144, some 4⟩
/-- Instruction TLB for 4-KByte pages. -/
def tlbCode : BufferShape := ⟨64, some 4⟩
/-- Data TLB for 4-KByte pages. -/
def tlbData : BufferShape := ⟨64, some 4⟩
/-- Instruction TLB for large pages: 4-way set associative. The table prints the associativity where its other rows print a
count of entries; that it has 4 entries is the model's choice (log 54, DESIGN CHOICE). -/
def tlbCodeLarge : BufferShape := ⟨4, some 4⟩
/-- Data TLB for large pages. -/
def tlbDataLarge : BufferShape := ⟨8, some 4⟩
/-- Write buffer. -/
def writeBuffer : BufferShape := ⟨8, none⟩

/-! Free values. -/

/-- The free values the machine draws one after another, by the number of the draw. -/
opaque freeBits : Nat → Nat
/-- How many clocks beyond the first the time-stamp counter counts in the step with this draw number
(70_reset_and_hazards.md R1340: any positive amount; below 2^32, so that it is positive modulo 2^64 too, log 20). -/
opaque tscExtra : Nat → BitVec 32
/-- The linear addresses the processor translates ahead of the program in the step with this draw number
(11_state_msr.md R181, 22_paging.md R371). -/
opaque speculated : Nat → List Word
/-- Whether a translation already held in a TLB is still held and used, by the number of the draw
(22_paging.md R371: the old or the new translation; 11_state_msr.md R181: replacement is the hardware's). -/
opaque tlbHolds : Nat → Bool
/-- The floating-point state after a signalled machine check with PCC = 1 (66_machine_check.md R1191), by the number of
the draw. -/
opaque corruptFpu : Nat → Fpu
/-- The bytes of memory such a machine check corrupts, address and value, by the number of the draw. -/
opaque corruptCells : Nat → List (Nat × Byte)
/-- What a read of a physical address with nothing or a device behind it returns (20_memory.md R205), by the
number of the draw and the address. -/
opaque busByte : Nat → Nat → Byte

/-- SIGNATURE_LOW: model and stepping, bits 7:0 of EDX after reset (10_state.md R95). -/
opaque signatureLow : Byte
/-- SIGNATURE_LOW: bits 15:12 of EDX after reset (10_state.md R95). -/
opaque signatureType : BitVec 4
/-- CPUID_FEATURES: the feature bits the text does not name (40_system_instructions.md R604). -/
opaque cpuidFeatures : Word
/-- CPUID: register `i` (0 EAX, 1 EBX, 2 ECX, 3 EDX) of leaf `leaf` where the text gives no value (R604). -/
opaque cpuidValue : Word → Nat → Word
/-- APIC_VERSION_LOW: the low digit of the local APIC version (62_apic.md R971). -/
opaque apicVersionLow : BitVec 4
/-- SMM_REVISION_LOW: bits 15:0 of the SMM revision identifier (64_smm.md R1084). -/
opaque smmRevisionLow : Half
/-- POWERON_STRAPS: the pins sampled at reset into EBL_CR_POWERON (11_state_msr.md R139). -/
opaque powerOnStraps : Word
/-- The bits of EBL_CR_POWERON as they stand after reset: bits 17:16 and 21:20 are not all set, since FH is not a
valid APIC ID (62_apic.md R946). -/
def straps : Word :=
  if powerOnStraps &&& 0x330000#32 = 0x330000#32 then powerOnStraps &&& ~~~0x100000#32 else powerOnStraps
/-- APIC_ID_INIT: the local APIC ID sampled at reset, the cluster ID and the symmetric arbitration ID of
EBL_CR_POWERON (62_apic.md R946). -/
def apicIdInit : BitVec 4 := (straps.extractLsb' 16 2 ++ straps.extractLsb' 20 2 : BitVec 4)
/-- What the reserved bits of a model-specific register read as, by its address (00_scope.md R9, 11_state_msr.md R139,
20_memory.md R257, R259). -/
opaque msrReserved : Nat → QWord
/-- P5_MC_BANK: the bank P5_MC_ADDR and P5_MC_TYPE alias, modulo 5 (11_state_msr.md R137). -/
opaque p5McBank : Nat
/-- The implemented bits of MCi_CTL of bank `i` (66_machine_check.md R1185). -/
opaque mcCtlMask : Nat → QWord
/-- What RDMSR of MC0_CTL returns from EBL_CR_POWERON (66_machine_check.md R1185). -/
opaque mc0Ctl : QWord → QWord
/-- What MCi_ADDR of bank `i` holds while ADDRV is clear (66_machine_check.md R1187), by the bank and the last
address logged; bits 35:0. -/
opaque mcAddrOpen : Nat → QWord → BitVec 36
/-- Whether the platform uses the processor in conjunction with an I/O APIC (62_apic.md R953). -/
opaque ioApic : Bool
/-- The remote IRR flag of an edge-triggered LVT entry (62_apic.md R954), by the number of the draw. -/
opaque remoteIrr : Nat → Bool
/-- The Bn flag a #DB reports for a disabled breakpoint (10_state.md R75, 93_implementation_defined.md section 2.1),
by the number of the draw and the number of the breakpoint. -/
opaque openHit : Nat → Nat → Bool
/-- Whether the image of EFLAGS saved by a general-detect #DB has RF set (decision D32 of 92_eei_decisions.md) or the live RF
(60_exceptions.md R831), by the number of the draw (log 62). -/
opaque detectRf : Nat → Bool
/-- The value BIOS_UPDT_TRIG and BIOS_SIGN read as (11_state_msr.md R140), by address. -/
opaque biosMsr : Nat → QWord

/-- PDPTE_RSVD: the reserved-bit mask of a page-directory-pointer entry, at its default (22_paging.md R360). -/
def pdpteReserved : QWord := 0xFFFFFFF0000001E6#64

/-- FPU_MODEL: the state an FPU instruction leaves, by its opcode, the sizes, the memory or flag operand
and the state before (43_general_instructions.md R812, 44_integer_reference.md R1445). -/
opaque fpuRun : (op : Nat) → (wide : Bool) → (operand : Nat) → Fpu → Fpu
/-- FPU_MODEL: the bits an FPU instruction stores to memory. -/
opaque fpuStore : (op : Nat) → (wide : Bool) → Fpu → Nat
/-- FPU_MODEL: ZF, PF and CF as FCOMI, FCOMIP, FUCOMI and FUCOMIP leave them. -/
opaque fpuCompare : (op : Nat) → Fpu → BitVec 3

end Config
end Sys2Proof
end

