-- ==== Sys2Proof/Syntax.lean ====
section
/-! DEFINITION. The instructions: one constructor per row of spec/opcode_table.json, with its operands
as the encoding carries them. -/
namespace Sys2Proof

/-- The general registers in their encoding order 0 to 7 (10_state.md R33). As a 16-bit register the
same name stands for the low half. -/
inductive Reg where
  | eax | ecx | edx | ebx | esp | ebp | esi | edi
  deriving DecidableEq, Repr, Inhabited

/-- The byte registers in their encoding order 0 to 7 (10_state.md R33). -/
inductive Reg8 where
  | al | cl | dl | bl | ah | ch | dh | bh
  deriving DecidableEq, Repr, Inhabited

/-- The segment registers in their encoding order 0 to 5 (10_state.md R54). -/
inductive SegReg where
  | es | cs | ss | ds | fs | gs
  deriving DecidableEq, Repr, Inhabited

/-- The sixteen conditions of Jcc, SETcc and CMOVcc in their encoding order (43_general_instructions.md R775). -/
inductive Cond where
  | o | no | b | ae | e | ne | be | a | s | ns | p | np | l | ge | le | g
  deriving DecidableEq, Repr, Inhabited

/-- The eight register sums of 16-bit addressing in their r/m order (30_encoding.md R488). -/
inductive Base16 where
  | bxSi | bxDi | bpSi | bpDi | si | di | bp | bx
  deriving DecidableEq, Repr, Inhabited

/-- The displacement of a 16-bit addressing form: none (mod 00), one byte (mod 01), a word (mod 10). -/
inductive Disp16 where
  | none
  | d8 (d : BitVec 8)
  | d16 (d : BitVec 16)
  deriving DecidableEq, Repr, Inhabited

/-- The displacement of a 32-bit addressing form: none (mod 00), one byte (mod 01), a doubleword (mod 10). -/
inductive Disp32 where
  | none
  | d8 (d : BitVec 8)
  | d32 (d : BitVec 32)
  deriving DecidableEq, Repr, Inhabited

/-- A memory operand as the modR/M and SIB bytes name it (30_encoding.md R487 to R489). An `index` of
`esp` means no index register. -/
inductive Ea where
  | base16 (b : Base16) (d : Disp16)
  | abs16 (d : BitVec 16)
  | base32 (b : Reg) (d : Disp32)
  | abs32 (d : BitVec 32)
  | sib (scale : Fin 4) (index : Reg) (b : Reg) (d : Disp32)
  | sibAbs (scale : Fin 4) (index : Reg) (d : BitVec 32)
  deriving DecidableEq, Repr, Inhabited

/-- An E operand: a register or a memory operand (30_encoding.md R492). -/
inductive RegMem (ρ : Type) where
  | reg (r : ρ)
  | mem (m : Ea)
  deriving DecidableEq, Repr, Inhabited

/-- A byte E operand. -/
abbrev Rm8 := RegMem Reg8
/-- A word or doubleword E operand. -/
abbrev Rm := RegMem Reg

/-- The operand-size and address-size attributes in force, true for 32 (30_encoding.md R485). -/
structure Sizes where
  o32 : Bool
  a32 : Bool
  deriving DecidableEq, Repr, Inhabited

/-- The instructions. Each docstring names the row of spec/opcode_table.json: its number, mnemonic,
operand form, first bytes and rule. -/
inductive Instr where
  /-- Row 0: ADD Eb,Gb, 00, R1354. -/
  | addEbGb (rm : Rm8) (r : Reg8)
  /-- Row 1: ADD Ev,Gv, 01, R1354. -/
  | addEvGv (rm : Rm) (r : Reg)
  /-- Row 2: ADD Gb,Eb, 02, R1354. -/
  | addGbEb (r : Reg8) (rm : Rm8)
  /-- Row 3: ADD Gv,Ev, 03, R1354. -/
  | addGvEv (r : Reg) (rm : Rm)
  /-- Row 4: ADD AL,Ib, 04, R1354. -/
  | addALIb (imm : BitVec 8)
  /-- Row 5: ADD eAX,Iv, 05, R1354. -/
  | addeAXIv (imm : BitVec 32)
  /-- Row 6: ADD Eb,Ib, 8000, R1354. -/
  | addEbIb (rm : Rm8) (imm : BitVec 8)
  /-- Row 7: ADD Ev,Iv, 8100, R1354. -/
  | addEvIv (rm : Rm) (imm : BitVec 32)
  /-- Row 8: ADD Ev,Ib, 8300, R1354. -/
  | addEvIb (rm : Rm) (imm : BitVec 8)
  /-- Row 9: OR Eb,Gb, 08, R1360. -/
  | orEbGb (rm : Rm8) (r : Reg8)
  /-- Row 10: OR Ev,Gv, 09, R1360. -/
  | orEvGv (rm : Rm) (r : Reg)
  /-- Row 11: OR Gb,Eb, 0A, R1360. -/
  | orGbEb (r : Reg8) (rm : Rm8)
  /-- Row 12: OR Gv,Ev, 0B, R1360. -/
  | orGvEv (r : Reg) (rm : Rm)
  /-- Row 13: OR AL,Ib, 0C, R1360. -/
  | orALIb (imm : BitVec 8)
  /-- Row 14: OR eAX,Iv, 0D, R1360. -/
  | oreAXIv (imm : BitVec 32)
  /-- Row 15: OR Eb,Ib, 8008, R1360. -/
  | orEbIb (rm : Rm8) (imm : BitVec 8)
  /-- Row 16: OR Ev,Iv, 8108, R1360. -/
  | orEvIv (rm : Rm) (imm : BitVec 32)
  /-- Row 17: OR Ev,Ib, 8308, R1360. -/
  | orEvIb (rm : Rm) (imm : BitVec 8)
  /-- Row 18: ADC Eb,Gb, 10, R1355. -/
  | adcEbGb (rm : Rm8) (r : Reg8)
  /-- Row 19: ADC Ev,Gv, 11, R1355. -/
  | adcEvGv (rm : Rm) (r : Reg)
  /-- Row 20: ADC Gb,Eb, 12, R1355. -/
  | adcGbEb (r : Reg8) (rm : Rm8)
  /-- Row 21: ADC Gv,Ev, 13, R1355. -/
  | adcGvEv (r : Reg) (rm : Rm)
  /-- Row 22: ADC AL,Ib, 14, R1355. -/
  | adcALIb (imm : BitVec 8)
  /-- Row 23: ADC eAX,Iv, 15, R1355. -/
  | adceAXIv (imm : BitVec 32)
  /-- Row 24: ADC Eb,Ib, 8010, R1355. -/
  | adcEbIb (rm : Rm8) (imm : BitVec 8)
  /-- Row 25: ADC Ev,Iv, 8110, R1355. -/
  | adcEvIv (rm : Rm) (imm : BitVec 32)
  /-- Row 26: ADC Ev,Ib, 8310, R1355. -/
  | adcEvIb (rm : Rm) (imm : BitVec 8)
  /-- Row 27: SBB Eb,Gb, 18, R1357. -/
  | sbbEbGb (rm : Rm8) (r : Reg8)
  /-- Row 28: SBB Ev,Gv, 19, R1357. -/
  | sbbEvGv (rm : Rm) (r : Reg)
  /-- Row 29: SBB Gb,Eb, 1A, R1357. -/
  | sbbGbEb (r : Reg8) (rm : Rm8)
  /-- Row 30: SBB Gv,Ev, 1B, R1357. -/
  | sbbGvEv (r : Reg) (rm : Rm)
  /-- Row 31: SBB AL,Ib, 1C, R1357. -/
  | sbbALIb (imm : BitVec 8)
  /-- Row 32: SBB eAX,Iv, 1D, R1357. -/
  | sbbeAXIv (imm : BitVec 32)
  /-- Row 33: SBB Eb,Ib, 8018, R1357. -/
  | sbbEbIb (rm : Rm8) (imm : BitVec 8)
  /-- Row 34: SBB Ev,Iv, 8118, R1357. -/
  | sbbEvIv (rm : Rm) (imm : BitVec 32)
  /-- Row 35: SBB Ev,Ib, 8318, R1357. -/
  | sbbEvIb (rm : Rm) (imm : BitVec 8)
  /-- Row 36: AND Eb,Gb, 20, R1359. -/
  | andEbGb (rm : Rm8) (r : Reg8)
  /-- Row 37: AND Ev,Gv, 21, R1359. -/
  | andEvGv (rm : Rm) (r : Reg)
  /-- Row 38: AND Gb,Eb, 22, R1359. -/
  | andGbEb (r : Reg8) (rm : Rm8)
  /-- Row 39: AND Gv,Ev, 23, R1359. -/
  | andGvEv (r : Reg) (rm : Rm)
  /-- Row 40: AND AL,Ib, 24, R1359. -/
  | andALIb (imm : BitVec 8)
  /-- Row 41: AND eAX,Iv, 25, R1359. -/
  | andeAXIv (imm : BitVec 32)
  /-- Row 42: AND Eb,Ib, 8020, R1359. -/
  | andEbIb (rm : Rm8) (imm : BitVec 8)
  /-- Row 43: AND Ev,Iv, 8120, R1359. -/
  | andEvIv (rm : Rm) (imm : BitVec 32)
  /-- Row 44: AND Ev,Ib, 8320, R1359. -/
  | andEvIb (rm : Rm) (imm : BitVec 8)
  /-- Row 45: SUB Eb,Gb, 28, R1356. -/
  | subEbGb (rm : Rm8) (r : Reg8)
  /-- Row 46: SUB Ev,Gv, 29, R1356. -/
  | subEvGv (rm : Rm) (r : Reg)
  /-- Row 47: SUB Gb,Eb, 2A, R1356. -/
  | subGbEb (r : Reg8) (rm : Rm8)
  /-- Row 48: SUB Gv,Ev, 2B, R1356. -/
  | subGvEv (r : Reg) (rm : Rm)
  /-- Row 49: SUB AL,Ib, 2C, R1356. -/
  | subALIb (imm : BitVec 8)
  /-- Row 50: SUB eAX,Iv, 2D, R1356. -/
  | subeAXIv (imm : BitVec 32)
  /-- Row 51: SUB Eb,Ib, 8028, R1356. -/
  | subEbIb (rm : Rm8) (imm : BitVec 8)
  /-- Row 52: SUB Ev,Iv, 8128, R1356. -/
  | subEvIv (rm : Rm) (imm : BitVec 32)
  /-- Row 53: SUB Ev,Ib, 8328, R1356. -/
  | subEvIb (rm : Rm) (imm : BitVec 8)
  /-- Row 54: XOR Eb,Gb, 30, R1361. -/
  | xorEbGb (rm : Rm8) (r : Reg8)
  /-- Row 55: XOR Ev,Gv, 31, R1361. -/
  | xorEvGv (rm : Rm) (r : Reg)
  /-- Row 56: XOR Gb,Eb, 32, R1361. -/
  | xorGbEb (r : Reg8) (rm : Rm8)
  /-- Row 57: XOR Gv,Ev, 33, R1361. -/
  | xorGvEv (r : Reg) (rm : Rm)
  /-- Row 58: XOR AL,Ib, 34, R1361. -/
  | xorALIb (imm : BitVec 8)
  /-- Row 59: XOR eAX,Iv, 35, R1361. -/
  | xoreAXIv (imm : BitVec 32)
  /-- Row 60: XOR Eb,Ib, 8030, R1361. -/
  | xorEbIb (rm : Rm8) (imm : BitVec 8)
  /-- Row 61: XOR Ev,Iv, 8130, R1361. -/
  | xorEvIv (rm : Rm) (imm : BitVec 32)
  /-- Row 62: XOR Ev,Ib, 8330, R1361. -/
  | xorEvIb (rm : Rm) (imm : BitVec 8)
  /-- Row 63: CMP Eb,Gb, 38, R1358. -/
  | cmpEbGb (rm : Rm8) (r : Reg8)
  /-- Row 64: CMP Ev,Gv, 39, R1358. -/
  | cmpEvGv (rm : Rm) (r : Reg)
  /-- Row 65: CMP Gb,Eb, 3A, R1358. -/
  | cmpGbEb (r : Reg8) (rm : Rm8)
  /-- Row 66: CMP Gv,Ev, 3B, R1358. -/
  | cmpGvEv (r : Reg) (rm : Rm)
  /-- Row 67: CMP AL,Ib, 3C, R1358. -/
  | cmpALIb (imm : BitVec 8)
  /-- Row 68: CMP eAX,Iv, 3D, R1358. -/
  | cmpeAXIv (imm : BitVec 32)
  /-- Row 69: CMP Eb,Ib, 8038, R1358. -/
  | cmpEbIb (rm : Rm8) (imm : BitVec 8)
  /-- Row 70: CMP Ev,Iv, 8138, R1358. -/
  | cmpEvIv (rm : Rm) (imm : BitVec 32)
  /-- Row 71: CMP Ev,Ib, 8338, R1358. -/
  | cmpEvIb (rm : Rm) (imm : BitVec 8)
  /-- Row 72: PUSH ES, 06, R786. -/
  | pushEs
  /-- Row 73: POP ES, 07, R786. -/
  | popEs
  /-- Row 74: PUSH CS, 0E, R786. -/
  | pushCs
  /-- Row 75: PUSH SS, 16, R786. -/
  | pushSs
  /-- Row 76: POP SS, 17, R786. -/
  | popSs
  /-- Row 77: PUSH DS, 1E, R786. -/
  | pushDs
  /-- Row 78: POP DS, 1F, R786. -/
  | popDs
  /-- Row 79: PUSH FS, 0FA0, R786. -/
  | pushFs
  /-- Row 80: POP FS, 0FA1, R786. -/
  | popFs
  /-- Row 81: PUSH GS, 0FA8, R786. -/
  | pushGs
  /-- Row 82: POP GS, 0FA9, R786. -/
  | popGs
  /-- Row 83: DAA, 27, R1430. -/
  | daa
  /-- Row 84: DAS, 2F, R1431. -/
  | das
  /-- Row 85: AAA, 37, R1432. -/
  | aaa
  /-- Row 86: AAS, 3F, R1433. -/
  | aas
  /-- Row 87: INC eXX, 40, R1363. -/
  | incRv (r : Reg)
  /-- Row 88: DEC eXX, 48, R1364. -/
  | decRv (r : Reg)
  /-- Row 89: PUSH eXX, 50, R781. -/
  | pushRv (r : Reg)
  /-- Row 90: POP eXX, 58, R781. -/
  | popRv (r : Reg)
  /-- Row 91: PUSHA_PUSHAD, 60, R782. -/
  | pushaPushad
  /-- Row 92: POPA_POPAD, 61, R782. -/
  | popaPopad
  /-- Row 93: BOUND Gv,Ma, 62, R816. -/
  | boundGvMa (r : Reg) (m : Ea)
  /-- Row 94: ARPL Ew,Gw, 63, R584. -/
  | arplEwGw (rm : Rm) (r : Reg)
  /-- Row 95: PUSH Iv, 68, R781. -/
  | pushIv (imm : BitVec 32)
  /-- Row 96: IMUL Gv,Ev,Iv, 69, R1372. -/
  | imulGvEvIv (r : Reg) (rm : Rm) (imm : BitVec 32)
  /-- Row 97: PUSH Ib, 6A, R781. -/
  | pushIb (imm : BitVec 8)
  /-- Row 98: IMUL Gv,Ev,Ib, 6B, R1372. -/
  | imulGvEvIb (r : Reg) (rm : Rm) (imm : BitVec 8)
  /-- Row 99: INSB Yb,DX, 6C, R796. -/
  | insbYbDX
  /-- Row 100: INSW_INSD Yv,DX, 6D, R796. -/
  | inswInsdYvDX
  /-- Row 101: OUTSB DX,Xb, 6E, R796. -/
  | outsbDXXb
  /-- Row 102: OUTSW_OUTSD DX,Xv, 6F, R796. -/
  | outswOutsdDXXv
  /-- Row 103: Jcc Jb, 70, R652. -/
  | jccJb (c : Cond) (disp : BitVec 8)
  /-- Row 104: reserved_MOVB AL,Ib, 82, R548; its immediate has no effect and is not held. -/
  | reserved82
  /-- Row 105: TEST Eb,Gb, 84, R1362. -/
  | testEbGb (rm : Rm8) (r : Reg8)
  /-- Row 106: TEST Ev,Gv, 85, R1362. -/
  | testEvGv (rm : Rm) (r : Reg)
  /-- Row 107: XCHG Eb,Gb, 86, R806. -/
  | xchgEbGb (rm : Rm8) (r : Reg8)
  /-- Row 108: XCHG Ev,Gv, 87, R806. -/
  | xchgEvGv (rm : Rm) (r : Reg)
  /-- Row 109: MOV Eb,Gb, 88, R1395. -/
  | movEbGb (rm : Rm8) (r : Reg8)
  /-- Row 110: MOV Ev,Gv, 89, R1395. -/
  | movEvGv (rm : Rm) (r : Reg)
  /-- Row 111: MOV Gb,Eb, 8A, R1395. -/
  | movGbEb (r : Reg8) (rm : Rm8)
  /-- Row 112: MOV Gv,Ev, 8B, R1395. -/
  | movGvEv (r : Reg) (rm : Rm)
  /-- Row 113: MOV Ew,Sw, 8C, R785. -/
  | movEwSw (rm : Rm) (sr : SegReg)
  /-- Row 114: LEA Gv,M, 8D, R1398. -/
  | leaGvM (r : Reg) (m : Ea)
  /-- Row 115: MOV Sw,Ew, 8E, R785. -/
  | movSwEw (sr : SegReg) (rm : Rm)
  /-- Row 116: POP Ev, 8F00, R781. -/
  | popEv (rm : Rm)
  /-- Row 117: NOP, 90, R1407. -/
  | nop
  /-- Row 118: XCHG eAX,eXX, 90, R806. -/
  | xchgEAXRv (r : Reg)
  /-- Row 119: CBW_CWDE, 98, R1400. -/
  | cbwCwde
  /-- Row 120: CWD_CDQ, 99, R1401. -/
  | cwdCdq
  /-- Row 121: CALL Ap, 9A, R665. -/
  | callAp (off : BitVec 32) (sel : BitVec 16)
  /-- Row 122: WAIT_FWAIT, 9B, R810. -/
  | waitFwait
  /-- Row 123: PUSHF_PUSHFD Fv, 9C, R790. -/
  | pushfPushfd
  /-- Row 124: POPF_POPFD Fv, 9D, R790. -/
  | popfPopfd
  /-- Row 125: SAHF, 9E, R1421. -/
  | sahf
  /-- Row 126: LAHF, 9F, R1420. -/
  | lahf
  /-- Row 127: MOV AL,Ob, A0, R1395. -/
  | movALOb (off : BitVec 32)
  /-- Row 128: MOV eAX,Ov, A1, R1395. -/
  | moveAXOv (off : BitVec 32)
  /-- Row 129: MOV Ob,AL, A2, R1395. -/
  | movObAL (off : BitVec 32)
  /-- Row 130: MOV Ov,eAX, A3, R1395. -/
  | movOveAX (off : BitVec 32)
  /-- Row 131: MOVSB Yb,Xb, A4, R801. -/
  | movsbYbXb
  /-- Row 132: MOVSW_MOVSD Yv,Xv, A5, R801. -/
  | movswMovsdYvXv
  /-- Row 133: CMPSB Xb,Yb, A6, R802. -/
  | cmpsbXbYb
  /-- Row 134: CMPSW_CMPSD Xv,Yv, A7, R802. -/
  | cmpswCmpsdXvYv
  /-- Row 135: TEST AL,Ib, A8, R1362. -/
  | testALIb (imm : BitVec 8)
  /-- Row 136: TEST eAX,Iv, A9, R1362. -/
  | testeAXIv (imm : BitVec 32)
  /-- Row 137: STOSB Yb,AL, AA, R805. -/
  | stosbYbAL
  /-- Row 138: STOSW_STOSD Yv,eAX, AB, R805. -/
  | stoswStosdYveAX
  /-- Row 139: LODSB AL,Xb, AC, R804. -/
  | lodsbALXb
  /-- Row 140: LODSW_LODSD eAX,Xv, AD, R804. -/
  | lodswLodsdeAXXv
  /-- Row 141: SCASB AL,Yb, AE, R803. -/
  | scasbALYb
  /-- Row 142: SCASW_SCASD eAX,Yv, AF, R803. -/
  | scaswScasdeAXYv
  /-- Row 143: MOV byte register,Ib, B0, R1395. -/
  | movR8Ib (r : Reg8) (imm : BitVec 8)
  /-- Row 144: MOV eXX,Iv, B8, R1395. -/
  | movRvIv (r : Reg) (imm : BitVec 32)
  /-- Row 145: ROL Eb,Ib, C000, R1384. -/
  | rolEbIb (rm : Rm8) (imm : BitVec 8)
  /-- Row 146: ROR Eb,Ib, C008, R1385. -/
  | rorEbIb (rm : Rm8) (imm : BitVec 8)
  /-- Row 147: RCL Eb,Ib, C010, R1386. -/
  | rclEbIb (rm : Rm8) (imm : BitVec 8)
  /-- Row 148: RCR Eb,Ib, C018, R1387. -/
  | rcrEbIb (rm : Rm8) (imm : BitVec 8)
  /-- Row 149: SHL_SAL Eb,Ib, C020, R1381. -/
  | shlSalEbIb (rm : Rm8) (imm : BitVec 8)
  /-- Row 150: SHR Eb,Ib, C028, R1382. -/
  | shrEbIb (rm : Rm8) (imm : BitVec 8)
  /-- Row 151: SAR Eb,Ib, C038, R1383. -/
  | sarEbIb (rm : Rm8) (imm : BitVec 8)
  /-- Row 152: ROL Ev,Ib, C100, R1384. -/
  | rolEvIb (rm : Rm) (imm : BitVec 8)
  /-- Row 153: ROR Ev,Ib, C108, R1385. -/
  | rorEvIb (rm : Rm) (imm : BitVec 8)
  /-- Row 154: RCL Ev,Ib, C110, R1386. -/
  | rclEvIb (rm : Rm) (imm : BitVec 8)
  /-- Row 155: RCR Ev,Ib, C118, R1387. -/
  | rcrEvIb (rm : Rm) (imm : BitVec 8)
  /-- Row 156: SHL_SAL Ev,Ib, C120, R1381. -/
  | shlSalEvIb (rm : Rm) (imm : BitVec 8)
  /-- Row 157: SHR Ev,Ib, C128, R1382. -/
  | shrEvIb (rm : Rm) (imm : BitVec 8)
  /-- Row 158: SAR Ev,Ib, C138, R1383. -/
  | sarEvIb (rm : Rm) (imm : BitVec 8)
  /-- Row 159: ROL Eb,1, D000, R1384. -/
  | rolEb1 (rm : Rm8)
  /-- Row 160: ROR Eb,1, D008, R1385. -/
  | rorEb1 (rm : Rm8)
  /-- Row 161: RCL Eb,1, D010, R1386. -/
  | rclEb1 (rm : Rm8)
  /-- Row 162: RCR Eb,1, D018, R1387. -/
  | rcrEb1 (rm : Rm8)
  /-- Row 163: SHL_SAL Eb,1, D020, R1381. -/
  | shlSalEb1 (rm : Rm8)
  /-- Row 164: SHR Eb,1, D028, R1382. -/
  | shrEb1 (rm : Rm8)
  /-- Row 165: SAR Eb,1, D038, R1383. -/
  | sarEb1 (rm : Rm8)
  /-- Row 166: ROL Ev,1, D100, R1384. -/
  | rolEv1 (rm : Rm)
  /-- Row 167: ROR Ev,1, D108, R1385. -/
  | rorEv1 (rm : Rm)
  /-- Row 168: RCL Ev,1, D110, R1386. -/
  | rclEv1 (rm : Rm)
  /-- Row 169: RCR Ev,1, D118, R1387. -/
  | rcrEv1 (rm : Rm)
  /-- Row 170: SHL_SAL Ev,1, D120, R1381. -/
  | shlSalEv1 (rm : Rm)
  /-- Row 171: SHR Ev,1, D128, R1382. -/
  | shrEv1 (rm : Rm)
  /-- Row 172: SAR Ev,1, D138, R1383. -/
  | sarEv1 (rm : Rm)
  /-- Row 173: ROL Eb,CL, D200, R1384. -/
  | rolEbCL (rm : Rm8)
  /-- Row 174: ROR Eb,CL, D208, R1385. -/
  | rorEbCL (rm : Rm8)
  /-- Row 175: RCL Eb,CL, D210, R1386. -/
  | rclEbCL (rm : Rm8)
  /-- Row 176: RCR Eb,CL, D218, R1387. -/
  | rcrEbCL (rm : Rm8)
  /-- Row 177: SHL_SAL Eb,CL, D220, R1381. -/
  | shlSalEbCL (rm : Rm8)
  /-- Row 178: SHR Eb,CL, D228, R1382. -/
  | shrEbCL (rm : Rm8)
  /-- Row 179: SAR Eb,CL, D238, R1383. -/
  | sarEbCL (rm : Rm8)
  /-- Row 180: ROL Ev,CL, D300, R1384. -/
  | rolEvCL (rm : Rm)
  /-- Row 181: ROR Ev,CL, D308, R1385. -/
  | rorEvCL (rm : Rm)
  /-- Row 182: RCL Ev,CL, D310, R1386. -/
  | rclEvCL (rm : Rm)
  /-- Row 183: RCR Ev,CL, D318, R1387. -/
  | rcrEvCL (rm : Rm)
  /-- Row 184: SHL_SAL Ev,CL, D320, R1381. -/
  | shlSalEvCL (rm : Rm)
  /-- Row 185: SHR Ev,CL, D328, R1382. -/
  | shrEvCL (rm : Rm)
  /-- Row 186: SAR Ev,CL, D338, R1383. -/
  | sarEvCL (rm : Rm)
  /-- Row 187: RET__near Iw, C2, R656. -/
  | retNearIw (imm : BitVec 16)
  /-- Row 188: RET__near, C3, R656. -/
  | retNear
  /-- Row 189: LES Gv,Mp, C4, R788. -/
  | lesGvMp (r : Reg) (m : Ea)
  /-- Row 190: LDS Gv,Mp, C5, R788. -/
  | ldsGvMp (r : Reg) (m : Ea)
  /-- Row 191: MOV Eb,Ib, C600, R1395. -/
  | movEbIb (rm : Rm8) (imm : BitVec 8)
  /-- Row 192: MOV Ev,Iv, C700, R1395. -/
  | movEvIv (rm : Rm) (imm : BitVec 32)
  /-- Row 193: ENTER Iw,Ib, C8, R783. -/
  | enterIwIb (imm : BitVec 16) (imm2 : BitVec 8)
  /-- Row 194: LEAVE, C9, R783. -/
  | leave
  /-- Row 195: RET__far Iw, CA, R670. -/
  | retFarIw (imm : BitVec 16)
  /-- Row 196: RET__far, CB, R670. -/
  | retFar
  /-- Row 197: INT_3, CC, R856. -/
  | int3
  /-- Row 198: INT Ib, CD, R856. -/
  | intIb (imm : BitVec 8)
  /-- Row 199: INTO, CE, R856. -/
  | into
  /-- Row 200: IRET_IRETD, CF, R862. -/
  | iretIretd
  /-- Row 201: AAM Ib, D4, R1434. -/
  | aamIb (imm : BitVec 8)
  /-- Row 202: AAD Ib, D5, R1435. -/
  | aadIb (imm : BitVec 8)
  /-- Row 203: (reserved), D6, R548. -/
  | reservedD6
  /-- Row 204: XLAT_XLATB, D7, R1399. -/
  | xlatXlatb
  /-- Row 205: LOOPNE_LOOPNZ Jb, E0, R654. -/
  | loopneLoopnzJb (disp : BitVec 8)
  /-- Row 206: LOOPE_LOOPZ Jb, E1, R654. -/
  | loopeLoopzJb (disp : BitVec 8)
  /-- Row 207: LOOP Jb, E2, R654. -/
  | loopJb (disp : BitVec 8)
  /-- Row 208: JCXZ_JECXZ Jb, E3, R653. -/
  | jcxzJecxzJb (disp : BitVec 8)
  /-- Row 209: IN AL,Ib, E4, R795. -/
  | inALIb (imm : BitVec 8)
  /-- Row 210: IN eAX,Ib, E5, R795. -/
  | ineAXIb (imm : BitVec 8)
  /-- Row 211: OUT Ib,AL, E6, R795. -/
  | outIbAL (imm : BitVec 8)
  /-- Row 212: OUT Ib,eAX, E7, R795. -/
  | outIbeAX (imm : BitVec 8)
  /-- Row 213: CALL Jv, E8, R655. -/
  | callJv (disp : BitVec 32)
  /-- Row 214: JMP Jv, E9, R651. -/
  | jmpJv (disp : BitVec 32)
  /-- Row 215: JMP Ap, EA, R664. -/
  | jmpAp (off : BitVec 32) (sel : BitVec 16)
  /-- Row 216: JMP Jb, EB, R651. -/
  | jmpJb (disp : BitVec 8)
  /-- Row 217: IN AL,DX, EC, R795. -/
  | inALDX
  /-- Row 218: IN eAX,DX, ED, R795. -/
  | ineAXDX
  /-- Row 219: OUT DX,AL, EE, R795. -/
  | outDXAL
  /-- Row 220: OUT DX,eAX, EF, R795. -/
  | outDXeAX
  /-- Row 221: (reserved), F1, R548. -/
  | reservedF1
  /-- Row 222: HLT, F4, R592. -/
  | hlt
  /-- Row 223: CMC, F5, R1424. -/
  | cmc
  /-- Row 224: TEST Eb,Ib, F600, R1362. -/
  | testEbIb (rm : Rm8) (imm : BitVec 8)
  /-- Row 225: NOT Eb, F610, R1366. -/
  | notEb (rm : Rm8)
  /-- Row 226: NEG Eb, F618, R1365. -/
  | negEb (rm : Rm8)
  /-- Row 227: MUL Eb, F620, R1370. -/
  | mulEb (rm : Rm8)
  /-- Row 228: IMUL Eb, F628, R1371. -/
  | imulEb (rm : Rm8)
  /-- Row 229: DIV Eb, F630, R1373. -/
  | divEb (rm : Rm8)
  /-- Row 230: IDIV Eb, F638, R1374. -/
  | idivEb (rm : Rm8)
  /-- Row 231: TEST Ev,Iv, F700, R1362. -/
  | testEvIv (rm : Rm) (imm : BitVec 32)
  /-- Row 232: NOT Ev, F710, R1366. -/
  | notEv (rm : Rm)
  /-- Row 233: NEG Ev, F718, R1365. -/
  | negEv (rm : Rm)
  /-- Row 234: MUL Ev, F720, R1370. -/
  | mulEv (rm : Rm)
  /-- Row 235: IMUL Ev, F728, R1371. -/
  | imulEv (rm : Rm)
  /-- Row 236: DIV Ev, F730, R1373. -/
  | divEv (rm : Rm)
  /-- Row 237: IDIV Ev, F738, R1374. -/
  | idivEv (rm : Rm)
  /-- Row 238: CLC, F8, R1422. -/
  | clc
  /-- Row 239: STC, F9, R1423. -/
  | stc
  /-- Row 240: CLI, FA, R791. -/
  | cli
  /-- Row 241: STI, FB, R791. -/
  | sti
  /-- Row 242: CLD, FC, R1425. -/
  | cld
  /-- Row 243: STD, FD, R1426. -/
  | std
  /-- Row 244: INC Eb, FE00, R1363. -/
  | incEb (rm : Rm8)
  /-- Row 245: DEC Eb, FE08, R1364. -/
  | decEb (rm : Rm8)
  /-- Row 246: INC Ev, FF00, R1363. -/
  | incEv (rm : Rm)
  /-- Row 247: DEC Ev, FF08, R1364. -/
  | decEv (rm : Rm)
  /-- Row 248: CALL Ev, FF10, R655. -/
  | callEv (rm : Rm)
  /-- Row 249: CALL Ep, FF18, R665. -/
  | callEp (m : Ea)
  /-- Row 250: JMP Ev, FF20, R651. -/
  | jmpEv (rm : Rm)
  /-- Row 251: JMP Ep, FF28, R664. -/
  | jmpEp (m : Ea)
  /-- Row 252: PUSH Ev, FF30, R781. -/
  | pushEv (rm : Rm)
  /-- Row 253: prefix_SEG_ES prefix, 26, R481. -/
  | prefixSegEs
  /-- Row 254: prefix_SEG_CS prefix, 2E, R481. -/
  | prefixSegCs
  /-- Row 255: prefix_SEG_SS prefix, 36, R481. -/
  | prefixSegSs
  /-- Row 256: prefix_SEG_DS prefix, 3E, R481. -/
  | prefixSegDs
  /-- Row 257: prefix_SEG_FS prefix, 64, R481. -/
  | prefixSegFs
  /-- Row 258: prefix_SEG_GS prefix, 65, R481. -/
  | prefixSegGs
  /-- Row 259: prefix_operand_size prefix, 66, R485. -/
  | prefixOperandSize
  /-- Row 260: prefix_address_size prefix, 67, R485. -/
  | prefixAddressSize
  /-- Row 261: prefix_LOCK prefix, F0, R593. -/
  | prefixLock
  /-- Row 262: prefix_REPNE_REPNZ prefix, F2, R800. -/
  | prefixRepneRepnz
  /-- Row 263: prefix_REP_REPE_REPZ prefix, F3, R800. -/
  | prefixRepRepeRepz
  /-- Row 264: SLDT Ew, 0F0000, R576. -/
  | sldtEw (rm : Rm)
  /-- Row 265: STR Ew, 0F0008, R578. -/
  | strEw (rm : Rm)
  /-- Row 266: LLDT Ew, 0F0010, R575. -/
  | lldtEw (rm : Rm)
  /-- Row 267: LTR Ew, 0F0018, R577. -/
  | ltrEw (rm : Rm)
  /-- Row 268: VERR Ew, 0F0020, R587. -/
  | verrEw (rm : Rm)
  /-- Row 269: VERW Ew, 0F0028, R588. -/
  | verwEw (rm : Rm)
  /-- Row 270: SGDT Ms, 0F0100, R572. -/
  | sgdtMs (m : Ea)
  /-- Row 271: SIDT Ms, 0F0108, R574. -/
  | sidtMs (m : Ea)
  /-- Row 272: LGDT Ms, 0F0110, R571. -/
  | lgdtMs (m : Ea)
  /-- Row 273: LIDT Ms, 0F0118, R573. -/
  | lidtMs (m : Ea)
  /-- Row 274: SMSW Ew, 0F0120, R582. -/
  | smswEw (rm : Rm)
  /-- Row 275: LMSW Ew, 0F0130, R581. -/
  | lmswEw (rm : Rm)
  /-- Row 276: INVLPG M, 0F0138, R591. -/
  | invlpgM (m : Ea)
  /-- Row 277: LAR Gv,Ew, 0F02, R585. -/
  | larGvEw (r : Reg) (rm : Rm)
  /-- Row 278: LSL Gv,Ew, 0F03, R586. -/
  | lslGvEw (r : Reg) (rm : Rm)
  /-- Row 279: CLTS, 0F06, R583. -/
  | clts
  /-- Row 280: INVD, 0F08, R589. -/
  | invd
  /-- Row 281: WBINVD, 0F09, R590. -/
  | wbinvd
  /-- Row 282: UD2, 0F0B, R815. -/
  | ud2
  /-- Row 283: MOV Rd,Cd, 0F20, R579. -/
  | movRdCd (r : Reg) (cr : Fin 8)
  /-- Row 284: MOV Rd,Dd, 0F21, R580. -/
  | movRdDd (r : Reg) (dr : Fin 8)
  /-- Row 285: MOV Cd,Rd, 0F22, R579. -/
  | movCdRd (cr : Fin 8) (r : Reg)
  /-- Row 286: MOV Dd,Rd, 0F23, R580. -/
  | movDdRd (dr : Fin 8) (r : Reg)
  /-- Row 287: reserved_MOV Rd,Td, 0F24, R548. -/
  | reserved0F24 (tr : Fin 8) (r : Reg)
  /-- Row 288: reserved_MOV Td,Rd, 0F26, R548. -/
  | reserved0F26 (tr : Fin 8) (r : Reg)
  /-- Row 289: WRMSR, 0F30, R601. -/
  | wrmsr
  /-- Row 290: RDTSC, 0F31, R603. -/
  | rdtsc
  /-- Row 291: RDMSR, 0F32, R600. -/
  | rdmsr
  /-- Row 292: RDPMC, 0F33, R602. -/
  | rdpmc
  /-- Row 293: CMOVcc Gv,Ev, 0F40, R1406. -/
  | cmovccGvEv (c : Cond) (r : Reg) (rm : Rm)
  /-- Row 294: Jcc Jv, 0F80, R652. -/
  | jccJv (c : Cond) (disp : BitVec 32)
  /-- Row 295: SETcc Eb, 0F90, R1405. -/
  | setccEb (c : Cond) (rm : Rm8)
  /-- Row 296: CPUID, 0FA2, R604. -/
  | cpuid
  /-- Row 297: BT Ev,Gv, 0FA3, R1410. -/
  | btEvGv (rm : Rm) (r : Reg)
  /-- Row 298: SHLD Ev,Gv,Ib, 0FA4, R1388. -/
  | shldEvGvIb (rm : Rm) (r : Reg) (imm : BitVec 8)
  /-- Row 299: SHLD Ev,Gv,CL, 0FA5, R1388. -/
  | shldEvGvCL (rm : Rm) (r : Reg)
  /-- Row 300: (reserved), 0FA6, R548. -/
  | reserved0FA6
  /-- Row 301: (reserved), 0FA7, R548. -/
  | reserved0FA7
  /-- Row 302: RSM, 0FAA, R594. -/
  | rsm
  /-- Row 303: BTS Ev,Gv, 0FAB, R1411. -/
  | btsEvGv (rm : Rm) (r : Reg)
  /-- Row 304: SHRD Ev,Gv,Ib, 0FAC, R1389. -/
  | shrdEvGvIb (rm : Rm) (r : Reg) (imm : BitVec 8)
  /-- Row 305: SHRD Ev,Gv,CL, 0FAD, R1389. -/
  | shrdEvGvCL (rm : Rm) (r : Reg)
  /-- Row 306: IMUL Gv,Ev, 0FAF, R1372. -/
  | imulGvEv (r : Reg) (rm : Rm)
  /-- Row 307: CMPXCHG Eb,Gb, 0FB0, R1404. -/
  | cmpxchgEbGb (rm : Rm8) (r : Reg8)
  /-- Row 308: CMPXCHG Ev,Gv, 0FB1, R1404. -/
  | cmpxchgEvGv (rm : Rm) (r : Reg)
  /-- Row 309: LSS Gv,Mp, 0FB2, R788. -/
  | lssGvMp (r : Reg) (m : Ea)
  /-- Row 310: BTR Ev,Gv, 0FB3, R1412. -/
  | btrEvGv (rm : Rm) (r : Reg)
  /-- Row 311: LFS Gv,Mp, 0FB4, R788. -/
  | lfsGvMp (r : Reg) (m : Ea)
  /-- Row 312: LGS Gv,Mp, 0FB5, R788. -/
  | lgsGvMp (r : Reg) (m : Ea)
  /-- Row 313: MOVZX Gv,Eb, 0FB6, R1396. -/
  | movzxGvEb (r : Reg) (rm : Rm8)
  /-- Row 314: MOVZX Gv,Ew, 0FB7, R1396. -/
  | movzxGvEw (r : Reg) (rm : Rm)
  /-- Row 315: BT Ev,Ib, 0FBA20, R1410. -/
  | btEvIb (rm : Rm) (imm : BitVec 8)
  /-- Row 316: BTS Ev,Ib, 0FBA28, R1411. -/
  | btsEvIb (rm : Rm) (imm : BitVec 8)
  /-- Row 317: BTR Ev,Ib, 0FBA30, R1412. -/
  | btrEvIb (rm : Rm) (imm : BitVec 8)
  /-- Row 318: BTC Ev,Ib, 0FBA38, R1413. -/
  | btcEvIb (rm : Rm) (imm : BitVec 8)
  /-- Row 319: BTC Ev,Gv, 0FBB, R1413. -/
  | btcEvGv (rm : Rm) (r : Reg)
  /-- Row 320: BSF Gv,Ev, 0FBC, R1414. -/
  | bsfGvEv (r : Reg) (rm : Rm)
  /-- Row 321: BSR Gv,Ev, 0FBD, R1415. -/
  | bsrGvEv (r : Reg) (rm : Rm)
  /-- Row 322: MOVSX Gv,Eb, 0FBE, R1397. -/
  | movsxGvEb (r : Reg) (rm : Rm8)
  /-- Row 323: MOVSX Gv,Ew, 0FBF, R1397. -/
  | movsxGvEw (r : Reg) (rm : Rm)
  /-- Row 324: XADD Eb,Gb, 0FC0, R1403. -/
  | xaddEbGb (rm : Rm8) (r : Reg8)
  /-- Row 325: XADD Ev,Gv, 0FC1, R1403. -/
  | xaddEvGv (rm : Rm) (r : Reg)
  /-- Row 326: CMPXCHG8B Mq, 0FC708, R808. -/
  | cmpxchg8bMq (m : Ea)
  /-- Row 327: BSWAP 32-bit register, 0FC8, R1402. -/
  | bswap (r : Reg)
  /-- Row 328: FADD single-real (4 bytes), D800, R810. -/
  | faddM32 (m : Ea)
  /-- Row 329: FMUL single-real (4 bytes), D808, R810. -/
  | fmulM32 (m : Ea)
  /-- Row 330: FCOM single-real (4 bytes), D810, R810. -/
  | fcomM32 (m : Ea)
  /-- Row 331: FCOMP single-real (4 bytes), D818, R810. -/
  | fcompM32 (m : Ea)
  /-- Row 332: FSUB single-real (4 bytes), D820, R810. -/
  | fsubM32 (m : Ea)
  /-- Row 333: FSUBR single-real (4 bytes), D828, R810. -/
  | fsubrM32 (m : Ea)
  /-- Row 334: FDIV single-real (4 bytes), D830, R810. -/
  | fdivM32 (m : Ea)
  /-- Row 335: FDIVR single-real (4 bytes), D838, R810. -/
  | fdivrM32 (m : Ea)
  /-- Row 336: FLD single-real (4 bytes), D900, R810. -/
  | fldM32 (m : Ea)
  /-- Row 337: FST single-real (4 bytes), D910, R810. -/
  | fstM32 (m : Ea)
  /-- Row 338: FSTP single-real (4 bytes), D918, R810. -/
  | fstpM32 (m : Ea)
  /-- Row 339: FLDENV 14 or 28 bytes, D920, R810. -/
  | fldenv (m : Ea)
  /-- Row 340: FLDCW 2 bytes, D928, R810. -/
  | fldcw (m : Ea)
  /-- Row 341: FSTENV__FNSTENV 14 or 28 bytes, D930, R810. -/
  | fstenvFnstenv (m : Ea)
  /-- Row 342: FSTCW__FNSTCW 2 bytes, D938, R810. -/
  | fstcwFnstcw (m : Ea)
  /-- Row 343: FIADD short-int (4 bytes), DA00, R810. -/
  | fiaddI32 (m : Ea)
  /-- Row 344: FIMUL short-int (4 bytes), DA08, R810. -/
  | fimulI32 (m : Ea)
  /-- Row 345: FICOM short-int (4 bytes), DA10, R810. -/
  | ficomI32 (m : Ea)
  /-- Row 346: FICOMP short-int (4 bytes), DA18, R810. -/
  | ficompI32 (m : Ea)
  /-- Row 347: FISUB short-int (4 bytes), DA20, R810. -/
  | fisubI32 (m : Ea)
  /-- Row 348: FISUBR short-int (4 bytes), DA28, R810. -/
  | fisubrI32 (m : Ea)
  /-- Row 349: FIDIV short-int (4 bytes), DA30, R810. -/
  | fidivI32 (m : Ea)
  /-- Row 350: FIDIVR short-int (4 bytes), DA38, R810. -/
  | fidivrI32 (m : Ea)
  /-- Row 351: FILD short-int (4 bytes), DB00, R810. -/
  | fildI32 (m : Ea)
  /-- Row 352: FIST short-int (4 bytes), DB10, R810. -/
  | fistI32 (m : Ea)
  /-- Row 353: FISTP short-int (4 bytes), DB18, R810. -/
  | fistpI32 (m : Ea)
  /-- Row 354: FLD ext-real (10 bytes), DB28, R810. -/
  | fldM80 (m : Ea)
  /-- Row 355: FSTP ext-real (10 bytes), DB38, R810. -/
  | fstpM80 (m : Ea)
  /-- Row 356: FADD double-real (8 bytes), DC00, R810. -/
  | faddM64 (m : Ea)
  /-- Row 357: FMUL double-real (8 bytes), DC08, R810. -/
  | fmulM64 (m : Ea)
  /-- Row 358: FCOM double-real (8 bytes), DC10, R810. -/
  | fcomM64 (m : Ea)
  /-- Row 359: FCOMP double-real (8 bytes), DC18, R810. -/
  | fcompM64 (m : Ea)
  /-- Row 360: FSUB double-real (8 bytes), DC20, R810. -/
  | fsubM64 (m : Ea)
  /-- Row 361: FSUBR double-real (8 bytes), DC28, R810. -/
  | fsubrM64 (m : Ea)
  /-- Row 362: FDIV double-real (8 bytes), DC30, R810. -/
  | fdivM64 (m : Ea)
  /-- Row 363: FDIVR double-real (8 bytes), DC38, R810. -/
  | fdivrM64 (m : Ea)
  /-- Row 364: FLD double-real (8 bytes), DD00, R810. -/
  | fldM64 (m : Ea)
  /-- Row 365: FST double-real (8 bytes), DD10, R810. -/
  | fstM64 (m : Ea)
  /-- Row 366: FSTP double-real (8 bytes), DD18, R810. -/
  | fstpM64 (m : Ea)
  /-- Row 367: FRSTOR 98 or 108 bytes, DD20, R810. -/
  | frstor (m : Ea)
  /-- Row 368: FSAVE__FNSAVE 98 or 108 bytes, DD30, R810. -/
  | fsaveFnsave (m : Ea)
  /-- Row 369: FSTSW__FNSTSW 2 bytes, DD38, R810. -/
  | fstswFnstsw (m : Ea)
  /-- Row 370: FIADD word-int (2 bytes), DE00, R810. -/
  | fiaddI16 (m : Ea)
  /-- Row 371: FIMUL word-int (2 bytes), DE08, R810. -/
  | fimulI16 (m : Ea)
  /-- Row 372: FICOM word-int (2 bytes), DE10, R810. -/
  | ficomI16 (m : Ea)
  /-- Row 373: FICOMP word-int (2 bytes), DE18, R810. -/
  | ficompI16 (m : Ea)
  /-- Row 374: FISUB word-int (2 bytes), DE20, R810. -/
  | fisubI16 (m : Ea)
  /-- Row 375: FISUBR word-int (2 bytes), DE28, R810. -/
  | fisubrI16 (m : Ea)
  /-- Row 376: FIDIV word-int (2 bytes), DE30, R810. -/
  | fidivI16 (m : Ea)
  /-- Row 377: FIDIVR word-int (2 bytes), DE38, R810. -/
  | fidivrI16 (m : Ea)
  /-- Row 378: FILD word-int (2 bytes), DF00, R810. -/
  | fildI16 (m : Ea)
  /-- Row 379: FIST word-int (2 bytes), DF10, R810. -/
  | fistI16 (m : Ea)
  /-- Row 380: FISTP word-int (2 bytes), DF18, R810. -/
  | fistpI16 (m : Ea)
  /-- Row 381: FBLD packed-BCD (10 bytes), DF20, R810. -/
  | fbld (m : Ea)
  /-- Row 382: FILD long-int (8 bytes), DF28, R810. -/
  | fildI64 (m : Ea)
  /-- Row 383: FBSTP packed-BCD (10 bytes), DF30, R810. -/
  | fbstp (m : Ea)
  /-- Row 384: FISTP long-int (8 bytes), DF38, R810. -/
  | fistpI64 (m : Ea)
  /-- Row 385: FADD ST,ST(i), D8C0, R810. -/
  | faddSTSTi (i : Fin 8)
  /-- Row 386: FMUL ST,ST(i), D8C8, R810. -/
  | fmulSTSTi (i : Fin 8)
  /-- Row 387: FCOM ST,ST(i), D8D0, R810. -/
  | fcomSTSTi (i : Fin 8)
  /-- Row 388: FCOMP ST,ST(i), D8D8, R810. -/
  | fcompSTSTi (i : Fin 8)
  /-- Row 389: FSUB ST,ST(i), D8E0, R810. -/
  | fsubSTSTi (i : Fin 8)
  /-- Row 390: FSUBR ST,ST(i), D8E8, R810. -/
  | fsubrSTSTi (i : Fin 8)
  /-- Row 391: FDIV ST,ST(i), D8F0, R810. -/
  | fdivSTSTi (i : Fin 8)
  /-- Row 392: FDIVR ST,ST(i), D8F8, R810. -/
  | fdivrSTSTi (i : Fin 8)
  /-- Row 393: FLD ST,ST(i), D9C0, R810. -/
  | fldSTSTi (i : Fin 8)
  /-- Row 394: FXCH ST,ST(i), D9C8, R810. -/
  | fxchSTSTi (i : Fin 8)
  /-- Row 395: FNOP, D9D0, R810. -/
  | fnop
  /-- Row 396: FCHS, D9E0, R810. -/
  | fchs
  /-- Row 397: FABS, D9E1, R810. -/
  | fabs
  /-- Row 398: FTST, D9E4, R810. -/
  | ftst
  /-- Row 399: FXAM, D9E5, R810. -/
  | fxam
  /-- Row 400: FLD1, D9E8, R810. -/
  | fld1
  /-- Row 401: FLDL2T, D9E9, R810. -/
  | fldl2t
  /-- Row 402: FLDL2E, D9EA, R810. -/
  | fldl2e
  /-- Row 403: FLDPI, D9EB, R810. -/
  | fldpi
  /-- Row 404: FLDLG2, D9EC, R810. -/
  | fldlg2
  /-- Row 405: FLDLN2, D9ED, R810. -/
  | fldln2
  /-- Row 406: FLDZ, D9EE, R810. -/
  | fldz
  /-- Row 407: F2XM1, D9F0, R810. -/
  | f2xm1
  /-- Row 408: FYL2X, D9F1, R810. -/
  | fyl2x
  /-- Row 409: FPTAN, D9F2, R810. -/
  | fptan
  /-- Row 410: FPATAN, D9F3, R810. -/
  | fpatan
  /-- Row 411: FXTRACT, D9F4, R810. -/
  | fxtract
  /-- Row 412: FPREM1, D9F5, R810. -/
  | fprem1
  /-- Row 413: FDECSTP, D9F6, R810. -/
  | fdecstp
  /-- Row 414: FINCSTP, D9F7, R810. -/
  | fincstp
  /-- Row 415: FPREM, D9F8, R810. -/
  | fprem
  /-- Row 416: FYL2XP1, D9F9, R810. -/
  | fyl2xp1
  /-- Row 417: FSQRT, D9FA, R810. -/
  | fsqrt
  /-- Row 418: FSINCOS, D9FB, R810. -/
  | fsincos
  /-- Row 419: FRNDINT, D9FC, R810. -/
  | frndint
  /-- Row 420: FSCALE, D9FD, R810. -/
  | fscale
  /-- Row 421: FSIN, D9FE, R810. -/
  | fsin
  /-- Row 422: FCOS, D9FF, R810. -/
  | fcos
  /-- Row 423: FUCOMPP, DAE9, R810. -/
  | fucompp
  /-- Row 424: FCLEX__FNCLEX, DBE2, R810. -/
  | fclexFnclex
  /-- Row 425: FINIT__FNINIT, DBE3, R810. -/
  | finitFninit
  /-- Row 426: FADD ST(i),ST, DCC0, R810. -/
  | faddSTiST (i : Fin 8)
  /-- Row 427: FMUL ST(i),ST, DCC8, R810. -/
  | fmulSTiST (i : Fin 8)
  /-- Row 428: FSUBR ST(i),ST, DCE0, R810. -/
  | fsubrSTiST (i : Fin 8)
  /-- Row 429: FSUB ST(i),ST, DCE8, R810. -/
  | fsubSTiST (i : Fin 8)
  /-- Row 430: FDIVR ST(i),ST, DCF0, R810. -/
  | fdivrSTiST (i : Fin 8)
  /-- Row 431: FDIV ST(i),ST, DCF8, R810. -/
  | fdivSTiST (i : Fin 8)
  /-- Row 432: FFREE ST(i), DDC0, R810. -/
  | ffreeSTi (i : Fin 8)
  /-- Row 433: FST ST(i), DDD0, R810. -/
  | fstSTi (i : Fin 8)
  /-- Row 434: FSTP ST(i), DDD8, R810. -/
  | fstpSTi (i : Fin 8)
  /-- Row 435: FUCOM ST(i),ST, DDE0, R810. -/
  | fucomSTiST (i : Fin 8)
  /-- Row 436: FUCOMP ST(i), DDE8, R810. -/
  | fucompSTi (i : Fin 8)
  /-- Row 437: FADDP ST(i),ST, DEC0, R810. -/
  | faddpSTiST (i : Fin 8)
  /-- Row 438: FMULP ST(i),ST, DEC8, R810. -/
  | fmulpSTiST (i : Fin 8)
  /-- Row 439: FSUBRP ST(i),ST, DEE0, R810. -/
  | fsubrpSTiST (i : Fin 8)
  /-- Row 440: FSUBP ST(i),ST, DEE8, R810. -/
  | fsubpSTiST (i : Fin 8)
  /-- Row 441: FDIVRP ST(i),ST, DEF0, R810. -/
  | fdivrpSTiST (i : Fin 8)
  /-- Row 442: FDIVP ST(i),ST, DEF8, R810. -/
  | fdivpSTiST (i : Fin 8)
  /-- Row 443: FCOMPP, DED9, R810. -/
  | fcompp
  /-- Row 444: FSTSW_AX__FNSTSW_AX AX, DFE0, R810. -/
  | fstswAxFnstswAx
  /-- Row 445: FCMOVB ST,ST(i), DAC0, R810. -/
  | fcmovbSTSTi (i : Fin 8)
  /-- Row 446: FCMOVE ST,ST(i), DAC8, R810. -/
  | fcmoveSTSTi (i : Fin 8)
  /-- Row 447: FCMOVBE ST,ST(i), DAD0, R810. -/
  | fcmovbeSTSTi (i : Fin 8)
  /-- Row 448: FCMOVU ST,ST(i), DAD8, R810. -/
  | fcmovuSTSTi (i : Fin 8)
  /-- Row 449: FCMOVNB ST,ST(i), DBC0, R810. -/
  | fcmovnbSTSTi (i : Fin 8)
  /-- Row 450: FCMOVNE ST,ST(i), DBC8, R810. -/
  | fcmovneSTSTi (i : Fin 8)
  /-- Row 451: FCMOVNBE ST,ST(i), DBD0, R810. -/
  | fcmovnbeSTSTi (i : Fin 8)
  /-- Row 452: FCMOVNU ST,ST(i), DBD8, R810. -/
  | fcmovnuSTSTi (i : Fin 8)
  /-- Row 453: FUCOMI ST,ST(i), DBE8, R810. -/
  | fucomiSTSTi (i : Fin 8)
  /-- Row 454: FCOMI ST,ST(i), DBF0, R810. -/
  | fcomiSTSTi (i : Fin 8)
  /-- Row 455: FUCOMIP ST,ST(i), DFE8, R810. -/
  | fucomipSTSTi (i : Fin 8)
  /-- Row 456: FCOMIP ST,ST(i), DFF0, R810. -/
  | fcomipSTSTi (i : Fin 8)
  deriving DecidableEq, Repr, Inhabited

end Sys2Proof
end

