-- ==== Sys2Proof/Machine/State.lean ====
section
/-! DEFINITION. The state of one processor and what it talks to, as plain data, and its value after reset. -/
namespace Sys2Proof.Machine
open Host

/-- Why the machine stops. None of them is an exception of the processor (those are taken, and the step
goes on): each is raised where spec/93_implementation_defined.md has the treatment refuse in the middle of a step, so a stop is safe. -/
inductive Fault where
  /-- An access to the local APIC page that is not an aligned 32-bit load or store (62_apic.md R944). Safe. -/
  | apicAccess
  /-- An LVT entry written with a delivery mode that is not allowed for it (62_apic.md R953). Safe. -/
  | apicLvtMode
  /-- An interrupt command written in an invalid combination (62_apic.md R959 note 3). Safe. -/
  | apicCommand
  /-- An access through an unlisted pair of overlapping MTRR types (20_memory.md R260). Safe. -/
  | mtrrOverlap
  /-- An enabled breakpoint with an undefined length or condition (65_debug_perfmon.md R1112, R1114, R1115). Safe. -/
  | breakpointSetting
  /-- An interrupt or exception from virtual-8086 mode through a 16-bit gate (67_8086_emulation.md R1250). Safe. -/
  | v86Gate16
  /-- The I/O map base is too low for the interrupt redirection map (67_8086_emulation.md R1245). Safe. -/
  | redirectionMap
  /-- RSM with a restart field that the SMI did not allow (64_smm.md R1085, R1089). Safe. -/
  | smmRestart
  /-- RSM with an image slot changed that must not be (64_smm.md R1090). Safe. -/
  | smmImage
  /-- IRET to the address that a machine check without a valid restart address has saved (66_machine_check.md R1183,
  93_implementation_defined.md section 2.2). Safe. -/
  | mcRestart
  /-- The interrupt command register written while its delivery status is pending (62_apic.md R960,
  93_implementation_defined.md section 2.2). Safe. -/
  | apicPending
  /-- The local APIC ID changed while a message of this APIC is still to be delivered (62_apic.md R946,
  93_implementation_defined.md section 2.2). Safe. -/
  | apicIdChange
  deriving DecidableEq, Repr

/-- Why the machine refuses an instruction. Safe. -/
inductive Refusal where
  /-- Raised by the dispatch of an instruction whose meaning is not yet written. Safe. -/
  | notModelled (mnemonic : String)
  /-- WRMSR to MCG_CAP, whose effect is undefined (66_machine_check.md R1182). Safe. -/
  | mcgCapWrite
  /-- WRMSR to MCG_CTL or MCi_CTL of a value other than all ones or zero, or to MC0_CTL
  (66_machine_check.md R1184, R1185). Safe. -/
  | mcCtlWrite
  deriving DecidableEq, Repr

/-- The eight general registers (10_state.md R33). -/
structure Gprs where
  eax : Word
  ecx : Word
  edx : Word
  ebx : Word
  esp : Word
  ebp : Word
  esi : Word
  edi : Word
  deriving DecidableEq, Repr, Inhabited

/-- A segment register, LDTR or TR: the selector and the hidden part (10_state.md R55, R61, R62). -/
structure Seg where
  sel : Half
  base : Word
  /-- the effective byte limit, the granularity applied -/
  limit : Word
  type : BitVec 4
  s : Bool
  dpl : BitVec 2
  p : Bool
  db : Bool
  g : Bool
  avl : Bool
  /-- false when the register holds a null selector -/
  valid : Bool
  deriving DecidableEq, Repr, Inhabited

/-- The six segment registers (10_state.md R54). -/
structure Segs where
  es : Seg
  cs : Seg
  ss : Seg
  ds : Seg
  fs : Seg
  gs : Seg
  deriving DecidableEq, Repr, Inhabited

/-- GDTR or IDTR (10_state.md R59, R60). -/
structure TableReg where
  base : Word
  limit : Half
  deriving DecidableEq, Repr, Inhabited

/-- Control and memory-management registers (10_state.md R59 to R71) and the page-directory-pointer
entries held inside the processor (11_state_msr.md R197). -/
structure Sys where
  cr0 : Word
  cr2 : Word
  cr3 : Word
  cr4 : Word
  gdtr : TableReg
  idtr : TableReg
  ldtr : Seg
  tr : Seg
  pdpte0 : QWord
  pdpte1 : QWord
  pdpte2 : QWord
  pdpte3 : QWord
  deriving DecidableEq, Repr, Inhabited

/-- A hit of a repeated MOVS or STOS that is reported one iteration late (65_debug_perfmon.md R1117): the address of the
instruction with ECX and EDI as they stand between the iterations, and the breakpoints. -/
structure LateHit where
  key : Word × Word × Word
  hits : BitVec 4
  deriving DecidableEq, Repr, Inhabited

/-- The debug registers (10_state.md R72 to R76) and the debug traps waiting to be reported
(11_state_msr.md R190, R194). -/
structure Dbg where
  dr0 : Word
  dr1 : Word
  dr2 : Word
  dr3 : Word
  dr6 : Word
  dr7 : Word
  /-- B0 to B3 of a data or I/O breakpoint trap waiting for its boundary -/
  pendB : BitVec 4
  /-- a single-step trap is waiting for its boundary -/
  pendS : Bool
  /-- a task-switch trap is waiting for its boundary -/
  pendT : Bool
  /-- hits of repeated MOVS and STOS not yet reported (65_debug_perfmon.md R1117) -/
  late : List LateHit
  deriving DecidableEq, Repr, Inhabited

/-- One machine-check bank (66_machine_check.md R1185 to R1187). -/
structure McBank where
  ctl : QWord
  status : QWord
  addr : QWord
  deriving DecidableEq, Repr, Inhabited

/-- The model-specific registers (11_state_msr.md R135). P5_MC_ADDR and P5_MC_TYPE alias a bank;
MTRRcap and MCG_CAP are constants. -/
structure Msrs where
  tsc : QWord
  apicBase : QWord
  eblCr : QWord
  perfCtr0 : BitVec Config.perfBits
  perfCtr1 : BitVec Config.perfBits
  evntSel0 : Word
  evntSel1 : Word
  mcgStatus : QWord
  mcgCtl : QWord
  debugCtl : Word
  lastBranchFrom : Word
  lastBranchTo : Word
  lastExcFrom : Word
  lastExcTo : Word
  robCr : QWord
  mtrrBase : Vector QWord Config.vcnt
  mtrrMask : Vector QWord Config.vcnt
  mtrrFix : Vector QWord Config.fixedMtrrs
  mtrrDef : QWord
  mc : Vector McBank Config.mcBanks
  deriving DecidableEq, Repr, Inhabited

/-- A message on the APIC bus (62_apic.md R972). -/
structure ApicMsg where
  mode : BitVec 3
  vector : Byte
  levelTrigger : Bool
  assert : Bool
  logical : Bool
  dest : Byte
  /-- arbitration ID of the sender (R950) -/
  arb : BitVec 4
  deriving DecidableEq, Repr, Inhabited

/-- A message of this APIC that is not yet delivered (62_apic.md R960), and who has still to take it. -/
structure Outgoing where
  msg : ApicMsg
  /-- a self interrupt, which makes no bus message -/
  selfInt : Bool
  /-- this APIC is a destination that has not taken it -/
  toSelf : Bool
  /-- other APICs are destinations that have not taken it -/
  toOthers : Bool
  deriving DecidableEq, Repr, Inhabited

/-- The local APIC: its registers (62_apic.md R945) and the state behind them (11_state_msr.md R193). -/
structure Apic where
  id : BitVec 4
  /-- arbitration ID, not readable (R950) -/
  arbId : BitVec 4
  tpr : Byte
  /-- logical APIC ID, bits 31:24 of LDR -/
  ldr : Byte
  /-- model, bits 31:28 of DFR -/
  dfr : BitVec 4
  svr : BitVec 10
  isr : BitVec 256
  tmr : BitVec 256
  irr : BitVec 256
  esr : Byte
  /-- the accumulator a write of ESR copies (R974) -/
  esrPending : Byte
  icrLow : Word
  icrHigh : Word
  lvtTimer : Word
  lvtPerf : Word
  lvtLint0 : Word
  lvtLint1 : Word
  lvtError : Word
  initCount : Word
  curCount : Word
  divide : Word
  /-- the level of the LINT0 pin (R955) -/
  lint0 : Bool
  /-- the level of the LINT1 pin (R955) -/
  lint1 : Bool
  /-- the message whose delivery status is pending (R960) -/
  outgoing : Option Outgoing
  deriving DecidableEq, Repr, Inhabited

/-- What an I/O instruction records before it executes, for I/O restart (64_smm.md R1089). -/
structure IoRec where
  eip : Word
  eax : Word
  ecx : Word
  esi : Word
  edi : Word
  deriving DecidableEq, Repr, Inhabited

/-- The record an SMI writes outside the readable save map (64_smm.md R1067), with the image of the read-only
slots as they were written, against which RSM compares them (R1090). -/
structure SmmSaved where
  cr4 : Word
  segs : Segs
  ldtr : Seg
  tr : Seg
  gdtLimit : Half
  idtLimit : Half
  cpl : BitVec 2
  nmiBlocked : Bool
  pendB : BitVec 4
  pendS : Bool
  pendT : Bool
  late : List LateHit
  ioRestart : Option IoRec
  halted : Bool
  eip : Word
  image : List Word
  /-- the bytes of the reserved areas as they stood after the entry (R1066) -/
  reserved : List Byte
  deriving DecidableEq, Repr, Inhabited

/-- System-management state (11_state_msr.md R187). -/
structure Smm where
  inSmm : Bool
  smbase : Word
  saved : SmmSaved
  /-- the I/O instruction that completed just before this boundary -/
  ioRec : Option IoRec
  deriving DecidableEq, Repr, Inhabited

/-- The activity state (11_state_msr.md R188). -/
inductive Activity where
  | running | halted | shutdown | waitSipi
  /-- after RESET, before the boot protocol has chosen the bootstrap processor (63_multiprocessor.md R1036) -/
  | boot
  /-- chosen as the bootstrap processor: the FIPI is still to come (R1036 step 4) -/
  | elected
  /-- not chosen: the FIPI is still to come (R1036) -/
  | passedOver
  deriving DecidableEq, Repr, Inhabited

/-- A repeat prefix: F2H or F3H (30_encoding.md R484). -/
inductive Rep where
  | ne | e
  deriving DecidableEq, Repr, Inhabited

/-- The part of an instruction decoded so far: how many bytes, and which prefixes (30_encoding.md R481).
Clear at every instruction boundary. -/
structure Ins where
  len : Nat
  seg : Option SegReg
  op66 : Bool
  ad67 : Bool
  lock : Bool
  rep : Option Rep
  deriving DecidableEq, Repr, Inhabited

/-- What the executing instruction has done that its completion looks at (60_exceptions.md R845). Clear at
every instruction boundary. -/
structure Trans where
  /-- a branch was taken (65_debug_perfmon.md R1131) -/
  branched : Bool
  /-- RF was loaded and is kept (60_exceptions.md R845) -/
  keepRf : Bool
  /-- no single-step trap follows (60_exceptions.md R856) -/
  noStep : Bool
  /-- an SS load opens the interrupt inhibit (60_exceptions.md R837) -/
  ssLoad : Bool
  /-- STI opens its shadow (60_exceptions.md R838) -/
  sti : Bool
  /-- a repeated string instruction has iterations left -/
  repeats : Bool
  /-- hits of this iteration are reported after the next one (65_debug_perfmon.md R1117) -/
  lateHits : Bool
  /-- breakpoint conditions met by data and I/O accesses (65_debug_perfmon.md R1113) -/
  hit : BitVec 4
  /-- an I/O instruction's record -/
  io : Option IoRec
  deriving DecidableEq, Repr, Inhabited

/-- The interrupt and event latches and the input pins (11_state_msr.md R185, R186, R189, R190). -/
structure Latches where
  activity : Activity
  inhibit : Bool
  stiShadow : Bool
  nmiBlocked : Bool
  nmiPending : Bool
  smiPending : Bool
  initPending : Bool
  /-- the INTR pin is asserted, with the vector the controller will supply -/
  intr : Option Byte
  stopClock : Bool
  a20m : Bool
  ignne : Bool
  ferr : Bool
  /-- a repeated string instruction has been interrupted between iterations -/
  midRep : Bool
  deriving DecidableEq, Repr, Inhabited

/-- The kinds of physical memory behind an address range that is not ordinary RAM (20_memory.md R205). -/
inductive Region where
  | rom | none
  /-- a memory-mapped device: what it answers is a free value, and its traffic is recorded -/
  | device
  /-- RAM of its own behind the same addresses (64_smm.md R1065) -/
  | overlay
  deriving DecidableEq, Repr, Inhabited

/-- A range of the platform's physical map that is not RAM: first address, last address, kind, and the value of
in_smm it answers for, none for both (64_smm.md R1065). -/
structure MapEntry where
  lo : Nat
  hi : Nat
  kind : Region
  smm : Option Bool
  deriving DecidableEq, Repr, Inhabited

/-- One translation in a TLB (11_state_msr.md R181). -/
structure TlbEntry where
  /-- linear address of the page -/
  page : Nat
  /-- size of the page in bytes -/
  size : Nat
  /-- physical address of the page -/
  frame : Nat
  user : Bool
  write : Bool
  dirty : Bool
  global : Bool
  pcd : Bool
  pwt : Bool
  /-- where its last-level entry lies in memory, and of how many bytes it is -/
  entry : Nat
  width : Nat
  /-- the page attributes that apply to that entry -/
  entryPcd : Bool
  entryPwt : Bool
  deriving DecidableEq, Repr, Inhabited

/-- A byte that memory may hold otherwise than the caches (20_memory.md R254, R250). -/
structure StaleByte where
  addr : Nat
  /-- what memory holds if the cached value has not been written back -/
  old : Byte
  /-- the two are known to differ in kind: written, or overwritten by another agent, with CR0.CD = NW = 1 -/
  split : Bool
  deriving DecidableEq, Repr, Inhabited

/-- Bytes another processor or bus agent writes to memory as one access (20_memory.md R215, R240). -/
structure AgentWrite where
  addr : Nat
  bytes : List Byte
  /-- in_smm of the agent that writes; false for an agent that is no processor (64_smm.md R1065) -/
  smm : Bool
  deriving DecidableEq, Repr, Inhabited

/-- The frame of a machine check without a valid restart address (66_machine_check.md R1183): the stack pointer of its
handler, and the return address that cannot be restarted, with the CR3 it belongs to. -/
structure NoRestart where
  esp : Word
  cs : Half
  eip : Word
  cr3 : Word
  deriving DecidableEq, Repr, Inhabited

/-- A machine-check error report of the hardware (66_machine_check.md R1190). -/
structure McEvent where
  bank : Fin Config.mcBanks
  flag : Fin 64
  mcacod : Half
  mscod : Half
  other : BitVec 25
  uc : Bool
  pcc : Bool
  addr : Option QWord
  ripv : Bool
  eipv : Bool
  deriving DecidableEq, Repr, Inhabited

/-- What may arrive from outside at an instruction boundary (00_scope.md R6, 70_reset_and_hazards.md R1290). `timerTick`
(one tick of the divided timer clock), `perf0` and `perf1` happen at one boundary with the event listed after them; `idle`
is that event where no other arrives (62_apic.md R975, 65_debug_perfmon.md R1153, log 21). -/
inductive Event where
  | idle
  | reset
  | machineCheck (e : McEvent)
  | binit
  | flush
  | stopClock (on : Bool)
  | smi
  | init
  | nmi
  | intr (v : Option Byte)
  | lint0 (on : Bool) (v : Byte)
  | lint1 (on : Bool) (v : Byte)
  | apic (m : ApicMsg)
  | a20m (on : Bool)
  | ignne (on : Bool)
  | timerTick
  | perf0 (n : Nat)
  | perf1 (n : Nat)
  | memWrite (w : AgentWrite)
  | apicEoi (arb : BitVec 4)
  deriving DecidableEq, Repr, Inhabited

/-- What the processor sends out (00_scope.md R6): a record of its bus traffic other than memory. -/
inductive BusMsg where
  | ioWrite (port : Nat) (bytes : Nat) (v : Word)
  | ioRead (port : Nat) (bytes : Nat)
  | apic (m : ApicMsg) (shorthand : BitVec 2)
  | eoi (v : Byte)
  | smiAck
  | shutdown
  | halt
  /-- the FLUSH cycle of WBINVD (20_memory.md R254) -/
  | flush
  /-- the SYNC special cycle of INVD (20_memory.md R254) -/
  | sync
  | memRead (addr : Nat)
  | memStore (addr : Nat) (b : Byte)
  deriving DecidableEq, Repr, Inhabited

/-- The state of the machine. -/
structure State where
  gpr : Gprs
  /-- the offset of the instruction at this boundary (10_state.md R37) -/
  eip : Word
  eflags : Word
  /-- current privilege level, a field of its own (10_state.md R32) -/
  cpl : BitVec 2
  seg : Segs
  sys : Sys
  dbg : Dbg
  fpu : Fpu
  msr : Msrs
  apic : Apic
  smm : Smm
  lat : Latches
  ins : Ins
  tr : Trans
  tlb : List TlbEntry
  /-- physical memory: listed bytes, addresses strictly rising, none equal to what an unlisted byte reads as -/
  mem : List Cell
  /-- the bytes that memory may hold otherwise than the caches (20_memory.md R250, R254) -/
  stale : List StaleByte
  /-- some cache line may be valid (20_memory.md R250) -/
  cached : Bool
  /-- the platform's physical map; an address in no entry is RAM -/
  map : List MapEntry
  /-- the model's own counter of free values drawn -/
  free : Nat
  /-- what will arrive from outside, one event per instruction boundary with the ticks and increments listed before it -/
  events : List Event
  /-- what other agents will write between the accesses of instructions, one entry per gap (20_memory.md R216, R217) -/
  others : List (List AgentWrite)
  /-- the frames of machine checks without a valid restart address (66_machine_check.md R1183) -/
  noReturn : List NoRestart
  /-- what was sent out, the latest first -/
  bus : List BusMsg
  deriving DecidableEq, Repr, Inhabited

/-- A segment register after reset other than CS: base 0, limit FFFFH, access rights 93H (10_state.md R58). -/
def Seg.reset : Seg :=
  { sel := 0, base := 0, limit := 0xFFFF#32, type := 3, s := true, dpl := 0, p := true, db := false,
    g := false, avl := false, valid := true }

/-- CS after reset (10_state.md R58). -/
def Seg.resetCs : Seg := { Seg.reset with sel := 0xF000#16, base := 0xFFFF0000#32 }

/-- LDTR after reset: type LDT (10_state.md R61). -/
def Seg.resetLdt : Seg := { Seg.reset with type := 2, s := false }

/-- TR after reset: read as a 32-bit TSS (93_implementation_defined.md section 2.1). -/
def Seg.resetTss : Seg := { Seg.reset with type := 9, s := false }

/-- The six segment registers after reset. -/
def Segs.reset : Segs :=
  { es := Seg.reset, cs := Seg.resetCs, ss := Seg.reset, ds := Seg.reset, fs := Seg.reset, gs := Seg.reset }

/-- EDX after reset: 000006xxH (10_state.md R95). -/
def resetEdx : Word :=
  ((Config.signatureType ++ 6#4 ++ Config.signatureLow : BitVec 16)).zeroExtend 32

/-- The general registers after reset (10_state.md R36). -/
def Gprs.reset : Gprs :=
  { eax := 0, ecx := 0, edx := resetEdx, ebx := 0, esp := 0, ebp := 0, esi := 0, edi := 0 }

/-- The control and memory-management registers after reset (10_state.md R80). -/
def Sys.reset : Sys :=
  { cr0 := 0x60000010#32, cr2 := 0, cr3 := 0, cr4 := 0, gdtr := ⟨0, 0xFFFF#16⟩, idtr := ⟨0, 0xFFFF#16⟩,
    ldtr := Seg.resetLdt, tr := Seg.resetTss, pdpte0 := 0, pdpte1 := 0, pdpte2 := 0, pdpte3 := 0 }

/-- The debug registers after reset (10_state.md R80), no trap waiting. -/
def Dbg.reset : Dbg :=
  { dr0 := 0, dr1 := 0, dr2 := 0, dr3 := 0, dr6 := 0xFFFF0FF0#32, dr7 := 0x400#32, pendB := 0,
    pendS := false, pendT := false, late := [] }

/-- The floating-point unit after reset (10_state.md R79). -/
def Fpu.reset : Fpu :=
  { st0 := 0, st1 := 0, st2 := 0, st3 := 0, st4 := 0, st5 := 0, st6 := 0, st7 := 0, cw := 0x0040#16,
    sw := 0, tw := 0x5555#16, ipSel := 0, ip := 0, dpSel := 0, dp := 0 }

/-- The model-specific registers after reset (11_state_msr.md R135, R136, R138, R139, R141). The BSP flag is clear
until the boot protocol sets it in the winner (63_multiprocessor.md R1034). -/
def Msrs.reset : Msrs :=
  { tsc := 0, apicBase := 0x800#64, eblCr := (Config.straps &&& 0x05F3B7DF#32).zeroExtend 64,
    perfCtr0 := 0, perfCtr1 := 0, evntSel0 := 0, evntSel1 := 0, mcgStatus := 0, mcgCtl := 0,
    debugCtl := 0, lastBranchFrom := 0, lastBranchTo := 0, lastExcFrom := 0, lastExcTo := 0,
    robCr := 4#64, mtrrBase := Vector.replicate Config.vcnt 0, mtrrMask := Vector.replicate Config.vcnt 0,
    mtrrFix := Vector.replicate Config.fixedMtrrs 0, mtrrDef := 0, mc := Vector.replicate Config.mcBanks ⟨0, 0, 0⟩ }

/-- The local APIC after reset (62_apic.md R1010). -/
def Apic.reset : Apic :=
  { id := Config.apicIdInit, arbId := Config.apicIdInit, tpr := 0, ldr := 0, dfr := 15, svr := 0xFF#10,
    isr := 0, tmr := 0, irr := 0, esr := 0, esrPending := 0, icrLow := 0, icrHigh := 0,
    lvtTimer := 0x10000#32, lvtPerf := 0x10000#32, lvtLint0 := 0x10000#32, lvtLint1 := 0x10000#32,
    lvtError := 0x10000#32, initCount := 0, curCount := 0, divide := 0, lint0 := false, lint1 := false,
    outgoing := none }

/-- The SMM record before any SMI. -/
def SmmSaved.reset : SmmSaved :=
  { cr4 := 0, segs := Segs.reset, ldtr := Seg.resetLdt, tr := Seg.resetTss, gdtLimit := 0, idtLimit := 0,
    cpl := 0, nmiBlocked := false, pendB := 0, pendS := false, pendT := false, late := [],
    ioRestart := none, halted := false, eip := 0, image := [], reserved := [] }

/-- System-management state after reset (64_smm.md R1065). -/
def Smm.reset : Smm :=
  { inSmm := false, smbase := Config.smbaseDefault, saved := SmmSaved.reset, ioRec := none }

/-- The latches after reset; the boot protocol has still to decide the activity (70_reset_and_hazards.md R1291,
63_multiprocessor.md R1033, log 2). -/
def Latches.reset : Latches :=
  { activity := .boot, inhibit := false, stiShadow := false, nmiBlocked := false, nmiPending := false,
    smiPending := false, initPending := false, intr := none, stopClock := false, a20m := false,
    ignne := false, ferr := false, midRep := false }

/-- No part of an instruction decoded. -/
def Ins.clear : Ins :=
  { len := 0, seg := none, op66 := false, ad67 := false, lock := false, rep := none }

/-- Nothing done yet by the next instruction. -/
def Trans.clear : Trans :=
  { branched := false, keepRf := false, noStep := false, ssLoad := false, sti := false, repeats := false,
    lateHits := false, hit := 0, io := none }

/-- The machine right after reset, before the boot protocol (70_reset_and_hazards.md R1291). CS:EIP is the reset
vector: the first instruction of the bootstrap processor is at FFFFFFF0H (R1294, R1310). -/
def State.reset : State :=
  { gpr := Gprs.reset, eip := 0xFFF0#32, eflags := 2#32, cpl := 0, seg := Segs.reset, sys := Sys.reset,
    dbg := Dbg.reset, fpu := Fpu.reset, msr := Msrs.reset, apic := Apic.reset, smm := Smm.reset,
    lat := Latches.reset, ins := Ins.clear, tr := Trans.clear, tlb := [], mem := [], stale := [],
    cached := false, map := [], free := 0, events := [], others := [], noReturn := [], bus := [] }

end Sys2Proof.Machine
end

