-- ==== Sys2Proof/Machine/Monad.lean ====
section
/-! DEFINITION. The computations the meanings are written in: they read and write the state and may end in
an exception of the processor, a fault or a refusal of the model. -/
namespace Sys2Proof.Machine
open Host

/-- The kind of event a delivery serves (60_exceptions.md R850). -/
inductive Source where
  | external | nmi | fault | trap | abort | soft
  deriving DecidableEq, Repr

/-- An exception raised inside an instruction or a delivery. -/
structure Exc where
  /-- the vector (60_exceptions.md R822) -/
  vec : Nat
  /-- the error code, without EXT (60_exceptions.md R826) -/
  code : Option Half
  /-- the linear address a page fault loads into CR2 (22_paging.md R354) -/
  cr2 : Option Word
  /-- the bits a debug exception sets in DR6 (65_debug_perfmon.md R1116) -/
  dr6 : Word
  /-- raised after the commit point of a task switch: the new task's state stands (42_task_management.md R732) -/
  keep : Bool
  deriving DecidableEq, Repr

/-- Why a computation stops before its end. -/
inductive Abort where
  | exc (e : Exc)
  | fault (f : Fault)
  | refused (r : Refusal)
  deriving DecidableEq, Repr

/-- A computation over the state. On an exception it leaves the state as it stands; the one who runs it
goes back to the state it started from (60_exceptions.md R830). -/
abbrev M := EStateM Abort State

/-- Raise exception `v` with error code `c`. -/
def raise {α : Type} (v : Nat) (c : Option Half) : M α :=
  throw (.exc { vec := v, code := c, cr2 := none, dr6 := 0, keep := false })

/-- Raise an exception without an error code. -/
def raiseNone {α : Type} (v : Nat) : M α := raise v none
/-- Raise an exception with error code 0. -/
def raiseZero {α : Type} (v : Nat) : M α := raise v (some 0)
/-- Raise an exception whose error code is a selector, its low two bits clear (60_exceptions.md R826). -/
def raiseSel {α : Type} (v : Nat) (sel : Half) : M α := raise v (some (sel &&& 0xFFFC#16))

/-- #DE, divide error. -/
def raiseDE {α : Type} : M α := raiseNone 0
/-- #BR, bound range exceeded. -/
def raiseBR {α : Type} : M α := raiseNone 5
/-- #UD, invalid opcode. -/
def raiseUD {α : Type} : M α := raiseNone 6
/-- #NM, device not available. -/
def raiseNM {α : Type} : M α := raiseNone 7
/-- #MF, floating-point error. -/
def raiseMF {α : Type} : M α := raiseNone 16
/-- #TS(sel), invalid TSS. -/
def raiseTS {α : Type} (sel : Half) : M α := raiseSel 10 sel
/-- #NP(sel), segment not present. -/
def raiseNP {α : Type} (sel : Half) : M α := raiseSel 11 sel
/-- #SS(sel), stack fault. -/
def raiseSS {α : Type} (sel : Half) : M α := raiseSel 12 sel
/-- #GP(sel), general protection. -/
def raiseGP {α : Type} (sel : Half) : M α := raiseSel 13 sel
/-- #GP(0). -/
def raiseGP0 {α : Type} : M α := raiseGP 0
/-- #SS(0). -/
def raiseSS0 {α : Type} : M α := raiseSS 0
/-- #AC(0), alignment check. -/
def raiseAC {α : Type} : M α := raiseZero 17
/-- #PF with the linear address and error code of 22_paging.md R354. -/
def raisePF {α : Type} (la : Word) (present write user rsvd : Bool) : M α :=
  throw (.exc { vec := 14,
                code := some (BitVec.ofNat 16 (ofBool present + 2 * ofBool write + 4 * ofBool user + 8 * ofBool rsvd)),
                cr2 := some la, dr6 := 0, keep := false })

/-- Stop with a fault of the model. -/
def stop {α : Type} (f : Fault) : M α := throw (.fault f)
/-- Stop with a refusal of the model. -/
def refuse {α : Type} (r : Refusal) : M α := throw (.refused r)

/-- The next free value, a number (log 6). -/
def drawNat : M Nat := do
  let s ← get
  set { s with free := s.free + 1 }
  pure (Config.freeBits s.free)

/-- The next free value of `w` bits. -/
def draw (w : Nat) : M (BitVec w) := do
  let n ← drawNat
  pure (BitVec.ofNat w n)

/-- The next free choice of two. -/
def drawBool : M Bool := do
  let n ← drawNat
  pure (n % 2 = 1)

/-- Run `f` unless `c`. -/
def unlessM (c : Bool) (f : M Unit) : M Unit := if c then pure () else f
/-- Run `f` if `c`. -/
def whenM (c : Bool) (f : M Unit) : M Unit := if c then f else pure ()

/-- Record what is sent out on the bus (log 11). -/
def emit (b : BusMsg) : M Unit := modify fun s => { s with bus := b :: s.bus }

end Sys2Proof.Machine
end

