-- ==== Sys2Proof/Machine/Mem.lean ====
section
/-! DEFINITION. Physical memory and memory types (20_memory.md). -/
namespace Sys2Proof.Machine
open Host

/-- What an unlisted byte of memory reads as (log 3, DESIGN CHOICE, unsafe). -/
def unlisted : Byte := 0

/-- The byte at an address. -/
def memRead : List Cell → Nat → Byte
  | [], _ => unlisted
  | (a, b) :: m, k => if k < a then unlisted else if k = a then b else memRead m k

/-- A cell put at the head of a memory, left out if it reads as an unlisted byte does. -/
def consCell (a : Nat) (b : Byte) (m : List Cell) : List Cell := if b = unlisted then m else (a, b) :: m

/-- Memory with the byte at `k` set to `b`, in canonical form. -/
def memWrite : List Cell → Nat → Byte → List Cell
  | [], k, b => consCell k b []
  | (a, c) :: m, k, b =>
    if k < a then consCell k b ((a, c) :: m)
    else if k = a then consCell k b m
    else (a, c) :: memWrite m k b

/-- The addresses of a memory are above `lo`, strictly rising, and no entry reads as an unlisted byte. -/
def memWfFrom : Nat → List Cell → Bool
  | _, [] => true
  | lo, (a, b) :: m => decide (lo ≤ a) && decide (b ≠ unlisted) && memWfFrom (a + 1) m

/-- The canonical form of memory: addresses strictly rising, no entry equal to what an unlisted address reads as. -/
def Memory.wf (m : List Cell) : Bool := memWfFrom 0 m

/-- The kind of the platform's range that holds an address as the processor sees it with this value of in_smm; none is
RAM (20_memory.md R205, 64_smm.md R1065). -/
def regionOf : List MapEntry → Bool → Nat → Option Region
  | [], _, _ => none
  | e :: m, smm, a =>
    if e.lo ≤ a ∧ a ≤ e.hi ∧ (e.smm = none ∨ e.smm = some smm) then some e.kind else regionOf m smm a

/-- What answers a physical address (20_memory.md R205): RAM or ROM, with the key under which `State.mem` holds its
byte, a device, or nothing. -/
inductive Place where
  | ram (key : Nat)
  | rom (key : Nat)
  | device (a : Nat)
  | nothing (a : Nat)
  deriving DecidableEq, Repr

/-- The keys above the physical address space hold the RAM of overlays (64_smm.md R1065). -/
def overlayKey (a : Nat) : Nat := 2 ^ Config.physBits + a

/-- What answers a physical address. -/
def placeOf (map : List MapEntry) (smm : Bool) (a : Nat) : Place :=
  match regionOf map smm a with
  | none => .ram a
  | some .overlay => .ram (overlayKey a)
  | some .rom => .rom a
  | some .device => .device a
  | some .none => .nothing a

/-- Memory types (20_memory.md R255). -/
inductive MemType where
  | uc | wc | wt | wp | wb
  deriving DecidableEq, Repr

/-- The type a one-byte encoding stands for (20_memory.md R256); reserved encodings cannot be written. -/
def memTypeOf (e : Byte) : MemType :=
  if e = 1 then .wc else if e = 4 then .wt else if e = 5 then .wp else if e = 6 then .wb else .uc

/-- The fixed-range register and field that cover an address below 1 MByte (20_memory.md R258). -/
def fixedField (pa : Nat) : Nat × Nat :=
  if pa < 0x80000 then (0, pa / 0x10000)
  else if pa < 0xC0000 then (1 + (pa - 0x80000) / 0x20000, (pa % 0x20000) / 0x4000)
  else (3 + (pa - 0xC0000) / 0x8000, (pa % 0x8000) / 0x1000)

/-- The types of the variable ranges that hold an address (20_memory.md R259). -/
def variableTypes (r : Msrs) (pa : Nat) : List MemType :=
  (List.finRange Config.vcnt).filterMap fun i =>
    let base := r.mtrrBase[i]
    let mask := r.mtrrMask[i]
    let m := field mask 12 24
    if bit mask 11 ∧ (BitVec.ofNat 24 (pa / 4096) &&& m) = (field base 12 24 &&& m) then
      some (memTypeOf (field base 0 8))
    else none

/-- The MTRR type of a physical address; none where overlapping types make it undefined (20_memory.md R260). -/
def mtrrType (r : Msrs) (pa : Nat) : Option MemType :=
  if bit r.mtrrDef 11 = false then some .uc
  else if pa < 0x100000 ∧ bit r.mtrrDef 10 = true then
    let (k, f) := fixedField pa
    some (memTypeOf (field ((r.mtrrFix.toList)[k]?.getD 0) (8 * f) 8))
  else
    match variableTypes r pa with
    | [] => some (memTypeOf (field r.mtrrDef 0 8))
    | [t] => some t
    | ts =>
      if ts.all (fun t => t = .wb) then some .wb
      else if ts.all (fun t => t = .uc ∨ t = .wb) then some .uc
      else none

/-- The effective memory type (20_memory.md R251). -/
def effType (t : MemType) (pcd pwt : Bool) : MemType :=
  match t with
  | .uc => .uc
  | .wc => if pcd && pwt then .uc else .wc
  | .wt => if pcd then .uc else .wt
  | .wp => if pcd then .uc else .wp
  | .wb => if pcd then .uc else if pwt then .wt else .wb

/-- The address put on the bus: with A20M# asserted in real-address mode bit 20 is forced to 0
(67_8086_emulation.md R1222); A20M# has no effect in SMM (64_smm.md R1080). -/
def busAddr (s : State) (pa : Nat) : Nat :=
  if s.lat.a20m && !bit s.sys.cr0 0 && !s.smm.inSmm && (pa / 0x100000) % 2 = 1 then pa - 0x100000 else pa

/-- The effective memory type of an access; none where the MTRRs leave it undefined (20_memory.md R251, R260). PCD and
PWT have no effect with CR0.CD = 1, and PWT none with CR0.NW = 1 (R252, 10_state.md R70, 22_paging.md R348). -/
def State.typeOf (s : State) (a : Nat) (pcd pwt : Bool) : Option MemType :=
  let cd := bit s.sys.cr0 30
  (mtrrType s.msr a).map fun t => effType t (pcd && !cd) (pwt && !cd && !bit s.sys.cr0 29)

/-- CR0.CD = NW = 1 with lines that may be valid: a store that hits stays in the cache (20_memory.md R250). -/
def State.cacheOnly (s : State) : Bool := bit s.sys.cr0 30 && bit s.sys.cr0 29 && s.cached

/-- Keep the old value of a byte the first time it is written since the last write-back (20_memory.md R254). -/
def noteStale (old : List StaleByte) (a : Nat) (b : Byte) : List StaleByte :=
  if old.any (fun c => c.addr = a) then old else { addr := a, old := b, split := false } :: old

/-- Memory and caches agree on a byte. -/
def dropStale (old : List StaleByte) (a : Nat) : List StaleByte := old.filter fun c => c.addr ≠ a

/-- What memory itself may hold at an address whose cached value is `b`. -/
def staleValue (old : List StaleByte) (a : Nat) (b : Byte) : Byte :=
  match old.find? (fun c => c.addr = a) with
  | some c => c.old
  | none => b

/-- Memory holds `b` at an address that the caches hold otherwise (20_memory.md R250). -/
def splitStale (old : List StaleByte) (a : Nat) (b : Byte) : List StaleByte :=
  { addr := a, old := b, split := true } :: dropStale old a

/-- Read one byte of physical memory; an address with nothing or a device behind it gives a free value, and the access
to a device is recorded (20_memory.md R205). -/
def loadByte (pa : Nat) : M Byte := do
  let s ← get
  match placeOf s.map s.smm.inSmm (busAddr s pa) with
  | .ram k => pure (memRead s.mem k)
  | .rom k => pure (memRead s.mem k)
  | .device a => do
    set { s with free := s.free + 1, bus := .memRead a :: s.bus }
    pure (Config.busByte s.free a)
  | .nothing a => do
    set { s with free := s.free + 1 }
    pure (Config.busByte s.free a)

/-- What remains to be written back after a store of this processor to RAM: nothing of the byte if the store reaches
memory, the old value if it may stay in the cache (20_memory.md R254). In the mode CD = NW = 1 whether it hits a line
is a free choice; a hit leaves memory as it is (R250). -/
def State.staleAfter (s : State) (k : Nat) (wb : Bool) : List StaleByte :=
  if s.cacheOnly then
    if Config.freeBits s.free % 2 = 1 then splitStale s.stale k (staleValue s.stale k (memRead s.mem k))
    else dropStale s.stale k
  else if wb then noteStale s.stale k (memRead s.mem k)
  else dropStale s.stale k

/-- The state after one byte of physical memory is written; a write to ROM or to nothing is discarded, one to a device
is recorded (20_memory.md R205). -/
def State.storeByte (s : State) (pa : Nat) (b : Byte) (wb : Bool) : State :=
  match placeOf s.map s.smm.inSmm (busAddr s pa) with
  | .ram k =>
    { s with mem := memWrite s.mem k b, stale := s.staleAfter k wb,
             free := if s.cacheOnly then s.free + 1 else s.free }
  | .rom _ => s
  | .device a => { s with bus := .memStore a b :: s.bus }
  | .nothing _ => s

/-- Write one byte of physical memory. -/
def storeByte (pa : Nat) (b : Byte) (wb : Bool) : M Unit := modify fun s => s.storeByte pa b wb

/-- Read `n` bytes from a physical address up. -/
def loadBytes : Nat → Nat → M (List Byte)
  | _, 0 => pure []
  | pa, n + 1 => do
    let b ← loadByte pa
    let bs ← loadBytes (pa + 1) n
    pure (b :: bs)

/-- Write bytes from a physical address up. -/
def storeBytes : Nat → List Byte → Bool → M Unit
  | _, [], _ => pure ()
  | pa, b :: bs, wb => do
    storeByte pa b wb
    storeBytes (pa + 1) bs wb

/-- The line of a byte left over from the mode CD = NW = 1 is invalidated: what was written to it reaches memory or is
lost, by a free choice, and the two agree from then on (20_memory.md R250). -/
def State.endSplit (s : State) (c : StaleByte) : State :=
  { s with free := s.free + 1, stale := dropStale s.stale c.addr,
           mem := if Config.freeBits s.free % 2 = 1 then memWrite s.mem c.addr c.old else s.mem }

/-- Another agent's write to a line that this processor may hold: the line is invalidated (20_memory.md R240, R250). -/
def State.snoopLine (s : State) (k : Nat) : State :=
  (s.stale.filter fun c => c.split && c.addr / Config.line = k / Config.line).foldl State.endSplit s

/-- Another agent writes one byte of RAM, of the storage that the platform's map selects for its value of in_smm (64_smm.md
R1065). Its address is not masked by this processor's A20M# (63_multiprocessor.md
R1031). The snoop ends a modified line (20_memory.md R240, R266); with CD = NW = 1 invalidation is inhibited, and
whether this processor goes on reading its own copy is a free choice (R250). -/
def State.agentByte (s : State) (smm : Bool) (a : Nat) (b : Byte) : State :=
  match placeOf s.map smm a with
  | .ram k =>
    if s.cacheOnly then
      if Config.freeBits s.free % 2 = 1 then { s with free := s.free + 1, stale := splitStale s.stale k b }
      else { s with free := s.free + 1, mem := memWrite s.mem k b, stale := dropStale s.stale k }
    else
      let t := s.snoopLine k
      { t with mem := memWrite t.mem k b, stale := dropStale t.stale k }
  | _ => s

/-- Another agent's access, as a whole. -/
def State.agentWrite (s : State) (w : AgentWrite) : State :=
  (w.bytes.foldl (fun (p : State × Nat) b => (p.1.agentByte w.smm p.2 b, p.2 + 1)) (s, w.addr)).1

/-- What other agents write in the next gap between two accesses of an instruction (20_memory.md R216, R217, log 10). -/
def State.othersWrite (s : State) : State :=
  match s.others with
  | [] => s
  | ws :: rest => ws.foldl State.agentWrite { s with others := rest }

/-- Other agents write between two accesses that the processor makes of its own (20_memory.md R216). -/
def othersGap : M Unit := modify State.othersWrite

/-- A list in an order of free choice, `n` its length. -/
def shuffle {α : Type} : Nat → List α → M (List α)
  | 0, l => pure l
  | n + 1, l => do
    let k ← drawNat
    let i := k % l.length
    let rest ← shuffle n (l.eraseIdx i)
    pure ((l[i]?).toList ++ rest)

/-- For each byte that may differ: with `keep` its cached value reaches memory, else it may be lost, by a free choice
(20_memory.md R254). A byte known to differ from the mode CD = NW = 1 may be lost in either case, since its line may be
shared (R250). -/
def loseLines (keep : Bool) : List StaleByte → M Unit
  | [] => pure ()
  | c :: old => do
    if keep && !c.split then pure ()
    else do
      let lost ← drawBool
      whenM lost (modify fun s => { s with mem := memWrite s.mem c.addr c.old })
    loseLines keep old

/-- The caches are emptied, their modified lines written back or not. -/
def emptyCaches (keep : Bool) : M Unit := do
  let s ← get
  loseLines keep s.stale
  modify fun s => { s with stale := [], cached := false }

/-- WBINVD and FLUSH#: modified lines reach memory (20_memory.md R254). -/
def writeBackCaches : M Unit := emptyCaches true

/-- INVD: lines are invalidated without write-back (20_memory.md R254). -/
def dropCaches : M Unit := emptyCaches false

/-- One byte left over from the mode CD = NW = 1 is lost or stands, by a free choice. -/
def State.settleByte (s : State) (c : StaleByte) : State :=
  let t := { s with free := s.free + 1 }
  if Config.freeBits s.free % 2 = 1 then
    { t with mem := memWrite s.mem c.addr c.old, stale := dropStale s.stale c.addr }
  else t

/-- With line fills on, lines may be valid, and one left over from the mode CD = NW = 1 may be replaced at any time; if
it is shared, what was written to it is lost (20_memory.md R250, log 14). -/
def State.settleLines (s : State) : State :=
  if bit s.sys.cr0 30 then s
  else (s.stale.filter fun c => c.split).foldl State.settleByte { s with cached := true }

/-- All TLB entries are removed (22_paging.md R372). -/
def flushTlb : M Unit := modify fun s => { s with tlb := [] }

end Sys2Proof.Machine
end

