-- ==== Sys2Proof/Machine/Apic.lean ====
section
/-! DEFINITION. The local APIC (62_apic.md): registers, acceptance, dispensing and interrupt commands. -/
namespace Sys2Proof.Machine
open Host

/-- The highest vector whose bit is set, 0 if none (62_apic.md R961). -/
def topVector (x : BitVec 256) : Nat := (highestBit x 256).getD 0

/-- Processor priority (62_apic.md R964). -/
def Apic.ppr (a : Apic) : Byte :=
  let v := BitVec.ofNat 8 (topVector a.isr)
  if field a.tpr 4 4 ≥ field v 4 4 then a.tpr else v &&& 0xF0

/-- Arbitration priority (62_apic.md R965). -/
def Apic.apr (a : Apic) : Byte :=
  let r := BitVec.ofNat 8 (topVector a.irr)
  let v := BitVec.ofNat 8 (topVector a.isr)
  let t := a.tpr &&& 0xF0
  if t ≥ r &&& 0xF0 ∧ t > v &&& 0xF0 then a.tpr
  else
    let m := if v &&& 0xF0 ≥ r &&& 0xF0 then v &&& 0xF0 else r &&& 0xF0
    if t ≥ m then t else m

/-- The local APIC is enabled by software (62_apic.md R969). -/
def Apic.enabled (a : Apic) : Bool := bit a.svr 8

/-- Record a request for a legal vector; the flag says whether a slot was free (62_apic.md R962). -/
def Apic.request (a : Apic) (v : Nat) (level : Bool) : Apic × Bool :=
  if field a.tpr 4 4 = 15 then (a, false)
  else if bit a.irr v && !level then (a, false)
  else ({ a with irr := setBit a.irr v true, tmr := setBit a.tmr v level }, true)

/-- The APIC is enabled globally: APICBASE bit 11 (62_apic.md R940, 11_state_msr.md R138). -/
def State.apicOn (s : State) : Bool := bit s.msr.apicBase 11

/-- The entries of the local vector table. -/
inductive Lvt where
  | timer | perf | lint0 | lint1 | error
  deriving DecidableEq, Repr

/-- An entry. -/
def Apic.lvt (a : Apic) : Lvt → Word
  | .timer => a.lvtTimer
  | .perf => a.lvtPerf
  | .lint0 => a.lvtLint0
  | .lint1 => a.lvtLint1
  | .error => a.lvtError

/-- The registers with an entry written. -/
def Apic.setLvt (a : Apic) (l : Lvt) (v : Word) : Apic :=
  match l with
  | .timer => { a with lvtTimer := v }
  | .perf => { a with lvtPerf := v }
  | .lint0 => { a with lvtLint0 := v }
  | .lint1 => { a with lvtLint1 := v }
  | .error => { a with lvtError := v }

/-- Bit 12 of an entry, the delivery status: 1 is Send Pending (62_apic.md R954). -/
def Apic.setStatus (a : Apic) (l : Lvt) (b : Bool) : Apic := a.setLvt l (setBit (a.lvt l) 12 b)

/-- An edge of a local source whose entry is not masked: its request is recorded, or its delivery status says that it
is still to be (62_apic.md R954, R962). The vector is legal. -/
def Apic.inject (a : Apic) (l : Lvt) : Apic :=
  let (b, ok) := a.request (field (a.lvt l) 0 8).toNat false
  b.setStatus l !ok

/-- Record an error and raise the error interrupt if its entry is not masked (62_apic.md R974). An error
interrupt with an illegal vector is itself an error. -/
def Apic.error (a : Apic) (e : Nat) : Apic :=
  if bit a.esrPending e then a
  else
    let a1 := { a with esrPending := setBit a.esrPending e true }
    if bit a1.lvtError 16 then a1
    else if (field a1.lvtError 0 8).toNat < 16 then { a1 with esrPending := setBit a1.esrPending 6 true }
    else a1.inject .error

/-- A local source fires (62_apic.md R954, R962); a masked one is dropped (D36). -/
def Apic.fire (a : Apic) (l : Lvt) : Apic :=
  if bit (a.lvt l) 16 then a
  else if (field (a.lvt l) 0 8).toNat < 16 then (a.setStatus l false).error 6
  else a.inject l

/-- The entries of the local interrupt pins. -/
def Lvt.isPin : Lvt → Bool
  | .lint0 | .lint1 => true
  | .timer | .perf | .error => false

/-- The entry of a local pin in fixed mode works level-triggered: where it is programmed so, and always if the processor is not
used in conjunction with an I/O APIC (62_apic.md R953, log 61). -/
def Lvt.levelMode (l : Lvt) (entry : Word) : Bool := l.isPin && field entry 8 3 = 0 && (bit entry 15 || !Config.ioApic)

/-- An edge that is still pending is tried again while its entry is not masked and of fixed mode, with the vector that
stands there now (62_apic.md R942, R954, log 48). -/
def Apic.retry (a : Apic) (l : Lvt) : Apic :=
  let entry := a.lvt l
  if bit entry 12 && field entry 8 3 = 0 && !l.levelMode entry then a.fire l else a

/-- Does a message address this APIC (62_apic.md R949). A model of DFR other than 1111B and 0000B is not defined: such
an APIC takes no logical message (log 48, DESIGN CHOICE). -/
def Apic.matches (a : Apic) (logical : Bool) (dest : Byte) : Bool :=
  if logical then
    if a.dfr = 15 then (dest &&& a.ldr) ≠ 0
    else if a.dfr = 0 then
      (field dest 4 4 = 15 ∨ field dest 4 4 = field a.ldr 4 4) ∧ (field dest 0 4 &&& field a.ldr 0 4) ≠ 0
    else false
  else field dest 0 4 = 15 ∨ field dest 0 4 = a.id

/-- The mask bits of every LVT entry are set while the APIC is disabled (62_apic.md R970). -/
def Apic.maskAll (a : Apic) : Apic :=
  { a with lvtTimer := setBit a.lvtTimer 16 true, lvtPerf := setBit a.lvtPerf 16 true,
           lvtLint0 := setBit a.lvtLint0 16 true, lvtLint1 := setBit a.lvtLint1 16 true,
           lvtError := setBit a.lvtError 16 true }

/-- An entry as it is stored: masked while the APIC is disabled (62_apic.md R970). -/
def Apic.lvtValue (a : Apic) (mask old v : Word) : Word :=
  let w := blend mask old v
  if a.enabled then w else setBit w 16 true

/-- A level-triggered pin that is not masked: while it is active its request stands, remote IRR is set when it is
accepted, and until then the delivery status is Send Pending (62_apic.md R954, R955). A level request that already stands
for the vector has been accepted, whatever TPR holds by now (log 48). -/
def Apic.levelPin (a : Apic) (l : Lvt) (pin : Bool) : Apic :=
  let entry := a.lvt l
  if bit entry 16 || !l.levelMode entry then a
  else if pin = bit entry 13 then a.setStatus l false
  else if (field entry 0 8).toNat < 16 then (a.setStatus l false).error 6
  else if bit a.irr (field entry 0 8).toNat && bit a.tmr (field entry 0 8).toNat then
    a.setLvt l (setBit (setBit entry 12 false) 14 true)
  else
    let (b, ok) := a.request (field entry 0 8).toNat true
    if ok then b.setLvt l (setBit (setBit entry 12 false) 14 true) else b.setStatus l true

/-- What the local sources ask for as the registers stand now: the level-triggered pins, and the requests still
pending (62_apic.md R954, R955). -/
def Apic.settle (a : Apic) : Apic :=
  let b := (a.levelPin .lint0 a.lint0).levelPin .lint1 a.lint1
  ((((b.retry .timer).retry .perf).retry .lint0).retry .lint1).retry .error

/-- The remote IRR flag of a level pin entry with this vector is cleared (62_apic.md R954). -/
def clearRemote (entry : Word) (v : Nat) : Word :=
  if field entry 0 8 = BitVec.ofNat 8 v then setBit entry 14 false else entry

/-- End of interrupt: the register state, and the vector broadcast to the I/O APICs if any (62_apic.md R968). -/
def Apic.eoi (a : Apic) : Apic × Option Byte :=
  let v := topVector a.isr
  if v = 0 then (a, none)
  else
    let a1 := { a with isr := setBit a.isr v false }
    if bit a.tmr v then
      ({ a1 with lvtLint0 := clearRemote a1.lvtLint0 v, lvtLint1 := clearRemote a1.lvtLint1 v },
       some (BitVec.ofNat 8 v))
    else (a1, none)

/-- Register number `k` of a 256-bit group. -/
def groupWord (x : BitVec 256) (k : Nat) : Word := field x (32 * k) 32

/-- The value a load from an offset of the APIC page returns; none at a reserved offset (62_apic.md R945). An aligned
offset inside the 16 bytes of a register but not at their start is taken as reserved (log 48, DESIGN CHOICE). ICR
shows its delivery status (R960). -/
def Apic.read (a : Apic) (off : Nat) : Option Word :=
  if off % 16 ≠ 0 then none
  else
    let k := off / 16
    if k = 0x02 then some (zx32 a.id <<< 24)
    else if k = 0x03 then some (0x00040010#32 ||| zx32 Config.apicVersionLow)
    else if k = 0x08 then some (zx32 a.tpr)
    else if k = 0x09 then some (zx32 a.apr)
    else if k = 0x0A then some (zx32 a.ppr)
    else if k = 0x0B then some 0
    else if k = 0x0D then some (zx32 a.ldr <<< 24)
    else if k = 0x0E then some ((zx32 a.dfr <<< 28) ||| 0x0FFFFFFF#32)
    else if k = 0x0F then some (zx32 a.svr)
    else if 0x10 ≤ k ∧ k < 0x18 then some (groupWord a.isr (k - 0x10))
    else if 0x18 ≤ k ∧ k < 0x20 then some (groupWord a.tmr (k - 0x18))
    else if 0x20 ≤ k ∧ k < 0x28 then some (groupWord a.irr (k - 0x20))
    else if k = 0x28 then some (zx32 a.esr)
    else if k = 0x30 then some (setBit a.icrLow 12 a.outgoing.isSome)
    else if k = 0x31 then some a.icrHigh
    else if k = 0x32 then some a.lvtTimer
    else if k = 0x34 then some a.lvtPerf
    else if k = 0x35 then some a.lvtLint0
    else if k = 0x36 then some a.lvtLint1
    else if k = 0x37 then some a.lvtError
    else if k = 0x38 then some a.initCount
    else if k = 0x39 then some a.curCount
    else if k = 0x3E then some a.divide
    else none

/-- A message whose mode bypasses the request registers reaches the core (62_apic.md R962). A start-up
message is taken only in the wait-for-SIPI state, by State.startUp. -/
def State.signal (s : State) (mode : BitVec 3) : State :=
  if mode = 2 then { s with lat := { s.lat with smiPending := true } }
  else if mode = 4 then { s with lat := { s.lat with nmiPending := true } }
  else if mode = 5 then { s with lat := { s.lat with initPending := true } }
  else s

/-- A start-up message with vector `v` (63_multiprocessor.md R1039); ignored outside wait-for-SIPI. -/
def State.startUp (s : State) (v : Byte) : State :=
  if s.lat.activity = .waitSipi then
    { s with eip := 0,
             seg := { s.seg with cs := { s.seg.cs with sel := (v ++ (0 : Byte) : Half),
                                                       base := zx32 v <<< 12, limit := 0xFFFF#32 } },
             lat := { s.lat with activity := .running } }
  else s

/-- What becomes of a message at this APIC (62_apic.md R973). -/
inductive Taken where
  | accepted
  /-- no free slot: the sender tries again -/
  | retry
  /-- not taken here -/
  | none
  deriving DecidableEq, Repr

/-- A fixed message, or a lowest-priority one this APIC is to take (62_apic.md R962). One with an illegal vector is not
accepted, whatever its level (R942, R973). A level-triggered message that de-asserts its line takes the request back. -/
def takeFixed (m : ApicMsg) : M Taken := do
  let s ← get
  let v := m.vector.toNat
  if v < 16 then do
    modify fun s => { s with apic := s.apic.error 6 }
    pure .none
  else if m.levelTrigger && !m.assert then do
    modify fun s =>
      { s with apic := { s.apic with irr := if bit s.apic.tmr v then setBit s.apic.irr v false else s.apic.irr } }
    pure .accepted
  else
    let r := s.apic.request v m.levelTrigger
    modify fun s => { s with apic := r.1 }
    pure (if r.2 then .accepted else .retry)

/-- A lowest-priority message addressed to this APIC (62_apic.md R951): a focus processor takes it; without a free slot
this APIC is no candidate, and whether there is another is a free choice: if not, the message is tried again; else it is
selected by a free choice, at once if it is the `only` destination. -/
def takeLowest (m : ApicMsg) (only : Bool) : M Taken := do
  let s ← get
  let a := s.apic
  let v := m.vector.toNat
  if !bit a.svr 9 && (bit a.isr v || bit a.irr v) then takeFixed m
  else if bit a.irr v then do
    let alone ← drawBool
    pure (if only || alone then .retry else .none)
  else if only then takeFixed m
  else do
    let chosen ← drawBool
    if chosen then takeFixed m else pure .none

/-- A message addressed to this processor (62_apic.md R957, R962). `selfInt` is a self interrupt, which a disabled APIC
takes too (R970). R970 does not list ExtINT among the messages that a disabled APIC takes, R962 does: it is taken; one
that is de-asserted withdraws the request, which the spec does not say. Nor does it say what a de-asserted NMI, SMI or start-up
message does: it signals its event as an asserted one does, and so does an INIT message that is edge-triggered and de-asserted
(R962). A message of the reserved mode 011, which R957 calls undefined, is accepted and does nothing (log 48, DESIGN CHOICE). The vector of an ExtINT
message stands for the one that the external controller supplies in the acknowledge cycle, which R962 does not describe for a
message (log 48, DESIGN CHOICE). -/
def takeMessage (m : ApicMsg) (selfInt only : Bool) : M Taken := do
  let s ← get
  if m.mode = 0 ∨ m.mode = 1 then
    if !s.apic.enabled && !selfInt then pure .none
    else if m.mode = 1 then takeLowest m only else takeFixed m
  else do
    if m.mode = 6 then modify fun s => s.startUp m.vector
    else if m.mode = 7 then
      modify fun s => { s with lat := { s.lat with intr := if m.assert then some m.vector else none } }
    else modify fun s => s.signal m.mode
    pure .accepted

/-- A boot-phase message: a BIPI or an FIPI. The boot hardware consumes it (63_multiprocessor.md R1035). -/
def ApicMsg.isBoot (m : ApicMsg) : Bool :=
  m.mode = 0 && !m.levelTrigger && !m.assert && (field m.vector 4 4 = 4 || field m.vector 4 4 = 1)

/-- A fixed or lowest-priority message with an illegal vector (62_apic.md R942). -/
def ApicMsg.illegal (m : ApicMsg) : Bool := (m.mode = 0 || m.mode = 1) && decide (m.vector.toNat < 16)

/-- A message names one APIC alone: IDs are distinct (62_apic.md R946, R949). -/
def ApicMsg.single (m : ApicMsg) : Bool := !m.logical && field m.dest 0 4 ≠ 15

/-- The arbitration ID after another APIC has sent a message (62_apic.md R950). -/
def Apic.rotate (a : Apic) (sender : BitVec 4) : Apic :=
  { a with arbId := if a.arbId = 15 then sender + 1 else a.arbId + 1 }

/-- A change of the APIC's registers alone. -/
def modifyApic (f : Apic → Apic) : M Unit := modify fun s => { s with apic := f s.apic }

/-- A message of another agent on the APIC bus. 62_apic.md R940 and 11_state_msr.md R138 say no more of an APIC that is
globally disabled than that it is: it hears none, be it INIT, NMI, SMI or start-up, and keeps its arbitration ID (log 48,
DESIGN CHOICE). INIT level de-assert reaches every APIC and reloads the arbitration ID (R1012); any other message is taken
if it matches (R949). One that is refused is sent again (R951, R962), with the arbitration ID its sender has by then, a
free value (log 46). One that nobody takes is an error of every APIC that hears it (R974): nobody takes an illegal vector
(R942), else whether another APIC takes it is a free choice. Each message that has won the bus changes the arbitration ID,
taken or not (R950, 11_state_msr.md R193, log 46). -/
def busMessage (m : ApicMsg) : M Unit := do
  let s ← get
  if !s.apicOn then pure ()
  else if m.mode = 5 ∧ m.levelTrigger ∧ !m.assert then modifyApic fun a => { a with arbId := a.id }
  else do
    let r ← if s.apic.matches m.logical m.dest then takeMessage m false m.single else pure .none
    modifyApic fun a => a.rotate m.arb
    match r with
    | .accepted => pure ()
    | .retry => do
      let arb ← draw 4
      modify fun s => { s with events := s.events ++ [.apic { m with arb := arb }] }
    | .none => do
      let unheard ← drawBool
      whenM (m.illegal || unheard) (modifyApic fun a => a.error 3)

/-- What a store to the low word of the interrupt command register asks for (62_apic.md R959). -/
inductive IcrCheck where
  | send | ignored | deassert | invalid
  deriving DecidableEq, Repr

/-- Table 7-2 (62_apic.md R959). An edge-triggered command with Level = 0 is sent as an asserted one: its rows do not look at
Level, and example (d) of R1020 sends a start-up command so, although note 2 says that the level must be assert (log 48, DESIGN
CHOICE). A start-up command with the shorthand Self or All inc Self is invalid, as the table has it, although R1035 of
63_multiprocessor.md prints 'all allowed' for the shorthand of a SIPI (log 48, DESIGN CHOICE). -/
def icrCheck (mode : BitVec 3) (assert level : Bool) (shorthand : BitVec 2) : IcrCheck :=
  if mode = 3 ∨ mode = 7 then .invalid
  else if mode = 5 ∧ level ∧ !assert then (if shorthand = 1 then .invalid else .deassert)
  else if shorthand = 1 ∨ shorthand = 2 then
    if mode ≠ 0 then .invalid
    else if level ∧ !assert then .ignored else .send
  else if level then
    if mode = 2 ∨ mode = 6 then .invalid
    else if assert then .send else .ignored
  else .send

/-- Whether other APICs that a message of this one addresses have taken it: the bus's answer, a free choice. Only a
fixed or lowest-priority message can be answered with a retry (62_apic.md R973). -/
def askOthers (m : ApicMsg) : M Taken := do
  let n ← drawNat
  pure (if n % 3 = 0 then .accepted else if n % 3 = 1 ∧ (m.mode = 0 ∨ m.mode = 1) then .retry else .none)

/-- What is left to deliver after an attempt with these answers: a destination without a free slot; or everybody if
nobody has taken the message, but for a start-up message (62_apic.md R957, R960). -/
def Outgoing.rest (o : Outgoing) (own other : Taken) : Option Outgoing :=
  let again := own ≠ .accepted && other ≠ .accepted
  let p := { o with toSelf := o.toSelf && (own = .retry || again), toOthers := o.toOthers && (other = .retry || again) }
  if o.msg.mode = 6 || !(p.toSelf || p.toOthers) then none else some p

/-- An attempt to deliver a message of this APIC (62_apic.md R960). A message that no APIC takes is a send accept error
(R974). -/
def attempt (o : Outgoing) : M Unit := do
  let own ← if o.toSelf then takeMessage o.msg o.selfInt (!o.toOthers) else pure .none
  let other ← if o.toOthers && !(o.msg.mode = 1 && own ≠ .none) then askOthers o.msg else pure .none
  let left := if o.msg.mode = 1 && own = .accepted then none else o.rest own other
  modifyApic fun a =>
    let b := { a with outgoing := left, arbId := if o.selfInt then a.arbId else 0 }
    if own = .none && other = .none then b.error 2 else b

/-- A message of this APIC that is still pending is tried again (62_apic.md R957, R960). -/
def retryOutgoing : M Unit := do
  let s ← get
  match s.apic.outgoing with
  | some o => attempt o
  | none => pure ()

/-- What an enabled APIC does at an instruction boundary by itself (62_apic.md R954, R955, R960). -/
def settleApic : M Unit := do
  let s ← get
  whenM s.apicOn (do
    retryOutgoing
    modifyApic Apic.settle)

/-- The message of an interrupt command. The broadcast shorthands use the physical destination mode and the
destination FH (62_apic.md R958, R972). -/
def Apic.command (a : Apic) : ApicMsg :=
  let short := field a.icrLow 18 2
  let wide := short = 2 || short = 3
  { mode := field a.icrLow 8 3, vector := field a.icrLow 0 8, levelTrigger := false, assert := true,
    logical := bit a.icrLow 11 && !wide, dest := if wide then 0x0F else field a.icrHigh 24 8, arb := a.arbId }

/-- Who has to take an interrupt command (62_apic.md R958). -/
def Apic.addressees (a : Apic) (m : ApicMsg) (short : BitVec 2) : Outgoing :=
  { msg := m, selfInt := short = 1,
    toSelf := short = 1 || short = 2 || (short = 0 && a.matches m.logical m.dest),
    toOthers := short = 2 || short = 3 || (short = 0 && !(a.matches m.logical m.dest && m.single)) }

/-- Send an interrupt command (62_apic.md R958, R960). A fixed or lowest-priority command with level de-assert is ignored (note
1 of R959) before its vector is looked at: with a vector below 16 it sets no Send Illegal Vector, which R960 could be read to
ask for first. An SMI command with a vector other than zero, which R957 says must be zero, is sent as an SMI, its vector ignored
(log 48, DESIGN CHOICE). -/
def sendIcr : M Unit := do
  let s ← get
  let lo := s.apic.icrLow
  let short := field lo 18 2
  let m := s.apic.command
  match icrCheck m.mode (bit lo 14) (bit lo 15) short with
  | .invalid => stop .apicCommand
  | .ignored => pure ()
  | .deassert => do
    emit (.apic { m with levelTrigger := true, assert := false } short)
    modifyApic fun a => { a with arbId := a.id }
  | .send =>
    if (m.mode = 0 ∨ m.mode = 1) ∧ m.vector.toNat < 16 then
      modifyApic fun a => if short = 1 then (a.error 5).error 6 else a.error 5
    else do
      whenM (short ≠ 1) (emit (.apic m short))
      attempt (s.apic.addressees m short)

/-- The writable bits of an entry (62_apic.md R952). -/
def Lvt.mask : Lvt → Word
  | .timer => 0x000300FF#32
  | .perf => 0x000107FF#32
  | .lint0 => 0x0001A7FF#32
  | .lint1 => 0x0001A7FF#32
  | .error => 0x000100FF#32

/-- The delivery modes an entry allows (62_apic.md R953). -/
def Lvt.allows (l : Lvt) (mode : BitVec 3) : Bool :=
  match l with
  | .timer => true
  | .perf => mode = 0 ∨ mode = 4
  | .lint0 => mode = 0 ∨ mode = 4 ∨ mode = 7
  | .lint1 => mode = 0 ∨ mode = 4 ∨ mode = 7
  | .error => true

/-- Write an entry of the local vector table (62_apic.md R952, R953). -/
def writeLvt (l : Lvt) (v : Word) : M Unit :=
  if l.allows (field v 8 3) then modifyApic fun a => a.setLvt l (a.lvtValue l.mask (a.lvt l) v)
  else stop .apicLvtMode

/-- An entry of a local pin is programmed edge-triggered: NMI always, ExtINT never, fixed by its trigger mode (62_apic.md
R953). -/
def edgeEntry (entry : Word) : Bool := field entry 8 3 = 4 || (field entry 8 3 ≠ 7 && !bit entry 15)

/-- A 32-bit load from the APIC page (62_apic.md R944). The remote IRR flag of an edge-triggered LINT entry is
undefined (R954). -/
def apicLoad (off : Nat) : M Word := do
  let s ← get
  match s.apic.read off with
  | some v => pure (if (off = 0x350 ∨ off = 0x360) ∧ edgeEntry v then setBit v 14 (Config.remoteIrr s.free) else v)
  | none => do
    modifyApic fun a => a.error 7
    pure 0

/-- A store to the local APIC ID (62_apic.md R946). A change of the ID while interrupts are in flight, here a message of this
APIC that is still to be delivered, is refused (93_implementation_defined.md section 2.2). FH, which the rule calls no valid
APIC ID, is stored like any other value (log 48, DESIGN CHOICE). -/
def writeId (v : Word) : M Unit := do
  let s ← get
  let id := field v 24 4
  if s.apic.outgoing.isSome && id ≠ s.apic.id then stop .apicIdChange
  else modifyApic fun a => { a with id := id }

/-- A 32-bit store to the APIC page (62_apic.md R944, R945). A write to a read-only register is discarded. -/
def apicStore (off : Nat) (v : Word) : M Unit := do
  let s ← get
  match s.apic.read off with
  | none => modifyApic fun a => a.error 7
  | some _ =>
    let k := off / 16
    if k = 0x02 then writeId v
    else if k = 0x08 then modifyApic fun a => { a with tpr := field v 0 8 }
    else if k = 0x0B then do
      let (b, e) := s.apic.eoi
      modifyApic fun _ => b
      match e with
      | some x => do
        emit (.eoi x)
        modifyApic fun a => { a with arbId := 0 }
      | none => pure ()
    else if k = 0x0D then modifyApic fun a => { a with ldr := field v 24 8 }
    else if k = 0x0E then modifyApic fun a => { a with dfr := field v 28 4 }
    else if k = 0x0F then
      modifyApic fun a =>
        let b := { a with svr := (field v 0 10 &&& 0x3F0#10) ||| 0x00F#10 }
        if b.enabled then b else b.maskAll
    else if k = 0x28 then modifyApic fun a => { a with esr := a.esrPending, esrPending := 0 }
    else if k = 0x30 then
      if s.apic.outgoing.isSome then stop .apicPending
      else do
      modifyApic fun a => { a with icrLow := v &&& 0x000CCFFF#32 }
      sendIcr
    else if k = 0x31 then
      if s.apic.outgoing.isSome then stop .apicPending
      else modifyApic fun a => { a with icrHigh := v &&& 0xFF000000#32 }
    else if k = 0x32 then writeLvt .timer v
    else if k = 0x34 then writeLvt .perf v
    else if k = 0x35 then writeLvt .lint0 v
    else if k = 0x36 then writeLvt .lint1 v
    else if k = 0x37 then writeLvt .error v
    else if k = 0x38 then modifyApic fun a => { a with initCount := v, curCount := v }
    else if k = 0x3E then modifyApic fun a => { a with divide := v &&& 0xB#32 }
    else pure ()

/-- One tick of the divided timer clock (62_apic.md R975). -/
def Apic.tick (a : Apic) : Apic :=
  if a.curCount = 0 then a
  else
    let b := { a with curCount := a.curCount - 1 }
    if b.curCount = 0 then
      let c := b.fire .timer
      if bit c.lvtTimer 17 then { c with curCount := c.initCount } else c
    else b

/-- A pin entry and the core when its pin changes (62_apic.md R955). A level pin that goes inactive before its request
is dispensed takes the request back; remote IRR of its entry is then clear unless the vector is in service, which the
spec does not say (log 48, DESIGN CHOICE). A request of an ExtINT pin follows the changes of the pin, not those of its
entry: it stands when the entry is masked or rewritten, and a pin already active when the entry is unmasked makes none
(log 53, DESIGN CHOICE). A globally disabled APIC passes no pin on (R940). -/
def State.pinChange (s : State) (l : Lvt) (was now : Bool) (v : Byte) : State :=
  let entry := s.apic.lvt l
  let old := was ≠ bit entry 13
  let active := now ≠ bit entry 13
  let mode := field entry 8 3
  let vec := (field entry 0 8).toNat
  if bit entry 16 || !s.apicOn then s
  else if mode = 7 then
    { s with lat := { s.lat with intr := if active then some v else none } }
  else if mode = 4 then (if active && !old then s.signal 4 else s)
  else if l.levelMode entry then
    if !active && old && bit s.apic.tmr vec then
      let a := { s.apic with irr := setBit s.apic.irr vec false }
      { s with apic := if bit a.isr vec then a else a.setLvt l (setBit entry 14 false) }
    else s
  else if active && !old then { s with apic := s.apic.fire l }
  else s

/-- The LINT0 pin takes the level `on`; `v` is the vector its controller would supply. -/
def State.lint0Pin (s : State) (on : Bool) (v : Byte) : State :=
  let t := s.pinChange .lint0 s.apic.lint0 on v
  { t with apic := { t.apic with lint0 := on } }

/-- The LINT1 pin takes the level `on`; `v` is the vector its controller would supply. -/
def State.lint1Pin (s : State) (on : Bool) (v : Byte) : State :=
  let t := s.pinChange .lint1 s.apic.lint1 on v
  { t with apic := { t.apic with lint1 := on } }

/-- The performance-counter entry fires (62_apic.md R977). -/
def State.perfInterrupt (s : State) : State :=
  let e := s.apic.lvtPerf
  if bit e 16 || !s.apicOn then s
  else if field e 8 3 = 4 then s.signal 4
  else { s with apic := s.apic.fire .perf }

/-- A request the local APIC makes of the core now (62_apic.md R966). -/
def Apic.wants (a : Apic) : Bool :=
  a.irr ≠ 0 ∧ (field (BitVec.ofNat 8 (topVector a.irr)) 4 4) > field a.ppr 4 4

/-- The APIC after it dispenses its highest request, and the vector (62_apic.md R966). -/
def Apic.dispense (a : Apic) : Apic × Byte :=
  let v := topVector a.irr
  ({ a with irr := setBit a.irr v false, isr := setBit a.isr v true }, BitVec.ofNat 8 v)

/-- The local APIC after an INIT: as after a reset, but for its IDs (62_apic.md R1011). -/
def Apic.init (a : Apic) : Apic :=
  { Apic.reset with id := a.id, arbId := a.arbId, lint0 := a.lint0, lint1 := a.lint1 }

end Sys2Proof.Machine
end

