-- ==== Sys2Proof/Machine/Page.lean ====
section
/-! DEFINITION. Paging (22_paging.md) and access to linear addresses (20_memory.md R203, R212). -/
namespace Sys2Proof.Machine
open Host

/-- A physical address with the cache attributes of the page it lies in. -/
structure Phys where
  pa : Nat
  pcd : Bool
  pwt : Bool
  deriving DecidableEq, Repr

/-- Paging is on (22_paging.md R340). -/
def State.paging (s : State) : Bool := bit s.sys.cr0 31
/-- 36-bit physical addresses are on (22_paging.md R340). -/
def State.pae (s : State) : Bool := bit s.sys.cr4 5
/-- 4-MByte pages are on (22_paging.md R340). -/
def State.pse (s : State) : Bool := bit s.sys.cr4 4

/-- The access lies in the local APIC page and the APIC is enabled (62_apic.md R944). -/
def inApicPage (s : State) (a : Nat) : Bool :=
  s.apicOn && (decide (Config.apicPage ≤ a) && decide (a < Config.apicPage + 0x1000))

/-- An access of the processor itself at a physical address, with the page attributes that apply, is possible: an
undefined type is not used (20_memory.md R260), and the APIC answers an aligned doubleword alone, not a locked access
(62_apic.md R944). The flag says that the APIC answers. -/
def physCheck (s : State) (a n : Nat) (locked : Bool) : M Bool :=
  if (mtrrType s.msr a).isNone then stop .mtrrOverlap
  else if !inApicPage s a then pure false
  else if n = 4 ∧ a % 4 = 0 ∧ locked = false then pure true
  else stop .apicAccess

/-- Read a number of `n` bytes at a physical address (`PhysRead` of 22_paging.md R341). -/
def physRead (pa n : Nat) : M Nat := do
  let s ← get
  let a := busAddr s pa
  let apic ← physCheck s a n false
  if apic then do
    let v ← apicLoad (a - Config.apicPage)
    pure v.toNat
  else do
    let bs ← loadBytes a n
    pure (leNat bs)

/-- Write a number of `n` bytes at a physical address with the page attributes of the entry above it
(`PhysWrite` of 22_paging.md R350). -/
def physWrite (pa n v : Nat) (pcd pwt locked : Bool) : M Unit := do
  let s ← get
  let a := busAddr s pa
  let apic ← physCheck s a n locked
  if apic then apicStore (a - Config.apicPage) (BitVec.ofNat 32 v)
  else storeBytes a (leBytes n v) (s.typeOf a pcd pwt = some .wb)

/-- The access an entry's rights refuse (22_paging.md R353). -/
def refusedAccess (s : State) (write user us rw : Bool) : Bool :=
  (user && !us) || (write && !rw && (user || bit s.sys.cr0 16))

/-- Set the accessed flag of an entry in memory if it is clear, a locked update (22_paging.md R350). -/
def setAccessed (a n e : Nat) (pcd pwt : Bool) : M Unit :=
  if e.testBit 5 then pure () else physWrite a n (e ||| 0x20) pcd pwt true

/-- Set the accessed flag, and the dirty flag on a write, if either is clear, a locked update (22_paging.md R350). -/
def setAccessedDirty (a n e : Nat) (write pcd pwt : Bool) : M Unit :=
  let v := e ||| (if write then 0x60 else 0x20)
  if v = e then pure () else physWrite a n v pcd pwt true

/-- Remember a translation (11_state_msr.md R181). -/
def addTlb (t : TlbEntry) : M Unit :=
  modify fun s => if s.tlb.contains t then s else { s with tlb := t :: s.tlb }

/-- The physical address inside the page of a translation. -/
def TlbEntry.target (t : TlbEntry) (la : Word) : Phys :=
  { pa := t.frame + la.toNat % t.size, pcd := t.pcd, pwt := t.pwt }

/-- A last-level entry of `n` bytes at `a` as a translation; `pcd` and `pwt` are the attributes of the entry above it. -/
def entryOf (la : Word) (size frame a n e : Nat) (us rw dirty pcd pwt : Bool) : TlbEntry :=
  { page := la.toNat / size * size, size := size, frame := frame, user := us, write := rw, dirty := dirty,
    global := e.testBit 8, pcd := e.testBit 4, pwt := e.testBit 3, entry := a, width := n,
    entryPcd := pcd, entryPwt := pwt }

/-- The entry that maps a large page, checked and used (22_paging.md R341, R351). -/
def useLarge (la : Word) (write user : Bool) (a n e size frame rsvd : Nat) (pcd pwt : Bool) : M TlbEntry := do
  let s ← get
  if e &&& rsvd ≠ 0 then raisePF la true write user true
  else if refusedAccess s write user (e.testBit 2) (e.testBit 1) then raisePF la true write user false
  else do
    setAccessedDirty a n e write pcd pwt
    let t := entryOf la size frame a n e (e.testBit 2) (e.testBit 1) (write || e.testBit 6) pcd pwt
    addTlb t
    pure t

/-- The page-table entry under a directory entry, checked and used (22_paging.md R341, R350). -/
def useTable (la : Word) (write user : Bool) (da n pde ta rsvd : Nat) (pcd pwt : Bool) : M TlbEntry := do
  let pte ← physRead ta n
  let s ← get
  let dpcd := pde.testBit 4
  let dpwt := pde.testBit 3
  let us := pde.testBit 2 && pte.testBit 2
  let rw := pde.testBit 1 && pte.testBit 1
  if !pte.testBit 0 then do
    setAccessed da n pde pcd pwt
    raisePF la false write user false
  else if pte &&& rsvd ≠ 0 then do
    setAccessed da n pde pcd pwt
    raisePF la true write user true
  else if refusedAccess s write user us rw then do
    setAccessed da n pde pcd pwt
    whenM (!(user && !us)) (setAccessed ta n pte dpcd dpwt)
    raisePF la true write user false
  else do
    setAccessed da n pde pcd pwt
    setAccessedDirty ta n pte write dpcd dpwt
    let t := entryOf la 0x1000 (pte &&& 0xFFFFFF000) ta n pte us rw (write || pte.testBit 6) dpcd dpwt
    addTlb t
    pure t

/-- The walk with 32-bit entries (22_paging.md R341). -/
def walk32 (la : Word) (write user : Bool) : M TlbEntry := do
  let s ← get
  let l := la.toNat
  let cr3 := s.sys.cr3.toNat
  let pcd := cr3.testBit 4
  let pwt := cr3.testBit 3
  let da := (cr3 &&& 0xFFFFF000) + l / 0x400000 * 4
  let pde ← physRead da 4
  if !pde.testBit 0 then raisePF la false write user false
  else if s.pse && pde.testBit 7 then
    useLarge la write user da 4 pde 0x400000 (pde &&& 0xFFC00000) 0x003FF000 pcd pwt
  else useTable la write user da 4 pde ((pde &&& 0xFFFFF000) + l / 0x1000 % 0x400 * 4) 0 pcd pwt

/-- The page-directory-pointer entry for a linear address (11_state_msr.md R197). -/
def Sys.pdpte (y : Sys) (la : Word) : QWord :=
  match (la.toNat / 0x40000000) with
  | 0 => y.pdpte0
  | 1 => y.pdpte1
  | 2 => y.pdpte2
  | _ => y.pdpte3

/-- The walk with 64-bit entries (22_paging.md R341). -/
def walk64 (la : Word) (write user : Bool) : M TlbEntry := do
  let s ← get
  let l := la.toNat
  let p := (s.sys.pdpte la).toNat
  let pcd := p.testBit 4
  let pwt := p.testBit 3
  if !p.testBit 0 then raisePF la false write user false
  else do
    let da := (p &&& 0xFFFFFF000) + l / 0x200000 % 0x200 * 8
    let pde ← physRead da 8
    if !pde.testBit 0 then raisePF la false write user false
    else if pde &&& 0xFFFFFFF000000000 ≠ 0 then raisePF la true write user true
    else if pde.testBit 7 then
      useLarge la write user da 8 pde 0x200000 (pde &&& 0xFFFE00000) 0x1FF000 pcd pwt
    else
      let ta := (pde &&& 0xFFFFFF000) + l / 0x1000 % 0x200 * 8
      useTable la write user da 8 pde ta 0xFFFFFFF000000000 pcd pwt

/-- A held translation is of the page of an address (22_paging.md R371). -/
def TlbEntry.serves (t : TlbEntry) (la : Word) : Bool := la.toNat / t.size * t.size = t.page

/-- The first held translation that serves an address and is, by a free choice, still held (22_paging.md R371). -/
def chooseTlb (la : Word) : List TlbEntry → M (Option TlbEntry)
  | [] => pure none
  | t :: ts =>
    if t.serves la then do
      let s ← get
      set { s with free := s.free + 1 }
      if Config.tlbHolds s.free then pure (some t) else chooseTlb la ts
    else chooseTlb la ts

/-- The walk of the paging mode. -/
def walk (la : Word) (write user : Bool) : M TlbEntry := do
  let s ← get
  if s.pae then walk64 la write user else walk32 la write user

/-- A held translation is used. A write through one that is not marked dirty sets the dirty flag of its entry in memory
(22_paging.md R350), which is read again for it (log 9); an entry that is not present by now is not written (R349), and
the tables are walked instead. -/
def useHeld (t : TlbEntry) (la : Word) (write user : Bool) : M TlbEntry :=
  if write && !t.dirty then do
    let e ← physRead t.entry t.width
    if e.testBit 0 then do
      setAccessedDirty t.entry t.width e true t.entryPcd t.entryPwt
      modify fun s => { s with tlb := s.tlb.map fun u => if u = t then { t with dirty := true } else u }
      pure t
    else walk la write user
  else pure t

/-- `Translate` (22_paging.md R341): linear to physical, with the protection checks. -/
def translate (la : Word) (write user : Bool) : M Phys := do
  let s ← get
  if !s.paging then pure { pa := la.toNat, pcd := false, pwt := false }
  else do
    let c ← chooseTlb la s.tlb
    match c with
    | some t =>
      if refusedAccess s write user t.user t.write then raisePF la true write user false
      else do
        let u ← useHeld t la write user
        pure (u.target la)
    | none => do
      let t ← walk la write user
      pure (t.target la)

/-- The directory entry of a linear address, with the page attributes of the entry above it (22_paging.md R341). -/
def State.directoryEntry (s : State) (la : Word) : Phys :=
  if s.pae then
    let p := (s.sys.pdpte la).toNat
    ⟨(p &&& 0xFFFFFF000) + la.toNat / 0x200000 % 0x200 * 8, p.testBit 4, p.testBit 3⟩
  else
    let p := s.sys.cr3.toNat
    ⟨(p &&& 0xFFFFF000) + la.toNat / 0x400000 * 4, p.testBit 4, p.testBit 3⟩

/-- A table entry may be read ahead of the program: it lies in RAM or ROM and is not uncacheable, for which no
speculative walks are made (20_memory.md R234, R255). -/
def State.readsAhead (s : State) (p : Phys) : Bool :=
  let a := busAddr s p.pa
  (match placeOf s.map s.smm.inSmm a with
    | .ram _ => true
    | .rom _ => true
    | _ => false) && !inApicPage s a && (match s.typeOf a p.pcd p.pwt with
    | some t => t ≠ .uc
    | none => false)

/-- A translation the processor makes ahead of the program (22_paging.md R371): what it finds is held, with the accessed
flags set (R350); a failure leaves nothing (log 9). -/
def State.speculateAt (s : State) (la : Word) : State :=
  if s.readsAhead (s.directoryEntry la) then
    match walk la false false s with
    | .ok e t =>
      if s.readsAhead ⟨e.entry, e.entryPcd, e.entryPwt⟩ then
        { s with tlb := t.tlb, free := t.free, mem := t.mem, stale := t.stale }
      else s
    | .error _ _ => s
  else s

/-- The translations made ahead of the program at one moment (11_state_msr.md R181, 20_memory.md R265). -/
def State.speculate (s : State) : State :=
  if s.paging then (Config.speculated s.free).foldl State.speculateAt { s with free := s.free + 1 } else s

/-- What goes on by itself in a processor that runs: the caches write lines back, and translations are made ahead of the
program (20_memory.md R265, 22_paging.md R371). -/
def State.background (s : State) : State := s.settleLines.speculate

/-- What may happen between two accesses of an instruction: other agents write (20_memory.md R216, R217), and
translations are made ahead of the program (22_paging.md R371). -/
def gap : M Unit := modify fun s => s.othersWrite.speculate

/-- A run of bytes inside one page, as the physical memory sees it. -/
structure Span where
  pa : Nat
  len : Nat
  /-- the local APIC answers (20_memory.md R206) -/
  apic : Bool
  /-- of a cacheable type, with the caches on (20_memory.md R215, R216, R250) -/
  cacheable : Bool
  /-- of write-back type -/
  wb : Bool
  deriving DecidableEq, Repr

/-- A run of bytes with its memory type, at the address as it appears on the bus; an undefined type is not used
(20_memory.md R260). -/
def spanOf (p : Phys) (len : Nat) : M Span := do
  let s ← get
  let a := busAddr s p.pa
  match s.typeOf a p.pcd p.pwt with
  | none => stop .mtrrOverlap
  | some t => pure { pa := a, len := len, apic := inApicPage s a,
                     cacheable := t ≠ .uc && t ≠ .wc && !bit s.sys.cr0 30, wb := t = .wb }

/-- The page that holds the byte at `la + k`, `len` bytes of it. -/
def pageSpan (la : Word) (len : Nat) (write user : Bool) : M Span := do
  let p ← translate la write user
  spanOf p len

/-- Every page of an operand is translated and checked, the lower address first, before any byte is
touched (20_memory.md R212). -/
def linearSpans (la : Word) (n : Nat) (write user : Bool) : M (List Span) := do
  let first := 0x1000 - la.toNat % 0x1000
  if n ≤ first then do
    let a ← pageSpan la n write user
    pure [a]
  else do
    let a ← pageSpan la first write user
    let b ← pageSpan (la + BitVec.ofNat 32 first) (n - first) write user
    pure [a, b]

/-- Every page of an operand is translated and checked, and nothing more (20_memory.md R212, 22_paging.md R341). -/
def translatePages (la : Word) (n : Nat) (write user : Bool) : M Unit := do
  let first := 0x1000 - la.toNat % 0x1000
  let _ ← translate la write user
  whenM (decide (first < n)) (do
    let _ ← translate (la + BitVec.ofNat 32 first) write user
    pure ())

/-- The pages of an operand whose segment checks have passed, and alignment checking where `aligned` says that it applies
(20_memory.md R211). A misaligned operand raises #AC before paging, as 23_protection.md R410 and 43_general_instructions.md
R771 have it, or after it, so that a page fault of the same access comes first, as 61_exception_reference.md R908 has it: a
free choice (log 59, DESIGN CHOICE, safe). -/
def alignedSpans (aligned : Bool) (la : Word) (n align : Nat) (write user : Bool) : M (List Span) :=
  if aligned && la.toNat % align ≠ 0 then do
    let pagesFirst ← drawBool
    whenM pagesFirst (translatePages la n write user)
    raiseAC
  else linearSpans la n write user

/-- The bytes of the runs, none of which is the APIC's. -/
def loadSpans : List Span → M (List Byte)
  | [] => pure []
  | p :: ps => do
    let a ← loadBytes p.pa p.len
    let b ← loadSpans ps
    pure (a ++ b)

/-- Write bytes over the runs, none of which is the APIC's. -/
def storeSpans : List Span → List Byte → M Unit
  | [], _ => pure ()
  | p :: ps, bs => do
    storeBytes p.pa (bs.take p.len) p.wb
    storeSpans ps (bs.drop p.len)

/-- The APIC answers some byte of the operand. -/
def anyApic (ps : List Span) : Bool := ps.any (fun p => p.apic)

/-- The APIC is read or written only as an aligned doubleword, and not by a locked instruction (62_apic.md R944). -/
def apicOperand (ps : List Span) (s : State) : Option Nat :=
  match ps with
  | [p] => if p.len = 4 && p.pa % 4 = 0 && !s.ins.lock then some (p.pa - Config.apicPage) else none
  | _ => none

/-- The bytes of the runs one by one: address and write-back mark. -/
def spanBytes (ps : List Span) : List (Nat × Bool) :=
  ps.flatMap fun p => (List.range p.len).map fun i => (p.pa + i, p.wb)

/-- The accesses that are guaranteed atomic (20_memory.md R215). -/
def Span.atomic (p : Span) : Bool :=
  p.len = 1 || ((p.len = 2 || p.len = 4 || p.len = 8) && p.pa % p.len = 0) || (p.len = 2 && p.pa % 4 ≤ 2) ||
    (p.cacheable && (p.len = 2 || p.len = 4 || p.len = 8) && p.pa % Config.line + p.len ≤ Config.line)

/-- Nothing of another agent can fall between the parts of the access: it is locked, or atomic, or no other agent
writes (20_memory.md R215, R216, R221). -/
def whole (ps : List Span) (s : State) : Bool :=
  s.ins.lock || s.others.isEmpty || (match ps with
    | [p] => p.atomic
    | _ => false)

/-- The accesses of a locked instruction follow one another (20_memory.md R221); before any other, other agents may
write (R217). -/
def accessGap : M Unit := do
  let s ← get
  unlessM s.ins.lock gap

/-- Read bytes one by one into their places; before each happens what `between` says: other agents write. -/
def loadParted (between : M Unit) : List (Nat × Nat) → M (List (Nat × Byte))
  | [] => pure []
  | (i, a) :: rest => do
    between
    let b ← loadByte a
    let bs ← loadParted between rest
    pure ((i, b) :: bs)

/-- Write bytes one by one; before each happens what `between` says: other agents write. -/
def storeParted (between : M Unit) : List ((Nat × Bool) × Byte) → M Unit
  | [] => pure ()
  | ((a, wb), b) :: rest => do
    between
    storeByte a b wb
    storeParted between rest

/-- Read the bytes of the runs one by one in an order of free choice, other agents writing in between (20_memory.md
R216). -/
def loadFree (between : M Unit) (ps : List Span) : M (List Byte) := do
  let cells := spanBytes ps
  let order ← shuffle cells.length ((List.range cells.length).zip (cells.map Prod.fst))
  let found ← loadParted between order
  pure ((List.range cells.length).map fun i => (found.lookup i).getD 0)

/-- Write the bytes of the runs one by one in an order of free choice, other agents writing in between (20_memory.md
R216). -/
def storeFree (between : M Unit) (ps : List Span) (bs : List Byte) : M Unit := do
  let cells := (spanBytes ps).zip bs
  let order ← shuffle cells.length cells
  storeParted between order

/-- Read the bytes of the runs, which the APIC does not answer: as a whole, or byte by byte in an order of free choice
where that is not guaranteed (20_memory.md R215, R216). `between` is what may happen before the access and between its
parts. -/
def loadRuns (between : M Unit) (ps : List Span) : M (List Byte) := do
  between
  let s ← get
  if whole ps s then loadSpans ps else loadFree between ps

/-- Write the bytes of the runs, which the APIC does not answer: as a whole, or byte by byte in an order of free choice
where that is not guaranteed (20_memory.md R215, R216). -/
def storeRuns (between : M Unit) (ps : List Span) (bs : List Byte) : M Unit := do
  between
  let s ← get
  if whole ps s then storeSpans ps bs else storeFree between ps bs

/-- Read the runs as a little-endian number (20_memory.md R201). -/
def readVia (between : M Unit) (ps : List Span) : M Nat := do
  if anyApic ps then do
    let s ← get
    match apicOperand ps s with
    | some off => do
      let v ← apicLoad off
      pure v.toNat
    | none => stop .apicAccess
  else do
    let bs ← loadRuns between ps
    pure (leNat bs)

/-- Write a number of `n` bytes over the runs, little endian (20_memory.md R201). -/
def writeVia (between : M Unit) (ps : List Span) (n v : Nat) : M Unit := do
  if anyApic ps then do
    let s ← get
    match apicOperand ps s with
    | some off => apicStore off (BitVec.ofNat 32 v)
    | none => stop .apicAccess
  else storeRuns between ps (leBytes n v)

/-- Read an operand, a little-endian number (20_memory.md R201). -/
def readSpans (ps : List Span) : M Nat := readVia accessGap ps

/-- Write an operand of `n` bytes, little endian (20_memory.md R201). -/
def writeSpans (ps : List Span) (n v : Nat) : M Unit := writeVia accessGap ps n v

/-- Run a computation with the bus locked: no access of another agent falls between its own (20_memory.md R220 to
R222). -/
def locked {α : Type} (m : M α) : M α := do
  let s ← get
  modify fun s => { s with ins := { s.ins with lock := true } }
  let a ← m
  modify fun t => { t with ins := { t.ins with lock := s.ins.lock } }
  pure a

/-- Read `n` bytes at a linear address with the rights of the processor itself (23_protection.md R415). -/
def sysRead (la : Word) (n : Nat) : M Nat := do
  let ps ← linearSpans la n false false
  readSpans ps

/-- Write `n` bytes at a linear address with the rights of the processor itself (23_protection.md R415). -/
def sysWrite (la : Word) (n v : Nat) : M Unit := do
  let ps ← linearSpans la n true false
  writeSpans ps n v

/-- Global translations stay; the others are removed (22_paging.md R372). -/
def flushTlbNonGlobal : M Unit :=
  modify fun s => { s with tlb := s.tlb.filter (fun t => t.global && bit s.sys.cr4 7) }

/-- INVLPG removes the translations of one page, global or not (22_paging.md R372). -/
def flushTlbPage (la : Word) : M Unit :=
  modify fun s => { s with tlb := s.tlb.filter (fun t => !(la.toNat / t.size * t.size = t.page)) }

/-- The entries of the page-directory-pointer table with the numbers of a list, other agents writing before each
(20_memory.md R216). -/
def readPdpteList (base : Nat) : List Nat → M (List (Nat × QWord))
  | [] => pure []
  | k :: ks => do
    othersGap
    let e ← physRead (base + 8 * k) 8
    let es ← readPdpteList base ks
    pure ((k, BitVec.ofNat 64 e) :: es)

/-- The order in which the four entries are read: a free choice where other agents write (log 10). -/
def pdpteOrder : M (List Nat) := do
  let s ← get
  if s.others.isEmpty then pure (List.range 4) else shuffle 4 (List.range 4)

/-- The page-directory-pointer table that CR3 names (22_paging.md R360), its four entries by number. The rule says neither
in which order they are read nor that they are read as one: where other agents write, the order is a free choice and a
write may fall before each (log 10). -/
def readPdptes : M (Nat → QWord) := do
  let order ← pdpteOrder
  let s ← get
  let found ← readPdpteList (s.sys.cr3.toNat &&& 0xFFFFFFE0) order
  pure fun k => (found.lookup k).getD 0

/-- The page-directory-pointer entries replaced. -/
def State.setPdptes (s : State) (e : Nat → QWord) : State :=
  { s with sys := { s.sys with pdpte0 := e 0, pdpte1 := e 1, pdpte2 := e 2, pdpte3 := e 3 } }

/-- A page-directory-pointer entry is present with a reserved bit set (22_paging.md R360). -/
def badPdpte (e : QWord) : Bool := bit e 0 && (e &&& Config.pdpteReserved ≠ 0)

/-- Read the page-directory-pointer table (22_paging.md R360). Nothing is replaced if an entry is wrong. -/
def loadPdptes : M Unit := do
  let e ← readPdptes
  if badPdpte (e 0) || badPdpte (e 1) || badPdpte (e 2) || badPdpte (e 3) then raiseGP0
  else modify fun s => s.setPdptes e

end Sys2Proof.Machine
end

