-- ==== Sys2Proof/Machine/Regs.lean ====
section
/-! DEFINITION. General registers, segment registers, flags as bits, and modes (10_state.md). -/
namespace Sys2Proof.Machine
open Host

/-- A general register (10_state.md R33). -/
def Gprs.get (g : Gprs) : Reg → Word
  | .eax => g.eax
  | .ecx => g.ecx
  | .edx => g.edx
  | .ebx => g.ebx
  | .esp => g.esp
  | .ebp => g.ebp
  | .esi => g.esi
  | .edi => g.edi

/-- The registers with one of them written. -/
def Gprs.set (g : Gprs) (r : Reg) (v : Word) : Gprs :=
  match r with
  | .eax => { g with eax := v }
  | .ecx => { g with ecx := v }
  | .edx => { g with edx := v }
  | .ebx => { g with ebx := v }
  | .esp => { g with esp := v }
  | .ebp => { g with ebp := v }
  | .esi => { g with esi := v }
  | .edi => { g with edi := v }

/-- A segment register (10_state.md R54). -/
def Segs.get (g : Segs) : SegReg → Seg
  | .es => g.es
  | .cs => g.cs
  | .ss => g.ss
  | .ds => g.ds
  | .fs => g.fs
  | .gs => g.gs

/-- The segment registers with one of them written. -/
def Segs.set (g : Segs) (r : SegReg) (v : Seg) : Segs :=
  match r with
  | .es => { g with es := v }
  | .cs => { g with cs := v }
  | .ss => { g with ss := v }
  | .ds => { g with ds := v }
  | .fs => { g with fs := v }
  | .gs => { g with gs := v }

/-- The 32-bit register that a byte register is part of, and whether it is its high byte (10_state.md R34). -/
def reg8Parent : Reg8 → Reg × Bool
  | .al => (.eax, false)
  | .cl => (.ecx, false)
  | .dl => (.edx, false)
  | .bl => (.ebx, false)
  | .ah => (.eax, true)
  | .ch => (.ecx, true)
  | .dh => (.edx, true)
  | .bh => (.ebx, true)

/-- Read a 32-bit register. -/
def State.r32 (s : State) (r : Reg) : Word := s.gpr.get r
/-- Read a 16-bit register (10_state.md R34). -/
def State.r16 (s : State) (r : Reg) : Half := field (s.gpr.get r) 0 16
/-- Read a byte register (10_state.md R34). -/
def State.r8 (s : State) (r : Reg8) : Byte :=
  let (p, hi) := reg8Parent r
  field (s.gpr.get p) (if hi then 8 else 0) 8

/-- Write a 32-bit register. -/
def State.setR32 (s : State) (r : Reg) (v : Word) : State := { s with gpr := s.gpr.set r v }
/-- Write a 16-bit register; the upper half is unchanged (10_state.md R34). -/
def State.setR16 (s : State) (r : Reg) (v : Half) : State :=
  s.setR32 r (blend 0x0000FFFF#32 (s.gpr.get r) (zx32 v))
/-- Write a byte register; the other bits are unchanged (10_state.md R34). -/
def State.setR8 (s : State) (r : Reg8) (v : Byte) : State :=
  let (p, hi) := reg8Parent r
  if hi then s.setR32 p (blend 0x0000FF00#32 (s.gpr.get p) (zx32 v <<< 8))
  else s.setR32 p (blend 0x000000FF#32 (s.gpr.get p) (zx32 v))

/-- Bits of EFLAGS (10_state.md R41). -/
def fCF : Nat := 0
/-- Parity flag. -/
def fPF : Nat := 2
/-- Auxiliary carry flag. -/
def fAF : Nat := 4
/-- Zero flag. -/
def fZF : Nat := 6
/-- Sign flag. -/
def fSF : Nat := 7
/-- Trap flag. -/
def fTF : Nat := 8
/-- Interrupt-enable flag. -/
def fIF : Nat := 9
/-- Direction flag. -/
def fDF : Nat := 10
/-- Overflow flag. -/
def fOF : Nat := 11
/-- Nested-task flag. -/
def fNT : Nat := 14
/-- Resume flag. -/
def fRF : Nat := 16
/-- Virtual-8086 mode flag. -/
def fVM : Nat := 17
/-- Alignment-check flag. -/
def fAC : Nat := 18
/-- Virtual interrupt flag. -/
def fVIF : Nat := 19
/-- Virtual interrupt pending flag. -/
def fVIP : Nat := 20

/-- A bit of EFLAGS. -/
def State.flag (s : State) (i : Nat) : Bool := bit s.eflags i
/-- EFLAGS with one bit written. -/
def State.setFlag (s : State) (i : Nat) (b : Bool) : State := { s with eflags := setBit s.eflags i b }
/-- The I/O privilege level (10_state.md R45). -/
def State.iopl (s : State) : BitVec 2 := field s.eflags 12 2

/-- Protection is enabled (10_state.md R31). -/
def State.prot (s : State) : Bool := bit s.sys.cr0 0
/-- Virtual-8086 mode (10_state.md R31, R48). -/
def State.v86 (s : State) : Bool := s.prot && s.flag fVM
/-- Real-address or virtual-8086 mode: segments are loaded as on the 8086 (67_8086_emulation.md R1222). -/
def State.mode8086 (s : State) : Bool := !s.prot || s.flag fVM

/-- The operand-size attribute is 32 (30_encoding.md R485). -/
def State.o32 (s : State) : Bool := s.seg.cs.db != s.ins.op66
/-- The address-size attribute is 32 (30_encoding.md R485). -/
def State.a32 (s : State) : Bool := s.seg.cs.db != s.ins.ad67
/-- Both size attributes. -/
def State.sizes (s : State) : Sizes := { o32 := s.o32, a32 := s.a32 }

/-- The width of a `v` operand. -/
def bits (o32 : Bool) : Nat := if o32 then 32 else 16
/-- The bytes of a `v` operand. -/
def bytes (o32 : Bool) : Nat := if o32 then 4 else 2

/-- Read a general register at the operand size. -/
def State.rv (s : State) (o32 : Bool) (r : Reg) : BitVec (bits o32) :=
  (s.gpr.get r).setWidth (bits o32)

/-- Write a general register at the operand size; a 16-bit write leaves the upper half (10_state.md R34). -/
def State.setRv (s : State) (o32 : Bool) (r : Reg) (v : BitVec (bits o32)) : State :=
  if o32 then s.setR32 r (v.setWidth 32) else s.setR16 r (v.setWidth 16)

/-- An instruction pointer cut to the size of the code segment (30_encoding.md R496). -/
def State.cutEip (s : State) (x : Word) : Word := if s.seg.cs.db then x else x &&& 0xFFFF#32

/-- The offset that follows the instruction decoded so far (30_encoding.md R496). -/
def State.nextEip (s : State) : Word := s.cutEip (s.eip + BitVec.ofNat 32 s.ins.len)

/-- Read the current state's operand size. -/
def getO32 : M Bool := do
  let s ← get
  pure s.o32

/-- Read the current state's address size. -/
def getA32 : M Bool := do
  let s ← get
  pure s.a32

/-- Write a general register at the operand size. -/
def putRv (o32 : Bool) (r : Reg) (v : BitVec (bits o32)) : M Unit := modify fun s => s.setRv o32 r v
/-- Write a 32-bit register. -/
def putR32 (r : Reg) (v : Word) : M Unit := modify fun s => s.setR32 r v
/-- Write a 16-bit register. -/
def putR16 (r : Reg) (v : Half) : M Unit := modify fun s => s.setR16 r v
/-- Write a byte register. -/
def putR8 (r : Reg8) (v : Byte) : M Unit := modify fun s => s.setR8 r v
/-- Write EFLAGS. -/
def putFlags (f : Word) : M Unit := modify fun s => { s with eflags := f }
/-- Write one flag. -/
def putFlag (i : Nat) (b : Bool) : M Unit := modify fun s => s.setFlag i b

end Sys2Proof.Machine
end

