-- ==== Sys2Proof/Machine/Seg.lean ====
section
/-! DEFINITION. Segmentation and its protection checks (21_segmentation.md, 23_protection.md), the stack,
breakpoints on data, and I/O permission. -/
namespace Sys2Proof.Machine
open Host

/-- A segment, system or gate descriptor: two little-endian doublewords (21_segmentation.md R287). -/
abbrev Desc := QWord

/-- Base address (21_segmentation.md R287). -/
def descBase (d : Desc) : Word := (field d 56 8 ++ field d 16 24 : BitVec 32)
/-- Effective limit (21_segmentation.md R306). -/
def descLimit (d : Desc) : Word :=
  let l : BitVec 20 := field d 48 4 ++ field d 0 16
  if bit d 55 then (zx32 l <<< 12) ||| 0xFFF#32 else zx32 l
/-- Type field. -/
def descType (d : Desc) : BitVec 4 := field d 40 4
/-- S flag: code or data. -/
def descS (d : Desc) : Bool := bit d 44
/-- Descriptor privilege level. -/
def descDpl (d : Desc) : BitVec 2 := field d 45 2
/-- Present flag. -/
def descP (d : Desc) : Bool := bit d 47

/-- A code segment type (21_segmentation.md R295). -/
def isCode (s : Bool) (t : BitVec 4) : Bool := s && bit t 3
/-- A data segment type. -/
def isData (s : Bool) (t : BitVec 4) : Bool := s && !bit t 3
/-- Writable. -/
def isWritable (s : Bool) (t : BitVec 4) : Bool := isData s t && bit t 1
/-- Readable. -/
def isReadable (s : Bool) (t : BitVec 4) : Bool := isData s t || (isCode s t && bit t 1)
/-- Expand-down. -/
def isExpandDown (s : Bool) (t : BitVec 4) : Bool := isData s t && bit t 2
/-- Conforming. -/
def isConforming (s : Bool) (t : BitVec 4) : Bool := isCode s t && bit t 2

/-- A code descriptor. -/
def descCode (d : Desc) : Bool := isCode (descS d) (descType d)
/-- A conforming code descriptor. -/
def descConforming (d : Desc) : Bool := isConforming (descS d) (descType d)

/-- The requestor privilege level of a selector (21_segmentation.md R282). -/
def rpl (sel : Half) : BitVec 2 := field sel 0 2
/-- The null selector (21_segmentation.md R286). -/
def isNull (sel : Half) : Bool := (sel &&& 0xFFFC#16) = 0

/-- A segment register loaded from a descriptor (23_protection.md R420). -/
def Seg.ofDesc (sel : Half) (d : Desc) : Seg :=
  { sel := sel, base := descBase d, limit := descLimit d,
    type := if descS d then descType d ||| 1 else descType d, s := descS d, dpl := descDpl d,
    p := descP d, db := bit d 54, g := bit d 55, avl := bit d 52, valid := true }

/-- A segment register loaded with a null selector (23_protection.md R413). -/
def Seg.nulled (r : Seg) (sel : Half) : Seg := { r with sel := sel, valid := false }

/-- The attributes forced on a load in virtual-8086 mode (67_8086_emulation.md R1222). -/
def Seg.v86 (sel : Half) : Seg :=
  { sel := sel, base := zx32 sel <<< 4, limit := 0xFFFF#32, type := 3, s := true, dpl := 3, p := true,
    db := false, g := false, avl := false, valid := true }

/-- A segment register loaded in real-address mode: limit and attributes are unchanged (67_8086_emulation.md R1222). -/
def Seg.real (r : Seg) (sel : Half) : Seg := { r with sel := sel, base := zx32 sel <<< 4, valid := true }

/-- The kinds of access through a segment (23_protection.md R410). -/
inductive Access where
  | read | write | fetch
  deriving DecidableEq, Repr

/-- The offsets of an operand of `n` bytes are inside the segment (21_segmentation.md R307, R308). -/
def Seg.inLimit (r : Seg) (off : Word) (n : Nat) : Bool :=
  let last := off.toNat + n - 1
  if isExpandDown r.s r.type then
    decide (r.limit.toNat < off.toNat) && decide (last ≤ if r.db then 0xFFFFFFFF else 0xFFFF)
  else decide (last ≤ r.limit.toNat)

/-- The type of the segment allows the access (23_protection.md R410, R411). -/
def Seg.typeAllows (r : Seg) : Access → Bool
  | .write => isWritable r.s r.type
  | .read => isReadable r.s r.type
  | .fetch => true

/-- The register holds a segment, and its type allows the access. With PE = 0 the access rights of CS alone are ignored
(23_protection.md R410, R413, R416; 70_reset_and_hazards.md R1307); that every segment loaded in real-address mode can be
read and written (67_8086_emulation.md R1222) holds for the types such a segment has after reset (log 56). -/
def Seg.allows (r : Seg) (seg : SegReg) (k : Access) (prot : Bool) : Bool :=
  r.valid && (r.typeAllows k || (decide (seg = .cs) && !prot))

/-- The segment checks of an access, giving its linear address (23_protection.md R410). -/
def segLinear (seg : SegReg) (r : Seg) (off : Word) (n : Nat) (k : Access) : M Word := do
  let s ← get
  if !r.allows seg k s.prot then raiseGP0
  else if !r.inLimit off n then (if seg = .ss then raiseSS0 else raiseGP0)
  else pure (r.base + off)

/-- Alignment checking is on (20_memory.md R211). -/
def State.alignOn (s : State) : Bool := bit s.sys.cr0 18 && s.flag fAC && s.cpl = 3

/-- The length of breakpoint `n` in bytes; none where LEN is undefined (65_debug_perfmon.md R1112). -/
def bpLen (dr7 : Word) (n : Nat) : Option Nat :=
  match (field dr7 (18 + 4 * n) 2).toNat with
  | 0 => some 1
  | 1 => some 2
  | 3 => some 4
  | _ => none

/-- The condition of breakpoint `n` (10_state.md R76). -/
def bpCond (dr7 : Word) (n : Nat) : Nat := (field dr7 (16 + 4 * n) 2).toNat

/-- Breakpoint `n` is enabled (10_state.md R76). -/
def bpEnabled (dr7 : Word) (n : Nat) : Bool := bit dr7 (2 * n) || bit dr7 (2 * n + 1)

/-- The breakpoint address register of breakpoint `n`. -/
def Dbg.addr (d : Dbg) : Nat → Word
  | 0 => d.dr0
  | 1 => d.dr1
  | 2 => d.dr2
  | _ => d.dr3

/-- An access of `k` bytes at `a` touches the range of breakpoint `n` (65_debug_perfmon.md R1112). -/
def Dbg.overlaps (d : Dbg) (n a k : Nat) : Bool :=
  match bpLen d.dr7 n with
  | some l =>
    let base := (d.addr n).toNat / l * l
    decide (a ≤ base + l - 1) && decide (base ≤ a + k - 1)
  | none => false

/-- The breakpoints whose condition a data access meets (65_debug_perfmon.md R1113). -/
def Dbg.dataHits (d : Dbg) (a k : Nat) (write : Bool) : BitVec 4 :=
  let h := fun n => (bpCond d.dr7 n = 3 || (bpCond d.dr7 n = 1 && write)) && d.overlaps n a k
  BitVec.ofNat 4 (ofBool (h 0) + 2 * ofBool (h 1) + 4 * ofBool (h 2) + 8 * ofBool (h 3))

/-- The breakpoints whose condition an I/O access meets (65_debug_perfmon.md R1114). -/
def Dbg.ioHits (d : Dbg) (port k : Nat) : BitVec 4 :=
  let h := fun n => bpCond d.dr7 n = 2 && d.overlaps n port k
  BitVec.ofNat 4 (ofBool (h 0) + 2 * ofBool (h 1) + 4 * ofBool (h 2) + 8 * ofBool (h 3))

/-- Record the breakpoints an access meets (65_debug_perfmon.md R1113), enabled or not. -/
def noteHits (f : Dbg → BitVec 4) : M Unit :=
  modify fun s => { s with tr := { s.tr with hit := s.tr.hit ||| f s.dbg } }

/-- All the checks of an operand access through a segment register: segment, then alignment and paging
(43_general_instructions.md R771, log 59). It gives the linear address and the runs of bytes of the operand. -/
def checkedAccess (seg : SegReg) (off : Word) (n align : Nat) (write : Bool) : M (Word × List Span) := do
  let s ← get
  let la ← segLinear seg (s.seg.get seg) off n (if write then .write else .read)
  let ps ← alignedSpans s.alignOn la n align write (s.cpl = 3)
  pure (la, ps)

/-- The checks of an operand access, then the breakpoints it meets (43_general_instructions.md R771, 65_debug_perfmon.md
R1113). The runs of bytes it names are then read or written. -/
def access (seg : SegReg) (off : Word) (n align : Nat) (write : Bool) : M (List Span) := do
  let (la, ps) ← checkedAccess seg off n align write
  noteHits (fun d => d.dataHits la.toNat n write)
  pure ps

/-- `SegRead` (23_protection.md R410). -/
def segRead (seg : SegReg) (off : Word) (n align : Nat) : M Nat := do
  let ps ← access seg off n align false
  readSpans ps

/-- `SegWrite` (23_protection.md R410). -/
def segWrite (seg : SegReg) (off : Word) (n align v : Nat) : M Unit := do
  let ps ← access seg off n align true
  writeSpans ps n v

/-- The stack pointer in use (43_general_instructions.md R780). -/
def State.sp (s : State) : Word := if s.seg.ss.db then s.gpr.esp else s.gpr.esp &&& 0xFFFF#32

/-- A stack offset reduced to the width of a stack segment (43_general_instructions.md R780). -/
def Seg.cutSp (r : Seg) (x : Word) : Word := if r.db then x else x &&& 0xFFFF#32

/-- Write the stack pointer; on a 16-bit stack the upper half of ESP is unchanged (43_general_instructions.md R780). -/
def State.setSp (s : State) (x : Word) : State :=
  if s.seg.ss.db then s.setR32 .esp x else s.setR16 .esp (field x 0 16)

/-- Move the stack pointer by `k` bytes. -/
def addSp (k : Word) : M Unit := modify fun s => s.setSp (s.seg.ss.cutSp (s.sp + k))

/-- `Push` of an item of `n` bytes (43_general_instructions.md R780). -/
def push (n v : Nat) : M Unit := do
  let s ← get
  let t := s.seg.ss.cutSp (s.sp - BitVec.ofNat 32 n)
  segWrite .ss t n n v
  modify fun u => u.setSp t

/-- `Pop` of an item of `n` bytes (43_general_instructions.md R780). -/
def pop (n : Nat) : M Nat := do
  let s ← get
  let v ← segRead .ss s.sp n n
  addSp (BitVec.ofNat 32 n)
  pure v

/-- Read the item `k` bytes above the top of the stack, without popping it. -/
def peek (k n : Nat) : M Nat := do
  let s ← get
  segRead .ss (s.seg.ss.cutSp (s.sp + BitVec.ofNat 32 k)) n n

/-- The places of items pushed on a stack, all checked before any is written (60_exceptions.md R850). `r` is
the stack segment, `t` its stack pointer; a failure of the limit raises #SS with `code`. -/
def pushSpans (r : Seg) (user : Bool) (code : Half) (n : Nat) : Word → List Nat → M (List (List Span × Nat))
  | _, [] => pure []
  | t, v :: vs => do
    let t1 := r.cutSp (t - BitVec.ofNat 32 n)
    if !r.inLimit t1 n then raiseSS code
    else do
      let s ← get
      let ps ← alignedSpans (user && s.alignOn) (r.base + t1) n n true user
      let rest ← pushSpans r user code n t1 vs
      pure ((ps, v) :: rest)

/-- Write items at the places found for them. -/
def storeItems (n : Nat) : List (List Span × Nat) → M Unit
  | [] => pure ()
  | (ps, v) :: rest => do
    writeSpans ps n v
    storeItems n rest

/-- Where a descriptor of a selector lies, or none if the selector is outside its table (21_segmentation.md R301). -/
def State.descAddr (s : State) (sel : Half) : Option Word :=
  let off := sel &&& 0xFFF8#16
  if bit sel 2 then
    if isNull s.sys.ldtr.sel || !s.sys.ldtr.valid || s.sys.ldtr.limit.toNat < off.toNat + 7 then none
    else some (s.sys.ldtr.base + zx32 off)
  else if s.sys.gdtr.limit.toNat < off.toNat + 7 then none
  else some (s.sys.gdtr.base + zx32 off)

/-- Read 8 bytes of a descriptor table (21_segmentation.md R301). -/
def readDesc (addr : Word) : M Desc := do
  let lo ← sysRead addr 4
  let hi ← sysRead (addr + 4) 4
  pure (BitVec.ofNat 64 (lo + 0x100000000 * hi))

/-- `FetchDescriptor` (21_segmentation.md R301). -/
def fetchDesc (sel : Half) : M (Option (Word × Desc)) := do
  let s ← get
  match s.descAddr sel with
  | none => pure none
  | some a => do
    let d ← readDesc a
    pure (some (a, d))

/-- `FetchDescriptor` where a selector outside its table raises exception `v` with the selector. -/
def needDesc (v : Nat) (sel : Half) : M (Word × Desc) := do
  let f ← fetchDesc sel
  match f with
  | some x => pure x
  | none => raiseSel v sel

/-- The place of the accessed bit of a descriptor, tested before anything is written; none if the bit is set
(60_exceptions.md R850). -/
def accessedSpan (addr : Word) (d : Desc) : M (List Span) :=
  if descS d && !bit d 40 then linearSpans (addr + 5) 1 true false else pure []

/-- `SetAccessed` at a place already found (21_segmentation.md R297), a locked update (20_memory.md R220). -/
def markAccessed (ps : List Span) : M Unit :=
  if ps.isEmpty then pure ()
  else do
    accessGap
    locked (do
      let b ← readSpans ps
      writeSpans ps 1 (b ||| 1))

/-- `SetAccessed` (21_segmentation.md R297). -/
def setDescAccessed (addr : Word) (d : Desc) : M Unit := do
  let ps ← accessedSpan addr d
  markAccessed ps

/-- Write a segment register. -/
def putSeg (r : SegReg) (v : Seg) : M Unit := modify fun s => { s with seg := s.seg.set r v }

/-- The checks of `LoadDataSeg` for a selector that is not null (23_protection.md R420). -/
def checkDataSeg (sel : Half) (d : Desc) (cpl : BitVec 2) : M Unit :=
  if !descS d then raiseGP sel
  else if !isReadable (descS d) (descType d) then raiseGP sel
  else if !descConforming d && (descDpl d < cpl || descDpl d < rpl sel) then raiseGP sel
  else if !descP d then raiseNP sel
  else pure ()

/-- `LoadDataSeg` (23_protection.md R420). -/
def loadDataSeg (r : SegReg) (sel : Half) : M Unit := do
  let s ← get
  if isNull sel then putSeg r ((s.seg.get r).nulled sel)
  else do
    let (a, d) ← needDesc 13 sel
    checkDataSeg sel d s.cpl
    setDescAccessed a d
    putSeg r (Seg.ofDesc sel d)

/-- The checks of `LoadSS` at level `cpl`, each failure raising exception `v`, an absent segment #SS
(23_protection.md R421). -/
def checkStackSeg (v : Nat) (sel : Half) (d : Desc) (cpl : BitVec 2) : M Unit :=
  if rpl sel ≠ cpl then raiseSel v sel
  else if !isWritable (descS d) (descType d) then raiseSel v sel
  else if descDpl d ≠ cpl then raiseSel v sel
  else if !descP d then raiseSS sel
  else pure ()

/-- `LoadSS` (23_protection.md R421). -/
def loadSS (sel : Half) : M Unit := do
  let s ← get
  if isNull sel then raiseGP0
  else do
    let (a, d) ← needDesc 13 sel
    checkStackSeg 13 sel d s.cpl
    setDescAccessed a d
    putSeg .ss (Seg.ofDesc sel d)

/-- `LoadSeg` (43_general_instructions.md R785). -/
def loadSeg (r : SegReg) (sel : Half) : M Unit := do
  let s ← get
  if !s.prot then putSeg r ((s.seg.get r).real sel)
  else if s.flag fVM then putSeg r (Seg.v86 sel)
  else if r = .ss then loadSS sel
  else loadDataSeg r sel

/-- The I/O permission bit map of the current TSS allows the access (23_protection.md R436). -/
def ioPermitted (port n : Nat) : M Bool := do
  let s ← get
  let tr := s.sys.tr
  if tr.type = 1 ∨ tr.type = 3 then pure false
  else if tr.limit.toNat < 103 then pure false
  else do
    let base ← sysRead (tr.base + 102) 2
    let o := base + port / 8
    if tr.limit.toNat < o + 1 then pure false
    else do
      let w ← sysRead (tr.base + BitVec.ofNat 32 o) 2
      pure ((w >>> (port % 8)) % 2 ^ n = 0)

/-- `CheckIO` (23_protection.md R435, R436). -/
def checkIO (port n : Nat) : M Unit := do
  let s ← get
  if s.prot && (s.flag fVM || s.iopl < s.cpl) then do
    let ok ← ioPermitted port n
    if ok then pure () else raiseGP0
  else pure ()

/-- A privileged instruction at another level than 0 raises #GP(0) (23_protection.md R430). -/
def requireCpl0 : M Unit := do
  let s ← get
  if s.prot && (s.flag fVM || s.cpl ≠ 0) then raiseGP0 else pure ()

/-- An instruction that exists only in protected mode raises #UD elsewhere (23_protection.md R432). -/
def requireProt : M Unit := do
  let s ← get
  if s.mode8086 then raiseUD else pure ()

end Sys2Proof.Machine
end

