-- ==== Sys2Proof/Machine/Task.lean ====
section
/-! DEFINITION. Task management: finding a TSS, and the task switch (42_task_management.md). -/
namespace Sys2Proof.Machine
open Host

/-- What starts a task switch (42_task_management.md R728). -/
inductive Switch where
  | jmp | call | int | iret
  deriving DecidableEq, Repr

/-- The saved image of the defined flags of EFLAGS, reserved bits forced (10_state.md R41). -/
def definedFlags (f : Word) : Word := (f &&& 0x003F7FD5#32) ||| 2#32

/-- A 32-bit TSS; otherwise a 16-bit one (42_task_management.md R724). -/
def Seg.tss32 (r : Seg) : Bool := bit r.type 3

/-- A gate or segment selector field, bits 31:16 of the low doubleword of a descriptor (42_task_management.md R726). -/
def gateSel (d : Desc) : Half := field d 16 16

/-- The descriptor of the TSS that a selector names, with the checks that precede a task switch
(42_task_management.md R728). A TSS that is busy and absent fails as a busy one, in the order of R728; the table of R731
prints the test of presence first (log 55, DESIGN CHOICE). -/
def tssTarget (k : Switch) (tsel : Half) : M (Word × Desc) := do
  let x := if k = .iret then 10 else 13
  if bit tsel 2 then raiseSel x tsel
  else if isNull tsel then raiseSel x tsel
  else do
    let (a, t) ← needDesc x tsel
    let ok := if k = .iret then descType t = 3 ∨ descType t = 11 else descType t = 1 ∨ descType t = 9
    if descS t || !decide ok then raiseSel x tsel
    else if !descP t then raiseNP tsel
    else if (descLimit t).toNat < (if bit (descType t) 3 then 0x67 else 0x2B) then raiseTS tsel
    else pure (a, t)

/-- Run the part of a task switch after the commit point: an exception leaves the new task's state
(42_task_management.md R732). -/
def inNewTask {α : Type} (m : M α) : M α := fun s =>
  match m s with
  | .error (.exc e) s1 => .error (.exc { e with keep := true }) s1
  | r => r

/-- The bytes `k` to `k + n - 1` of an operand whose places have been found. -/
def runsFrom : List Span → Nat → Nat → List Span
  | [], _, _ => []
  | p :: ps, k, n =>
    if n = 0 then []
    else if p.len ≤ k then runsFrom ps (k - p.len) n
    else { p with pa := p.pa + k, len := min n (p.len - k) } :: runsFrom ps 0 (n - min n (p.len - k))

/-- Write consecutive fields of `n` bytes from byte `k` of the places `ps` up. -/
def writeFields (ps : List Span) (n : Nat) : Nat → List Nat → M Unit
  | _, [] => pure ()
  | k, v :: vs => do
    writeSpans (runsFrom ps k n) n v
    writeFields ps n (k + n) vs

/-- Read consecutive fields of `n` bytes from byte `k` of the places `ps` up. -/
def readFields (ps : List Span) (n : Nat) : Nat → Nat → M (List Nat)
  | _, 0 => pure []
  | k, c + 1 => do
    let v ← readSpans (runsFrom ps k n)
    let vs ← readFields ps n (k + n) c
    pure (v :: vs)

/-- The places of the fields of the current TSS that a task switch writes (42_task_management.md R730 step 3). -/
def savePlaces (old : Seg) : M (List Span) :=
  if old.tss32 then linearSpans (old.base + 32) 64 true false else linearSpans (old.base + 14) 28 true false

/-- Save the outgoing task in its TSS, in the places found for it (42_task_management.md R722, R723, R730), by ascending
offset: R730 calls the order of the writes processor dependent (log 55, DESIGN CHOICE). -/
def saveTask (ps : List Span) (image : Word) : M Unit := do
  let s ← get
  let t := s.sys.tr
  let g := s.gpr
  let regs := [s.eip, image, g.eax, g.ecx, g.edx, g.ebx, g.esp, g.ebp, g.esi, g.edi].map BitVec.toNat
  let sels := [s.seg.es, s.seg.cs, s.seg.ss, s.seg.ds].map (fun r => r.sel.toNat)
  if t.tss32 then
    writeFields ps 4 0 (regs ++ sels ++ [s.seg.fs.sel.toNat, s.seg.gs.sel.toNat])
  else writeFields ps 2 0 (regs ++ sels)

/-- Clear or set the busy bit in the upper half of a TSS descriptor; the answer is what it was before. It is one locked
operation (42_task_management.md R735; 20_memory.md R220, R222). -/
def putBusy (ps : List Span) (b : Bool) : M Bool := do
  accessGap
  locked (do
    let v ← readSpans ps
    writeSpans ps 4 (setBit (BitVec.ofNat 32 v) 9 b).toNat
    pure (v.testBit 9))

/-- Test and set the busy flag of a TSS to be entered, one locked operation; one that is busy by now raises #GP with its
selector (42_task_management.md R724, R735). -/
def takeBusy (sel : Half) (ps : List Span) : M Unit := do
  let busy ← putBusy ps true
  whenM busy (raiseGP sel)

/-- Run a computation and go on with the exception it may raise. -/
def recover {α : Type} (m : M α) : M (Except Exc α) := fun s =>
  match m s with
  | .ok a t => .ok (.ok a) t
  | .error (.exc e) t => .ok (.error e) t
  | .error x t => .error x t

/-- The busy flags of a task switch, in the order of 42_task_management.md R730: JMP and IRET clear that of the outgoing task
(step 4), then all but IRET test and set that of the new one (step 5, one locked operation by R735). A new task that is busy by
now, which another processor has begun since the test of R728, raises #GP with its selector, and the outgoing task, which R728
leaves untouched, has its flag back (log 55, DESIGN CHOICE). `oldBusy` is empty where TR names no descriptor. -/
def passBusy (k : Switch) (tsel : Half) (oldBusy newBusy : List Span) : M Unit := do
  let was ← if (k = .jmp ∨ k = .iret) && !oldBusy.isEmpty then putBusy oldBusy false else pure false
  let busy ← if k = .iret then pure false else putBusy newBusy true
  whenM busy (do
    whenM was (do
      let _ ← putBusy oldBusy true
      pure ())
    raiseGP tsel)

/-- What a task switch loads from the new TSS (42_task_management.md R722, R723). -/
structure TaskImage where
  eip : Word
  eflags : Word
  gpr : Gprs
  es : Half
  cs : Half
  ss : Half
  ds : Half
  fs : Half
  gs : Half
  ldt : Half
  trap : Bool
  deriving DecidableEq, Repr, Inhabited

/-- Field number `k` of a list of fields. -/
def nth (l : List Nat) (k : Nat) : Nat := l[k]?.getD 0

/-- The image in a 32-bit TSS whose bytes stand in the places `ps` (42_task_management.md R722), read by ascending offset,
the T flag last: R730 calls the order of the reads processor dependent (log 55, DESIGN CHOICE). -/
def image32 (ps : List Span) : M TaskImage := do
  let f ← readFields ps 4 32 17
  let t ← readSpans (runsFrom ps 100 2)
  let w := fun k => BitVec.ofNat 32 (nth f k)
  let h := fun k => BitVec.ofNat 16 (nth f k)
  pure { eip := w 0, eflags := w 1,
         gpr := ⟨w 2, w 3, w 4, w 5, w 6, w 7, w 8, w 9⟩,
         es := h 10, cs := h 11, ss := h 12, ds := h 13, fs := h 14, gs := h 15, ldt := h 16,
         trap := t % 2 = 1 }

/-- A general register loaded from a 16-bit field: the upper half is a free value (42_task_management.md R723, log 16). -/
def halfLoaded (v : Nat) : M Word := do
  let hi ← draw 16
  pure (hi ++ BitVec.ofNat 16 v : BitVec 32)

/-- The image in a 16-bit TSS whose bytes stand in the places `ps` (42_task_management.md R723), read by ascending offset
(R730: processor dependent; log 55, DESIGN CHOICE). -/
def image16 (ps : List Span) : M TaskImage := do
  let f ← readFields ps 2 14 15
  let h := fun k => BitVec.ofNat 16 (nth f k)
  let eax ← halfLoaded (nth f 2)
  let ecx ← halfLoaded (nth f 3)
  let edx ← halfLoaded (nth f 4)
  let ebx ← halfLoaded (nth f 5)
  let esp ← halfLoaded (nth f 6)
  let ebp ← halfLoaded (nth f 7)
  let esi ← halfLoaded (nth f 8)
  let edi ← halfLoaded (nth f 9)
  pure { eip := zx32 (h 0), eflags := zx32 (h 1), gpr := ⟨eax, ecx, edx, ebx, esp, ebp, esi, edi⟩,
         es := h 10, cs := h 11, ss := h 12, ds := h 13, fs := 0, gs := 0, ldt := h 14, trap := false }

/-- A value of CR3 with its reserved bits as they read (10_state.md R64, R70). -/
def cr3Value (pae : Bool) (v : Word) : Word := v &&& (if pae then 0xFFFFFFF8#32 else 0xFFFFF018#32)

/-- Write CR3; the translations that are not global go (22_paging.md R372). -/
def putCr3 (v : Word) : M Unit := do
  modify fun s => { s with sys := { s.sys with cr3 := cr3Value s.pae v } }
  flushTlbNonGlobal

/-- Load CR3 and what depends on it (42_task_management.md R730; 22_paging.md R360, R372). -/
def loadCr3 (v : Word) : M Unit := do
  putCr3 v
  let s ← get
  whenM (s.paging && s.pae) loadPdptes

/-- The segment registers hold the new selectors and nothing usable (42_task_management.md R732). -/
def Segs.unusable (g : Segs) (i : TaskImage) : Segs :=
  { es := g.es.nulled i.es, cs := g.cs.nulled i.cs, ss := g.ss.nulled i.ss, ds := g.ds.nulled i.ds,
    fs := g.fs.nulled i.fs, gs := g.gs.nulled i.gs }

/-- The segment registers loaded as on the 8086 (42_task_management.md R739). -/
def Segs.v86 (i : TaskImage) : Segs :=
  { es := Seg.v86 i.es, cs := Seg.v86 i.cs, ss := Seg.v86 i.ss, ds := Seg.v86 i.ds, fs := Seg.v86 i.fs,
    gs := Seg.v86 i.gs }

/-- The LDT of the new task, row 5 of Table 6-1 (42_task_management.md R731); the flag says whether it is present. Of one that
is not, no more than S, type and P is read (21_segmentation.md R292): LDTR keeps the selector and stays unusable. -/
def taskLdt (sel : Half) : M Bool := do
  if isNull sel then
    modify fun s => { s with sys := { s.sys with ldtr := s.sys.ldtr.nulled sel } }
    pure true
  else if bit sel 2 then raiseTS sel
  else do
    let (_, d) ← needDesc 10 sel
    if descS d || descType d ≠ 2 then raiseTS sel
    else do
      whenM (descP d) (modify fun s => { s with sys := { s.sys with ldtr := Seg.ofDesc sel d } })
      pure (descP d)

/-- A descriptor for a selector that is neither null nor outside its table. -/
def findDesc (sel : Half) : M (Option (Word × Desc)) :=
  if isNull sel then pure none else fetchDesc sel

/-- The data segment registers, in the order of rows 14 to 17 (42_task_management.md R731). -/
def TaskImage.dataRegs (i : TaskImage) : List (SegReg × Half) :=
  [(.ds, i.ds), (.es, i.es), (.fs, i.fs), (.gs, i.gs)]

/-- Descriptors of the data segment registers; null selectors have none. Row 14 of Table 6-1. -/
def taskDataDescs : List (SegReg × Half) → M (List (SegReg × Half × Word × Desc))
  | [] => pure []
  | (r, sel) :: rest =>
    if isNull sel then taskDataDescs rest
    else do
      let (a, d) ← needDesc 10 sel
      if !descS d then raiseTS sel
      else do
        let ds ← taskDataDescs rest
        pure ((r, sel, a, d) :: ds)

/-- A check of every data segment register: the first that fails raises the exception. -/
def taskDataCheck (v : Nat) (bad : Half → Desc → Bool) : List (SegReg × Half × Word × Desc) → M Unit
  | [] => pure ()
  | (_, sel, _, d) :: rest => if bad sel d then raiseSel v sel else taskDataCheck v bad rest

/-- Row 17 of Table 6-1; a data segment register is loaded when it has passed it (42_task_management.md R731, R732). -/
def taskDataLoad (cpl : BitVec 2) : List (SegReg × Half × Word × Desc) → M Unit
  | [] => pure ()
  | (r, sel, a, d) :: rest =>
    if !descConforming d && decide (descDpl d < cpl) then raiseTS sel
    else do
      setDescAccessed a d
      putSeg r (Seg.ofDesc sel d)
      taskDataLoad cpl rest

/-- The code segment's descriptor fails row 6 of Table 6-1 (42_task_management.md R731). -/
def csDplBad (sel : Half) (d : Desc) : Bool :=
  if descConforming d then decide (descDpl d > rpl sel) else decide (descDpl d ≠ rpl sel)

/-- Rows 6 to 9 of Table 6-1: the code segment's descriptor if there is one, and that of the stack segment
(42_task_management.md R731). Row 6 is skipped where CS names no code segment, which row 11 then finds (log 55, DESIGN
CHOICE); a selector in an LDT that is null or absent names none. -/
def taskStack (i : TaskImage) : M (Option (Word × Desc) × Word × Desc) := do
  let cs ← findDesc i.cs
  match cs with
  | some (_, d) => whenM (descCode d && csDplBad i.cs d) (raiseTS i.cs)
  | none => pure ()
  if isNull i.ss then raiseTS i.ss
  else do
    let (sa, sd) ← needDesc 10 i.ss
    if !isWritable (descS sd) (descType sd) then raiseTS i.ss
    else if !descP sd then raiseSS i.ss
    else if descDpl sd ≠ rpl i.cs then raiseTS i.ss
    else pure (cs, sa, sd)

/-- The checks of Table 6-1 from row 5 on, in the printed order, each register loaded when its last row has
passed; row 10 is the test that the LDT is present (42_task_management.md R731, R732). -/
def taskSegments (i : TaskImage) : M Unit := do
  let ldtHere ← taskLdt i.ldt
  let (cs, sa, sd) ← taskStack i
  whenM (!ldtHere) (raiseTS i.ldt)
  match cs with
  | none => raiseTS i.cs
  | some (ca, cd) =>
    if !descCode cd then raiseTS i.cs
    else if !descP cd then raiseNP i.cs
    else do
      setDescAccessed ca cd
      putSeg .cs (Seg.ofDesc i.cs cd)
      if descDpl sd ≠ rpl i.ss then raiseTS i.ss
      else do
        setDescAccessed sa sd
        putSeg .ss (Seg.ofDesc i.ss sd)
        let ds ← taskDataDescs i.dataRegs
        taskDataCheck 10 (fun _ d => !isReadable (descS d) (descType d)) ds
        taskDataCheck 11 (fun _ d => !descP d) ds
        taskDataLoad (rpl i.cs) ds

/-- The LDT of a task that starts in virtual-8086 mode: no check of Table 6-1 is made, and a selector that names no
present LDT leaves LDTR unusable (42_task_management.md R730, log 27). -/
def taskLdtV86 (sel : Half) : M Unit := do
  if isNull sel || bit sel 2 then pure ()
  else do
    let f ← fetchDesc sel
    match f with
    | none => pure ()
    | some (_, d) =>
      whenM (!descS d && descType d = 2 && descP d)
        (modify fun s => { s with sys := { s.sys with ldtr := Seg.ofDesc sel d } })

/-- What step 6 loads without a check: the registers of the image, the selectors, and the level (42_task_management.md
R730, R732). -/
def State.taskLoaded (s : State) (i : TaskImage) (f : Word) : State :=
  { s with eip := i.eip, eflags := f, gpr := i.gpr,
           cpl := if bit f fVM then 3 else rpl i.cs,
           seg := if bit f fVM then Segs.v86 i else s.seg.unusable i,
           sys := { s.sys with ldtr := { s.sys.ldtr.nulled i.ldt with valid := false } },
           tr := { s.tr with branched := true, keepRf := true } }

/-- Load CR3 from the new TSS and find the TSS through it (42_task_management.md R730, R741). -/
def underNewCr3 (base c : Word) : M (List Span) := do
  loadCr3 c
  linearSpans base 104 false false

/-- The part of a task switch after the commit point (42_task_management.md R730 steps 5 and 6). `ps` are the places of the
new TSS, `link` that of its link field, found before anything changed. What follows the load of CR3 is read through it
(R741); if that fails, all the state is loaded through the places already found before the exception is raised (R732,
log 55). -/
def enterTask (k : Switch) (tsel : Half) (t : Desc) (ps linkAt : List Span) (code : Option Half) : M Unit := do
  let s ← get
  let link := k = .call ∨ k = .int
  let tr := Seg.ofDesc tsel t
  let tr := { tr with type := tr.type ||| 2 }
  modify fun s =>
    { s with sys := { s.sys with tr := tr, cr0 := setBit s.sys.cr0 3 true },
             dbg := { s.dbg with dr7 := s.dbg.dr7 &&& ~~~0x55#32 } }
  whenM link (writeSpans linkAt 2 s.sys.tr.sel.toNat)
  let found ← recover (if tr.tss32 && s.paging then do
      let c ← readSpans (runsFrom ps 28 4)
      underNewCr3 tr.base (BitVec.ofNat 32 c)
    else pure ps)
  let qs := match found with
    | .ok qs => qs
    | .error _ => ps
  let i ← if tr.tss32 then image32 qs else image16 qs
  let f := definedFlags (setBit i.eflags fNT (link || bit i.eflags fNT))
  modify fun s => s.taskLoaded i f
  match found with
  | .ok _ => pure ()
  | .error x => throw (.exc x)
  if bit f fVM then taskLdtV86 i.ldt else taskSegments i
  let s ← get
  if s.eip.toNat > s.seg.cs.limit.toNat then raiseGP0
  else do
    match code with
    | some c => push (if tr.tss32 then 4 else 2) c.toNat
    | none => pure ()
    modify fun s => { s with dbg := { s.dbg with pendT := s.dbg.pendT || i.trap } }

/-- The current TSS holds the bytes up to `last` (23_protection.md R415); one that does not raises #TS with the selector
in TR (log 49). -/
def tssHolds (last : Nat) : M Unit := do
  let s ← get
  if s.sys.tr.limit.toNat < last then raiseTS s.sys.tr.sel else pure ()

/-- The address of the descriptor of the current task; none if TR holds a null selector, whose descriptor is never used
(21_segmentation.md R286). A selector outside the GDT raises #TS (23_protection.md R415, log 49). -/
def oldTaskDesc : M (Option Word) := do
  let s ← get
  let sel := s.sys.tr.sel
  if isNull sel then pure none
  else if s.sys.gdtr.limit.toNat < (sel &&& 0xFFF8#16).toNat + 7 then raiseTS sel
  else pure (some (s.sys.gdtr.base + zx32 (sel &&& 0xFFF8#16)))

/-- `TaskSwitch` (42_task_management.md R730). Every place it accesses before the load of CR3 is found before anything
changes, and is used as found; of the two descriptors in the GDT that of the new task is found first, where step 3 names no order,
and both are tested for a write, where it names no access (log 55, DESIGN CHOICE). The outgoing task is saved, the busy flags are passed on, and the new task is entered. -/
def taskSwitch (k : Switch) (tsel : Half) (a : Word) (t : Desc) (image : Word) (code : Option Half) : M Unit := do
  let s ← get
  let old := s.sys.tr
  tssHolds (if old.tss32 then 95 else 41)
  let oldDesc ← oldTaskDesc
  let saved ← savePlaces old
  let ps ← linearSpans (descBase t) (if bit (descType t) 3 then 104 else 44) false false
  let linkAt ← if k = .call ∨ k = .int then linearSpans (descBase t) 2 true false else pure []
  let newBusy ← linearSpans (a + 4) 4 true false
  let oldBusy ← match oldDesc with
    | some d => linearSpans (d + 4) 4 true false
    | none => pure []
  saveTask saved (if k = .iret then setBit image fNT false else image)
  passBusy k tsel oldBusy newBusy
  inNewTask (enterTask k tsel t ps linkAt code)

/-- A JMP or CALL whose selector names a TSS or a task gate (42_task_management.md R728). -/
def farTask (k : Switch) (sel : Half) (d : Desc) : M Unit := do
  let s ← get
  if descDpl d < s.cpl || descDpl d < rpl sel then raiseGP sel
  else do
    let tsel ← if descType d = 5 then (if !descP d then raiseNP sel else pure (gateSel d)) else pure sel
    let (a, t) ← tssTarget k tsel
    taskSwitch k tsel a t s.eflags none

/-- IRET with NT = 1: return to the task named by the link field (42_task_management.md R734). -/
def taskReturn : M Unit := do
  let s ← get
  tssHolds 1
  let l ← sysRead s.sys.tr.base 2
  let tsel := BitVec.ofNat 16 l
  let (a, t) ← tssTarget .iret tsel
  taskSwitch .iret tsel a t s.eflags none

end Sys2Proof.Machine
end

