-- ==== Sys2Proof/Machine/Ops.lean ====
section
/-! DEFINITION. Taking an exception or interrupt, the return from one, and how an instruction runs and
completes (60_exceptions.md, 67_8086_emulation.md). -/
namespace Sys2Proof.Machine
open Host

/-- An event to be delivered (60_exceptions.md R850). -/
structure Entry where
  vec : Nat
  src : Source
  code : Option Half
  /-- the offset recorded as the source of the transfer (65_debug_perfmon.md R1131) -/
  from_ : Word
  /-- what RF is in the saved image; none: as it stands in EFLAGS (60_exceptions.md R831) -/
  rf : Option Bool
  deriving DecidableEq, Repr

/-- The last-branch registers become undefined (65_debug_perfmon.md R1130). -/
def loseBranches : M Unit := do
  let a ← draw 32
  let b ← draw 32
  let c ← draw 32
  let d ← draw 32
  modify fun s => { s with msr := { s.msr with lastBranchFrom := a, lastBranchTo := b, lastExcFrom := c,
                                               lastExcTo := d } }

/-- Record a transfer in the last-branch registers (65_debug_perfmon.md R1131); with trace messages on, the
registers are undefined (R1130). -/
def recordBranch (exc : Bool) (f t : Word) : M Unit := do
  let s ← get
  if bit s.msr.debugCtl 6 then loseBranches
  else whenM (bit s.msr.debugCtl 0) (do
    whenM exc (modify fun s =>
      { s with msr := { s.msr with lastExcFrom := s.msr.lastBranchFrom, lastExcTo := s.msr.lastBranchTo } })
    modify fun s => { s with msr := { s.msr with lastBranchFrom := f, lastBranchTo := t } })

/-- A debug exception that the processor detected, not INT 1 (65_debug_perfmon.md R1121). -/
def Entry.isDebug (e : Entry) : Bool := e.vec = 1 && (e.src = .fault || e.src = .trap)

/-- The flags image that is saved (60_exceptions.md R831). -/
def Entry.image (e : Entry) (s : State) : Word :=
  match e.rf with
  | none => s.eflags
  | some b => setBit s.eflags fRF b

/-- RF in the image that a debug trap or a software interrupt saves, a free choice of what the rules have: the live RF
(60_exceptions.md R831), 0 (decision D32 of 92_eei_decisions.md), or, for a debug trap between the iterations of a repeated
string instruction, 1 (43_general_instructions.md R800) (log 62, DESIGN CHOICE). They differ only where RF is set, or
between iterations. -/
def trapRf (between : Bool) : M (Option Bool) := do
  let s ← get
  if s.flag fRF || between then do
    let k ← drawNat
    pure (if k % 3 = 0 then some false else if k % 3 = 1 && between then some true else none)
  else pure none

/-- EFLAGS on entry to a handler through an interrupt or trap gate (60_exceptions.md R852). -/
def handlerFlags (f : Word) (intGate : Bool) : Word :=
  let g := f &&& ~~~0x00034100#32
  if intGate then setBit g fIF false else g

/-- The stack for level `n` from the current TSS, with its checks (41_control_transfer.md R669). -/
def innerStack (n : BitVec 2) : M (Half × Word × Desc × Word) := do
  let s ← get
  let tr := s.sys.tr
  let k := n.toNat
  let sp := if tr.tss32 then 4 + 8 * k else 2 + 4 * k
  let ss := if tr.tss32 then 8 + 8 * k else 4 + 4 * k
  if tr.limit.toNat < ss + 1 then raiseTS tr.sel
  else do
    let esp ← sysRead (tr.base + BitVec.ofNat 32 sp) (if tr.tss32 then 4 else 2)
    let selN ← sysRead (tr.base + BitVec.ofNat 32 ss) 2
    let sel := BitVec.ofNat 16 selN
    if isNull sel then raiseTS 0
    else do
      let (a, d) ← needDesc 10 sel
      if rpl sel ≠ n || descDpl d ≠ n then raiseTS sel
      else if !isWritable (descS d) (descType d) then raiseTS sel
      else if !descP d then raiseSS sel
      else pure (sel, a, d, BitVec.ofNat 32 esp)

/-- There is room for `k` items of `n` bytes below `t` (60_exceptions.md R850). -/
def Seg.room (r : Seg) (t : Word) (n k : Nat) : Bool :=
  (List.range k).all fun i => r.inLimit (r.cutSp (t - BitVec.ofNat 32 (n * (i + 1)))) n

/-- The stack pointer after `k` items of `n` bytes are pushed below `t`. -/
def Seg.below (r : Seg) (t : Word) (n k : Nat) : Word := r.cutSp (t - BitVec.ofNat 32 (n * k))

/-- ESP with a stack pointer of the width of a stack segment written to it (43_general_instructions.md R780). -/
def Seg.withSp (r : Seg) (old sp : Word) : Word := if r.db then sp else blend 0xFFFF#32 old sp

/-- Push items on the current stack: every check first, then the writes, then the stack pointer. -/
def pushAll (n : Nat) (items : List Nat) : M Unit := do
  let s ← get
  let ss := s.seg.ss
  if !ss.allows .ss .write s.prot then raiseGP0
  else do
    let ps ← pushSpans ss (s.cpl = 3) 0 n s.sp items
    storeItems n ps
    modify fun s => s.setSp (ss.below s.sp n items.length)

/-- The code segment register that a transfer loads, at level `cpl` (41_control_transfer.md R663). -/
def Seg.code (sel : Half) (d : Desc) (cpl : BitVec 2) : Seg :=
  Seg.ofDesc ((sel &&& 0xFFFC#16) ||| cpl.setWidth 16) d

/-- A gate of the IDT after its own checks: interrupt gate or not, wide or not, target. -/
structure Gate where
  intGate : Bool
  wide : Bool
  sel : Half
  off : Word
  deriving DecidableEq, Repr

/-- An interrupt or trap gate descriptor (60_exceptions.md R849). -/
def Gate.ofDesc (g : Desc) : Gate :=
  let wide := bit (descType g) 3
  { intGate := !bit (descType g) 0, wide := wide, sel := gateSel g,
    off := if wide then (field g 48 16 ++ field g 0 16 : BitVec 32) else zx32 (field g 0 16) }

/-- Delivery at the same privilege level (60_exceptions.md R850). The accessed bit is set after the pushes, and tested
with the other checks before them. -/
def deliverSame (e : Entry) (g : Gate) (a : Word) (d : Desc) : M Unit := do
  let s ← get
  let n := if g.wide then 4 else 2
  let items := [(e.image s).toNat, s.seg.cs.sel.toNat, s.eip.toNat] ++ (e.code.map BitVec.toNat).toList
  if !s.seg.ss.room s.sp n items.length then raiseSS0
  else if g.off.toNat > (descLimit d).toNat then raiseGP0
  else do
    let cp ← accessedSpan a d
    pushAll n items
    markAccessed cp
    modify fun s =>
      { s with eip := g.off, eflags := handlerFlags s.eflags g.intGate,
               seg := { s.seg with cs := Seg.code g.sel d s.cpl } }

/-- Delivery to an inner privilege level `n`: the frame is written on the stack of the TSS. Every place written to is found
before anything is written (60_exceptions.md R850, R853; 67_8086_emulation.md R1250). `segs` are the selectors pushed first; `whole`: all 32 bits of
ESP are loaded even if the new stack is 16 bits wide (R1250). -/
def deliverInner (e : Entry) (g : Gate) (a : Word) (d : Desc) (n : BitVec 2) (segs : List Half) (whole : Bool) :
    M Unit := do
  let s ← get
  let w := if g.wide then 4 else 2
  let (sel, sa, sd, esp) ← innerStack n
  let ss := Seg.ofDesc sel sd
  let items :=
    segs.map BitVec.toNat ++
    [s.seg.ss.sel.toNat, s.gpr.esp.toNat, (e.image s).toNat, s.seg.cs.sel.toNat, s.eip.toNat] ++
    (e.code.map BitVec.toNat).toList
  let t := ss.cutSp esp
  if !ss.room t w items.length then raiseSS sel
  else if g.off.toNat > (descLimit d).toNat then raiseGP0
  else do
    let sp ← accessedSpan sa sd
    let ps ← pushSpans ss false sel w t items
    let cp ← accessedSpan a d
    markAccessed sp
    storeItems w ps
    markAccessed cp
    modify fun s =>
      { s with eip := g.off, eflags := handlerFlags s.eflags g.intGate, cpl := n,
               gpr := { s.gpr with esp := ss.withSp (if whole then esp else s.gpr.esp) (ss.below t w items.length) },
               seg := { s.seg with cs := Seg.code g.sel d n, ss := ss } }

/-- The data segment registers after a delivery from virtual-8086 mode (67_8086_emulation.md R1250). -/
def Segs.nullData (g : Segs) : Segs :=
  { g with es := g.es.nulled 0, ds := g.ds.nulled 0, fs := g.fs.nulled 0, gs := g.gs.nulled 0 }

/-- Delivery from virtual-8086 mode through a gate (67_8086_emulation.md R1250). Its line 'if v = 1: DR7.GD <- 0' is that of
60_exceptions.md R850, from which R1250 is entered: for a processor-detected #DB, since INT 1 does nothing of the kind
(65_debug_perfmon.md R1121); afterDelivery does it for every mode (log 57, DEDUCED). -/
def deliverV86 (e : Entry) (g : Gate) (a : Word) (d : Desc) : M Unit := do
  let s ← get
  if !g.wide then stop .v86Gate16
  else if descConforming d || descDpl d ≠ 0 then raiseGP g.sel
  else do
    deliverInner e g a d 0 [s.seg.gs.sel, s.seg.fs.sel, s.seg.ds.sel, s.seg.es.sel] true
    modify fun s => { s with seg := s.seg.nullData }

/-- Delivery through an interrupt or trap gate (60_exceptions.md R850). After a task switch that left CS or SS unusable it
fails (42_task_management.md R732). -/
def deliverGate (e : Entry) (g : Gate) : M Unit := do
  let s ← get
  if !(s.seg.cs.valid && s.seg.ss.valid) then raiseGP0
  else if isNull g.sel then raiseGP0
  else do
    let (a, d) ← needDesc 13 g.sel
    if !descCode d then raiseGP g.sel
    else if descDpl d > s.cpl then raiseGP g.sel
    else if !descP d then raiseNP g.sel
    else if s.flag fVM then deliverV86 e g a d
    else if descConforming d || descDpl d = s.cpl then deliverSame e g a d
    else deliverInner e g a d (descDpl d) [] false

/-- The error code that names an entry of the IDT (60_exceptions.md R826). -/
def idtCode (v : Nat) : Half := BitVec.ofNat 16 (8 * v + 2)

/-- Delivery in protected mode (60_exceptions.md R848, R850). -/
def deliverProt (e : Entry) : M Unit := do
  let s ← get
  let c := some (idtCode e.vec)
  if s.sys.idtr.limit.toNat < 8 * e.vec + 7 then raise 13 c
  else do
    let g ← readDesc (s.sys.idtr.base + BitVec.ofNat 32 (8 * e.vec))
    let ty := (descType g).toNat
    if descS g || !(ty = 5 || ty = 6 || ty = 7 || ty = 14 || ty = 15) then raise 13 c
    else if e.src = .soft && descDpl g < s.cpl then raise 13 c
    else if !descP g then raise 11 c
    else if ty = 5 then do
      let (a, t) ← tssTarget .int (gateSel g)
      taskSwitch .int (gateSel g) a t (e.image s) e.code
    else deliverGate e (Gate.ofDesc g)

/-- Delivery in real-address mode (67_8086_emulation.md R1230). -/
def deliverReal (e : Entry) : M Unit := do
  let s ← get
  if s.sys.idtr.limit.toNat < 4 * e.vec + 3 then raiseGP0
  else do
    let v ← sysRead (s.sys.idtr.base + BitVec.ofNat 32 (4 * e.vec)) 4
    let t := s.seg.ss.cutSp (s.sp - 6)
    if !s.seg.ss.inLimit t 6 then raiseSS0
    else if v % 0x10000 > s.seg.cs.limit.toNat then raiseGP0
    else do
      pushAll 2 [s.eflags.toNat, s.seg.cs.sel.toNat, s.eip.toNat]
      modify fun s =>
        { s with eip := BitVec.ofNat 32 (v % 0x10000),
                 eflags := setBit (setBit (setBit s.eflags fIF false) fTF false) fRF false,
                 seg := { s.seg with cs := s.seg.cs.real (BitVec.ofNat 16 (v / 0x10000)) } }

/-- The marks of `noReturn` once an event or a redirected interrupt has saved CS and EIP as the return address, under this CR3:
execution has come to that address by another way, so that the return to it is an ordinary one (log 42). -/
def State.marksAfter (s : State) (cs : Half) (eip cr3 : Word) : List NoRestart :=
  s.noReturn.filter fun r => !(r.cs = cs && r.eip = eip && r.cr3 = cr3)

/-- What every completed delivery does besides entering the handler (60_exceptions.md R835, R837, R850;
65_debug_perfmon.md R1121, R1131, R1132). `stepping`: TF and BTF were set before it; `cs`, `eip` and `cr3` are the return
address. It is remembered, with the place of the frame, if a machine check gives no valid restart address
(66_machine_check.md R1183, log 42); where the delivery of that machine check raises another exception, which is delivered
in its place (60_exceptions.md R858), nothing is remembered (log 42, DESIGN CHOICE). DR7.GD is cleared here, on entry to the
handler of a processor-detected #DB (65_debug_perfmon.md R1118, R1121, 60_exceptions.md R850); 40_system_instructions.md R580
clears it before a general-detect #DB is raised, so that where the delivery of that #DB raises another exception the flag
could be clear already: the model leaves it set then (log 57, DESIGN CHOICE). -/
def afterDelivery (e : Entry) (stepping : Bool) (cs : Half) (eip cr3 : Word) : M Unit := do
  modify fun s =>
    { s with noReturn := if e.vec = 18 ∧ e.src = .abort ∧ !bit s.msr.mcgStatus 0 then
                           { esp := s.gpr.esp, cs := cs, eip := eip, cr3 := cr3 } :: s.noReturn
                         else s.marksAfter cs eip cr3,
             lat := { s.lat with inhibit := false, stiShadow := false, midRep := false,
                                 nmiBlocked := s.lat.nmiBlocked || e.src = .nmi } }
  if e.isDebug then
    modify fun s =>
      { s with dbg := { s.dbg with dr7 := setBit s.dbg.dr7 13 false },
               msr := { s.msr with debugCtl := s.msr.debugCtl &&& ~~~3#32 } }
  else do
    let s ← get
    recordBranch true e.from_ s.eip
    whenM stepping (modify fun s => { s with dbg := { s.dbg with pendS := true } })

/-- `Deliver` (60_exceptions.md R850): the one procedure through which an interrupt or exception enters its
handler. The return offset is EIP as it stands. -/
def deliver (e : Entry) : M Unit := do
  let s ← get
  let stepping := s.flag fTF && bit s.msr.debugCtl 1
  if s.prot then deliverProt e else deliverReal e
  afterDelivery e stepping s.seg.cs.sel s.eip s.sys.cr3

/-- The classes of Table 5-3 (60_exceptions.md R858). -/
inductive EventClass where
  | benign | contributory | page
  deriving DecidableEq, Repr

/-- The class of a vector raised by the processor. -/
def vecClass (v : Nat) : EventClass :=
  if v = 14 then .page else if v = 0 ∨ (10 ≤ v ∧ v ≤ 13) then .contributory else .benign

/-- The class of an event (60_exceptions.md R858): interrupts and INT n are benign. -/
def Entry.cls (e : Entry) : EventClass :=
  if e.src = .fault ∨ e.src = .trap ∨ e.src = .abort then vecClass e.vec else .benign

/-- The exception raised in the delivery of `e` makes a double fault (Table 5-4, 60_exceptions.md R858). -/
def doubles (e : Entry) (v : Nat) : Bool :=
  match e.cls, vecClass v with
  | .contributory, .contributory => true
  | .page, .contributory => true
  | .page, .page => true
  | _, _ => false

/-- The enabled breakpoints (10_state.md R76). -/
def Dbg.enabledSet (d : Dbg) : BitVec 4 :=
  BitVec.ofNat 4 (ofBool (bpEnabled d.dr7 0) + 2 * ofBool (bpEnabled d.dr7 1) + 4 * ofBool (bpEnabled d.dr7 2) +
    8 * ofBool (bpEnabled d.dr7 3))

/-- The Bn flags a #DB reports of the breakpoints that are disabled: free, whether the condition of one was met or not
(10_state.md R75, 65_debug_perfmon.md R1112, R1116, 93_implementation_defined.md section 2.1; log 44). That of an enabled one
whose condition was not met stays as it is, by R1116, where section 2.1 has any value also for one that 'did not trigger' (log
44, DESIGN CHOICE). -/
def State.openHits (s : State) : Word :=
  let h := fun n => !bpEnabled s.dbg.dr7 n && Config.openHit s.free n
  BitVec.ofNat 32 (ofBool (h 0) + 2 * ofBool (h 1) + 4 * ofBool (h 2) + 8 * ofBool (h 3))

/-- The state an exception is delivered from: as before the instruction, but for what cannot be taken back:
memory, translations, what was sent out and the draws of free values (60_exceptions.md R830, log 18). After the
commit point of a task switch the new task's state stands (42_task_management.md R732). A single-step or data trap held
by an SS load stays held when the instruction after it faults; delivery ends the inhibit, and the trap is reported at the
boundary before the handler's first instruction, which R837 leaves open (log 33, DESIGN CHOICE). -/
def rollback (s0 s1 : State) (e : Exc) : State :=
  let b :=
    if e.keep then s1
    else
      { s0 with mem := s1.mem, stale := s1.stale, cached := s1.cached, others := s1.others, tlb := s1.tlb,
                free := s1.free, bus := s1.bus, apic := s1.apic, events := s1.events,
                lat := { s0.lat with nmiPending := s1.lat.nmiPending, smiPending := s1.lat.smiPending,
                                     initPending := s1.lat.initPending, intr := s1.lat.intr } }
  { b with ins := Ins.clear, tr := Trans.clear,
           sys := { b.sys with cr2 := e.cr2.getD b.sys.cr2 },
           dbg := { b.dbg with dr6 := b.dbg.dr6 ||| e.dr6 ||| (if e.dr6 = 0 then 0 else b.openHits) } }

/-- An exception raised by an instruction or a delivery as an event of its own (60_exceptions.md R823, R831). In the image of a
general-detect #DB, RF is set (decision D32 of 92_eei_decisions.md) or as it stands (the table of R831), by a free choice (log
62, DESIGN CHOICE); in that of an instruction breakpoint it is as it stands, which both have (log 45). -/
def Exc.entry (x : Exc) (s : State) : Entry :=
  { vec := x.vec, src := .fault, code := x.code, from_ := s.eip,
    rf := if x.vec ≠ 1 || (bit x.dr6 13 && Config.detectRf s.free) then some true else none }

/-- The error code with EXT set, for the vectors whose code has it (60_exceptions.md R826, R827). -/
def Exc.external (x : Exc) : Exc :=
  if 10 ≤ x.vec ∧ x.vec ≤ 13 then { x with code := x.code.map (fun c => c ||| 1) } else x

/-- The double fault (60_exceptions.md R858, R827). -/
def doubleFault (s : State) : Entry := { vec := 8, src := .abort, code := some 0, from_ := s.eip, rf := some true }

/-- Shutdown (60_exceptions.md R860). -/
def shutdown (s : State) : State :=
  { s with lat := { s.lat with activity := .shutdown }, bus := .shutdown :: s.bus }

/-- Deliver an event, and whatever its delivery raises in turn (60_exceptions.md R858, R860). The number bounds
a chain of benign exceptions that never ends; when it is used up nothing has been delivered (log 19). -/
def takeEvent : Nat → Entry → State → Outcome State Fault Refusal
  | 0, _, s => .next s
  | n + 1, e, s =>
    match deliver e s with
    | .ok _ s1 => .next { s1 with tr := Trans.clear }
    | .error (.fault f) _ => .fault f
    | .error (.refused r) _ => .refused r
    | .error (.exc x) s1 =>
      let y := if e.src = .soft then x else x.external
      let b := rollback s s1 y
      if e.vec = 8 ∧ e.src = .abort then .next (shutdown b)
      else if doubles e x.vec then takeEvent n (doubleFault b) b
      else takeEvent n (y.entry b) b

/-- The bound of `takeEvent`. -/
def eventFuel : Nat := 8

/-- Take an exception that the instruction begun at `s0` has raised (60_exceptions.md R830). -/
def takeException (s0 s1 : State) (x : Exc) : Outcome State Fault Refusal :=
  let b := rollback s0 s1 x
  takeEvent eventFuel (x.entry b) b

/-- A repeated MOVS or STOS that stands at this point, as its hits are remembered: its address and the registers that
count its iterations (65_debug_perfmon.md R1117). -/
def State.lateKey (eip : Word) (s : State) : Word × Word × Word := (s.seg.cs.base + eip, s.gpr.ecx, s.gpr.edi)

/-- The hits of the iteration before this one. -/
def State.lateBefore (s0 : State) : BitVec 4 :=
  match s0.dbg.late.find? (fun l => l.key = s0.lateKey s0.eip) with
  | some l => l.hits
  | none => 0

/-- The hits still to be reported after this iteration of a repeated MOVS or STOS begun at `s0`. -/
def State.lateAfter (s s0 : State) : List LateHit :=
  let rest := s.dbg.late.filter fun l => l.key ≠ s0.lateKey s0.eip
  if s.tr.repeats && s.tr.hit &&& s.dbg.enabledSet ≠ 0 then
    { key := s.lateKey s0.eip, hits := s.tr.hit } :: rest
  else rest

/-- The breakpoint hits an instruction begun at `s0` reports at its end (65_debug_perfmon.md R1113, R1117). -/
def State.reportedHits (s s0 : State) : BitVec 4 :=
  if !s.tr.lateHits then s.tr.hit
  else if s.tr.repeats then s0.lateBefore
  else s0.lateBefore ||| s.tr.hit

/-- Completion of an instruction begun at `s0` (60_exceptions.md R845, R837, R838; 65_debug_perfmon.md R1113,
R1119, R1132). A repeated string instruction has not completed while iterations are left: the inhibit of an SS load and
the shadow of STI last until it has (R837, R838, log 33). -/
def State.completed (s s0 : State) : State :=
  let hits := s.reportedHits s0 &&& s.dbg.enabledSet
  let step := s0.flag fTF && !s.tr.noStep && (!bit s0.msr.debugCtl 1 || s.tr.branched)
  { s with
    eflags := if s.tr.keepRf || s.tr.repeats then s.eflags else setBit s.eflags fRF false,
    dbg := { s.dbg with
      pendB := s.dbg.pendB ||| hits,
      pendS := s.dbg.pendS || step,
      late := if s.tr.lateHits then s.lateAfter s0 else s.dbg.late },
    lat := { s.lat with
      inhibit := if s.tr.repeats then s0.lat.inhibit else s.tr.ssLoad && !s0.lat.inhibit,
      stiShadow := if s.tr.repeats then s0.lat.stiShadow else s.tr.sti && !s0.lat.stiShadow,
      midRep := s.tr.repeats },
    smm := { s.smm with ioRec := s.tr.io },
    ins := Ins.clear,
    tr := Trans.clear }

/-- The end of an instruction begun at `s0`. -/
def finish (s0 : State) : M Unit := do
  let s ← get
  whenM s.tr.branched (recordBranch false s0.eip s.eip)
  modify fun s => s.completed s0

/-- Run the body of an instruction with EIP at the next one; on an exception take it (60_exceptions.md R845
steps B7, B8). A LOCK prefix that the instruction does not allow raises #UD (30_encoding.md R483, R494). -/
def instr (lockOk : Bool) (body : M Unit) (s : State) : Outcome State Fault Refusal :=
  if s.ins.lock && !lockOk then takeException s s { vec := 6, code := none, cr2 := none, dr6 := 0, keep := false }
  else
    match (do body; finish s : M Unit) { s with eip := s.nextEip } with
    | .ok _ s1 => .next s1
    | .error (.exc x) s1 => takeException s s1 x
    | .error (.fault f) _ => .fault f
    | .error (.refused r) _ => .refused r

/-- INT n, INT 3 and INTO (60_exceptions.md R856): the delivery happens inside the instruction, whose fault
saves the instruction itself. `cur` is the offset of the instruction. RF in the image is that of a trap (trapRf). -/
def softInt (cur : Word) (v : Nat) : M Unit := do
  let rf ← trapRf false
  deliver { vec := v, src := .soft, code := none, from_ := cur, rf := rf }
  modify fun s => { s with tr := { s.tr with noStep := true, branched := false } }

/-- `LoadFlags`: the bits IRET writes in protected mode (60_exceptions.md R866). -/
def iretMask (wide : Bool) (cpl iopl : BitVec 2) : Word :=
  let a := 0x00004DD5#32
  let b := if cpl ≤ iopl then a ||| 0x200#32 else a
  let c := if cpl = 0 then b ||| 0x3000#32 else b
  if !wide then c
  else
    let d := c ||| 0x00250000#32
    if cpl = 0 then d ||| 0x00180000#32 else d

/-- Write EFLAGS under a mask. -/
def putFlagsMasked (mask f : Word) : M Unit := modify fun s => { s with eflags := blend mask s.eflags f }

/-- Every completed IRET: NMIs are no longer blocked, RF is kept as loaded (60_exceptions.md R835, R845, R862). -/
def iretDone : M Unit :=
  modify fun s =>
    { s with lat := { s.lat with nmiBlocked := false }, tr := { s.tr with branched := true, keepRf := true } }

/-- A data segment register on a return to an outer level (41_control_transfer.md R672). -/
def Seg.onReturn (r : Seg) (cpl : BitVec 2) : Seg :=
  if r.valid && r.s && !isConforming r.s r.type && r.dpl < cpl then r.nulled 0 else r

/-- The data segment registers on a return to an outer level (41_control_transfer.md R672). -/
def Segs.onReturn (g : Segs) (cpl : BitVec 2) : Segs :=
  { g with ds := g.ds.onReturn cpl, es := g.es.onReturn cpl, fs := g.fs.onReturn cpl, gs := g.gs.onReturn cpl }

/-- The checks of the code segment of a far return or IRET (41_control_transfer.md R670, 60_exceptions.md R863). -/
def returnTarget (sel : Half) (off : Word) : M (Word × Desc) := do
  let s ← get
  if isNull sel then raiseGP0
  else do
    let (a, d) ← needDesc 13 sel
    if !descCode d then raiseGP sel
    else if rpl sel < s.cpl then raiseGP sel
    else if csDplBad sel d then raiseGP sel
    else if !descP d then raiseNP sel
    else if off.toNat > (descLimit d).toNat then raiseGP0
    else pure (a, d)

/-- The checks of the stack segment of a return to level `n` (41_control_transfer.md R671, 60_exceptions.md R865). -/
def returnStack (sel : Half) (n : BitVec 2) : M (Word × Desc) := do
  if isNull sel then raiseGP0
  else do
    let (a, d) ← needDesc 13 sel
    if rpl sel ≠ n || descDpl d ≠ n then raiseGP sel
    else if !isWritable (descS d) (descType d) then raiseGP sel
    else if !descP d then raiseSS sel
    else pure (a, d)

/-- Return to an outer level: CS, SS, the stack pointer moved up by `imm`, the data segment registers
(41_control_transfer.md R671, R672). -/
def enterOuter (wide : Bool) (rsel : Half) (off : Word) (a : Word) (d : Desc) (newSS : Half) (newESP : Word)
    (imm : Word) : M Unit := do
  let n := rpl rsel
  let (sa, sd) ← returnStack newSS n
  let cp ← accessedSpan a d
  let sp ← accessedSpan sa sd
  markAccessed cp
  markAccessed sp
  let ss := Seg.ofDesc newSS sd
  let esp := (if wide then newESP else newESP &&& 0xFFFF#32) + imm
  modify fun s =>
    { s with eip := off, cpl := n, gpr := { s.gpr with esp := ss.withSp s.gpr.esp esp },
             seg := ({ s.seg with cs := Seg.ofDesc rsel d, ss := ss } : Segs).onReturn n }

/-- IRET to protected mode (60_exceptions.md R863, R865). -/
def iretProt (wide : Bool) (off0 : Word) (rsel : Half) (fl : Word) : M Unit := do
  let s ← get
  let n := if wide then 4 else 2
  let off := if wide then off0 else off0 &&& 0xFFFF#32
  let (a, d) ← returnTarget rsel off
  let mask := iretMask wide s.cpl s.iopl
  if rpl rsel = s.cpl then do
    setDescAccessed a d
    modify fun s => { s with eip := off, seg := { s.seg with cs := Seg.ofDesc rsel d } }
    addSp (BitVec.ofNat 32 (3 * n))
    putFlagsMasked mask fl
  else do
    let newESP ← peek (3 * n) n
    let newSS ← peek (4 * n) n
    enterOuter wide rsel off a d (BitVec.ofNat 16 newSS) (BitVec.ofNat 32 newESP) 0
    putFlagsMasked mask fl

/-- IRETD from level 0 to virtual-8086 mode (67_8086_emulation.md R1251): the 24 bytes beyond the frame of an IRET are
tested against SS together, and do not wrap. -/
def iretToV86 (off : Word) (rsel : Half) (fl : Word) : M Unit := do
  let s ← get
  let at_ := fun (k : Nat) => segRead .ss (s.sp + BitVec.ofNat 32 k) 4 4
  if s.sp.toNat + 12 ≥ 2 ^ 32 || !s.seg.ss.inLimit (s.sp + 12) 24 then raiseSS0
  else do
    let esp ← at_ 12
    let ss ← at_ 16
    let es ← at_ 20
    let ds ← at_ 24
    let fs ← at_ 28
    let gs ← at_ 32
    if off.toNat > 0xFFFF then raiseGP0
    else
      let h := fun (n : Nat) => Seg.v86 (BitVec.ofNat 16 n)
      modify fun s =>
        { s with eip := off, cpl := 3, eflags := definedFlags fl,
                 gpr := { s.gpr with esp := BitVec.ofNat 32 esp },
                 seg := { es := h es, cs := Seg.v86 rsel, ss := h ss, ds := h ds, fs := h fs, gs := h gs } }

/-- IRET in virtual-8086 mode (67_8086_emulation.md R1262). -/
def iretInV86 (wide : Bool) (off0 : Word) (sel : Half) (fl : Word) : M Unit := do
  let s ← get
  let off := if wide then off0 else off0 &&& 0xFFFF#32
  if s.iopl = 3 then
    if off.toNat > 0xFFFF then raiseGP0
    else do
      modify fun s => { s with eip := off, seg := { s.seg with cs := Seg.v86 sel } }
      addSp (if wide then 12 else 6)
      putFlagsMasked (if wide then 0x00254FD5#32 else 0x00004FD5#32) fl
  else if bit fl fTF || (bit fl fIF && s.flag fVIP) then raiseGP0
  else do
    modify fun s => { s with eip := off, seg := { s.seg with cs := Seg.v86 sel } }
    addSp 6
    putFlagsMasked 0x00004DD5#32 fl
    putFlag fVIF (bit fl fIF)

/-- IRET in real-address mode (67_8086_emulation.md R1231). -/
def iretReal (wide : Bool) (off0 : Word) (sel : Half) (fl : Word) : M Unit := do
  let s ← get
  let off := if wide then off0 else off0 &&& 0xFFFF#32
  if off.toNat > s.seg.cs.limit.toNat then raiseGP0
  else do
    modify fun s => { s with eip := off, seg := { s.seg with cs := s.seg.cs.real sel } }
    addSp (if wide then 12 else 6)
    putFlagsMasked (if wide then 0x00257FD5#32 else 0x00007FD5#32) fl

/-- IRET with its frame read from the stack (60_exceptions.md R862). -/
def iretFrame (wide : Bool) : M Unit := do
  let s ← get
  let n := if wide then 4 else 2
  let offN ← peek 0 n
  let selN ← peek n n
  let flN ← peek (2 * n) n
  let off := BitVec.ofNat 32 offN
  let sel := BitVec.ofNat 16 selN
  let fl := BitVec.ofNat 32 flN
  if !s.prot then iretReal wide off sel fl
  else if s.flag fVM then iretInV86 wide off sel fl
  else if wide && bit fl fVM && s.cpl = 0 then iretToV86 off sel fl
  else iretProt wide off sel fl

/-- CS and EIP are a return address that a machine check without a valid restart address saved under this CR3, a 16-bit frame
holding the lower half of EIP: execution cannot be restarted there (66_machine_check.md R1183, 93_implementation_defined.md
section 2.2, log 42). -/
def State.badRestart (s : State) (cs : Half) (eip cr3 : Word) (wide : Bool) : Bool :=
  s.noReturn.any fun r => r.cs = cs && r.cr3 = cr3 && (r.eip = eip || (!wide && r.eip &&& 0xFFFF#32 = eip))

/-- The marks once IRET has taken the frame at this stack pointer: those of other frames (log 42). -/
def State.frameTaken (s : State) : List NoRestart := s.noReturn.filter fun r => r.esp ≠ s.gpr.esp

/-- IRET and IRETD (60_exceptions.md R862; 67_8086_emulation.md R1262). -/
def iret (wide : Bool) : M Unit := do
  let s ← get
  if s.v86 && s.iopl ≠ 3 && (wide || !bit s.sys.cr4 0) then raiseGP0
  else if s.prot && !s.flag fVM && s.flag fNT then taskReturn
  else iretFrame wide
  let t ← get
  whenM (s.badRestart t.seg.cs.sel t.eip t.sys.cr3 wide) (stop .mcRestart)
  modify fun t => { t with noReturn := s.frameTaken }
  iretDone

end Sys2Proof.Machine
end

