-- ==== Sys2Proof/Machine/Operands.lean ====
section
/-! DEFINITION. Operand forms: effective addresses, and reading and writing E, G and moffs operands
(30_encoding.md R487 to R493, 43_general_instructions.md R771). -/
namespace Sys2Proof.Machine
open Host

/-- The displacement of a 16-bit form, one byte sign-extended (30_encoding.md R488). -/
def Disp16.value : Disp16 → Half
  | .none => 0
  | .d8 d => d.signExtend 16
  | .d16 d => d

/-- The displacement of a 32-bit form, one byte sign-extended (30_encoding.md R487). -/
def Disp32.value : Disp32 → Word
  | .none => 0
  | .d8 d => d.signExtend 32
  | .d32 d => d

/-- The register sum of a 16-bit form (30_encoding.md R488). -/
def base16Value (s : State) : Base16 → Half
  | .bxSi => s.r16 .ebx + s.r16 .esi
  | .bxDi => s.r16 .ebx + s.r16 .edi
  | .bpSi => s.r16 .ebp + s.r16 .esi
  | .bpDi => s.r16 .ebp + s.r16 .edi
  | .si => s.r16 .esi
  | .di => s.r16 .edi
  | .bp => s.r16 .ebp
  | .bx => s.r16 .ebx

/-- The scaled index; ESP as an index means none (30_encoding.md R489). -/
def indexValue (s : State) (scale : Fin 4) (index : Reg) : Word :=
  if index = .esp then 0 else s.r32 index <<< scale.val

/-- The offset a memory operand names, modulo the address size (30_encoding.md R491). -/
def eaOffset (s : State) : Ea → Word
  | .base16 b d => zx32 (base16Value s b + Disp16.value d)
  | .abs16 d => zx32 d
  | .base32 b d => s.r32 b + Disp32.value d
  | .abs32 d => d
  | .sib k i b d => s.r32 b + indexValue s k i + Disp32.value d
  | .sibAbs k i d => indexValue s k i + d

/-- The default segment of a base register (30_encoding.md R487, R489). -/
def baseSeg (b : Reg) : SegReg := if b = .ebp ∨ b = .esp then .ss else .ds

/-- The default segment of a memory operand (30_encoding.md R487 to R489). -/
def eaDefaultSeg : Ea → SegReg
  | .base16 b _ => if b = .bpSi ∨ b = .bpDi ∨ b = .bp then .ss else .ds
  | .abs16 _ => .ds
  | .base32 b _ => baseSeg b
  | .abs32 _ => .ds
  | .sib _ _ b _ => baseSeg b
  | .sibAbs _ _ _ => .ds

/-- A segment register, replaced by the override prefix if there is one (30_encoding.md R481). -/
def State.segOr (s : State) (d : SegReg) : SegReg := s.ins.seg.getD d

/-- The segment a memory operand is accessed through (30_encoding.md R487). -/
def eaSeg (s : State) (m : Ea) : SegReg := s.segOr (eaDefaultSeg m)

/-- An offset reduced to the address size (30_encoding.md R491). -/
def cutAddr (a32 : Bool) (x : Word) : Word := if a32 then x else x &&& 0xFFFF#32

/-- The width of a memory operand's offset: 32-bit addressing forms have 32-bit offsets (30_encoding.md R491). -/
def eaWide : Ea → Bool
  | .base16 _ _ => false
  | .abs16 _ => false
  | _ => true

/-- The offset of a memory operand moved by `k`, reduced to the address size, for a bit string (44_integer_reference.md
R1410). -/
def eaMoved (s : State) (m : Ea) (k : Word) : Word := cutAddr (eaWide m) (eaOffset s m + k)

/-- The offset `k` bytes above the start of a memory operand of several parts. Only the start is reduced to the address
size: the parts of an operand do not wrap (30_encoding.md R491, 43_general_instructions.md R819). -/
def eaPlus (s : State) (m : Ea) (k : Word) : Word := eaOffset s m + k

/-- The part of an operand `k` bytes above its start begins at an offset of 32 bits. -/
def eaFits (s : State) (m : Ea) (k : Word) : Bool := decide ((eaOffset s m).toNat + k.toNat < 2 ^ 32)

/-- A part of an operand that begins beyond the last offset is outside every segment (21_segmentation.md R307). -/
def eaPart (m : Ea) (k : Word) : M Unit := do
  let s ← get
  if eaFits s m k then pure ()
  else if eaSeg s m = .ss then raiseSS0
  else raiseGP0

/-- The places of `n` bytes of memory at an operand, `k` bytes above its start, all checks done. -/
def accessEa (m : Ea) (k : Word) (n align : Nat) (write : Bool) : M (List Span) := do
  eaPart m k
  let s ← get
  access (eaSeg s m) (eaPlus s m k) n align write

/-- Read `n` bytes of memory at an operand, `k` bytes above its start. -/
def readEa (m : Ea) (k : Word) (n align : Nat) : M Nat := do
  let ps ← accessEa m k n align false
  readSpans ps

/-- Write `n` bytes of memory at an operand, `k` bytes above its start. -/
def writeEa (m : Ea) (k : Word) (n align v : Nat) : M Unit := do
  let ps ← accessEa m k n align true
  writeSpans ps n v

/-- A located operand: a register, or a memory operand whose checks have passed. -/
inductive Loc where
  | reg8 (r : Reg8)
  | reg (r : Reg)
  | mem (ps : List Span)
  deriving DecidableEq, Repr

/-- Locate a memory operand of `n` bytes for reading, or for writing with or without a read before
(43_general_instructions.md R771). -/
def locMem (m : Ea) (n : Nat) (write : Bool) : M Loc := do
  let s ← get
  let ps ← access (eaSeg s m) (eaOffset s m) n n write
  pure (.mem ps)

/-- Locate a byte E operand. -/
def locRm8 (rm : Rm8) (write : Bool) : M Loc :=
  match rm with
  | .reg r => pure (.reg8 r)
  | .mem m => locMem m 1 write

/-- Locate an E operand of `n` bytes, 2 or 4. -/
def locRm (rm : Rm) (n : Nat) (write : Bool) : M Loc :=
  match rm with
  | .reg r => pure (.reg r)
  | .mem m => locMem m n write

/-- Locate an E operand of `n` bytes that is read and then perhaps written: checked as a write before it is read
(23_protection.md R410, 43_general_instructions.md R771), with the breakpoints that the read meets. With it comes the linear
address of one in memory, for `noteWrite`. -/
def locUpdate (rm : Rm) (n : Nat) : M (Loc × Option Word) :=
  match rm with
  | .reg r => pure (.reg r, none)
  | .mem m => do
    let s ← get
    let (la, ps) ← checkedAccess (eaSeg s m) (eaOffset s m) n n true
    noteHits (fun d => d.dataHits la.toNat n false)
    pure (.mem ps, some la)

/-- The breakpoints that the write of an operand of `locUpdate` meets (65_debug_perfmon.md R1113). -/
def noteWrite (la : Option Word) (n : Nat) : M Unit :=
  match la with
  | none => pure ()
  | some a => noteHits (fun d => d.dataHits a.toNat n true)

/-- Read a located operand of `w` bits. -/
def readLoc (w : Nat) (l : Loc) : M (BitVec w) :=
  match l with
  | .reg8 r => do
    let s ← get
    pure ((s.r8 r).setWidth w)
  | .reg r => do
    let s ← get
    pure ((s.r32 r).setWidth w)
  | .mem ps => do
    let v ← readSpans ps
    pure (BitVec.ofNat w v)

/-- Write a register at width 16 or 32 (10_state.md R34). -/
def State.setRw (s : State) (w : Nat) (r : Reg) (v : BitVec w) : State :=
  if w = 32 then s.setR32 r (v.setWidth 32) else s.setR16 r (v.setWidth 16)

/-- Write a located operand of `w` bits. -/
def writeLoc (w : Nat) (l : Loc) (v : BitVec w) : M Unit :=
  match l with
  | .reg8 r => putR8 r (v.setWidth 8)
  | .reg r => modify fun s => s.setRw w r v
  | .mem ps => writeSpans ps (w / 8) v.toNat

/-- The bits of a byte or `v` operand as a number of bytes. -/
def nbytes (w : Nat) : Nat := w / 8

/-- `ReadE` of a byte operand (43_general_instructions.md R771). -/
def readRm8 (rm : Rm8) : M Byte := do
  let l ← locRm8 rm false
  readLoc 8 l

/-- `ReadE` of an operand of `w` bits, 16 or 32 (43_general_instructions.md R771). -/
def readRm (w : Nat) (rm : Rm) : M (BitVec w) := do
  let l ← locRm rm (w / 8) false
  readLoc w l

/-- `WriteE` of a byte operand (43_general_instructions.md R771). -/
def writeRm8 (rm : Rm8) (v : Byte) : M Unit := do
  let l ← locRm8 rm true
  writeLoc 8 l v

/-- `WriteE` of an operand of `w` bits, 16 or 32 (43_general_instructions.md R771). -/
def writeRm (w : Nat) (rm : Rm) (v : BitVec w) : M Unit := do
  let l ← locRm rm (w / 8) true
  writeLoc w l v

/-- The accumulator at a width: AL, AX or EAX. -/
def accLoc (w : Nat) : Loc := if w = 8 then .reg8 .al else .reg .eax

/-- The low part of a general register at a width of 16 or 32. -/
def readG (w : Nat) (r : Reg) : M (BitVec w) := readLoc w (.reg r)

/-- The value of a byte register. -/
def readG8 (r : Reg8) : M Byte := do
  let s ← get
  pure (s.r8 r)

/-- The width of a `v` operand of this instruction (30_encoding.md R485). -/
def getW : M Nat := do
  let o ← getO32
  pure (bits o)

/-- The destination is in memory, where LOCK is allowed (30_encoding.md R483). -/
def isMem {ρ : Type} : RegMem ρ → Bool
  | .mem _ => true
  | .reg _ => false

end Sys2Proof.Machine
end

