-- ==== Sys2Proof/Machine/Flags.lean ====
section
/-! DEFINITION. The status flags and what each kind of arithmetic does to them (44_integer_reference.md). -/
namespace Sys2Proof.Machine
open Host

/-- The six status flags (10_state.md R41). -/
structure Arith where
  cf : Bool
  pf : Bool
  af : Bool
  zf : Bool
  sf : Bool
  of : Bool
  deriving DecidableEq, Repr

/-- The status flags as bits of EFLAGS (10_state.md R41). -/
def Arith.word (a : Arith) : Word :=
  BitVec.ofNat 32 (ofBool a.cf + 4 * ofBool a.pf + 16 * ofBool a.af + 64 * ofBool a.zf + 128 * ofBool a.sf +
    2048 * ofBool a.of)

/-- The bits of EFLAGS that the status flags occupy. -/
def arithMask : Word := 0x8D5#32

/-- Write all six status flags. -/
def putArith (a : Arith) : M Unit := putFlagsMasked arithMask a.word
/-- Write the status flags other than CF. -/
def putArithKeepCf (a : Arith) : M Unit := putFlagsMasked 0x8D4#32 a.word
/-- Write CF and OF only. -/
def putCfOf (a : Arith) : M Unit := putFlagsMasked 0x801#32 a.word

/-- The most significant bit. -/
def msb {w : Nat} (x : BitVec w) : Bool := x.msb

/-- An even number of ones in the low byte (44_integer_reference.md R1351). -/
def parity {w : Nat} (x : BitVec w) : Bool :=
  !((bit x 0 ^^ bit x 1) ^^ (bit x 2 ^^ bit x 3) ^^ (bit x 4 ^^ bit x 5) ^^ (bit x 6 ^^ bit x 7))

/-- SF, ZF and PF of a result, beside CF, AF and OF (44_integer_reference.md R1351). -/
def szp {w : Nat} (r : BitVec w) (cf af of : Bool) : Arith :=
  { cf := cf, pf := parity r, af := af, zf := decide (r = 0), sf := msb r, of := of }

/-- `AddFlags` (44_integer_reference.md R1352). -/
def addFlags {w : Nat} (a b : BitVec w) (c : Bool) : BitVec w × Arith :=
  let n := ofBool c
  let r := a + b + BitVec.ofNat w n
  (r, szp r (decide (2 ^ w ≤ a.toNat + b.toNat + n)) (decide (15 < a.toNat % 16 + b.toNat % 16 + n))
        (msb a == msb b && msb r != msb a))

/-- `SubFlags` (44_integer_reference.md R1352). -/
def subFlags {w : Nat} (a b : BitVec w) (c : Bool) : BitVec w × Arith :=
  let n := ofBool c
  let r := a - b - BitVec.ofNat w n
  (r, szp r (decide (a.toNat < b.toNat + n)) (decide (a.toNat % 16 < b.toNat % 16 + n))
        (msb a != msb b && msb r != msb a))

/-- `Logic` (44_integer_reference.md R1351); AF is a free value (log 16). -/
def logicFlags {w : Nat} (r : BitVec w) : M Unit := do
  let af ← drawBool
  putArith (szp r false af false)

/-- All six status flags undefined (log 16). -/
def freeArith : M Unit := do
  let f ← draw 32
  putFlagsMasked arithMask f

/-- The condition of Jcc, SETcc and CMOVcc (43_general_instructions.md R775). -/
def State.cond (s : State) : Cond → Bool
  | .o => s.flag fOF
  | .no => !s.flag fOF
  | .b => s.flag fCF
  | .ae => !s.flag fCF
  | .e => s.flag fZF
  | .ne => !s.flag fZF
  | .be => s.flag fCF || s.flag fZF
  | .a => !s.flag fCF && !s.flag fZF
  | .s => s.flag fSF
  | .ns => !s.flag fSF
  | .p => s.flag fPF
  | .np => !s.flag fPF
  | .l => s.flag fSF != s.flag fOF
  | .ge => s.flag fSF == s.flag fOF
  | .le => s.flag fZF || s.flag fSF != s.flag fOF
  | .g => !s.flag fZF && s.flag fSF == s.flag fOF

/-- Apply a step `n` times. -/
def times {α : Type} (f : α → α) : Nat → α → α
  | 0, x => x
  | n + 1, x => times f n (f x)

/-- The shifts and rotates of group 2 (44_integer_reference.md R1380). -/
inductive Shift where
  | rol | ror | rcl | rcr | shl | shr | sar
  deriving DecidableEq, Repr

/-- One bit of a shift or rotate: the value and CF (44_integer_reference.md R1381 to R1387). -/
def shiftStep {w : Nat} (op : Shift) (x : BitVec w × Bool) : BitVec w × Bool :=
  let top := fun (b : Bool) => if b then BitVec.twoPow w (w - 1) else 0
  let low := fun (b : Bool) => if b then BitVec.twoPow w 0 else 0
  let d := x.1
  match op with
  | .rol => ((d <<< 1) ||| low (msb d), msb d)
  | .ror => ((d >>> 1) ||| top (bit d 0), bit d 0)
  | .rcl => ((d <<< 1) ||| low x.2, msb d)
  | .rcr => ((d >>> 1) ||| top x.2, bit d 0)
  | .shl => (d <<< 1, msb d)
  | .shr => (d >>> 1, bit d 0)
  | .sar => (d.sshiftRight 1, bit d 0)

/-- How many single steps a masked count makes (44_integer_reference.md R1380, R1384 to R1387). -/
def shiftSteps (op : Shift) (w c : Nat) : Nat :=
  match op with
  | .rol | .ror => c % w
  | .rcl | .rcr => c % (w + 1)
  | _ => c

/-- The value and CF after a shift or rotate by the masked count `c`, not 0 (44_integer_reference.md R1381 to R1387). -/
def shiftValue {w : Nat} (op : Shift) (d : BitVec w) (cf : Bool) (c : Nat) : BitVec w × Bool :=
  let (r, k) := times (shiftStep op) (shiftSteps op w c) (d, cf)
  match op with
  | .rol => (r, bit r 0)
  | .ror => (r, msb r)
  | _ => (r, k)

/-- OF after a shift or rotate by one (44_integer_reference.md R1381 to R1387). -/
def shiftOf {w : Nat} (op : Shift) (d r : BitVec w) (cf : Bool) : Bool :=
  match op with
  | .rol | .rcl | .shl => msb r != cf
  | .ror | .rcr => msb r != bit r (w - 2)
  | .shr => msb d
  | .sar => false

/-- The rotates write CF and OF only (44_integer_reference.md R1380). -/
def Shift.isRotate : Shift → Bool
  | .rol | .ror | .rcl | .rcr => true
  | _ => false

/-- A shift or rotate of a located operand (44_integer_reference.md R1380). OF of a count above 1, AF of a
shift, and CF of an SHL by more than the width are free values (log 16). -/
def shiftLoc (op : Shift) (w : Nat) (l : Loc) (count : Byte) : M Unit := do
  let d ← readLoc w l
  let s ← get
  let c := count.toNat % 32
  if c = 0 then writeLoc w l d
  else do
    let (r, cf0) := shiftValue op d (s.flag fCF) c
    let f0 ← drawBool
    let f1 ← drawBool
    let f2 ← drawBool
    let cf := if op = .shl ∧ w < c then f0 else cf0
    let of := if c = 1 then shiftOf op d r cf else f1
    writeLoc w l r
    if op.isRotate then putCfOf (szp r cf false of) else putArith (szp r cf f2 of)

/-- SHLD and SHRD of a located operand (44_integer_reference.md R1388, R1389). A count above the width leaves
result and flags free (log 16). -/
def doubleShift (left : Bool) (w : Nat) (l : Loc) (src : BitVec w) (count : Byte) : M Unit := do
  let d ← readLoc w l
  let c := count.toNat % 32
  if c = 0 then writeLoc w l d
  else if w < c then do
    let r ← draw w
    let f ← draw 32
    writeLoc w l r
    putFlagsMasked arithMask f
  else do
    let r := if left then (d <<< c) ||| (src >>> (w - c)) else (d >>> c) ||| (src <<< (w - c))
    let cf := if left then bit d (w - c) else bit d (c - 1)
    let f1 ← drawBool
    let f2 ← drawBool
    writeLoc w l r
    putArith (szp r cf f2 (if c = 1 then msb r != msb d else f1))

end Sys2Proof.Machine
end

