-- ==== Sys2Proof/Machine/Msr.lean ====
section
/-! DEFINITION. The model-specific registers as RDMSR and WRMSR see them (11_state_msr.md R130 to R143). -/
namespace Sys2Proof.Machine
open Host

/-- The values MTRRcap and MCG_CAP always contain (20_memory.md R256, 66_machine_check.md R1182). -/
def mtrrCap : QWord := BitVec.ofNat 64
  (Config.vcnt + 0x100 * ofBool Config.fixSupported + 0x400 * ofBool Config.wcSupported)
/-- MCG_CAP: five banks, MCG_CTL present (66_machine_check.md R1182). -/
def mcgCap : QWord := BitVec.ofNat 64 (Config.mcBanks + 0x100 * ofBool Config.mcgCtlP)

/-- The number of the fixed-range MTRR at an address (20_memory.md R258). -/
def fixIndex (a : Nat) : Option (Fin Config.fixedMtrrs) :=
  if a = 0x250 then some 0
  else if a = 0x258 then some 1
  else if a = 0x259 then some 2
  else if h : 0x268 ≤ a ∧ a ≤ 0x26F then some ⟨a - 0x268 + 3, by unfold Config.fixedMtrrs; omega⟩
  else none

/-- The number of the variable-range MTRR pair at an address (20_memory.md R259). -/
def varIndex (a : Nat) : Option (Fin Config.vcnt) :=
  if h : 0x200 ≤ a ∧ a ≤ 0x20F then some ⟨(a - 0x200) / 2, by unfold Config.vcnt; omega⟩ else none

/-- The registers of a machine-check bank (66_machine_check.md R1185 to R1188). -/
inductive McReg where
  | ctl | status | addr | misc
  deriving DecidableEq, Repr

/-- The bank and register at an address: the bank named MC4 lies before the bank named MC3 (11_state_msr.md R135). -/
def mcIndex (a : Nat) : Option (Fin Config.mcBanks × McReg) :=
  if 0x400 ≤ a ∧ a ≤ 0x413 then
    let k := (a - 0x400) / 4
    let bank : Fin Config.mcBanks := if k = 0 then 0 else if k = 1 then 1 else if k = 2 then 2 else if k = 3 then 4 else 3
    let r := (a - 0x400) % 4
    some (bank, if r = 0 then .ctl else if r = 1 then .status else if r = 2 then .addr else .misc)
  else none

/-- The number of the bank that P5_MC_ADDR and P5_MC_TYPE show (11_state_msr.md R137). -/
def p5Bank : Fin Config.mcBanks := ⟨Config.p5McBank % Config.mcBanks, Nat.mod_lt _ (by decide)⟩

/-- MCi_ADDR as it reads: unspecified while ADDRV is clear (66_machine_check.md R1187). -/
def Msrs.mcAddr (m : Msrs) (b : Fin Config.mcBanks) : QWord :=
  if bit (m.mc[b]).status 58 then (m.mc[b]).addr else (Config.mcAddrOpen b.val (m.mc[b]).addr).setWidth 64

/-- MCi_CTL: MC0_CTL is what the hardware makes of EBL_CR_POWERON (66_machine_check.md R1185). -/
def Msrs.mcCtl (m : Msrs) (b : Fin Config.mcBanks) : QWord := if b = 0 then Config.mc0Ctl m.eblCr else (m.mc[b]).ctl

/-- A machine-check register as RDMSR reads it; none where it is not implemented (66_machine_check.md R1185 to R1188). -/
def Msrs.readMc (m : Msrs) (b : Fin Config.mcBanks) (r : McReg) : Option QWord :=
  match r with
  | .ctl => some (m.mcCtl b)
  | .status => some (m.mc[b]).status
  | .addr => if b = 4 then none else some (m.mcAddr b)
  | .misc => none

/-- The bits of EBL_CR_POWERON that are described (11_state_msr.md R139). -/
def eblMask : QWord := 0x05F3F7DF#64

/-- The bits of MTRRdefType that are described (20_memory.md R257). -/
def mtrrDefMask : QWord := 0xCFF#64

/-- The bits of a variable-range base register that are described (20_memory.md R259). -/
def mtrrBaseMask : QWord := 0xFFFFFF0FF#64

/-- The bits of a variable-range mask register that are described (20_memory.md R259). -/
def mtrrMaskMask : QWord := 0xFFFFFF800#64

/-- The value RDMSR returns for an address; none where there is no readable register (11_state_msr.md R133, R135).
P5_MC_ADDR reads as the address kept for its bank also where that is bank 4, which has no MC4_ADDR of its own
(66_machine_check.md R1187, R1189; log 57, DESIGN CHOICE). The
reserved bits of EBL_CR_POWERON, MCG_STATUS, ROB_CR_BKUPTMPDR6, MTRRdefType and the variable-range MTRRs read as free values
(00_scope.md R9, 20_memory.md R257, R259, log 43). -/
def Msrs.read (m : Msrs) (a : Nat) : Option QWord :=
  if a = 0x0 then some (m.mcAddr p5Bank)
  else if a = 0x1 then some (m.mc[p5Bank]).status
  else if a = 0x10 then some m.tsc
  else if a = 0x1B then some m.apicBase
  else if a = 0x2A then some (blend eblMask (Config.msrReserved a) m.eblCr)
  else if a = 0x79 ∨ a = 0x8B then some (Config.biosMsr a)
  else if a = 0xC1 then some (m.perfCtr0.setWidth 64)
  else if a = 0xC2 then some (m.perfCtr1.setWidth 64)
  else if a = 0xFE then some mtrrCap
  else if a = 0x179 then some mcgCap
  else if a = 0x17A then some (blend 7#64 (Config.msrReserved a) m.mcgStatus)
  else if a = 0x17B then some m.mcgCtl
  else if a = 0x186 then some (m.evntSel0.setWidth 64)
  else if a = 0x187 then some (m.evntSel1.setWidth 64)
  else if a = 0x1D9 then some (m.debugCtl.setWidth 64)
  else if a = 0x1DB then some (m.lastBranchFrom.setWidth 64)
  else if a = 0x1DC then some (m.lastBranchTo.setWidth 64)
  else if a = 0x1DD then some (m.lastExcFrom.setWidth 64)
  else if a = 0x1DE then some (m.lastExcTo.setWidth 64)
  else if a = 0x1E0 then some (blend (~~~3#64) (Config.msrReserved a) m.robCr)
  else if a = 0x2FF then some (blend mtrrDefMask (Config.msrReserved a) m.mtrrDef)
  else
    match varIndex a with
    | some i =>
      let r := Config.msrReserved a
      some (if a % 2 = 0 then blend mtrrBaseMask r m.mtrrBase[i] else blend mtrrMaskMask r m.mtrrMask[i])
    | none =>
      match fixIndex a with
      | some i => some m.mtrrFix[i]
      | none =>
        match mcIndex a with
        | some (b, r) => m.readMc b r
        | none => none

/-- What a write of a model-specific register comes to. -/
inductive MsrWrite where
  | ok (m : Msrs)
  | gp
  | refused (r : Refusal)
  deriving DecidableEq, Repr

/-- A write that raises #GP(0) if a reserved bit is set (11_state_msr.md R132). -/
def checked (reserved v : QWord) (m : Msrs) : MsrWrite := if v &&& reserved ≠ 0 then .gp else .ok m

/-- The legal memory-type encodings (20_memory.md R256). -/
def legalType (e : Byte) : Bool := e = 0 ∨ e = 1 ∨ e = 4 ∨ e = 5 ∨ e = 6

/-- Every field of a fixed-range MTRR value is legal (20_memory.md R258). -/
def legalFixed (v : QWord) : Bool := (List.range Config.fixedFields).all fun k => legalType (field v (8 * k) 8)

/-- All ones (66_machine_check.md R1184). -/
def allOnes : QWord := 0xFFFFFFFFFFFFFFFF#64

/-- WRMSR to a machine-check register (66_machine_check.md R1185 to R1188). -/
def Msrs.writeMc (m : Msrs) (b : Fin Config.mcBanks) (r : McReg) (v : QWord) : MsrWrite :=
  match r with
  | .ctl =>
    if b = 0 then .refused .mcCtlWrite
    else if v = allOnes then .ok { m with mc := m.mc.set b { m.mc[b] with ctl := Config.mcCtlMask b.val } }
    else if v = 0 then .ok { m with mc := m.mc.set b { m.mc[b] with ctl := 0 } }
    else .refused .mcCtlWrite
  | .status => if v ≠ 0 then .gp else .ok { m with mc := m.mc.set b { m.mc[b] with status := 0 } }
  | .addr => .gp
  | .misc => .gp

/-- APICBASE after a write: BSP is the hardware's, E stays clear once cleared, the other bits are as written
(11_state_msr.md R138). -/
def apicBaseAfter (old v : QWord) : QWord :=
  setBit (setBit v 8 (bit old 8)) 11 (bit old 11 && bit v 11)

/-- WRMSR to an address (11_state_msr.md R132 to R141, 20_memory.md R257 to R259, 65_debug_perfmon.md R1130, R1140,
R1150, R1151, 66_machine_check.md R1182 to R1187). -/
def Msrs.write (m : Msrs) (a : Nat) (v : QWord) : MsrWrite :=
  let lo := field v 0 32
  if a = 0x10 then .ok { m with tsc := lo.setWidth 64 }
  else if a = 0x1B then .ok { m with apicBase := apicBaseAfter m.apicBase v }
  else if a = 0x2A then checked (~~~eblMask) v { m with eblCr := blend 0xDF#64 m.eblCr v }
  else if a = 0x79 ∨ a = 0x8B then .ok m
  else if a = 0xC1 then .ok { m with perfCtr0 := lo.signExtend Config.perfBits }
  else if a = 0xC2 then .ok { m with perfCtr1 := lo.signExtend Config.perfBits }
  else if a = 0x179 then .refused .mcgCapWrite
  else if a = 0x17A then checked (~~~7#64) v { m with mcgStatus := v }
  else if a = 0x17B then (if v = 0 ∨ v = allOnes then .ok { m with mcgCtl := v } else .refused .mcCtlWrite)
  else if a = 0x186 then checked (~~~0xFFDFFFFF#64) v { m with evntSel0 := lo }
  else if a = 0x187 then checked (~~~0xFF9FFFFF#64) v { m with evntSel1 := lo }
  else if a = 0x1D9 then checked (~~~0x7F#64) v { m with debugCtl := lo }
  else if a = 0x1E0 then checked 3#64 v { m with robCr := v }
  else if a = 0x2FF then
    if legalType (field v 0 8) then checked (~~~mtrrDefMask) v { m with mtrrDef := v } else .gp
  else
    match varIndex a with
    | some i =>
      if a % 2 = 0 then
        if legalType (field v 0 8) then checked (~~~mtrrBaseMask) v { m with mtrrBase := m.mtrrBase.set i v } else .gp
      else checked (~~~mtrrMaskMask) v { m with mtrrMask := m.mtrrMask.set i v }
    | none =>
      match fixIndex a with
      | some i => if legalFixed v then .ok { m with mtrrFix := m.mtrrFix.set i v } else .gp
      | none =>
        match mcIndex a with
        | some (b, r) => m.writeMc b r v
        | none => .gp

/-- A write of an MTRR invalidates every TLB entry (22_paging.md R372). -/
def isMtrr (a : Nat) : Bool := a = 0x2FF || (varIndex a).isSome || (fixIndex a).isSome

/-- RDMSR (40_system_instructions.md R600). -/
def rdmsr : M Unit := do
  requireCpl0
  let s ← get
  match s.msr.read s.gpr.ecx.toNat with
  | none => raiseGP0
  | some v => do
    putR32 .edx (field v 32 32)
    putR32 .eax (field v 0 32)

/-- WRMSR (40_system_instructions.md R601). With trace messages turned on the last-branch registers are undefined
(65_debug_perfmon.md R1130). -/
def wrmsr : M Unit := do
  requireCpl0
  let s ← get
  let a := s.gpr.ecx.toNat
  let v : QWord := s.gpr.edx ++ s.gpr.eax
  match s.msr.write a v with
  | .gp => raiseGP0
  | .refused r => refuse r
  | .ok m => do
    modify fun s => { s with msr := m }
    whenM (isMtrr a) flushTlb
    whenM (decide (a = 0x1D9) && bit m.debugCtl 6) loseBranches

/-- RDTSC (65_debug_perfmon.md R1140). -/
def rdtsc : M Unit := do
  let s ← get
  if bit s.sys.cr4 2 && s.prot && s.cpl ≠ 0 then raiseGP0
  else do
    putR32 .edx (field s.msr.tsc 32 32)
    putR32 .eax (field s.msr.tsc 0 32)

/-- RDPMC (65_debug_perfmon.md R1152). -/
def rdpmc : M Unit := do
  let s ← get
  if !bit s.sys.cr4 8 && s.prot && s.cpl ≠ 0 then raiseGP0
  else if s.gpr.ecx ≠ 0 ∧ s.gpr.ecx ≠ 1 then raiseGP0
  else do
    let c := if s.gpr.ecx = 0 then s.msr.perfCtr0 else s.msr.perfCtr1
    putR32 .eax (field c 0 32)
    putR32 .edx (field c 32 32 &&& 0xFF#32)

/-- The feature flags: those the text names are set (40_system_instructions.md R604), and so is FPU, bit 0, since this
processor always has an FPU (70_reset_and_hazards.md R1299). -/
def cpuidFlags : Word := Config.cpuidFeatures ||| 0x000051B3#32

/-- CPUID (40_system_instructions.md R604). -/
def cpuid : M Unit := do
  let s ← get
  let leaf := s.gpr.eax
  let o := Config.cpuidValue leaf
  let (a, b, c, d) : Word × Word × Word × Word :=
    if leaf = 0 then (2, 0x756E6547#32, 0x6C65746E#32, 0x49656E69#32)
    else if leaf = 1 then (resetEdx, 0, 0, cpuidFlags)
    else (o 0, o 1, o 2, o 3)
  modify fun s => { s with gpr := { s.gpr with eax := a, ebx := b, ecx := c, edx := d } }

end Sys2Proof.Machine
end

