-- ==== Sys2Proof/Machine/Smm.lean ====
section
/-! DEFINITION. System-management mode (64_smm.md): entry, and RSM. -/
namespace Sys2Proof.Machine
open Host

/-- The physical address of a slot of the save map (64_smm.md R1066). -/
def slotAddr (smbase : Word) (off : Word) : Nat := (smbase + 0x8000#32 + off).toNat

/-- The runs of a slot of `n` bytes: one, or two where a misaligned SMBASE (64_smm.md R1087) lays it over the end of a page. -/
def slotSpans (smbase off : Word) (n : Nat) : M (List Span) := do
  let a := slotAddr smbase off
  let first := 0x1000 - a % 0x1000
  if n ≤ first then do
    let p ← spanOf ⟨a, false, false⟩ n
    pure [p]
  else do
    let p ← spanOf ⟨a, false, false⟩ first
    let q ← spanOf ⟨slotAddr smbase (off + BitVec.ofNat 32 first), false, false⟩ (n - first)
    pure [p, q]

/-- Write a slot of `n` bytes; before it other agents may write, and between its bytes where a misaligned slot is not
guaranteed to be written as one (20_memory.md R215, R216). -/
def putSlot (smbase off : Word) (n v : Nat) : M Unit := do
  let ps ← slotSpans smbase off n
  writeVia othersGap ps n v

/-- Read a slot of `n` bytes; before it other agents may write, and between its bytes where a misaligned slot is not
guaranteed to be read as one (20_memory.md R215, R216). -/
def getSlot (smbase off : Word) (n : Nat) : M Nat := do
  let ps ← slotSpans smbase off n
  readVia othersGap ps

/-- The reserved areas of the save map, the upper halves of the selector slots among them: offset and number of bytes
(64_smm.md R1066). -/
def reservedSlots : List (Word × Nat) :=
  [(0x7FC6#32, 2), (0x7FC2#32, 2), (0x7FBE#32, 2), (0x7FBA#32, 2), (0x7FB6#32, 2), (0x7FB2#32, 2), (0x7FAE#32, 2),
   (0x7FAA#32, 2), (0x7F98#32, 16), (0x7F8C#32, 8), (0x7F04#32, 132), (0x7E00#32, 248)]

/-- The bytes of RAM in the reserved areas of the save map. What lies elsewhere is not compared (log 41). -/
def State.reservedBytes (s : State) (smbase : Word) : List Byte :=
  reservedSlots.flatMap fun r => (List.range r.2).map fun i =>
    match placeOf s.map s.smm.inSmm (busAddr s (slotAddr smbase (r.1 + BitVec.ofNat 32 i))) with
    | .ram k => memRead s.mem k
    | _ => 0

/-- A slot that holds a doubleword, as a word. -/
def getSlot32 (smbase off : Word) : M Word := do
  let v ← getSlot smbase off 4
  pure (BitVec.ofNat 32 v)

/-- The SMM revision identifier (64_smm.md R1084). -/
def smmRevision : Word := 0x00030000#32 ||| Config.smmRevisionLow.setWidth 32

/-- The slots RSM may find changed, and the register each holds (64_smm.md R1066). -/
def writableSlots (s : State) : List (Word × Word) :=
  [(0x7FF4#32, s.eflags), (0x7FF0#32, s.eip), (0x7FEC#32, s.gpr.edi), (0x7FE8#32, s.gpr.esi), (0x7FE4#32, s.gpr.ebp),
   (0x7FE0#32, s.gpr.esp), (0x7FDC#32, s.gpr.ebx), (0x7FD8#32, s.gpr.edx), (0x7FD4#32, s.gpr.ecx),
   (0x7FD0#32, s.gpr.eax)]

/-- The bits of DR6 that a held debug trap will set: B0 to B3, BS and BT (64_smm.md R1062, 65_debug_perfmon.md R1116). -/
def Dbg.heldBits (d : Dbg) : Word :=
  d.pendB.setWidth 32 ||| (if d.pendS then 0x4000#32 else 0) ||| (if d.pendT then 0x8000#32 else 0)

/-- The slots that must not be changed and hold a doubleword, CR0 apart (64_smm.md R1066). The DR6 image has the bits of
a trap that waits (R1062). -/
def fixedSlots (s : State) : List (Word × Word) :=
  [(0x7FF8#32, s.sys.cr3), (0x7FCC#32, s.dbg.dr6 ||| s.dbg.heldBits), (0x7FC8#32, s.dbg.dr7), (0x7F94#32, s.sys.idtr.base),
   (0x7F88#32, s.sys.gdtr.base), (0x7EFC#32, smmRevision)]

/-- The slots that must not be changed and hold a selector (64_smm.md R1066). -/
def selectorSlots (s : State) : List (Word × Word) :=
  [(0x7FC4#32, zx32 s.sys.tr.sel), (0x7FC0#32, zx32 s.sys.ldtr.sel), (0x7FBC#32, zx32 s.seg.gs.sel),
   (0x7FB8#32, zx32 s.seg.fs.sel), (0x7FB4#32, zx32 s.seg.ds.sel), (0x7FB0#32, zx32 s.seg.ss.sel),
   (0x7FAC#32, zx32 s.seg.cs.sel), (0x7FA8#32, zx32 s.seg.es.sel)]

/-- The read-only image: CR0 first, then the fixed slots, the selectors, and the VM flag. -/
def readOnlyImage (s : State) : List Word :=
  s.sys.cr0 :: ((fixedSlots s).map Prod.snd ++ (selectorSlots s).map Prod.snd ++ [s.eflags &&& 0x20000#32])

/-- Write slots of doublewords. -/
def putSlots (smbase : Word) : List (Word × Word) → M Unit
  | [] => pure ()
  | (off, v) :: rest => do
    putSlot smbase off 4 v.toNat
    putSlots smbase rest

/-- Read doublewords, only the bits of `mask`. -/
def getSlots (smbase mask : Word) : List Word → M (List Word)
  | [] => pure []
  | off :: rest => do
    let v ← getSlot32 smbase off
    let vs ← getSlots smbase mask rest
    pure ((v &&& mask) :: vs)

/-- A segment register on entry to SMM (64_smm.md R1070). -/
def Seg.smm : Seg := { Seg.reset with limit := 0xFFFFFFFF#32 }

/-- The hidden record written on entry (64_smm.md R1067), the contents of the reserved areas to come. -/
def State.smmRecord (s : State) : SmmSaved :=
  { cr4 := s.sys.cr4, segs := s.seg, ldtr := s.sys.ldtr, tr := s.sys.tr, gdtLimit := s.sys.gdtr.limit,
    idtLimit := s.sys.idtr.limit, cpl := s.cpl, nmiBlocked := s.lat.nmiBlocked, pendB := s.dbg.pendB,
    pendS := s.dbg.pendS, pendT := s.dbg.pendT, late := s.dbg.late, ioRestart := s.smm.ioRec,
    halted := s.lat.activity = .halted, eip := s.eip, image := readOnlyImage s, reserved := [] }

/-- The register values of Table 9-2 (64_smm.md R1070, R1072); the general registers and DR6 are free values.
That the processor stands between the iterations of a repeated string instruction is forgotten: the record of R1067 has no mark
of it (log 33, DESIGN CHOICE). -/
def State.smmEntry (s : State) (g : Gprs) (dr6 : Word) (r : SmmSaved) : State :=
  let b := s.smm.smbase
  { s with
    gpr := g, eflags := 2#32, eip := 0x8000#32, cpl := 0,
    seg := { es := Seg.smm, cs := { Seg.smm with sel := field b 4 16, base := b }, ss := Seg.smm, ds := Seg.smm,
             fs := Seg.smm, gs := Seg.smm },
    sys := { s.sys with cr0 := s.sys.cr0 &&& ~~~0x8000000D#32, cr4 := 0, idtr := ⟨0, 0xFFFF#16⟩ },
    dbg := { s.dbg with dr6 := dr6, dr7 := 0x400#32, pendB := 0, pendS := false, pendT := false, late := [] },
    lat := { s.lat with activity := .running, inhibit := false, stiShadow := false, midRep := false,
                        smiPending := false },
    smm := { s.smm with inSmm := true, saved := r, ioRec := none },
    tlb := [] }

/-- `EnterSMM` (64_smm.md R1069), whose pseudocode writes the slots in the order of the table and which says that the order is
not given: the model writes CR0, the slots that may be changed, those that may not, the selectors, the two restart fields and
SMBASE, in this order, with other agents' writes before each (log 60, DESIGN CHOICE, unsafe). -/
def enterSmm : M Unit := do
  let s ← get
  let b := s.smm.smbase
  let r := s.smmRecord
  emit .smiAck
  modify fun s => { s with smm := { s.smm with inSmm := true } }
  putSlot b 0x7FFC#32 4 s.sys.cr0.toNat
  putSlots b (writableSlots s)
  putSlots b (fixedSlots s)
  putSlots b (selectorSlots s)
  putSlot b 0x7F02#32 2 (ofBool r.halted)
  putSlot b 0x7F00#32 2 0
  putSlot b 0x7EF8#32 4 b.toNat
  let eax ← draw 32
  let ecx ← draw 32
  let edx ← draw 32
  let ebx ← draw 32
  let esp ← draw 32
  let ebp ← draw 32
  let esi ← draw 32
  let edi ← draw 32
  let f ← draw 32
  modify fun s => s.smmEntry ⟨eax, ecx, edx, ebx, esp, ebp, esi, edi⟩ ((f &&& 0xE00F#32) ||| 0xFFFF0FF0#32)
    { r with reserved := s.reservedBytes b }

/-- The bits of CR0 that exist, bit 4 aside (10_state.md R65). -/
def cr0Mask : Word := 0xE005002F#32

/-- A value of CR0 with the reserved bits as they read (10_state.md R64, R65). -/
def cr0Value (v : Word) : Word := (v &&& cr0Mask) ||| 0x10#32

/-- The combinations of CR0 that are not legal (10_state.md R66). -/
def cr0Bad (v : Word) : Bool := (bit v 31 && !bit v 0) || (bit v 29 && !bit v 30)

/-- A segment register with a new selector and a saved hidden part (64_smm.md R1090). -/
def Seg.hidden (r : Seg) (sel : Word) : Seg := { r with sel := field sel 0 16 }

/-- Word number `k` of a list of words. -/
def wordAt (l : List Word) (k : Nat) : Word := l[k]?.getD 0

/-- The four page-directory-pointer entries, read from CR3 without a check (64_smm.md R1090). -/
def reloadPdptes : M Unit := do
  let e ← readPdptes
  modify fun s => s.setPdptes e

/-- The state RSM loads before it leaves the mode: `w` the writable slots in their order, `f` the fixed slots, `g` the selectors
(64_smm.md R1090). -/
def State.smmLoaded (s : State) (cr0 : Word) (w f g : List Word) (smbase : Word) : State :=
  let r := s.smm.saved
  { s with
    eflags := definedFlags (wordAt w 0), eip := wordAt w 1, cpl := r.cpl,
    gpr := { edi := wordAt w 2, esi := wordAt w 3, ebp := wordAt w 4, esp := wordAt w 5, ebx := wordAt w 6,
             edx := wordAt w 7, ecx := wordAt w 8, eax := wordAt w 9 },
    sys := { s.sys with
      cr0 := cr0Value cr0, cr3 := wordAt f 0, cr4 := r.cr4, idtr := ⟨wordAt f 3, r.idtLimit⟩,
      gdtr := ⟨wordAt f 4, r.gdtLimit⟩, tr := r.tr.hidden (wordAt g 0), ldtr := r.ldtr.hidden (wordAt g 1) },
    dbg := { s.dbg with dr6 := wordAt f 1, dr7 := wordAt f 2, pendB := r.pendB, pendS := r.pendS, pendT := r.pendT,
                        late := r.late },
    seg := { gs := r.segs.gs.hidden (wordAt g 2), fs := r.segs.fs.hidden (wordAt g 3), ds := r.segs.ds.hidden (wordAt g 4),
             ss := r.segs.ss.hidden (wordAt g 5), cs := r.segs.cs.hidden (wordAt g 6), es := r.segs.es.hidden (wordAt g 7) },
    lat := { s.lat with nmiBlocked := r.nmiBlocked },
    smm := { s.smm with smbase := smbase },
    tr := { s.tr with keepRf := true, noStep := true } }

/-- The I/O restart field of the save map (64_smm.md R1089). -/
def applyIoRestart (w : Nat) (r : Option IoRec) : M Unit :=
  if w = 0 then pure ()
  else
    match w, r with
    | 0xFF, some r =>
      modify fun s =>
        { s with eip := r.eip, gpr := { s.gpr with eax := r.eax, ecx := r.ecx, esi := r.esi, edi := r.edi } }
    | _, _ => stop .smmRestart

/-- The auto HALT restart field of the save map (64_smm.md R1085). -/
def applyHaltRestart (h : Nat) (r : SmmSaved) (eip : Word) : M Unit :=
  if h % 2 = 0 then pure ()
  else if r.halted && eip = r.eip then
    modify fun s => { s with lat := { s.lat with activity := .halted } }
  else stop .smmRestart

/-- RSM (64_smm.md R1090). `cur` is the offset of the instruction. CR0 is read first, and then the slots in the order in which
the entry writes them (log 60, DESIGN CHOICE, unsafe). Only an illegal CR0 shuts the processor down, with every
register as the handler had it, RF included (60_exceptions.md R860). 93_implementation_defined.md section 2.2 names a
misaligned SMBASE beside it, for which R1090 has no test while R1087 takes any 32-bit value: the model tests no alignment
(log 57, DESIGN CHOICE). -/
def rsm (cur : Word) : M Unit := do
  let s ← get
  if !s.smm.inSmm then raiseUD
  else do
    let b := s.smm.smbase
    let r := s.smm.saved
    let cr0 ← getSlot32 b 0x7FFC#32
    if cr0Bad cr0 then do
      emit .shutdown
      modify fun s =>
        { s with eip := cur, smm := { s.smm with inSmm := false }, lat := { s.lat with activity := .shutdown },
                 tr := { s.tr with keepRf := true, noStep := true } }
    else do
      let w ← getSlots b 0xFFFFFFFF#32 ((writableSlots s).map Prod.fst)
      let f ← getSlots b 0xFFFFFFFF#32 ((fixedSlots s).map Prod.fst)
      let g ← getSlots b 0xFFFF#32 ((selectorSlots s).map Prod.fst)
      let halt ← getSlot b 0x7F02#32 2
      let io ← getSlot b 0x7F00#32 2
      let smbase ← getSlot32 b 0x7EF8#32
      let t ← get
      if cr0 :: (f ++ g ++ [wordAt w 0 &&& 0x20000#32]) ≠ r.image || t.reservedBytes b ≠ r.reserved then stop .smmImage
      else do
        modify fun s => s.smmLoaded cr0 w f g smbase
        let t ← get
        whenM (t.paging && t.pae) reloadPdptes
        applyIoRestart io r.ioRestart
        modify fun s => { s with tlb := [], smm := { s.smm with inSmm := false } }
        applyHaltRestart halt r (wordAt w 1)

end Sys2Proof.Machine
end

