-- ==== Sys2Proof/Machine/Reset.lean ====
section
/-! DEFINITION. Hardware reset, INIT and machine checks (70_reset_and_hazards.md, 66_machine_check.md). -/
namespace Sys2Proof.Machine
open Host

/-- RESET# (70_reset_and_hazards.md R1291): the state after reset, before the boot protocol, with the platform as it
stands. The request latches are clear, that of a maskable interrupt passed to the core among them (92_eei_decisions.md D57); an
INTR pin that stays active is seen again with its next event (log 53, DESIGN CHOICE). -/
def State.hardReset (s : State) : State :=
  { State.reset with
    mem := s.mem, map := s.map, free := s.free, events := s.events, others := s.others, bus := s.bus,
    lat := { Latches.reset with a20m := s.lat.a20m, ignne := s.lat.ignne, stopClock := s.lat.stopClock },
    apic := { Apic.reset with lint0 := s.apic.lint0, lint1 := s.apic.lint1 } }

/-- RESET#: what the caches held may be lost (70_reset_and_hazards.md R1291, log 14). -/
def hardReset : M Unit := do
  dropCaches
  modify State.hardReset

/-- `Init` (70_reset_and_hazards.md R1296). A maskable interrupt already passed to the core stays requested, as the NMI
and SMI latches do; the rule names only those (log 53, DESIGN CHOICE). -/
def State.init (s : State) : State :=
  { s with
    gpr := Gprs.reset, eip := 0xFFF0#32, eflags := 2#32, cpl := 0, seg := Segs.reset,
    sys := { Sys.reset with cr0 := (s.sys.cr0 &&& 0x60000000#32) ||| 0x10#32 },
    dbg := Dbg.reset,
    apic := s.apic.init,
    smm := { s.smm with inSmm := false, ioRec := none },
    lat := { s.lat with activity := if bit s.msr.apicBase 8 then .running else .waitSipi, inhibit := false,
                        stiShadow := false, nmiBlocked := false, initPending := false, midRep := false },
    ins := Ins.clear, tr := Trans.clear, tlb := [], noReturn := [] }

/-- The value an error writes into a status register, OVER aside (66_machine_check.md R1190). PCC is that of the event, also of
a corrected one: for the event of example (b) of R1199 with uc = 0, whose pcc is 1, this is 9200000000000111H, where example (d)
prints 9000000000000111H, the value with pcc = 0 (log 58, DEDUCED). -/
def mcNew (e : McEvent) (en : Bool) : QWord :=
  let b := fun (x : Bool) (i : Nat) => if x then BitVec.twoPow 64 i else 0
  b true 63 ||| b e.uc 61 ||| b en 60 ||| b e.addr.isSome 58 ||| b e.pcc 57 |||
    ((e.other.setWidth 64) <<< 32) ||| ((e.mscod.setWidth 64) <<< 16) ||| e.mcacod.setWidth 64

/-- The status an error leaves where it replaces another: TIMEOUT BINIT, HARD ERROR, IERR and AERR stay set, and the
syndrome stays while the uncorrectable ECC error bit is set (66_machine_check.md R1195). The table of R1195 is for external bus
errors and does not name the bank: the model applies it in every bank and to every kind of error (log 58, DESIGN CHOICE). -/
def mcReplace (old new : QWord) : QWord :=
  let v := setBit new 62 true ||| (old &&& 0x00001C4000000000#64)
  if bit old 45 then blend 0x007F800000000000#64 v old else v

/-- A bank after an error is logged in it, `ctl` its MCi_CTL (66_machine_check.md R1190). -/
def McBank.log (k : McBank) (ctl : QWord) (e : McEvent) : McBank :=
  let en := bit ctl e.flag.val
  let new := mcNew e en
  let addr := match e.addr with
    | some a => a &&& 0xFFFFFFFFF#64
    | none => k.addr
  let old := k.status
  if !bit old 63 then { k with status := new, addr := addr }
  else
    let better := (en && !bit old 60) || (e.uc && !bit old 61)
    let kept := bit old 61 && (bit old 60 || !en)
    if better && !kept then { k with status := mcReplace old new, addr := addr }
    else { k with status := setBit old 62 true }

/-- What a machine-check event leads to. -/
inductive McOutcome where
  | nothing | shutdown | deliver
  /-- signalled to a processor that does not leave its state for it -/
  | asleep
  deriving DecidableEq, Repr

/-- `MachineCheckEvent`: log and decide (66_machine_check.md R1191). One that is signalled in the shutdown or in
wait-for-SIPI is logged only (log 53). -/
def State.machineCheck (s : State) (e : McEvent) : State × McOutcome :=
  if s.msr.mcgCtl ≠ allOnes then (s, .nothing)
  else
    let ctl := s.msr.mcCtl e.bank
    let s1 := { s with msr := { s.msr with mc := s.msr.mc.set e.bank (s.msr.mc[e.bank].log ctl e) } }
    if !e.uc || !bit ctl e.flag.val then (s1, .nothing)
    else if s.lat.activity = .shutdown || s.lat.activity = .waitSipi then (s1, .asleep)
    else if !bit s.sys.cr4 6 || bit s.msr.mcgStatus 2 then (s1, .shutdown)
    else
      let st := setBit (setBit (setBit s.msr.mcgStatus 2 true) 0 e.ripv) 1 e.eipv
      ({ s1 with msr := { s1.msr with mcgStatus := st } }, .deliver)

/-- What a signalled error with PCC = 1 may have corrupted: the general registers but for ESP, the status flags and DF, the
floating-point state, CR2, the breakpoint addresses and memory hold free values. What delivers the exception stands,
and so do the machine-check registers (66_machine_check.md R1191, log 51). -/
def corrupt : M Unit := do
  let eax ← draw 32
  let ecx ← draw 32
  let edx ← draw 32
  let ebx ← draw 32
  let ebp ← draw 32
  let esi ← draw 32
  let edi ← draw 32
  let f ← draw 32
  let cr2 ← draw 32
  let dr0 ← draw 32
  let dr1 ← draw 32
  let dr2 ← draw 32
  let dr3 ← draw 32
  modify fun s =>
    { s with gpr := ⟨eax, ecx, edx, ebx, s.gpr.esp, ebp, esi, edi⟩, eflags := blend 0xCD5#32 s.eflags f,
             fpu := Config.corruptFpu s.free, sys := { s.sys with cr2 := cr2 },
             dbg := { s.dbg with dr0 := dr0, dr1 := dr1, dr2 := dr2, dr3 := dr3 },
             mem := (Config.corruptCells s.free).foldl (fun m c => memWrite m c.1 c.2) s.mem,
             free := s.free + 1 }

/-- BINIT# observed, as a machine-check error of the bus unit (70_reset_and_hazards.md R1332): the bank and flag
are the hardware's, here bank 0 and a free flag. -/
def binitEvent (flag : Nat) : McEvent :=
  { bank := 0, flag := ⟨flag % 64, Nat.mod_lt _ (by decide)⟩, mcacod := 3, mscod := 0, other := 8, uc := true,
    pcc := false, addr := none, ripv := false, eipv := false }

end Sys2Proof.Machine
end

