-- ==== Sys2Proof/Machine/Boundary.lean ====
section
/-! DEFINITION. The instruction boundary: what arrives from outside, and which pending event is taken
(60_exceptions.md R845, 70_reset_and_hazards.md, log 10). -/
namespace Sys2Proof.Machine
open Host

/-- What a completed delivery acknowledges. -/
inductive Ack where
  | none | nmi | intr | apic
  deriving DecidableEq, Repr

/-- What the boundary leads to. -/
inductive Turn where
  /-- the next instruction is fetched -/
  | run
  /-- the step ends here -/
  | stay
  /-- an event is delivered -/
  | take (e : Entry) (ack : Ack)
  deriving DecidableEq, Repr

/-- An event that cannot be taken yet arrives again. -/
def postpone (e : Event) : M Unit := modify fun s => { s with events := s.events ++ [e] }

/-- A machine-check error (66_machine_check.md R1191); the record of an I/O instruction before it is dropped
(64_smm.md R1089). While STPCLK# is asserted it waits (70_reset_and_hazards.md R1331). The shutdown and wait-for-SIPI are
not left for it (11_state_msr.md R188, 60_exceptions.md R860, 63_multiprocessor.md R1038): there the error is logged, and
no exception is generated, although R845 has these states perform its step B1 (log 53, DESIGN CHOICE). A signalled error ends a halt, by that step B1, though
40_system_instructions.md R592 lists BINIT# alone of the machine checks (log 53, DESIGN CHOICE). -/
def arriveError (e : McEvent) : M Turn := do
  let s ← get
  if s.lat.stopClock then do
    postpone (.machineCheck e)
    pure .stay
  else
    match s.machineCheck e with
    | (t, .nothing) => do
      set t
      pure .run
    | (t, .asleep) => do
      set t
      whenM e.pcc corrupt
      pure .run
    | (t, .shutdown) => do
      set (Machine.shutdown t)
      whenM e.pcc corrupt
      pure .stay
    | (t, .deliver) => do
      set { t with lat := { t.lat with activity := .running }, smm := { t.smm with ioRec := none } }
      whenM e.pcc corrupt
      pure (.take { vec := 18, src := .abort, code := none, from_ := s.eip, rf := some true } .none)

/-- The registers of counter 0 or 1 (65_debug_perfmon.md R1153): it counts while it is enabled at this level. -/
def counts (s : State) (sel : Word) : Bool :=
  bit s.msr.evntSel0 22 && sel ≠ 0 && (if s.cpl = 0 then bit sel 17 else bit sel 16)

/-- Performance counter 0 advances (65_debug_perfmon.md R1153, R1154). -/
def advance0 (n : Nat) (s : State) : State :=
  if counts s s.msr.evntSel0 then
    let t := { s with msr := { s.msr with perfCtr0 := s.msr.perfCtr0 + BitVec.ofNat Config.perfBits n } }
    if 2 ^ Config.perfBits ≤ s.msr.perfCtr0.toNat + n && bit s.msr.evntSel0 20 then t.perfInterrupt else t
  else s

/-- Performance counter 1 advances (65_debug_perfmon.md R1153, R1154). -/
def advance1 (n : Nat) (s : State) : State :=
  if counts s s.msr.evntSel1 then
    let t := { s with msr := { s.msr with perfCtr1 := s.msr.perfCtr1 + BitVec.ofNat Config.perfBits n } }
    if 2 ^ Config.perfBits ≤ s.msr.perfCtr1.toNat + n && bit s.msr.evntSel1 20 then t.perfInterrupt else t
  else s

/-- The effect of one tick of the divided timer clock (62_apic.md R975) or of one increment of a performance counter
(65_debug_perfmon.md R1153); none for every other event. -/
def State.count (s : State) : Event → Option State
  | .timerTick => some (if s.apicOn then { s with apic := s.apic.tick } else s)
  | .perf0 n => some (advance0 n s)
  | .perf1 n => some (advance1 n s)
  | _ => none

/-- The event of this boundary, the idle event when none is listed. The ticks and increments listed before it all happen
at the same boundary, so any number of them does, beside any event or none (62_apic.md R975, 93_implementation_defined.md
section 3). -/
def State.upcoming : List Event → State → Event × State
  | [], s => (.idle, { s with events := [] })
  | e :: rest, s =>
    match s.count e with
    | some t => State.upcoming rest t
    | none => (e, { s with events := rest })

/-- The next external event, taken off the list. -/
def nextEvent : M Event := do
  let s ← get
  let (e, t) := State.upcoming s.events s
  set t
  pure e

/-- The latches after a pin changes or an event is latched. -/
def onLatches (f : Latches → Latches) : M Turn := do
  modify fun s => { s with lat := f s.lat }
  pure .run

/-- BINIT# observed (70_reset_and_hazards.md R1332): it ends a halt whatever becomes of the error (R592); while STPCLK# is
asserted it waits (R1331). -/
def arriveBinit : M Turn := do
  let s ← get
  if s.lat.stopClock then do
    postpone .binit
    pure .stay
  else if bit s.msr.eblCr 12 && (s.lat.activity = .running || s.lat.activity = .halted) then do
    set { s with lat := { s.lat with activity := .running } }
    let f ← drawNat
    arriveError (binitEvent f)
  else pure .run

/-- The effect of one external event (60_exceptions.md R845 steps B1 and B3). While STPCLK# is asserted a start-up message
and FLUSH# wait, since no register, no memory and no activity changes then (70_reset_and_hazards.md R1331); what goes on by
itself goes on from its release. Ticks and increments have had their effect when this event is taken (State.upcoming). -/
def arrive : Event → M Turn
  | .idle => pure .run
  | .reset => do
    hardReset
    pure .stay
  | .machineCheck e => arriveError e
  | .binit => arriveBinit
  | .flush => do
    let s ← get
    if s.lat.stopClock then postpone .flush
    else do
      writeBackCaches
      flushTlb
    pure .run
  | .stopClock on => do
    let s ← get
    whenM (s.lat.stopClock && !on) (modify State.background)
    onLatches fun l => { l with stopClock := on }
  | .smi => onLatches fun l => { l with smiPending := true }
  | .init => onLatches fun l => { l with initPending := true }
  | .nmi => onLatches fun l => { l with nmiPending := true }
  | .intr v => onLatches fun l => { l with intr := v }
  | .lint0 on v => do
    modify fun s => s.lint0Pin on v
    pure .run
  | .lint1 on v => do
    modify fun s => s.lint1Pin on v
    pure .run
  | .apic m => do
    let s ← get
    if s.lat.stopClock && m.mode = 6 then postpone (.apic m) else busMessage m
    pure .run
  | .a20m on => onLatches fun l => { l with a20m := on }
  | .ignne on => onLatches fun l => { l with ignne := on }
  | .timerTick => pure .run
  | .perf0 _ => pure .run
  | .perf1 _ => pure .run
  | .memWrite w => do
    modify fun s => s.agentWrite w
    pure .run
  | .apicEoi arb => do
    let s ← get
    whenM s.apicOn (modifyApic fun a => a.rotate arb)
    pure .run

/-- A debug trap at this boundary; its conditions go to DR6 (65_debug_perfmon.md R1116, R1119, R1120). RF in the image is a
free choice where the rules differ (trapRf), between the iterations of a repeated string instruction in any case. -/
def debugTrap (bits : Word) : M Turn := do
  let s ← get
  set { s with dbg := { s.dbg with dr6 := s.dbg.dr6 ||| bits ||| s.openHits } }
  let rf ← trapRf s.lat.midRep
  pure (.take { vec := 1, src := .trap, code := none, from_ := s.eip, rf := rf } .none)

/-- All the debug traps that wait are reported in one #DB, whatever made the boundary report one (65_debug_perfmon.md
R1116, R1119); a halted processor runs again (11_state_msr.md R188). -/
def reportTraps : M Turn := do
  let s ← get
  set { s with dbg := { s.dbg with pendT := false, pendS := false, pendB := 0 },
               lat := { s.lat with activity := .running } }
  debugTrap s.dbg.heldBits

/-- A single-step, data or I/O trap is to be reported (60_exceptions.md R845 step B4), also one that was held over the
instruction that halted. -/
def State.trapsHeld (s : State) : Bool :=
  (s.lat.activity = .running || s.lat.activity = .halted) && !s.lat.inhibit && (s.dbg.pendS || s.dbg.pendB ≠ 0)

/-- An SMI is recognized (64_smm.md R1064, 63_multiprocessor.md R1038). -/
def State.takesSmi (s : State) : Bool :=
  s.lat.smiPending && !s.smm.inSmm && !s.lat.inhibit && (s.lat.activity = .running || s.lat.activity = .halted)

/-- An INIT is recognized (60_exceptions.md R860, 64_smm.md). -/
def State.takesInit (s : State) : Bool :=
  s.lat.initPending && !s.smm.inSmm && !(s.lat.activity = .shutdown && s.lat.nmiBlocked)

/-- An NMI is recognized (60_exceptions.md R835, 63_multiprocessor.md R1038): not inside SMM (64_smm.md R1080, R1082), and
in the shutdown whatever the inhibit is, since no instruction is to follow (60_exceptions.md R860). -/
def State.takesNmi (s : State) : Bool :=
  s.lat.nmiPending && !s.lat.nmiBlocked && !s.smm.inSmm && (!s.lat.inhibit || s.lat.activity = .shutdown) &&
    (s.lat.activity = .running || s.lat.activity = .halted || s.lat.activity = .shutdown)

/-- A maskable interrupt would be taken (60_exceptions.md R836 to R838). -/
def State.takesIntr (s : State) : Bool :=
  s.flag fIF && !s.lat.inhibit && !s.lat.stiShadow && (s.lat.activity = .running || s.lat.activity = .halted)

/-- The processor leaves the halt or the shutdown for an interrupt (40_system_instructions.md R592). -/
def wake (e : Entry) (ack : Ack) : M Turn := do
  modify fun s => { s with lat := { s.lat with activity := .running } }
  pure (.take e ack)

/-- The interrupts (60_exceptions.md R845 step B5); between the iterations of a repeated string instruction RF is set in the
image (R831). Of an ExtINT and a fixed interrupt of the local APIC that are both
requested, the ExtINT is taken first, which the spec leaves open (log 53, DESIGN CHOICE). An APIC that is globally
disabled requests nothing (62_apic.md R940). -/
def attendInterrupt : M Turn := do
  let s ← get
  let at_ := fun (v : Nat) (src : Source) =>
    ({ vec := v, src := src, code := none, from_ := s.eip, rf := if s.lat.midRep then some true else none } :
      Entry)
  if s.takesNmi then wake (at_ 2 .nmi) .nmi
  else if s.takesIntr && s.lat.intr.isSome then wake (at_ (s.lat.intr.getD 0).toNat .external) .intr
  else if s.takesIntr && s.apic.wants && s.apicOn then wake (at_ s.apic.dispense.2.toNat .external) .apic
  else if s.lat.activity = .running then pure .run
  else pure .stay

/-- What is pending at the boundary (60_exceptions.md R845 steps B2 to B5). -/
def attend : M Turn := do
  let s ← get
  if s.lat.activity = .running && s.dbg.pendT then do
    modify fun s => { s with smm := { s.smm with ioRec := none } }
    reportTraps
  else if s.lat.stopClock then pure .stay
  else if s.takesSmi then do
    enterSmm
    pure .stay
  else if s.takesInit then do
    modify State.init
    pure .stay
  else do
    modify fun s => { s with smm := { s.smm with ioRec := none } }
    if s.trapsHeld then reportTraps else attendInterrupt

/-- A boot-phase message of this processor (63_multiprocessor.md R1035): to all including self, edge, de-assert, fixed; the
vector is the generation with the APIC ID. -/
def Apic.bootMsg (a : Apic) (generation : BitVec 4) : ApicMsg :=
  { mode := 0, vector := (generation ++ a.id : BitVec 8), levelTrigger := false, assert := false, logical := false,
    dest := 0x0F, arb := a.arbId }

/-- The processor that the boot protocol has made the bootstrap processor: its BSP flag is set and it runs
(63_multiprocessor.md R1034, R1037). The sender of a message has arbitration ID 0 (62_apic.md R950). -/
def State.bootWon (s : State) : State :=
  { s with lat := { s.lat with activity := .running }, apic := { s.apic with arbId := 0 },
           msr := { s.msr with apicBase := setBit s.msr.apicBase 8 true } }

/-- The activity of a processor in the boot protocol. -/
def setActivity (a : Activity) : M Unit := modify fun s => { s with lat := { s.lat with activity := a } }

/-- A boot-phase message of this processor is on the APIC bus (63_multiprocessor.md R1035); its sender then has
arbitration ID 0 (62_apic.md R950). -/
def sendBoot (generation : BitVec 4) : M Unit := do
  let s ← get
  emit (.apic (s.apic.bootMsg generation) 2)
  modifyApic fun a => { a with arbId := 0 }

/-- This processor's part in the boot protocol when no other message comes first (63_multiprocessor.md R1036): its BIPI
is the first, and it is elected; or the BIPIs of the others have gone before, and it sends the FIPI, sees it and runs. One
that was passed over waits for the FIPI, and one whose STPCLK# is asserted for its release (70_reset_and_hazards.md R1331). -/
def bootTurn : M Unit := do
  let s ← get
  if s.lat.stopClock then pure ()
  else if s.lat.activity = .boot then do
    sendBoot 4
    setActivity .elected
  else if s.lat.activity = .elected then do
    sendBoot 1
    modify State.bootWon
  else pure ()

/-- A boot-phase message of another processor (63_multiprocessor.md R1036): the BIPI that comes first passes this
processor over, whose own BIPI follows; the FIPI ends the protocol for one that was passed over. -/
def bootHears (m : ApicMsg) : M Unit := do
  modifyApic fun a => a.rotate m.arb
  let s ← get
  if s.lat.activity = .boot && field m.vector 4 4 = 4 && field m.vector 0 4 ≠ s.apic.id then do
    sendBoot 4
    setActivity .passedOver
  else if s.lat.activity = .passedOver && field m.vector 4 4 = 1 then setActivity .waitSipi
  else pure ()

/-- The boot protocol has not ended (63_multiprocessor.md R1036). -/
def State.booting (s : State) : Bool :=
  s.lat.activity = .boot || s.lat.activity = .elected || s.lat.activity = .passedOver

/-- A message on the APIC bus during the boot protocol. BIPIs and FIPIs are special only then (63_multiprocessor.md R1035).
No other message exists on the bus before the FIPI: where one comes, a processor that was passed over takes the protocol
as ended (log 2). -/
def bootMessage (m : ApicMsg) : M Unit := do
  let s ← get
  if m.isBoot then bootHears m
  else if s.lat.activity = .passedOver then do
    setActivity .waitSipi
    busMessage m
  else modifyApic fun a => a.rotate m.arb

/-- The boot protocol (63_multiprocessor.md R1036). What arrives first decides: the BIPI of another processor, or
nothing of the kind, and then this processor's own BIPI is the first. Interrupts are not seen before its end (R1034):
the pins are latched, error reports wait. While STPCLK# is asserted the protocol stands still and a message waits
(70_reset_and_hazards.md R1331). -/
def bootStep (e : Event) : M Unit :=
  match e with
  | .reset => hardReset
  | .machineCheck c => do
    postpone (.machineCheck c)
    bootTurn
  | .binit => do
    postpone .binit
    bootTurn
  | .apic m => do
    let s ← get
    if s.lat.stopClock then postpone (.apic m) else bootMessage m
  | e => do
    let _ ← arrive e
    bootTurn

/-- The boundary (60_exceptions.md R845). -/
def boundary : M Turn := do
  let s ← get
  let e ← nextEvent
  if s.booting then do
    bootStep e
    pure .stay
  else do
    let t ← arrive e
    match t with
    | .run => do
      settleApic
      attend
    | t => pure t

/-- A delivered interrupt is acknowledged (60_exceptions.md R835, R845, R858; 62_apic.md R966). An INTR or ExtINT request is
dropped with its INTA cycle and made again by the next event of its pin, which the spec leaves open (62_apic.md R1020,
log 53, DESIGN CHOICE). -/
def State.acknowledge (s : State) : Ack → State
  | .none => s
  | .nmi => { s with lat := { s.lat with nmiPending := false } }
  | .intr => { s with lat := { s.lat with intr := none } }
  | .apic => { s with apic := s.apic.dispense.1 }

/-- Deliver an event at a boundary; an interrupt whose delivery is abandoned stays requested (60_exceptions.md R858). A
debug trap is not: it has set DR6, its handler is not entered, and the second event saves the same return address;
R858 leaves open what becomes of it (log 53, DESIGN CHOICE). -/
def takeAt (e : Entry) (ack : Ack) (s : State) : Outcome State Fault Refusal :=
  match deliver e s with
  | .ok _ t => .next ({ t with tr := Trans.clear }.acknowledge ack)
  | .error _ _ => takeEvent eventFuel e s

end Sys2Proof.Machine
end

