-- ==== Sys2Proof/Machine/Alu.lean ====
section
/-! DEFINITION. Addition, subtraction, logic and comparison (44_integer_reference.md section 2). -/
namespace Sys2Proof.Machine
open Host

/-- The two-operand instructions of 44_integer_reference.md R1353, and TEST (R1362). -/
inductive Alu where
  | add | or | adc | sbb | and | sub | xor | cmp | test
  deriving DecidableEq, Repr

/-- The result goes to the first operand. -/
def Alu.writes : Alu → Bool
  | .cmp | .test => false
  | _ => true

/-- AF is undefined after a logical instruction (44_integer_reference.md R1351). -/
def Alu.freeAf : Alu → Bool
  | .or | .and | .xor | .test => true
  | _ => false

/-- The result and the flags, from the operands, CF and the free value of AF (44_integer_reference.md R1354 to R1362). -/
def Alu.result {w : Nat} (op : Alu) (a b : BitVec w) (cf af : Bool) : BitVec w × Arith :=
  match op with
  | .add => addFlags a b false
  | .adc => addFlags a b cf
  | .sub | .cmp => subFlags a b false
  | .sbb => subFlags a b cf
  | .or => (a ||| b, szp (a ||| b) false af false)
  | .and | .test => (a &&& b, szp (a &&& b) false af false)
  | .xor => (a ^^^ b, szp (a ^^^ b) false af false)

/-- A two-operand instruction on a located first operand. -/
def aluLoc (op : Alu) (w : Nat) (l : Loc) (b : BitVec w) : M Unit := do
  let a ← readLoc w l
  let s ← get
  let af ← if op.freeAf then drawBool else pure false
  let (r, f) := op.result a b (s.flag fCF) af
  whenM op.writes (writeLoc w l r)
  putArith f

/-- Form Eb,Gb. -/
def aluEbGb (op : Alu) (rm : Rm8) (r : Reg8) : M Unit := do
  let l ← locRm8 rm op.writes
  let b ← readG8 r
  aluLoc op 8 l b

/-- Form Ev,Gv. -/
def aluEvGv (op : Alu) (rm : Rm) (r : Reg) : M Unit := do
  let w ← getW
  let l ← locRm rm (w / 8) op.writes
  let b ← readG w r
  aluLoc op w l b

/-- Form Gb,Eb. -/
def aluGbEb (op : Alu) (r : Reg8) (rm : Rm8) : M Unit := do
  let b ← readRm8 rm
  aluLoc op 8 (.reg8 r) b

/-- Form Gv,Ev. -/
def aluGvEv (op : Alu) (r : Reg) (rm : Rm) : M Unit := do
  let w ← getW
  let b ← readRm w rm
  aluLoc op w (.reg r) b

/-- Form AL,Ib. -/
def aluAlIb (op : Alu) (imm : Byte) : M Unit := aluLoc op 8 (.reg8 .al) imm

/-- Form eAX,Iv. -/
def aluAxIv (op : Alu) (imm : Word) : M Unit := do
  let w ← getW
  aluLoc op w (.reg .eax) (imm.setWidth w)

/-- Form Eb,Ib. -/
def aluEbIb (op : Alu) (rm : Rm8) (imm : Byte) : M Unit := do
  let l ← locRm8 rm op.writes
  aluLoc op 8 l imm

/-- Form Ev,Iv. -/
def aluEvIv (op : Alu) (rm : Rm) (imm : Word) : M Unit := do
  let w ← getW
  let l ← locRm rm (w / 8) op.writes
  aluLoc op w l (imm.setWidth w)

/-- Form Ev,Ib: the byte is sign-extended (44_integer_reference.md R1353). -/
def aluEvIb (op : Alu) (rm : Rm) (imm : Byte) : M Unit := do
  let w ← getW
  let l ← locRm rm (w / 8) op.writes
  aluLoc op w l (imm.signExtend w)

/-- The one-operand instructions of 44_integer_reference.md R1363 to R1366. -/
inductive Alu1 where
  | inc | dec | neg | not
  deriving DecidableEq, Repr

/-- A one-operand instruction on a located operand. -/
def alu1Loc (op : Alu1) (w : Nat) (l : Loc) : M Unit := do
  let a ← readLoc w l
  match op with
  | .inc => do
    let (r, f) := addFlags a 1 false
    writeLoc w l r
    putArithKeepCf f
  | .dec => do
    let (r, f) := subFlags a 1 false
    writeLoc w l r
    putArithKeepCf f
  | .neg => do
    let (r, f) := subFlags 0 a false
    writeLoc w l r
    putArith f
  | .not => writeLoc w l (~~~a)

/-- Form Eb. -/
def alu1Eb (op : Alu1) (rm : Rm8) : M Unit := do
  let l ← locRm8 rm true
  alu1Loc op 8 l

/-- Form Ev. -/
def alu1Ev (op : Alu1) (rm : Rm) : M Unit := do
  let w ← getW
  let l ← locRm rm (w / 8) true
  alu1Loc op w l

/-- ADD Eb,Gb, 00 (44_integer_reference.md R1354). -/
def execAddEbGb (rm : Rm8) (r : Reg8) (s : State) : Outcome State Fault Refusal :=
  instr (isMem rm) (aluEbGb .add rm r) s

/-- ADD Ev,Gv, 01 (44_integer_reference.md R1354). -/
def execAddEvGv (rm : Rm) (r : Reg) (s : State) : Outcome State Fault Refusal :=
  instr (isMem rm) (aluEvGv .add rm r) s

/-- ADD Gb,Eb, 02 (44_integer_reference.md R1354). -/
def execAddGbEb (r : Reg8) (rm : Rm8) (s : State) : Outcome State Fault Refusal :=
  instr false (aluGbEb .add r rm) s

/-- ADD Gv,Ev, 03 (44_integer_reference.md R1354). -/
def execAddGvEv (r : Reg) (rm : Rm) (s : State) : Outcome State Fault Refusal :=
  instr false (aluGvEv .add r rm) s

/-- ADD AL,Ib, 04 (44_integer_reference.md R1354). -/
def execAddALIb (imm : BitVec 8) (s : State) : Outcome State Fault Refusal :=
  instr false (aluAlIb .add imm) s

/-- ADD eAX,Iv, 05 (44_integer_reference.md R1354). -/
def execAddeAXIv (imm : BitVec 32) (s : State) : Outcome State Fault Refusal :=
  instr false (aluAxIv .add imm) s

/-- ADD Eb,Ib, 8000 (44_integer_reference.md R1354). -/
def execAddEbIb (rm : Rm8) (imm : BitVec 8) (s : State) : Outcome State Fault Refusal :=
  instr (isMem rm) (aluEbIb .add rm imm) s

/-- ADD Ev,Iv, 8100 (44_integer_reference.md R1354). -/
def execAddEvIv (rm : Rm) (imm : BitVec 32) (s : State) : Outcome State Fault Refusal :=
  instr (isMem rm) (aluEvIv .add rm imm) s

/-- ADD Ev,Ib, 8300 (44_integer_reference.md R1354). -/
def execAddEvIb (rm : Rm) (imm : BitVec 8) (s : State) : Outcome State Fault Refusal :=
  instr (isMem rm) (aluEvIb .add rm imm) s

/-- OR Eb,Gb, 08 (44_integer_reference.md R1360). -/
def execOrEbGb (rm : Rm8) (r : Reg8) (s : State) : Outcome State Fault Refusal :=
  instr (isMem rm) (aluEbGb .or rm r) s

/-- OR Ev,Gv, 09 (44_integer_reference.md R1360). -/
def execOrEvGv (rm : Rm) (r : Reg) (s : State) : Outcome State Fault Refusal :=
  instr (isMem rm) (aluEvGv .or rm r) s

/-- OR Gb,Eb, 0A (44_integer_reference.md R1360). -/
def execOrGbEb (r : Reg8) (rm : Rm8) (s : State) : Outcome State Fault Refusal :=
  instr false (aluGbEb .or r rm) s

/-- OR Gv,Ev, 0B (44_integer_reference.md R1360). -/
def execOrGvEv (r : Reg) (rm : Rm) (s : State) : Outcome State Fault Refusal :=
  instr false (aluGvEv .or r rm) s

/-- OR AL,Ib, 0C (44_integer_reference.md R1360). -/
def execOrALIb (imm : BitVec 8) (s : State) : Outcome State Fault Refusal :=
  instr false (aluAlIb .or imm) s

/-- OR eAX,Iv, 0D (44_integer_reference.md R1360). -/
def execOreAXIv (imm : BitVec 32) (s : State) : Outcome State Fault Refusal :=
  instr false (aluAxIv .or imm) s

/-- OR Eb,Ib, 8008 (44_integer_reference.md R1360). -/
def execOrEbIb (rm : Rm8) (imm : BitVec 8) (s : State) : Outcome State Fault Refusal :=
  instr (isMem rm) (aluEbIb .or rm imm) s

/-- OR Ev,Iv, 8108 (44_integer_reference.md R1360). -/
def execOrEvIv (rm : Rm) (imm : BitVec 32) (s : State) : Outcome State Fault Refusal :=
  instr (isMem rm) (aluEvIv .or rm imm) s

/-- OR Ev,Ib, 8308 (44_integer_reference.md R1360). -/
def execOrEvIb (rm : Rm) (imm : BitVec 8) (s : State) : Outcome State Fault Refusal :=
  instr (isMem rm) (aluEvIb .or rm imm) s

/-- ADC Eb,Gb, 10 (44_integer_reference.md R1355). -/
def execAdcEbGb (rm : Rm8) (r : Reg8) (s : State) : Outcome State Fault Refusal :=
  instr (isMem rm) (aluEbGb .adc rm r) s

/-- ADC Ev,Gv, 11 (44_integer_reference.md R1355). -/
def execAdcEvGv (rm : Rm) (r : Reg) (s : State) : Outcome State Fault Refusal :=
  instr (isMem rm) (aluEvGv .adc rm r) s

/-- ADC Gb,Eb, 12 (44_integer_reference.md R1355). -/
def execAdcGbEb (r : Reg8) (rm : Rm8) (s : State) : Outcome State Fault Refusal :=
  instr false (aluGbEb .adc r rm) s

/-- ADC Gv,Ev, 13 (44_integer_reference.md R1355). -/
def execAdcGvEv (r : Reg) (rm : Rm) (s : State) : Outcome State Fault Refusal :=
  instr false (aluGvEv .adc r rm) s

/-- ADC AL,Ib, 14 (44_integer_reference.md R1355). -/
def execAdcALIb (imm : BitVec 8) (s : State) : Outcome State Fault Refusal :=
  instr false (aluAlIb .adc imm) s

/-- ADC eAX,Iv, 15 (44_integer_reference.md R1355). -/
def execAdceAXIv (imm : BitVec 32) (s : State) : Outcome State Fault Refusal :=
  instr false (aluAxIv .adc imm) s

/-- ADC Eb,Ib, 8010 (44_integer_reference.md R1355). -/
def execAdcEbIb (rm : Rm8) (imm : BitVec 8) (s : State) : Outcome State Fault Refusal :=
  instr (isMem rm) (aluEbIb .adc rm imm) s

/-- ADC Ev,Iv, 8110 (44_integer_reference.md R1355). -/
def execAdcEvIv (rm : Rm) (imm : BitVec 32) (s : State) : Outcome State Fault Refusal :=
  instr (isMem rm) (aluEvIv .adc rm imm) s

/-- ADC Ev,Ib, 8310 (44_integer_reference.md R1355). -/
def execAdcEvIb (rm : Rm) (imm : BitVec 8) (s : State) : Outcome State Fault Refusal :=
  instr (isMem rm) (aluEvIb .adc rm imm) s

/-- SBB Eb,Gb, 18 (44_integer_reference.md R1357). -/
def execSbbEbGb (rm : Rm8) (r : Reg8) (s : State) : Outcome State Fault Refusal :=
  instr (isMem rm) (aluEbGb .sbb rm r) s

/-- SBB Ev,Gv, 19 (44_integer_reference.md R1357). -/
def execSbbEvGv (rm : Rm) (r : Reg) (s : State) : Outcome State Fault Refusal :=
  instr (isMem rm) (aluEvGv .sbb rm r) s

/-- SBB Gb,Eb, 1A (44_integer_reference.md R1357). -/
def execSbbGbEb (r : Reg8) (rm : Rm8) (s : State) : Outcome State Fault Refusal :=
  instr false (aluGbEb .sbb r rm) s

/-- SBB Gv,Ev, 1B (44_integer_reference.md R1357). -/
def execSbbGvEv (r : Reg) (rm : Rm) (s : State) : Outcome State Fault Refusal :=
  instr false (aluGvEv .sbb r rm) s

/-- SBB AL,Ib, 1C (44_integer_reference.md R1357). -/
def execSbbALIb (imm : BitVec 8) (s : State) : Outcome State Fault Refusal :=
  instr false (aluAlIb .sbb imm) s

/-- SBB eAX,Iv, 1D (44_integer_reference.md R1357). -/
def execSbbeAXIv (imm : BitVec 32) (s : State) : Outcome State Fault Refusal :=
  instr false (aluAxIv .sbb imm) s

/-- SBB Eb,Ib, 8018 (44_integer_reference.md R1357). -/
def execSbbEbIb (rm : Rm8) (imm : BitVec 8) (s : State) : Outcome State Fault Refusal :=
  instr (isMem rm) (aluEbIb .sbb rm imm) s

/-- SBB Ev,Iv, 8118 (44_integer_reference.md R1357). -/
def execSbbEvIv (rm : Rm) (imm : BitVec 32) (s : State) : Outcome State Fault Refusal :=
  instr (isMem rm) (aluEvIv .sbb rm imm) s

/-- SBB Ev,Ib, 8318 (44_integer_reference.md R1357). -/
def execSbbEvIb (rm : Rm) (imm : BitVec 8) (s : State) : Outcome State Fault Refusal :=
  instr (isMem rm) (aluEvIb .sbb rm imm) s

/-- AND Eb,Gb, 20 (44_integer_reference.md R1359). -/
def execAndEbGb (rm : Rm8) (r : Reg8) (s : State) : Outcome State Fault Refusal :=
  instr (isMem rm) (aluEbGb .and rm r) s

/-- AND Ev,Gv, 21 (44_integer_reference.md R1359). -/
def execAndEvGv (rm : Rm) (r : Reg) (s : State) : Outcome State Fault Refusal :=
  instr (isMem rm) (aluEvGv .and rm r) s

/-- AND Gb,Eb, 22 (44_integer_reference.md R1359). -/
def execAndGbEb (r : Reg8) (rm : Rm8) (s : State) : Outcome State Fault Refusal :=
  instr false (aluGbEb .and r rm) s

/-- AND Gv,Ev, 23 (44_integer_reference.md R1359). -/
def execAndGvEv (r : Reg) (rm : Rm) (s : State) : Outcome State Fault Refusal :=
  instr false (aluGvEv .and r rm) s

/-- AND AL,Ib, 24 (44_integer_reference.md R1359). -/
def execAndALIb (imm : BitVec 8) (s : State) : Outcome State Fault Refusal :=
  instr false (aluAlIb .and imm) s

/-- AND eAX,Iv, 25 (44_integer_reference.md R1359). -/
def execAndeAXIv (imm : BitVec 32) (s : State) : Outcome State Fault Refusal :=
  instr false (aluAxIv .and imm) s

/-- AND Eb,Ib, 8020 (44_integer_reference.md R1359). -/
def execAndEbIb (rm : Rm8) (imm : BitVec 8) (s : State) : Outcome State Fault Refusal :=
  instr (isMem rm) (aluEbIb .and rm imm) s

/-- AND Ev,Iv, 8120 (44_integer_reference.md R1359). -/
def execAndEvIv (rm : Rm) (imm : BitVec 32) (s : State) : Outcome State Fault Refusal :=
  instr (isMem rm) (aluEvIv .and rm imm) s

/-- AND Ev,Ib, 8320 (44_integer_reference.md R1359). -/
def execAndEvIb (rm : Rm) (imm : BitVec 8) (s : State) : Outcome State Fault Refusal :=
  instr (isMem rm) (aluEvIb .and rm imm) s

/-- SUB Eb,Gb, 28 (44_integer_reference.md R1356). -/
def execSubEbGb (rm : Rm8) (r : Reg8) (s : State) : Outcome State Fault Refusal :=
  instr (isMem rm) (aluEbGb .sub rm r) s

/-- SUB Ev,Gv, 29 (44_integer_reference.md R1356). -/
def execSubEvGv (rm : Rm) (r : Reg) (s : State) : Outcome State Fault Refusal :=
  instr (isMem rm) (aluEvGv .sub rm r) s

/-- SUB Gb,Eb, 2A (44_integer_reference.md R1356). -/
def execSubGbEb (r : Reg8) (rm : Rm8) (s : State) : Outcome State Fault Refusal :=
  instr false (aluGbEb .sub r rm) s

/-- SUB Gv,Ev, 2B (44_integer_reference.md R1356). -/
def execSubGvEv (r : Reg) (rm : Rm) (s : State) : Outcome State Fault Refusal :=
  instr false (aluGvEv .sub r rm) s

/-- SUB AL,Ib, 2C (44_integer_reference.md R1356). -/
def execSubALIb (imm : BitVec 8) (s : State) : Outcome State Fault Refusal :=
  instr false (aluAlIb .sub imm) s

/-- SUB eAX,Iv, 2D (44_integer_reference.md R1356). -/
def execSubeAXIv (imm : BitVec 32) (s : State) : Outcome State Fault Refusal :=
  instr false (aluAxIv .sub imm) s

/-- SUB Eb,Ib, 8028 (44_integer_reference.md R1356). -/
def execSubEbIb (rm : Rm8) (imm : BitVec 8) (s : State) : Outcome State Fault Refusal :=
  instr (isMem rm) (aluEbIb .sub rm imm) s

/-- SUB Ev,Iv, 8128 (44_integer_reference.md R1356). -/
def execSubEvIv (rm : Rm) (imm : BitVec 32) (s : State) : Outcome State Fault Refusal :=
  instr (isMem rm) (aluEvIv .sub rm imm) s

/-- SUB Ev,Ib, 8328 (44_integer_reference.md R1356). -/
def execSubEvIb (rm : Rm) (imm : BitVec 8) (s : State) : Outcome State Fault Refusal :=
  instr (isMem rm) (aluEvIb .sub rm imm) s

/-- XOR Eb,Gb, 30 (44_integer_reference.md R1361). -/
def execXorEbGb (rm : Rm8) (r : Reg8) (s : State) : Outcome State Fault Refusal :=
  instr (isMem rm) (aluEbGb .xor rm r) s

/-- XOR Ev,Gv, 31 (44_integer_reference.md R1361). -/
def execXorEvGv (rm : Rm) (r : Reg) (s : State) : Outcome State Fault Refusal :=
  instr (isMem rm) (aluEvGv .xor rm r) s

/-- XOR Gb,Eb, 32 (44_integer_reference.md R1361). -/
def execXorGbEb (r : Reg8) (rm : Rm8) (s : State) : Outcome State Fault Refusal :=
  instr false (aluGbEb .xor r rm) s

/-- XOR Gv,Ev, 33 (44_integer_reference.md R1361). -/
def execXorGvEv (r : Reg) (rm : Rm) (s : State) : Outcome State Fault Refusal :=
  instr false (aluGvEv .xor r rm) s

/-- XOR AL,Ib, 34 (44_integer_reference.md R1361). -/
def execXorALIb (imm : BitVec 8) (s : State) : Outcome State Fault Refusal :=
  instr false (aluAlIb .xor imm) s

/-- XOR eAX,Iv, 35 (44_integer_reference.md R1361). -/
def execXoreAXIv (imm : BitVec 32) (s : State) : Outcome State Fault Refusal :=
  instr false (aluAxIv .xor imm) s

/-- XOR Eb,Ib, 8030 (44_integer_reference.md R1361). -/
def execXorEbIb (rm : Rm8) (imm : BitVec 8) (s : State) : Outcome State Fault Refusal :=
  instr (isMem rm) (aluEbIb .xor rm imm) s

/-- XOR Ev,Iv, 8130 (44_integer_reference.md R1361). -/
def execXorEvIv (rm : Rm) (imm : BitVec 32) (s : State) : Outcome State Fault Refusal :=
  instr (isMem rm) (aluEvIv .xor rm imm) s

/-- XOR Ev,Ib, 8330 (44_integer_reference.md R1361). -/
def execXorEvIb (rm : Rm) (imm : BitVec 8) (s : State) : Outcome State Fault Refusal :=
  instr (isMem rm) (aluEvIb .xor rm imm) s

/-- CMP Eb,Gb, 38 (44_integer_reference.md R1358). -/
def execCmpEbGb (rm : Rm8) (r : Reg8) (s : State) : Outcome State Fault Refusal :=
  instr false (aluEbGb .cmp rm r) s

/-- CMP Ev,Gv, 39 (44_integer_reference.md R1358). -/
def execCmpEvGv (rm : Rm) (r : Reg) (s : State) : Outcome State Fault Refusal :=
  instr false (aluEvGv .cmp rm r) s

/-- CMP Gb,Eb, 3A (44_integer_reference.md R1358). -/
def execCmpGbEb (r : Reg8) (rm : Rm8) (s : State) : Outcome State Fault Refusal :=
  instr false (aluGbEb .cmp r rm) s

/-- CMP Gv,Ev, 3B (44_integer_reference.md R1358). -/
def execCmpGvEv (r : Reg) (rm : Rm) (s : State) : Outcome State Fault Refusal :=
  instr false (aluGvEv .cmp r rm) s

/-- CMP AL,Ib, 3C (44_integer_reference.md R1358). -/
def execCmpALIb (imm : BitVec 8) (s : State) : Outcome State Fault Refusal :=
  instr false (aluAlIb .cmp imm) s

/-- CMP eAX,Iv, 3D (44_integer_reference.md R1358). -/
def execCmpeAXIv (imm : BitVec 32) (s : State) : Outcome State Fault Refusal :=
  instr false (aluAxIv .cmp imm) s

/-- CMP Eb,Ib, 8038 (44_integer_reference.md R1358). -/
def execCmpEbIb (rm : Rm8) (imm : BitVec 8) (s : State) : Outcome State Fault Refusal :=
  instr false (aluEbIb .cmp rm imm) s

/-- CMP Ev,Iv, 8138 (44_integer_reference.md R1358). -/
def execCmpEvIv (rm : Rm) (imm : BitVec 32) (s : State) : Outcome State Fault Refusal :=
  instr false (aluEvIv .cmp rm imm) s

/-- CMP Ev,Ib, 8338 (44_integer_reference.md R1358). -/
def execCmpEvIb (rm : Rm) (imm : BitVec 8) (s : State) : Outcome State Fault Refusal :=
  instr false (aluEvIb .cmp rm imm) s

/-- INC eXX, 40 (44_integer_reference.md R1363). -/
def execIncRv (r : Reg) (s : State) : Outcome State Fault Refusal :=
  instr false (alu1Ev .inc (.reg r)) s

/-- DEC eXX, 48 (44_integer_reference.md R1364). -/
def execDecRv (r : Reg) (s : State) : Outcome State Fault Refusal :=
  instr false (alu1Ev .dec (.reg r)) s

/-- TEST Eb,Gb, 84 (44_integer_reference.md R1362). -/
def execTestEbGb (rm : Rm8) (r : Reg8) (s : State) : Outcome State Fault Refusal :=
  instr false (aluEbGb .test rm r) s

/-- TEST Ev,Gv, 85 (44_integer_reference.md R1362). -/
def execTestEvGv (rm : Rm) (r : Reg) (s : State) : Outcome State Fault Refusal :=
  instr false (aluEvGv .test rm r) s

/-- TEST AL,Ib, A8 (44_integer_reference.md R1362). -/
def execTestALIb (imm : BitVec 8) (s : State) : Outcome State Fault Refusal :=
  instr false (aluAlIb .test imm) s

/-- TEST eAX,Iv, A9 (44_integer_reference.md R1362). -/
def execTesteAXIv (imm : BitVec 32) (s : State) : Outcome State Fault Refusal :=
  instr false (aluAxIv .test imm) s

/-- TEST Eb,Ib, F600 (44_integer_reference.md R1362). -/
def execTestEbIb (rm : Rm8) (imm : BitVec 8) (s : State) : Outcome State Fault Refusal :=
  instr false (aluEbIb .test rm imm) s

/-- NOT Eb, F610 (44_integer_reference.md R1366). -/
def execNotEb (rm : Rm8) (s : State) : Outcome State Fault Refusal :=
  instr (isMem rm) (alu1Eb .not rm) s

/-- NEG Eb, F618 (44_integer_reference.md R1365). -/
def execNegEb (rm : Rm8) (s : State) : Outcome State Fault Refusal :=
  instr (isMem rm) (alu1Eb .neg rm) s

/-- TEST Ev,Iv, F700 (44_integer_reference.md R1362). -/
def execTestEvIv (rm : Rm) (imm : BitVec 32) (s : State) : Outcome State Fault Refusal :=
  instr false (aluEvIv .test rm imm) s

/-- NOT Ev, F710 (44_integer_reference.md R1366). -/
def execNotEv (rm : Rm) (s : State) : Outcome State Fault Refusal :=
  instr (isMem rm) (alu1Ev .not rm) s

/-- NEG Ev, F718 (44_integer_reference.md R1365). -/
def execNegEv (rm : Rm) (s : State) : Outcome State Fault Refusal :=
  instr (isMem rm) (alu1Ev .neg rm) s

/-- INC Eb, FE00 (44_integer_reference.md R1363). -/
def execIncEb (rm : Rm8) (s : State) : Outcome State Fault Refusal :=
  instr (isMem rm) (alu1Eb .inc rm) s

/-- DEC Eb, FE08 (44_integer_reference.md R1364). -/
def execDecEb (rm : Rm8) (s : State) : Outcome State Fault Refusal :=
  instr (isMem rm) (alu1Eb .dec rm) s

/-- INC Ev, FF00 (44_integer_reference.md R1363). -/
def execIncEv (rm : Rm) (s : State) : Outcome State Fault Refusal :=
  instr (isMem rm) (alu1Ev .inc rm) s

/-- DEC Ev, FF08 (44_integer_reference.md R1364). -/
def execDecEv (rm : Rm) (s : State) : Outcome State Fault Refusal :=
  instr (isMem rm) (alu1Ev .dec rm) s

end Sys2Proof.Machine
end

