-- ==== Sys2Proof/Machine/BitOps.lean ====
section
/-! DEFINITION. Bit and flag instructions (44_integer_reference.md sections 6 and 7). -/
namespace Sys2Proof.Machine
open Host

/-- The bit-test instructions. -/
inductive BitOp where
  | bt | bts | btr | btc
  deriving DecidableEq, Repr

/-- The instruction stores its result. -/
def BitOp.writes : BitOp → Bool
  | .bt => false
  | _ => true

/-- The value with the selected bit changed (44_integer_reference.md R1410 to R1413). -/
def BitOp.result {w : Nat} (op : BitOp) (x : BitVec w) (i : Nat) : BitVec w :=
  match op with
  | .bt => x
  | .bts => setBit x i true
  | .btr => setBit x i false
  | .btc => setBit x i (!bit x i)

/-- A bit-test instruction on a located item: CF is the bit, ZF is unchanged, OF SF AF PF are free (log 16). -/
def bitLoc (op : BitOp) (w : Nat) (l : Loc) (i : Nat) : M Unit := do
  let x ← readLoc w l
  let f ← draw 32
  whenM op.writes (writeLoc w l (op.result x i))
  putFlagsMasked 0x895#32 (setBit f fCF (bit x i))

/-- The place of the item a register index selects (44_integer_reference.md R1410). -/
def bitItem (w : Nat) (rm : Rm) (index : BitVec w) (write : Bool) : M Loc :=
  match rm with
  | .reg r => pure (.reg r)
  | .mem m => do
    let s ← get
    let k := BitVec.ofInt 32 (index.toInt / w * (w / 8))
    let ps ← access (eaSeg s m) (eaMoved s m k) (w / 8) (w / 8) write
    pure (.mem ps)

/-- Form Ev,Gv. -/
def bitEvGv (op : BitOp) (rm : Rm) (r : Reg) : M Unit := do
  let w ← getW
  let i ← readG w r
  let l ← bitItem w rm i op.writes
  bitLoc op w l (i.toNat % w)

/-- Form Ev,Ib. -/
def bitEvIb (op : BitOp) (rm : Rm) (imm : Byte) : M Unit := do
  let w ← getW
  let l ← locRm rm (w / 8) op.writes
  bitLoc op w l (imm.toNat % w)

/-- BSF and BSR (44_integer_reference.md R1414, R1415). -/
def bitScan (forward : Bool) (r : Reg) (rm : Rm) : M Unit := do
  let w ← getW
  let x ← readRm w rm
  let f ← draw 32
  putFlagsMasked arithMask (setBit f fZF (decide (x = 0)))
  match (if forward then lowestBit x 0 w else highestBit x w) with
  | some k => writeLoc w (.reg r) (BitVec.ofNat w k)
  | none => pure ()

/-- LAHF (44_integer_reference.md R1420). -/
def lahfBody : M Unit := do
  let s ← get
  putR8 .ah ((field s.eflags 0 8 &&& 0xD5#8) ||| 2#8)

/-- SAHF (44_integer_reference.md R1421). -/
def sahfBody : M Unit := do
  let s ← get
  putFlagsMasked 0xD5#32 (zx32 (s.r8 .ah))

/-- CMC (44_integer_reference.md R1424). -/
def cmcBody : M Unit := do
  let s ← get
  putFlag fCF (!s.flag fCF)

/-- SAHF , 9E (44_integer_reference.md R1421). -/
def execSahf (s : State) : Outcome State Fault Refusal :=
  instr false sahfBody s

/-- LAHF , 9F (44_integer_reference.md R1420). -/
def execLahf (s : State) : Outcome State Fault Refusal :=
  instr false lahfBody s

/-- CMC , F5 (44_integer_reference.md R1424). -/
def execCmc (s : State) : Outcome State Fault Refusal :=
  instr false cmcBody s

/-- CLC , F8 (44_integer_reference.md R1422). -/
def execClc (s : State) : Outcome State Fault Refusal :=
  instr false (putFlag fCF false) s

/-- STC , F9 (44_integer_reference.md R1423). -/
def execStc (s : State) : Outcome State Fault Refusal :=
  instr false (putFlag fCF true) s

/-- CLD , FC (44_integer_reference.md R1425). -/
def execCld (s : State) : Outcome State Fault Refusal :=
  instr false (putFlag fDF false) s

/-- STD , FD (44_integer_reference.md R1426). -/
def execStd (s : State) : Outcome State Fault Refusal :=
  instr false (putFlag fDF true) s

/-- BT Ev,Gv, 0FA3 (44_integer_reference.md R1410). -/
def execBtEvGv (rm : Rm) (r : Reg) (s : State) : Outcome State Fault Refusal :=
  instr false (bitEvGv .bt rm r) s

/-- BTS Ev,Gv, 0FAB (44_integer_reference.md R1411). -/
def execBtsEvGv (rm : Rm) (r : Reg) (s : State) : Outcome State Fault Refusal :=
  instr (isMem rm) (bitEvGv .bts rm r) s

/-- BTR Ev,Gv, 0FB3 (44_integer_reference.md R1412). -/
def execBtrEvGv (rm : Rm) (r : Reg) (s : State) : Outcome State Fault Refusal :=
  instr (isMem rm) (bitEvGv .btr rm r) s

/-- BT Ev,Ib, 0FBA20 (44_integer_reference.md R1410). -/
def execBtEvIb (rm : Rm) (imm : BitVec 8) (s : State) : Outcome State Fault Refusal :=
  instr false (bitEvIb .bt rm imm) s

/-- BTS Ev,Ib, 0FBA28 (44_integer_reference.md R1411). -/
def execBtsEvIb (rm : Rm) (imm : BitVec 8) (s : State) : Outcome State Fault Refusal :=
  instr (isMem rm) (bitEvIb .bts rm imm) s

/-- BTR Ev,Ib, 0FBA30 (44_integer_reference.md R1412). -/
def execBtrEvIb (rm : Rm) (imm : BitVec 8) (s : State) : Outcome State Fault Refusal :=
  instr (isMem rm) (bitEvIb .btr rm imm) s

/-- BTC Ev,Ib, 0FBA38 (44_integer_reference.md R1413). -/
def execBtcEvIb (rm : Rm) (imm : BitVec 8) (s : State) : Outcome State Fault Refusal :=
  instr (isMem rm) (bitEvIb .btc rm imm) s

/-- BTC Ev,Gv, 0FBB (44_integer_reference.md R1413). -/
def execBtcEvGv (rm : Rm) (r : Reg) (s : State) : Outcome State Fault Refusal :=
  instr (isMem rm) (bitEvGv .btc rm r) s

/-- BSF Gv,Ev, 0FBC (44_integer_reference.md R1414). -/
def execBsfGvEv (r : Reg) (rm : Rm) (s : State) : Outcome State Fault Refusal :=
  instr false (bitScan true r rm) s

/-- BSR Gv,Ev, 0FBD (44_integer_reference.md R1415). -/
def execBsrGvEv (r : Reg) (rm : Rm) (s : State) : Outcome State Fault Refusal :=
  instr false (bitScan false r rm) s

end Sys2Proof.Machine
end

