-- ==== Sys2Proof/Machine/Strings.lean ====
section
/-! DEFINITION. Input and output, and the string instructions (43_general_instructions.md sections 6 and 7). -/
namespace Sys2Proof.Machine
open Host

/-- A register at the address size (43_general_instructions.md R796). -/
def State.aReg (s : State) (r : Reg) : Word := cutAddr s.a32 (s.r32 r)

/-- A register at the address size after a sum. -/
def State.addA (s : State) (r : Reg) (d : Word) : State := s.setRv s.a32 r ((s.r32 r + d).setWidth (bits s.a32))

/-- Advance an index register by one item, down if DF is set (43_general_instructions.md R796). -/
def advance (r : Reg) (n : Nat) : M Unit :=
  modify fun s => s.addA r (if s.flag fDF then -(BitVec.ofNat 32 n) else BitVec.ofNat 32 n)

/-- What an I/O instruction records for I/O restart (64_smm.md R1089). `cur` is the offset of the instruction. -/
def noteIo (cur : Word) : M Unit :=
  modify fun s =>
    { s with tr := { s.tr with io := some { eip := cur, eax := s.gpr.eax, ecx := s.gpr.ecx, esi := s.gpr.esi,
                                            edi := s.gpr.edi } } }

/-- The permission and breakpoint tests of an I/O access (23_protection.md R436, 65_debug_perfmon.md R1114). -/
def checkPort (cur : Word) (port n : Nat) : M Unit := do
  noteIo cur
  checkIO port n
  let s ← get
  whenM (bit s.sys.cr4 3) (noteHits (fun d => d.ioHits port n))

/-- Read a port: the value is the platform's, a free value (log 11). -/
def readPort (port n : Nat) : M Word := do
  emit (.ioRead port n)
  draw 32

/-- IN (43_general_instructions.md R795). -/
def inBody (cur : Word) (port w : Nat) : M Unit := do
  checkPort cur port (w / 8)
  let v ← readPort port (w / 8)
  writeLoc w (accLoc w) (v.setWidth w)

/-- OUT (43_general_instructions.md R795). -/
def outBody (cur : Word) (port w : Nat) : M Unit := do
  checkPort cur port (w / 8)
  let v ← readLoc w (accLoc w)
  emit (.ioWrite port (w / 8) (v.setWidth 32))

/-- The port DX names. -/
def getPort : M Nat := do
  let s ← get
  pure (s.r16 .edx).toNat

/-- IN from port DX. -/
def inDx (cur : Word) (w : Nat) : M Unit := do
  let p ← getPort
  inBody cur p w

/-- OUT to port DX. -/
def outDx (cur : Word) (w : Nat) : M Unit := do
  let p ← getPort
  outBody cur p w

/-- The item a string instruction reads or writes; the APIC page has no string access (62_apic.md R944). -/
def strAccess (seg : SegReg) (off : Word) (n : Nat) (write : Bool) : M (List Span) := do
  let ps ← access seg off n n write
  if anyApic ps then stop .apicAccess else pure ps

/-- The source item, at eSI. -/
def strSource (w : Nat) : M (BitVec w) := do
  let s ← get
  let ps ← strAccess (s.segOr .ds) (s.aReg .esi) (w / 8) false
  let v ← readSpans ps
  pure (BitVec.ofNat w v)

/-- The destination item, at ES:eDI, for reading or writing. -/
def strDest (w : Nat) (write : Bool) : M Loc := do
  let s ← get
  let ps ← strAccess .es (s.aReg .edi) (w / 8) write
  pure (.mem ps)

/-- `RepString` (43_general_instructions.md R800), one iteration a step. `late`: breakpoint hits are reported one
iteration late (65_debug_perfmon.md R1117). -/
def repeated (testsZf late : Bool) (cur : Word) (iter : M Unit) : M Unit := do
  let s ← get
  match s.ins.rep with
  | none => iter
  | some p => do
    modify fun s => { s with tr := { s.tr with lateHits := late } }
    if s.aReg .ecx = 0 then pure ()
    else do
      iter
      modify fun s => s.addA .ecx (-1)
      let t ← get
      let ends := testsZf && (if p = .e then !t.flag fZF else t.flag fZF)
      whenM (!ends && t.aReg .ecx ≠ 0) (modify fun s =>
        { s with eip := cur, tr := { s.tr with repeats := true } })

/-- INS (43_general_instructions.md R796): the destination is tested before the port is read. -/
def insIter (cur : Word) (w : Nat) : M Unit := do
  let p ← getPort
  checkPort cur p (w / 8)
  let l ← strDest w true
  let v ← readPort p (w / 8)
  writeLoc w l (v.setWidth w)
  advance .edi (w / 8)

/-- OUTS (43_general_instructions.md R796). -/
def outsIter (cur : Word) (w : Nat) : M Unit := do
  let p ← getPort
  checkPort cur p (w / 8)
  let v ← strSource w
  emit (.ioWrite p (w / 8) (v.setWidth 32))
  advance .esi (w / 8)

/-- MOVS (43_general_instructions.md R801). -/
def movsIter (w : Nat) : M Unit := do
  let v ← strSource w
  let l ← strDest w true
  writeLoc w l v
  advance .esi (w / 8)
  advance .edi (w / 8)

/-- CMPS (43_general_instructions.md R802). -/
def cmpsIter (w : Nat) : M Unit := do
  let a ← strSource w
  let l ← strDest w false
  let b ← readLoc w l
  putArith (subFlags a b false).2
  advance .esi (w / 8)
  advance .edi (w / 8)

/-- SCAS (43_general_instructions.md R803). -/
def scasIter (w : Nat) : M Unit := do
  let l ← strDest w false
  let b ← readLoc w l
  let a ← readLoc w (accLoc w)
  putArith (subFlags a b false).2
  advance .edi (w / 8)

/-- LODS (43_general_instructions.md R804). -/
def lodsIter (w : Nat) : M Unit := do
  let v ← strSource w
  writeLoc w (accLoc w) v
  advance .esi (w / 8)

/-- STOS (43_general_instructions.md R805). -/
def stosIter (w : Nat) : M Unit := do
  let a ← readLoc w (accLoc w)
  let l ← strDest w true
  writeLoc w l a
  advance .edi (w / 8)

/-- A byte string instruction. -/
def strB (testsZf late : Bool) (cur : Word) (iter : Nat → M Unit) : M Unit := repeated testsZf late cur (iter 8)

/-- A word or doubleword string instruction. -/
def strV (testsZf late : Bool) (cur : Word) (iter : Nat → M Unit) : M Unit := do
  let w ← getW
  repeated testsZf late cur (iter w)

/-- IN or OUT of the word or doubleword accumulator. -/
def portV (io : Nat → M Unit) : M Unit := do
  let w ← getW
  io w

/-- INSB Yb,DX, 6C (43_general_instructions.md R796). -/
def execInsbYbDX (s : State) : Outcome State Fault Refusal :=
  instr false (strB false false s.eip (insIter s.eip)) s

/-- INSW_INSD Yv,DX, 6D (43_general_instructions.md R796). -/
def execInswInsdYvDX (s : State) : Outcome State Fault Refusal :=
  instr false (strV false false s.eip (insIter s.eip)) s

/-- OUTSB DX,Xb, 6E (43_general_instructions.md R796). -/
def execOutsbDXXb (s : State) : Outcome State Fault Refusal :=
  instr false (strB false false s.eip (outsIter s.eip)) s

/-- OUTSW_OUTSD DX,Xv, 6F (43_general_instructions.md R796). -/
def execOutswOutsdDXXv (s : State) : Outcome State Fault Refusal :=
  instr false (strV false false s.eip (outsIter s.eip)) s

/-- MOVSB Yb,Xb, A4 (43_general_instructions.md R801). -/
def execMovsbYbXb (s : State) : Outcome State Fault Refusal :=
  instr false (strB false true s.eip movsIter) s

/-- MOVSW_MOVSD Yv,Xv, A5 (43_general_instructions.md R801). -/
def execMovswMovsdYvXv (s : State) : Outcome State Fault Refusal :=
  instr false (strV false true s.eip movsIter) s

/-- CMPSB Xb,Yb, A6 (43_general_instructions.md R802). -/
def execCmpsbXbYb (s : State) : Outcome State Fault Refusal :=
  instr false (strB true false s.eip cmpsIter) s

/-- CMPSW_CMPSD Xv,Yv, A7 (43_general_instructions.md R802). -/
def execCmpswCmpsdXvYv (s : State) : Outcome State Fault Refusal :=
  instr false (strV true false s.eip cmpsIter) s

/-- STOSB Yb,AL, AA (43_general_instructions.md R805). -/
def execStosbYbAL (s : State) : Outcome State Fault Refusal :=
  instr false (strB false true s.eip stosIter) s

/-- STOSW_STOSD Yv,eAX, AB (43_general_instructions.md R805). -/
def execStoswStosdYveAX (s : State) : Outcome State Fault Refusal :=
  instr false (strV false true s.eip stosIter) s

/-- LODSB AL,Xb, AC (43_general_instructions.md R804). -/
def execLodsbALXb (s : State) : Outcome State Fault Refusal :=
  instr false (strB false false s.eip lodsIter) s

/-- LODSW_LODSD eAX,Xv, AD (43_general_instructions.md R804). -/
def execLodswLodsdeAXXv (s : State) : Outcome State Fault Refusal :=
  instr false (strV false false s.eip lodsIter) s

/-- SCASB AL,Yb, AE (43_general_instructions.md R803). -/
def execScasbALYb (s : State) : Outcome State Fault Refusal :=
  instr false (strB true false s.eip scasIter) s

/-- SCASW_SCASD eAX,Yv, AF (43_general_instructions.md R803). -/
def execScaswScasdeAXYv (s : State) : Outcome State Fault Refusal :=
  instr false (strV true false s.eip scasIter) s

/-- IN AL,Ib, E4 (43_general_instructions.md R795). -/
def execInALIb (imm : BitVec 8) (s : State) : Outcome State Fault Refusal :=
  instr false (inBody s.eip imm.toNat 8) s

/-- IN eAX,Ib, E5 (43_general_instructions.md R795). -/
def execIneAXIb (imm : BitVec 8) (s : State) : Outcome State Fault Refusal :=
  instr false (portV (inBody s.eip imm.toNat)) s

/-- OUT Ib,AL, E6 (43_general_instructions.md R795). -/
def execOutIbAL (imm : BitVec 8) (s : State) : Outcome State Fault Refusal :=
  instr false (outBody s.eip imm.toNat 8) s

/-- OUT Ib,eAX, E7 (43_general_instructions.md R795). -/
def execOutIbeAX (imm : BitVec 8) (s : State) : Outcome State Fault Refusal :=
  instr false (portV (outBody s.eip imm.toNat)) s

/-- IN AL,DX, EC (43_general_instructions.md R795). -/
def execInALDX (s : State) : Outcome State Fault Refusal :=
  instr false (inDx s.eip 8) s

/-- IN eAX,DX, ED (43_general_instructions.md R795). -/
def execIneAXDX (s : State) : Outcome State Fault Refusal :=
  instr false (portV (inDx s.eip)) s

/-- OUT DX,AL, EE (43_general_instructions.md R795). -/
def execOutDXAL (s : State) : Outcome State Fault Refusal :=
  instr false (outDx s.eip 8) s

/-- OUT DX,eAX, EF (43_general_instructions.md R795). -/
def execOutDXeAX (s : State) : Outcome State Fault Refusal :=
  instr false (portV (outDx s.eip)) s

end Sys2Proof.Machine
end

