-- ==== Sys2Proof/Machine/Control.lean ====
section
/-! DEFINITION. Control transfers (41_control_transfer.md), software interrupts and BOUND. -/
namespace Sys2Proof.Machine
open Host

/-- A target cut to the operand size (41_control_transfer.md R650). -/
def State.cutTarget (s : State) (t : Word) : Word := if s.o32 then t else t &&& 0xFFFF#32

/-- Write EIP as a taken branch (65_debug_perfmon.md R1131). -/
def jumpTo (t : Word) : M Unit := modify fun s => { s with eip := t, tr := { s.tr with branched := true } }

/-- The target of a near transfer, inside the code segment (41_control_transfer.md R650). -/
def nearTarget (t : Word) : M Word := do
  let s ← get
  let u := s.cutTarget t
  if u.toNat > s.seg.cs.limit.toNat then raiseGP0 else pure u

/-- `NearBranch` (41_control_transfer.md R650). -/
def nearBranch (t : Word) : M Unit := do
  let u ← nearTarget t
  jumpTo u

/-- A branch by a displacement (41_control_transfer.md R651). -/
def branchBy (disp : Word) : M Unit := do
  let s ← get
  nearBranch (s.eip + disp)

/-- JMP Ev (41_control_transfer.md R651). -/
def jmpEvBody (rm : Rm) : M Unit := do
  let w ← getW
  let v ← readRm w rm
  nearBranch (v.setWidth 32)

/-- Jcc (41_control_transfer.md R652). -/
def jccBody (c : Cond) (disp : Word) : M Unit := do
  let s ← get
  whenM (s.cond c) (branchBy disp)

/-- JCXZ and JECXZ (41_control_transfer.md R653). -/
def jcxzBody (disp : Word) : M Unit := do
  let s ← get
  whenM (decide (s.aReg .ecx = 0)) (branchBy disp)

/-- LOOP, LOOPE and LOOPNE (41_control_transfer.md R654): `zf` is the value of ZF that lets the loop go on. -/
def loopBody (zf : Option Bool) (disp : Word) : M Unit := do
  modify fun s => s.addA .ecx (-1)
  let s ← get
  let ok := match zf with
    | none => true
    | some z => s.flag fZF == z
  whenM (s.aReg .ecx ≠ 0 && ok) (branchBy disp)

/-- CALL near to a target (41_control_transfer.md R655). -/
def callNear (t : Word) : M Unit := do
  let s ← get
  let u ← nearTarget t
  push (bytes s.o32) s.eip.toNat
  jumpTo u

/-- CALL Jv. -/
def callBy (disp : Word) : M Unit := do
  let s ← get
  callNear (s.eip + disp)

/-- CALL Ev. -/
def callEvBody (rm : Rm) : M Unit := do
  let w ← getW
  let v ← readRm w rm
  callNear (v.setWidth 32)

/-- RET near (41_control_transfer.md R656). -/
def retNearBody (imm : Half) : M Unit := do
  let s ← get
  let n := bytes s.o32
  let t ← peek 0 n
  let u ← nearTarget (BitVec.ofNat 32 t)
  addSp (BitVec.ofNat 32 n + zx32 imm)
  jumpTo u

/-- `FarReal` (41_control_transfer.md R662). -/
def farReal (sel : Half) (off : Word) : M Unit := do
  let s ← get
  let t := s.cutTarget off
  if t.toNat > s.seg.cs.limit.toNat then raiseGP0
  else do
    putSeg .cs (if s.prot then Seg.v86 sel else s.seg.cs.real sel)
    jumpTo t

/-- The return frame of a far call at the same level, room for it tested first (41_control_transfer.md R661, R663). -/
def callFrame (n : Nat) : M Unit := do
  let s ← get
  if !s.seg.ss.room s.sp n 2 then raiseSS0
  else do
    push n s.seg.cs.sel.toNat
    push n s.eip.toNat

/-- Enter a code segment at the current level (41_control_transfer.md R663, R668). -/
def enterCode (sel : Half) (a : Word) (d : Desc) (off : Word) : M Unit := do
  setDescAccessed a d
  let s ← get
  putSeg .cs (Seg.code sel d s.cpl)
  jumpTo off

/-- Record the data breakpoints met by items pushed below `t` (65_debug_perfmon.md R1113). -/
def hitsBelow (r : Seg) (n : Nat) : Word → List Nat → M Unit
  | _, [] => pure ()
  | t, _ :: vs => do
    let t1 := r.cutSp (t - BitVec.ofNat 32 n)
    noteHits (fun d => d.dataHits (r.base + t1).toNat n true)
    hitsBelow r n t1 vs

/-- The parameters of a call through a gate, in the caller's order (41_control_transfer.md R669). -/
def gateParams (w : Nat) : Nat → Nat → M (List Nat)
  | _, 0 => pure []
  | k, c + 1 => do
    let p ← peek (k * w) w
    let ps ← gateParams w (k + 1) c
    pure (p :: ps)

/-- CALL through a gate to an inner level (41_control_transfer.md R669). Every place written to is found before anything is
written. -/
def callInner (w : Nat) (count : Nat) (csel : Half) (a : Word) (d : Desc) (off : Word) : M Unit := do
  let s ← get
  let n := descDpl d
  let (sel, sa, sd, esp) ← innerStack n
  let ss := Seg.ofDesc sel sd
  let t := ss.cutSp esp
  if !ss.room t w (4 + count) then raiseSS sel
  else if off.toNat > (descLimit d).toNat then raiseGP0
  else do
    let ps ← gateParams w 0 count
    let items := [s.seg.ss.sel.toNat, s.gpr.esp.toNat] ++ ps.reverse ++ [s.seg.cs.sel.toNat, s.eip.toNat]
    let sp ← accessedSpan sa sd
    let places ← pushSpans ss false sel w t items
    let cp ← accessedSpan a d
    markAccessed sp
    storeItems w places
    markAccessed cp
    hitsBelow ss w t items
    modify fun s =>
      { s with cpl := n, gpr := { s.gpr with esp := ss.withSp s.gpr.esp (ss.below t w items.length) },
               seg := { s.seg with cs := Seg.code csel d n, ss := ss } }
    jumpTo off

/-- `ThroughCallGate` (41_control_transfer.md R667, R668). -/
def throughGate (call : Bool) (gsel : Half) (g : Desc) : M Unit := do
  let s ← get
  let wide := bit (descType g) 3
  let csel := gateSel g
  let off : Word := if wide then (field g 48 16 ++ field g 0 16 : BitVec 32) else zx32 (field g 0 16)
  if descDpl g < s.cpl || descDpl g < rpl gsel then raiseGP gsel
  else if !descP g then raiseNP gsel
  else if isNull csel then raiseGP0
  else do
    let (a, d) ← needDesc 13 csel
    if !descCode d then raiseGP csel
    else if descDpl d > s.cpl then raiseGP csel
    else if !call && !descConforming d && descDpl d ≠ s.cpl then raiseGP csel
    else if !descP d then raiseNP csel
    else
      let w := bytes wide
      if call && !descConforming d && descDpl d < s.cpl then
        callInner w (field g 32 5).toNat csel a d off
      else if off.toNat > (descLimit d).toNat then raiseGP0
      else do
        whenM call (callFrame w)
        enterCode csel a d off

/-- The privilege test of a direct far transfer (41_control_transfer.md R663). -/
def farPrivilegeBad (sel : Half) (d : Desc) (cpl : BitVec 2) : Bool :=
  if descConforming d then descDpl d > cpl else descDpl d ≠ cpl || rpl sel > cpl

/-- `LoadCSDirect` (41_control_transfer.md R663). -/
def loadCsDirect (call : Bool) (sel : Half) (off0 : Word) : M Unit := do
  let s ← get
  if isNull sel then raiseGP0
  else do
    let (a, d) ← needDesc 13 sel
    let ty := (descType d).toNat
    let off := s.cutTarget off0
    if !descS d then
      if ty = 4 ∨ ty = 12 then throughGate call sel d
      else if ty = 5 ∨ ty = 1 ∨ ty = 9 ∨ ty = 3 ∨ ty = 11 then farTask (if call then .call else .jmp) sel d
      else raiseGP sel
    else if !descCode d then raiseGP sel
    else if farPrivilegeBad sel d s.cpl then raiseGP sel
    else if !descP d then raiseNP sel
    else if off.toNat > (descLimit d).toNat then raiseGP0
    else do
      whenM call (callFrame (bytes s.o32))
      enterCode sel a d off

/-- Far JMP and CALL (41_control_transfer.md R664, R665). -/
def farTransfer (call : Bool) (sel : Half) (off : Word) : M Unit := do
  let s ← get
  if s.mode8086 then do
    whenM call (do
      push (bytes s.o32) s.seg.cs.sel.toNat
      push (bytes s.o32) s.eip.toNat)
    farReal sel off
  else loadCsDirect call sel off

/-- Far JMP and CALL through a pointer in memory (41_control_transfer.md R660). -/
def farThrough (call : Bool) (m : Ea) : M Unit := do
  let s ← get
  let n := bytes s.o32
  let off ← readEa m 0 n n
  let sel ← readEa m (BitVec.ofNat 32 n) 2 2
  farTransfer call (BitVec.ofNat 16 sel) (BitVec.ofNat 32 off)

/-- Far RET (41_control_transfer.md R670, R671). -/
def retFarBody (imm : Half) : M Unit := do
  let s ← get
  let n := bytes s.o32
  let offN ← peek 0 n
  let selN ← peek n n
  let off := s.cutTarget (BitVec.ofNat 32 offN)
  let sel := BitVec.ofNat 16 selN
  let up := BitVec.ofNat 32 (2 * n) + zx32 imm
  if s.mode8086 then do
    farReal sel off
    addSp up
  else do
    let (a, d) ← returnTarget sel off
    if rpl sel = s.cpl then do
      setDescAccessed a d
      putSeg .cs (Seg.ofDesc sel d)
      addSp up
      jumpTo off
    else do
      let newESP ← peek (2 * n + imm.toNat) n
      let newSS ← peek (3 * n + imm.toNat) n
      enterOuter s.o32 sel off a d (BitVec.ofNat 16 newSS) (BitVec.ofNat 32 newESP) (zx32 imm)
      jumpTo off

/-- `RedirBit` (67_8086_emulation.md R1245). With a 16-bit TSS its pseudocode raises #GP(0), while the decision it names for that
has all bits of the missing map taken as 1 (92_eei_decisions.md D56): a free choice (log 50, DESIGN CHOICE). -/
def redirBit (n : Nat) : M Bool := do
  let s ← get
  let tr := s.sys.tr
  if !tr.tss32 then do
    let ones ← drawBool
    if ones then pure true else raiseGP0
  else if tr.limit.toNat < 103 then raiseGP0
  else do
    let base ← sysRead (tr.base + 102) 2
    if base < 32 then stop .redirectionMap
    else
      let o := base - 32 + n / 8
      if o > tr.limit.toNat then raiseGP0
      else do
        let b ← sysRead (tr.base + BitVec.ofNat 32 o) 1
        pure (b.testBit (n % 8))

/-- `Redirect` (67_8086_emulation.md R1261). `cur` is the offset of the instruction. With TF and BTF set it is followed by
a single-step trap, as a delivery is (65_debug_perfmon.md R1132). -/
def redirect (cur : Word) (n : Nat) : M Unit := do
  let s ← get
  let high := s.iopl = 3
  let f0 := setBit (field s.eflags 0 16 : Half) fNT false
  let img : Half := if high then f0 &&& 0xCFFF#16 else setBit (f0 ||| 0x3000#16) 9 (s.flag fVIF)
  let ps ← linearSpans (BitVec.ofNat 32 (4 * n)) 4 false true
  let entry ← readSpans ps
  let t := s.seg.ss.cutSp (s.sp - 6)
  if !s.seg.ss.inLimit t 6 then raiseSS0
  else do
    pushAll 2 [img.toNat, s.seg.cs.sel.toNat, s.eip.toNat]
    putFlag (if high then fIF else fVIF) false
    putFlag fTF false
    putSeg .cs (Seg.v86 (BitVec.ofNat 16 (entry / 0x10000)))
    modify fun t => { t with eip := BitVec.ofNat 32 (entry % 0x10000), tr := { t.tr with noStep := true },
                             noReturn := t.marksAfter s.seg.cs.sel s.eip s.sys.cr3 }
    let t ← get
    recordBranch true cur t.eip
    whenM (s.flag fTF && bit s.msr.debugCtl 1) (modify fun s => { s with dbg := { s.dbg with pendS := true } })

/-- INT n in virtual-8086 mode (67_8086_emulation.md R1260). -/
def intV86 (cur : Word) (n : Nat) : M Unit := do
  let s ← get
  if !bit s.sys.cr4 0 then
    if s.iopl = 3 then softInt cur n else raiseGP0
  else do
    let b ← redirBit n
    if !b then redirect cur n
    else if s.iopl = 3 then softInt cur n
    else raiseGP0

/-- INT n (60_exceptions.md R856). -/
def intBody (cur : Word) (n : Nat) : M Unit := do
  let s ← get
  if s.v86 then intV86 cur n else softInt cur n

/-- INTO (60_exceptions.md R856). -/
def intoBody (cur : Word) : M Unit := do
  let s ← get
  whenM (s.flag fOF) (softInt cur 4)

/-- IRET and IRETD (60_exceptions.md R862). -/
def iretBody : M Unit := do
  let o ← getO32
  iret o

/-- BOUND (43_general_instructions.md R816). -/
def boundBody (r : Reg) (m : Ea) : M Unit := do
  let w ← getW
  let lo ← readEa m 0 (w / 8) (w / 8)
  let hi ← readEa m (BitVec.ofNat 32 (w / 8)) (w / 8) (w / 8)
  let i ← readG w r
  if i.slt (BitVec.ofNat w lo) || (BitVec.ofNat w hi).slt i then raiseBR else pure ()

/-- BOUND Gv,Ma, 62 (43_general_instructions.md R816). -/
def execBoundGvMa (r : Reg) (m : Ea) (s : State) : Outcome State Fault Refusal :=
  instr false (boundBody r m) s

/-- Jcc Jb, 70 (41_control_transfer.md R652). -/
def execJccJb (c : Cond) (disp : BitVec 8) (s : State) : Outcome State Fault Refusal :=
  instr false (jccBody c (disp.signExtend 32)) s

/-- CALL Ap, 9A (41_control_transfer.md R665). -/
def execCallAp (off : BitVec 32) (sel : BitVec 16) (s : State) : Outcome State Fault Refusal :=
  instr false (farTransfer true sel off) s

/-- RET__near Iw, C2 (41_control_transfer.md R656). -/
def execRetNearIw (imm : BitVec 16) (s : State) : Outcome State Fault Refusal :=
  instr false (retNearBody imm) s

/-- RET__near , C3 (41_control_transfer.md R656). -/
def execRetNear (s : State) : Outcome State Fault Refusal :=
  instr false (retNearBody 0) s

/-- RET__far Iw, CA (41_control_transfer.md R670). -/
def execRetFarIw (imm : BitVec 16) (s : State) : Outcome State Fault Refusal :=
  instr false (retFarBody imm) s

/-- RET__far , CB (41_control_transfer.md R670). -/
def execRetFar (s : State) : Outcome State Fault Refusal :=
  instr false (retFarBody 0) s

/-- INT_3 , CC (60_exceptions.md R856). -/
def execInt3 (s : State) : Outcome State Fault Refusal :=
  instr false (softInt s.eip 3) s

/-- INT Ib, CD (60_exceptions.md R856). -/
def execIntIb (imm : BitVec 8) (s : State) : Outcome State Fault Refusal :=
  instr false (intBody s.eip imm.toNat) s

/-- INTO , CE (60_exceptions.md R856). -/
def execInto (s : State) : Outcome State Fault Refusal :=
  instr false (intoBody s.eip) s

/-- IRET_IRETD , CF (60_exceptions.md R862). -/
def execIretIretd (s : State) : Outcome State Fault Refusal :=
  instr false iretBody s

/-- LOOPNE_LOOPNZ Jb, E0 (41_control_transfer.md R654). -/
def execLoopneLoopnzJb (disp : BitVec 8) (s : State) : Outcome State Fault Refusal :=
  instr false (loopBody (some false) (disp.signExtend 32)) s

/-- LOOPE_LOOPZ Jb, E1 (41_control_transfer.md R654). -/
def execLoopeLoopzJb (disp : BitVec 8) (s : State) : Outcome State Fault Refusal :=
  instr false (loopBody (some true) (disp.signExtend 32)) s

/-- LOOP Jb, E2 (41_control_transfer.md R654). -/
def execLoopJb (disp : BitVec 8) (s : State) : Outcome State Fault Refusal :=
  instr false (loopBody none (disp.signExtend 32)) s

/-- JCXZ_JECXZ Jb, E3 (41_control_transfer.md R653). -/
def execJcxzJecxzJb (disp : BitVec 8) (s : State) : Outcome State Fault Refusal :=
  instr false (jcxzBody (disp.signExtend 32)) s

/-- CALL Jv, E8 (41_control_transfer.md R655). -/
def execCallJv (disp : BitVec 32) (s : State) : Outcome State Fault Refusal :=
  instr false (callBy disp) s

/-- JMP Jv, E9 (41_control_transfer.md R651). -/
def execJmpJv (disp : BitVec 32) (s : State) : Outcome State Fault Refusal :=
  instr false (branchBy disp) s

/-- JMP Ap, EA (41_control_transfer.md R664). -/
def execJmpAp (off : BitVec 32) (sel : BitVec 16) (s : State) : Outcome State Fault Refusal :=
  instr false (farTransfer false sel off) s

/-- JMP Jb, EB (41_control_transfer.md R651). -/
def execJmpJb (disp : BitVec 8) (s : State) : Outcome State Fault Refusal :=
  instr false (branchBy (disp.signExtend 32)) s

/-- CALL Ev, FF10 (41_control_transfer.md R655). -/
def execCallEv (rm : Rm) (s : State) : Outcome State Fault Refusal :=
  instr false (callEvBody rm) s

/-- CALL Ep, FF18 (41_control_transfer.md R665). -/
def execCallEp (m : Ea) (s : State) : Outcome State Fault Refusal :=
  instr false (farThrough true m) s

/-- JMP Ev, FF20 (41_control_transfer.md R651). -/
def execJmpEv (rm : Rm) (s : State) : Outcome State Fault Refusal :=
  instr false (jmpEvBody rm) s

/-- JMP Ep, FF28 (41_control_transfer.md R664). -/
def execJmpEp (m : Ea) (s : State) : Outcome State Fault Refusal :=
  instr false (farThrough false m) s

/-- Jcc Jv, 0F80 (41_control_transfer.md R652). -/
def execJccJv (c : Cond) (disp : BitVec 32) (s : State) : Outcome State Fault Refusal :=
  instr false (jccBody c disp) s

end Sys2Proof.Machine
end

