-- ==== Sys2Proof/Machine/Fpu.lean ====
section
/-! DEFINITION. The floating-point escape instructions and WAIT (43_general_instructions.md section 9). What an
instruction computes is FPU_MODEL's, a constant without a body (log 7). -/
namespace Sys2Proof.Machine
open Host

/-- ES, the error summary: an unmasked error is pending (43_general_instructions.md R811, log 8). -/
def fpuPending (f : Fpu) : Bool := bit f.sw 7

/-- A waiting instruction with a pending error (43_general_instructions.md R811): #MF, or the error is ignored, or the
processor stops before the instruction with FERR# asserted until an interrupt comes. The inhibit of an SS load and the shadow
of STI end with the first stop, or the interrupt could not come; the rules do not say so (log 53, DESIGN CHOICE). -/
def pendingError (cur : Word) (body : M Unit) : M Unit := do
  let s ← get
  if bit s.sys.cr0 5 then raiseMF
  else if s.lat.ignne then body
  else modify fun s =>
    { s with eip := cur, lat := { s.lat with ferr := true }, tr := { s.tr with keepRf := true, noStep := true } }

/-- A floating-point instruction that does not wait: the test of CR0 (43_general_instructions.md R810). -/
def escNoWait (body : M Unit) : M Unit := do
  let s ← get
  if bit s.sys.cr0 2 || bit s.sys.cr0 3 then raiseNM else body

/-- A waiting floating-point instruction: the test of CR0, then of a pending error (43_general_instructions.md R810, R811). -/
def esc (cur : Word) (body : M Unit) : M Unit := escNoWait (do
  let s ← get
  if fpuPending s.fpu then pendingError cur body else body)

/-- WAIT (43_general_instructions.md R810, R811). -/
def waitBody (cur : Word) : M Unit := do
  let s ← get
  if bit s.sys.cr0 1 && bit s.sys.cr0 3 then raiseNM
  else if fpuPending s.fpu then pendingError cur (pure ())
  else pure ()

/-- Write the FPU state; FERR# is released with the error. -/
def putFpu (f : Fpu) : M Unit :=
  modify fun s => { s with fpu := f, lat := { s.lat with ferr := s.lat.ferr && fpuPending f } }

/-- The FPU instruction pointer after an instruction that is not a control instruction (43_general_instructions.md R811). -/
def withIp (old : Fpu) (cs : Half) (cur : Word) (f : Fpu) : Fpu :=
  { f with ipSel := cs, ip := cur, dpSel := old.dpSel, dp := old.dp }

/-- The FPU data pointer after an instruction with a memory operand. -/
def withDp (sel : Half) (off : Word) (f : Fpu) : Fpu := { f with dpSel := sel, dp := off }

/-- An instruction on the register stack; `x` is its operand other than the FPU state. -/
def fpuReg (cur : Word) (op x : Nat) : M Unit := esc cur (do
  let s ← get
  putFpu (withIp s.fpu s.seg.cs.sel cur (Config.fpuRun op s.o32 x s.fpu)))

/-- An instruction that reads `n` bytes of memory. -/
def fpuLoad (cur : Word) (op : Nat) (m : Ea) (n align : Nat) : M Unit := esc cur (do
  let s ← get
  let v ← readEa m 0 n align
  putFpu (withDp (s.seg.get (eaSeg s m)).sel (eaOffset s m)
    (withIp s.fpu s.seg.cs.sel cur (Config.fpuRun op s.o32 v s.fpu))))

/-- An instruction that writes `n` bytes of memory. -/
def fpuStoreTo (cur : Word) (op : Nat) (m : Ea) (n align : Nat) : M Unit := esc cur (do
  let s ← get
  writeEa m 0 n align (Config.fpuStore op s.o32 s.fpu)
  putFpu (withDp (s.seg.get (eaSeg s m)).sel (eaOffset s m)
    (withIp s.fpu s.seg.cs.sel cur (Config.fpuRun op s.o32 0 s.fpu))))

/-- The size of an environment or of a state image by operand size (31_opcode_map.md R546, 10_state.md R78, 64_smm.md R1083, log 24). -/
def imageSize (o32 : Bool) (narrow wide : Nat) : Nat := if o32 then wide else narrow

/-- FLDENV and FRSTOR: an image is loaded (43_general_instructions.md R812). -/
def fpuLoadImage (cur : Word) (op : Nat) (m : Ea) (narrow wide : Nat) : M Unit := esc cur (do
  let s ← get
  let v ← readEa m 0 (imageSize s.o32 narrow wide) (bytes s.o32)
  putFpu (Config.fpuRun op s.o32 v s.fpu))

/-- FNSTENV and FNSAVE: an image is stored (43_general_instructions.md R812). -/
def fpuStoreImage (op : Nat) (m : Ea) (narrow wide : Nat) : M Unit := escNoWait (do
  let s ← get
  writeEa m 0 (imageSize s.o32 narrow wide) (bytes s.o32) (Config.fpuStore op s.o32 s.fpu)
  putFpu (Config.fpuRun op s.o32 0 s.fpu))

/-- The status word with ES and B telling whether an unmasked error is recorded (log 8). -/
def fpuSummed (f : Fpu) : Fpu :=
  let e := decide (field f.sw 0 6 &&& ~~~(field f.cw 0 6) ≠ (0 : BitVec 6))
  { f with sw := setBit (setBit f.sw 7 e) 15 e }

/-- FLDCW (43_general_instructions.md R811, log 8). -/
def fldcwBody (cur : Word) (m : Ea) : M Unit := esc cur (do
  let v ← readEa m 0 2 2
  let s ← get
  putFpu (fpuSummed { s.fpu with cw := BitVec.ofNat 16 v }))

/-- FNSTCW (43_general_instructions.md R811). -/
def fnstcwBody (m : Ea) : M Unit := escNoWait (do
  let s ← get
  writeEa m 0 2 2 s.fpu.cw.toNat)

/-- FNSTSW to memory (43_general_instructions.md R811). -/
def fnstswBody (m : Ea) : M Unit := escNoWait (do
  let s ← get
  writeEa m 0 2 2 s.fpu.sw.toNat)

/-- FNSTSW AX (43_general_instructions.md R811). -/
def fnstswAxBody : M Unit := escNoWait (do
  let s ← get
  putR16 .eax s.fpu.sw)

/-- FNINIT (10_state.md R79). -/
def fninitBody : M Unit := escNoWait (do
  let s ← get
  putFpu { s.fpu with cw := 0x037F#16, sw := 0, tw := 0xFFFF#16, ipSel := 0, ip := 0, dpSel := 0, dp := 0 })

/-- FNCLEX (43_general_instructions.md R811): what it leaves is FPU_MODEL's. -/
def fnclexBody (op : Nat) : M Unit := escNoWait (do
  let s ← get
  putFpu (Config.fpuRun op s.o32 0 s.fpu))

/-- FCMOVcc: the condition is an operand of FPU_MODEL (44_integer_reference.md R1445). -/
def fcmovBody (cur : Word) (op : Nat) (c : Cond) : M Unit := do
  let s ← get
  fpuReg cur op (ofBool (s.cond c))

/-- FCOMI, FCOMIP, FUCOMI and FUCOMIP: ZF, PF and CF are FPU_MODEL's; OF, SF and AF are free values (log 16). -/
def fcomiBody (cur : Word) (op : Nat) : M Unit := esc cur (do
  let s ← get
  let c := Config.fpuCompare op s.fpu
  let f ← draw 32
  putFlagsMasked arithMask (setBit (setBit (setBit f fZF (bit c 2)) fPF (bit c 1)) fCF (bit c 0))
  putFpu (withIp s.fpu s.seg.cs.sel cur (Config.fpuRun op s.o32 0 s.fpu)))

/-- WAIT_FWAIT , 9B (43_general_instructions.md R810). -/
def execWaitFwait (s : State) : Outcome State Fault Refusal :=
  instr false (waitBody s.eip) s

/-- FADD single-real (4 bytes), D800 (43_general_instructions.md R810). -/
def execFaddM32 (m : Ea) (s : State) : Outcome State Fault Refusal :=
  instr false (fpuLoad s.eip 328 m 4 4) s

/-- FMUL single-real (4 bytes), D808 (43_general_instructions.md R810). -/
def execFmulM32 (m : Ea) (s : State) : Outcome State Fault Refusal :=
  instr false (fpuLoad s.eip 329 m 4 4) s

/-- FCOM single-real (4 bytes), D810 (43_general_instructions.md R810). -/
def execFcomM32 (m : Ea) (s : State) : Outcome State Fault Refusal :=
  instr false (fpuLoad s.eip 330 m 4 4) s

/-- FCOMP single-real (4 bytes), D818 (43_general_instructions.md R810). -/
def execFcompM32 (m : Ea) (s : State) : Outcome State Fault Refusal :=
  instr false (fpuLoad s.eip 331 m 4 4) s

/-- FSUB single-real (4 bytes), D820 (43_general_instructions.md R810). -/
def execFsubM32 (m : Ea) (s : State) : Outcome State Fault Refusal :=
  instr false (fpuLoad s.eip 332 m 4 4) s

/-- FSUBR single-real (4 bytes), D828 (43_general_instructions.md R810). -/
def execFsubrM32 (m : Ea) (s : State) : Outcome State Fault Refusal :=
  instr false (fpuLoad s.eip 333 m 4 4) s

/-- FDIV single-real (4 bytes), D830 (43_general_instructions.md R810). -/
def execFdivM32 (m : Ea) (s : State) : Outcome State Fault Refusal :=
  instr false (fpuLoad s.eip 334 m 4 4) s

/-- FDIVR single-real (4 bytes), D838 (43_general_instructions.md R810). -/
def execFdivrM32 (m : Ea) (s : State) : Outcome State Fault Refusal :=
  instr false (fpuLoad s.eip 335 m 4 4) s

/-- FLD single-real (4 bytes), D900 (43_general_instructions.md R810). -/
def execFldM32 (m : Ea) (s : State) : Outcome State Fault Refusal :=
  instr false (fpuLoad s.eip 336 m 4 4) s

/-- FST single-real (4 bytes), D910 (43_general_instructions.md R810). -/
def execFstM32 (m : Ea) (s : State) : Outcome State Fault Refusal :=
  instr false (fpuStoreTo s.eip 337 m 4 4) s

/-- FSTP single-real (4 bytes), D918 (43_general_instructions.md R810). -/
def execFstpM32 (m : Ea) (s : State) : Outcome State Fault Refusal :=
  instr false (fpuStoreTo s.eip 338 m 4 4) s

/-- FLDENV 14 or 28 bytes, D920 (43_general_instructions.md R810). -/
def execFldenv (m : Ea) (s : State) : Outcome State Fault Refusal :=
  instr false (fpuLoadImage s.eip 339 m 14 28) s

/-- FLDCW 2 bytes, D928 (43_general_instructions.md R810). -/
def execFldcw (m : Ea) (s : State) : Outcome State Fault Refusal :=
  instr false (fldcwBody s.eip m) s

/-- FSTENV__FNSTENV 14 or 28 bytes, D930 (43_general_instructions.md R810). -/
def execFstenvFnstenv (m : Ea) (s : State) : Outcome State Fault Refusal :=
  instr false (fpuStoreImage 341 m 14 28) s

/-- FSTCW__FNSTCW 2 bytes, D938 (43_general_instructions.md R810). -/
def execFstcwFnstcw (m : Ea) (s : State) : Outcome State Fault Refusal :=
  instr false (fnstcwBody m) s

/-- FIADD short-int (4 bytes), DA00 (43_general_instructions.md R810). -/
def execFiaddI32 (m : Ea) (s : State) : Outcome State Fault Refusal :=
  instr false (fpuLoad s.eip 343 m 4 4) s

/-- FIMUL short-int (4 bytes), DA08 (43_general_instructions.md R810). -/
def execFimulI32 (m : Ea) (s : State) : Outcome State Fault Refusal :=
  instr false (fpuLoad s.eip 344 m 4 4) s

/-- FICOM short-int (4 bytes), DA10 (43_general_instructions.md R810). -/
def execFicomI32 (m : Ea) (s : State) : Outcome State Fault Refusal :=
  instr false (fpuLoad s.eip 345 m 4 4) s

/-- FICOMP short-int (4 bytes), DA18 (43_general_instructions.md R810). -/
def execFicompI32 (m : Ea) (s : State) : Outcome State Fault Refusal :=
  instr false (fpuLoad s.eip 346 m 4 4) s

/-- FISUB short-int (4 bytes), DA20 (43_general_instructions.md R810). -/
def execFisubI32 (m : Ea) (s : State) : Outcome State Fault Refusal :=
  instr false (fpuLoad s.eip 347 m 4 4) s

/-- FISUBR short-int (4 bytes), DA28 (43_general_instructions.md R810). -/
def execFisubrI32 (m : Ea) (s : State) : Outcome State Fault Refusal :=
  instr false (fpuLoad s.eip 348 m 4 4) s

/-- FIDIV short-int (4 bytes), DA30 (43_general_instructions.md R810). -/
def execFidivI32 (m : Ea) (s : State) : Outcome State Fault Refusal :=
  instr false (fpuLoad s.eip 349 m 4 4) s

/-- FIDIVR short-int (4 bytes), DA38 (43_general_instructions.md R810). -/
def execFidivrI32 (m : Ea) (s : State) : Outcome State Fault Refusal :=
  instr false (fpuLoad s.eip 350 m 4 4) s

/-- FILD short-int (4 bytes), DB00 (43_general_instructions.md R810). -/
def execFildI32 (m : Ea) (s : State) : Outcome State Fault Refusal :=
  instr false (fpuLoad s.eip 351 m 4 4) s

/-- FIST short-int (4 bytes), DB10 (43_general_instructions.md R810). -/
def execFistI32 (m : Ea) (s : State) : Outcome State Fault Refusal :=
  instr false (fpuStoreTo s.eip 352 m 4 4) s

/-- FISTP short-int (4 bytes), DB18 (43_general_instructions.md R810). -/
def execFistpI32 (m : Ea) (s : State) : Outcome State Fault Refusal :=
  instr false (fpuStoreTo s.eip 353 m 4 4) s

/-- FLD ext-real (10 bytes), DB28 (43_general_instructions.md R810). -/
def execFldM80 (m : Ea) (s : State) : Outcome State Fault Refusal :=
  instr false (fpuLoad s.eip 354 m 10 8) s

/-- FSTP ext-real (10 bytes), DB38 (43_general_instructions.md R810). -/
def execFstpM80 (m : Ea) (s : State) : Outcome State Fault Refusal :=
  instr false (fpuStoreTo s.eip 355 m 10 8) s

/-- FADD double-real (8 bytes), DC00 (43_general_instructions.md R810). -/
def execFaddM64 (m : Ea) (s : State) : Outcome State Fault Refusal :=
  instr false (fpuLoad s.eip 356 m 8 8) s

/-- FMUL double-real (8 bytes), DC08 (43_general_instructions.md R810). -/
def execFmulM64 (m : Ea) (s : State) : Outcome State Fault Refusal :=
  instr false (fpuLoad s.eip 357 m 8 8) s

/-- FCOM double-real (8 bytes), DC10 (43_general_instructions.md R810). -/
def execFcomM64 (m : Ea) (s : State) : Outcome State Fault Refusal :=
  instr false (fpuLoad s.eip 358 m 8 8) s

/-- FCOMP double-real (8 bytes), DC18 (43_general_instructions.md R810). -/
def execFcompM64 (m : Ea) (s : State) : Outcome State Fault Refusal :=
  instr false (fpuLoad s.eip 359 m 8 8) s

/-- FSUB double-real (8 bytes), DC20 (43_general_instructions.md R810). -/
def execFsubM64 (m : Ea) (s : State) : Outcome State Fault Refusal :=
  instr false (fpuLoad s.eip 360 m 8 8) s

/-- FSUBR double-real (8 bytes), DC28 (43_general_instructions.md R810). -/
def execFsubrM64 (m : Ea) (s : State) : Outcome State Fault Refusal :=
  instr false (fpuLoad s.eip 361 m 8 8) s

/-- FDIV double-real (8 bytes), DC30 (43_general_instructions.md R810). -/
def execFdivM64 (m : Ea) (s : State) : Outcome State Fault Refusal :=
  instr false (fpuLoad s.eip 362 m 8 8) s

/-- FDIVR double-real (8 bytes), DC38 (43_general_instructions.md R810). -/
def execFdivrM64 (m : Ea) (s : State) : Outcome State Fault Refusal :=
  instr false (fpuLoad s.eip 363 m 8 8) s

/-- FLD double-real (8 bytes), DD00 (43_general_instructions.md R810). -/
def execFldM64 (m : Ea) (s : State) : Outcome State Fault Refusal :=
  instr false (fpuLoad s.eip 364 m 8 8) s

/-- FST double-real (8 bytes), DD10 (43_general_instructions.md R810). -/
def execFstM64 (m : Ea) (s : State) : Outcome State Fault Refusal :=
  instr false (fpuStoreTo s.eip 365 m 8 8) s

/-- FSTP double-real (8 bytes), DD18 (43_general_instructions.md R810). -/
def execFstpM64 (m : Ea) (s : State) : Outcome State Fault Refusal :=
  instr false (fpuStoreTo s.eip 366 m 8 8) s

/-- FRSTOR 94 or 108 bytes, DD20 (43_general_instructions.md R810). -/
def execFrstor (m : Ea) (s : State) : Outcome State Fault Refusal :=
  instr false (fpuLoadImage s.eip 367 m 94 108) s

/-- FSAVE__FNSAVE 94 or 108 bytes, DD30 (43_general_instructions.md R810). -/
def execFsaveFnsave (m : Ea) (s : State) : Outcome State Fault Refusal :=
  instr false (fpuStoreImage 368 m 94 108) s

/-- FSTSW__FNSTSW 2 bytes, DD38 (43_general_instructions.md R810). -/
def execFstswFnstsw (m : Ea) (s : State) : Outcome State Fault Refusal :=
  instr false (fnstswBody m) s

/-- FIADD word-int (2 bytes), DE00 (43_general_instructions.md R810). -/
def execFiaddI16 (m : Ea) (s : State) : Outcome State Fault Refusal :=
  instr false (fpuLoad s.eip 370 m 2 2) s

/-- FIMUL word-int (2 bytes), DE08 (43_general_instructions.md R810). -/
def execFimulI16 (m : Ea) (s : State) : Outcome State Fault Refusal :=
  instr false (fpuLoad s.eip 371 m 2 2) s

/-- FICOM word-int (2 bytes), DE10 (43_general_instructions.md R810). -/
def execFicomI16 (m : Ea) (s : State) : Outcome State Fault Refusal :=
  instr false (fpuLoad s.eip 372 m 2 2) s

/-- FICOMP word-int (2 bytes), DE18 (43_general_instructions.md R810). -/
def execFicompI16 (m : Ea) (s : State) : Outcome State Fault Refusal :=
  instr false (fpuLoad s.eip 373 m 2 2) s

/-- FISUB word-int (2 bytes), DE20 (43_general_instructions.md R810). -/
def execFisubI16 (m : Ea) (s : State) : Outcome State Fault Refusal :=
  instr false (fpuLoad s.eip 374 m 2 2) s

/-- FISUBR word-int (2 bytes), DE28 (43_general_instructions.md R810). -/
def execFisubrI16 (m : Ea) (s : State) : Outcome State Fault Refusal :=
  instr false (fpuLoad s.eip 375 m 2 2) s

/-- FIDIV word-int (2 bytes), DE30 (43_general_instructions.md R810). -/
def execFidivI16 (m : Ea) (s : State) : Outcome State Fault Refusal :=
  instr false (fpuLoad s.eip 376 m 2 2) s

/-- FIDIVR word-int (2 bytes), DE38 (43_general_instructions.md R810). -/
def execFidivrI16 (m : Ea) (s : State) : Outcome State Fault Refusal :=
  instr false (fpuLoad s.eip 377 m 2 2) s

/-- FILD word-int (2 bytes), DF00 (43_general_instructions.md R810). -/
def execFildI16 (m : Ea) (s : State) : Outcome State Fault Refusal :=
  instr false (fpuLoad s.eip 378 m 2 2) s

/-- FIST word-int (2 bytes), DF10 (43_general_instructions.md R810). -/
def execFistI16 (m : Ea) (s : State) : Outcome State Fault Refusal :=
  instr false (fpuStoreTo s.eip 379 m 2 2) s

/-- FISTP word-int (2 bytes), DF18 (43_general_instructions.md R810). -/
def execFistpI16 (m : Ea) (s : State) : Outcome State Fault Refusal :=
  instr false (fpuStoreTo s.eip 380 m 2 2) s

/-- FBLD packed-BCD (10 bytes), DF20 (43_general_instructions.md R810). -/
def execFbld (m : Ea) (s : State) : Outcome State Fault Refusal :=
  instr false (fpuLoad s.eip 381 m 10 8) s

/-- FILD long-int (8 bytes), DF28 (43_general_instructions.md R810). -/
def execFildI64 (m : Ea) (s : State) : Outcome State Fault Refusal :=
  instr false (fpuLoad s.eip 382 m 8 8) s

/-- FBSTP packed-BCD (10 bytes), DF30 (43_general_instructions.md R810). -/
def execFbstp (m : Ea) (s : State) : Outcome State Fault Refusal :=
  instr false (fpuStoreTo s.eip 383 m 10 8) s

/-- FISTP long-int (8 bytes), DF38 (43_general_instructions.md R810). -/
def execFistpI64 (m : Ea) (s : State) : Outcome State Fault Refusal :=
  instr false (fpuStoreTo s.eip 384 m 8 8) s

/-- FADD ST,ST(i), D8C0 (43_general_instructions.md R810). -/
def execFaddSTSTi (i : Fin 8) (s : State) : Outcome State Fault Refusal :=
  instr false (fpuReg s.eip (385 + 512 * i.val) 0) s

/-- FMUL ST,ST(i), D8C8 (43_general_instructions.md R810). -/
def execFmulSTSTi (i : Fin 8) (s : State) : Outcome State Fault Refusal :=
  instr false (fpuReg s.eip (386 + 512 * i.val) 0) s

/-- FCOM ST,ST(i), D8D0 (43_general_instructions.md R810). -/
def execFcomSTSTi (i : Fin 8) (s : State) : Outcome State Fault Refusal :=
  instr false (fpuReg s.eip (387 + 512 * i.val) 0) s

/-- FCOMP ST,ST(i), D8D8 (43_general_instructions.md R810). -/
def execFcompSTSTi (i : Fin 8) (s : State) : Outcome State Fault Refusal :=
  instr false (fpuReg s.eip (388 + 512 * i.val) 0) s

/-- FSUB ST,ST(i), D8E0 (43_general_instructions.md R810). -/
def execFsubSTSTi (i : Fin 8) (s : State) : Outcome State Fault Refusal :=
  instr false (fpuReg s.eip (389 + 512 * i.val) 0) s

/-- FSUBR ST,ST(i), D8E8 (43_general_instructions.md R810). -/
def execFsubrSTSTi (i : Fin 8) (s : State) : Outcome State Fault Refusal :=
  instr false (fpuReg s.eip (390 + 512 * i.val) 0) s

/-- FDIV ST,ST(i), D8F0 (43_general_instructions.md R810). -/
def execFdivSTSTi (i : Fin 8) (s : State) : Outcome State Fault Refusal :=
  instr false (fpuReg s.eip (391 + 512 * i.val) 0) s

/-- FDIVR ST,ST(i), D8F8 (43_general_instructions.md R810). -/
def execFdivrSTSTi (i : Fin 8) (s : State) : Outcome State Fault Refusal :=
  instr false (fpuReg s.eip (392 + 512 * i.val) 0) s

/-- FLD ST,ST(i), D9C0 (43_general_instructions.md R810). -/
def execFldSTSTi (i : Fin 8) (s : State) : Outcome State Fault Refusal :=
  instr false (fpuReg s.eip (393 + 512 * i.val) 0) s

/-- FXCH ST,ST(i), D9C8 (43_general_instructions.md R810). -/
def execFxchSTSTi (i : Fin 8) (s : State) : Outcome State Fault Refusal :=
  instr false (fpuReg s.eip (394 + 512 * i.val) 0) s

/-- FNOP , D9D0 (43_general_instructions.md R810). -/
def execFnop (s : State) : Outcome State Fault Refusal :=
  instr false (fpuReg s.eip 395 0) s

/-- FCHS , D9E0 (43_general_instructions.md R810). -/
def execFchs (s : State) : Outcome State Fault Refusal :=
  instr false (fpuReg s.eip 396 0) s

/-- FABS , D9E1 (43_general_instructions.md R810). -/
def execFabs (s : State) : Outcome State Fault Refusal :=
  instr false (fpuReg s.eip 397 0) s

/-- FTST , D9E4 (43_general_instructions.md R810). -/
def execFtst (s : State) : Outcome State Fault Refusal :=
  instr false (fpuReg s.eip 398 0) s

/-- FXAM , D9E5 (43_general_instructions.md R810). -/
def execFxam (s : State) : Outcome State Fault Refusal :=
  instr false (fpuReg s.eip 399 0) s

/-- FLD1 , D9E8 (43_general_instructions.md R810). -/
def execFld1 (s : State) : Outcome State Fault Refusal :=
  instr false (fpuReg s.eip 400 0) s

/-- FLDL2T , D9E9 (43_general_instructions.md R810). -/
def execFldl2t (s : State) : Outcome State Fault Refusal :=
  instr false (fpuReg s.eip 401 0) s

/-- FLDL2E , D9EA (43_general_instructions.md R810). -/
def execFldl2e (s : State) : Outcome State Fault Refusal :=
  instr false (fpuReg s.eip 402 0) s

/-- FLDPI , D9EB (43_general_instructions.md R810). -/
def execFldpi (s : State) : Outcome State Fault Refusal :=
  instr false (fpuReg s.eip 403 0) s

/-- FLDLG2 , D9EC (43_general_instructions.md R810). -/
def execFldlg2 (s : State) : Outcome State Fault Refusal :=
  instr false (fpuReg s.eip 404 0) s

/-- FLDLN2 , D9ED (43_general_instructions.md R810). -/
def execFldln2 (s : State) : Outcome State Fault Refusal :=
  instr false (fpuReg s.eip 405 0) s

/-- FLDZ , D9EE (43_general_instructions.md R810). -/
def execFldz (s : State) : Outcome State Fault Refusal :=
  instr false (fpuReg s.eip 406 0) s

/-- F2XM1 , D9F0 (43_general_instructions.md R810). -/
def execF2xm1 (s : State) : Outcome State Fault Refusal :=
  instr false (fpuReg s.eip 407 0) s

/-- FYL2X , D9F1 (43_general_instructions.md R810). -/
def execFyl2x (s : State) : Outcome State Fault Refusal :=
  instr false (fpuReg s.eip 408 0) s

/-- FPTAN , D9F2 (43_general_instructions.md R810). -/
def execFptan (s : State) : Outcome State Fault Refusal :=
  instr false (fpuReg s.eip 409 0) s

/-- FPATAN , D9F3 (43_general_instructions.md R810). -/
def execFpatan (s : State) : Outcome State Fault Refusal :=
  instr false (fpuReg s.eip 410 0) s

/-- FXTRACT , D9F4 (43_general_instructions.md R810). -/
def execFxtract (s : State) : Outcome State Fault Refusal :=
  instr false (fpuReg s.eip 411 0) s

/-- FPREM1 , D9F5 (43_general_instructions.md R810). -/
def execFprem1 (s : State) : Outcome State Fault Refusal :=
  instr false (fpuReg s.eip 412 0) s

/-- FDECSTP , D9F6 (43_general_instructions.md R810). -/
def execFdecstp (s : State) : Outcome State Fault Refusal :=
  instr false (fpuReg s.eip 413 0) s

/-- FINCSTP , D9F7 (43_general_instructions.md R810). -/
def execFincstp (s : State) : Outcome State Fault Refusal :=
  instr false (fpuReg s.eip 414 0) s

/-- FPREM , D9F8 (43_general_instructions.md R810). -/
def execFprem (s : State) : Outcome State Fault Refusal :=
  instr false (fpuReg s.eip 415 0) s

/-- FYL2XP1 , D9F9 (43_general_instructions.md R810). -/
def execFyl2xp1 (s : State) : Outcome State Fault Refusal :=
  instr false (fpuReg s.eip 416 0) s

/-- FSQRT , D9FA (43_general_instructions.md R810). -/
def execFsqrt (s : State) : Outcome State Fault Refusal :=
  instr false (fpuReg s.eip 417 0) s

/-- FSINCOS , D9FB (43_general_instructions.md R810). -/
def execFsincos (s : State) : Outcome State Fault Refusal :=
  instr false (fpuReg s.eip 418 0) s

/-- FRNDINT , D9FC (43_general_instructions.md R810). -/
def execFrndint (s : State) : Outcome State Fault Refusal :=
  instr false (fpuReg s.eip 419 0) s

/-- FSCALE , D9FD (43_general_instructions.md R810). -/
def execFscale (s : State) : Outcome State Fault Refusal :=
  instr false (fpuReg s.eip 420 0) s

/-- FSIN , D9FE (43_general_instructions.md R810). -/
def execFsin (s : State) : Outcome State Fault Refusal :=
  instr false (fpuReg s.eip 421 0) s

/-- FCOS , D9FF (43_general_instructions.md R810). -/
def execFcos (s : State) : Outcome State Fault Refusal :=
  instr false (fpuReg s.eip 422 0) s

/-- FUCOMPP , DAE9 (43_general_instructions.md R810). -/
def execFucompp (s : State) : Outcome State Fault Refusal :=
  instr false (fpuReg s.eip 423 0) s

/-- FCLEX__FNCLEX , DBE2 (43_general_instructions.md R810). -/
def execFclexFnclex (s : State) : Outcome State Fault Refusal :=
  instr false (fnclexBody 424) s

/-- FINIT__FNINIT , DBE3 (43_general_instructions.md R810). -/
def execFinitFninit (s : State) : Outcome State Fault Refusal :=
  instr false fninitBody s

/-- FADD ST(i),ST, DCC0 (43_general_instructions.md R810). -/
def execFaddSTiST (i : Fin 8) (s : State) : Outcome State Fault Refusal :=
  instr false (fpuReg s.eip (426 + 512 * i.val) 0) s

/-- FMUL ST(i),ST, DCC8 (43_general_instructions.md R810). -/
def execFmulSTiST (i : Fin 8) (s : State) : Outcome State Fault Refusal :=
  instr false (fpuReg s.eip (427 + 512 * i.val) 0) s

/-- FSUBR ST(i),ST, DCE0 (43_general_instructions.md R810). -/
def execFsubrSTiST (i : Fin 8) (s : State) : Outcome State Fault Refusal :=
  instr false (fpuReg s.eip (428 + 512 * i.val) 0) s

/-- FSUB ST(i),ST, DCE8 (43_general_instructions.md R810). -/
def execFsubSTiST (i : Fin 8) (s : State) : Outcome State Fault Refusal :=
  instr false (fpuReg s.eip (429 + 512 * i.val) 0) s

/-- FDIVR ST(i),ST, DCF0 (43_general_instructions.md R810). -/
def execFdivrSTiST (i : Fin 8) (s : State) : Outcome State Fault Refusal :=
  instr false (fpuReg s.eip (430 + 512 * i.val) 0) s

/-- FDIV ST(i),ST, DCF8 (43_general_instructions.md R810). -/
def execFdivSTiST (i : Fin 8) (s : State) : Outcome State Fault Refusal :=
  instr false (fpuReg s.eip (431 + 512 * i.val) 0) s

/-- FFREE ST(i), DDC0 (43_general_instructions.md R810). -/
def execFfreeSTi (i : Fin 8) (s : State) : Outcome State Fault Refusal :=
  instr false (fpuReg s.eip (432 + 512 * i.val) 0) s

/-- FST ST(i), DDD0 (43_general_instructions.md R810). -/
def execFstSTi (i : Fin 8) (s : State) : Outcome State Fault Refusal :=
  instr false (fpuReg s.eip (433 + 512 * i.val) 0) s

/-- FSTP ST(i), DDD8 (43_general_instructions.md R810). -/
def execFstpSTi (i : Fin 8) (s : State) : Outcome State Fault Refusal :=
  instr false (fpuReg s.eip (434 + 512 * i.val) 0) s

/-- FUCOM ST(i),ST, DDE0 (43_general_instructions.md R810). -/
def execFucomSTiST (i : Fin 8) (s : State) : Outcome State Fault Refusal :=
  instr false (fpuReg s.eip (435 + 512 * i.val) 0) s

/-- FUCOMP ST(i), DDE8 (43_general_instructions.md R810). -/
def execFucompSTi (i : Fin 8) (s : State) : Outcome State Fault Refusal :=
  instr false (fpuReg s.eip (436 + 512 * i.val) 0) s

/-- FADDP ST(i),ST, DEC0 (43_general_instructions.md R810). -/
def execFaddpSTiST (i : Fin 8) (s : State) : Outcome State Fault Refusal :=
  instr false (fpuReg s.eip (437 + 512 * i.val) 0) s

/-- FMULP ST(i),ST, DEC8 (43_general_instructions.md R810). -/
def execFmulpSTiST (i : Fin 8) (s : State) : Outcome State Fault Refusal :=
  instr false (fpuReg s.eip (438 + 512 * i.val) 0) s

/-- FSUBRP ST(i),ST, DEE0 (43_general_instructions.md R810). -/
def execFsubrpSTiST (i : Fin 8) (s : State) : Outcome State Fault Refusal :=
  instr false (fpuReg s.eip (439 + 512 * i.val) 0) s

/-- FSUBP ST(i),ST, DEE8 (43_general_instructions.md R810). -/
def execFsubpSTiST (i : Fin 8) (s : State) : Outcome State Fault Refusal :=
  instr false (fpuReg s.eip (440 + 512 * i.val) 0) s

/-- FDIVRP ST(i),ST, DEF0 (43_general_instructions.md R810). -/
def execFdivrpSTiST (i : Fin 8) (s : State) : Outcome State Fault Refusal :=
  instr false (fpuReg s.eip (441 + 512 * i.val) 0) s

/-- FDIVP ST(i),ST, DEF8 (43_general_instructions.md R810). -/
def execFdivpSTiST (i : Fin 8) (s : State) : Outcome State Fault Refusal :=
  instr false (fpuReg s.eip (442 + 512 * i.val) 0) s

/-- FCOMPP , DED9 (43_general_instructions.md R810). -/
def execFcompp (s : State) : Outcome State Fault Refusal :=
  instr false (fpuReg s.eip 443 0) s

/-- FSTSW_AX__FNSTSW_AX AX, DFE0 (43_general_instructions.md R810). -/
def execFstswAxFnstswAx (s : State) : Outcome State Fault Refusal :=
  instr false fnstswAxBody s

/-- FCMOVB ST,ST(i), DAC0 (43_general_instructions.md R810). -/
def execFcmovbSTSTi (i : Fin 8) (s : State) : Outcome State Fault Refusal :=
  instr false (fcmovBody s.eip (445 + 512 * i.val) .b) s

/-- FCMOVE ST,ST(i), DAC8 (43_general_instructions.md R810). -/
def execFcmoveSTSTi (i : Fin 8) (s : State) : Outcome State Fault Refusal :=
  instr false (fcmovBody s.eip (446 + 512 * i.val) .e) s

/-- FCMOVBE ST,ST(i), DAD0 (43_general_instructions.md R810). -/
def execFcmovbeSTSTi (i : Fin 8) (s : State) : Outcome State Fault Refusal :=
  instr false (fcmovBody s.eip (447 + 512 * i.val) .be) s

/-- FCMOVU ST,ST(i), DAD8 (43_general_instructions.md R810). -/
def execFcmovuSTSTi (i : Fin 8) (s : State) : Outcome State Fault Refusal :=
  instr false (fcmovBody s.eip (448 + 512 * i.val) .p) s

/-- FCMOVNB ST,ST(i), DBC0 (43_general_instructions.md R810). -/
def execFcmovnbSTSTi (i : Fin 8) (s : State) : Outcome State Fault Refusal :=
  instr false (fcmovBody s.eip (449 + 512 * i.val) .ae) s

/-- FCMOVNE ST,ST(i), DBC8 (43_general_instructions.md R810). -/
def execFcmovneSTSTi (i : Fin 8) (s : State) : Outcome State Fault Refusal :=
  instr false (fcmovBody s.eip (450 + 512 * i.val) .ne) s

/-- FCMOVNBE ST,ST(i), DBD0 (43_general_instructions.md R810). -/
def execFcmovnbeSTSTi (i : Fin 8) (s : State) : Outcome State Fault Refusal :=
  instr false (fcmovBody s.eip (451 + 512 * i.val) .a) s

/-- FCMOVNU ST,ST(i), DBD8 (43_general_instructions.md R810). -/
def execFcmovnuSTSTi (i : Fin 8) (s : State) : Outcome State Fault Refusal :=
  instr false (fcmovBody s.eip (452 + 512 * i.val) .np) s

/-- FUCOMI ST,ST(i), DBE8 (43_general_instructions.md R810). -/
def execFucomiSTSTi (i : Fin 8) (s : State) : Outcome State Fault Refusal :=
  instr false (fcomiBody s.eip (453 + 512 * i.val)) s

/-- FCOMI ST,ST(i), DBF0 (43_general_instructions.md R810). -/
def execFcomiSTSTi (i : Fin 8) (s : State) : Outcome State Fault Refusal :=
  instr false (fcomiBody s.eip (454 + 512 * i.val)) s

/-- FUCOMIP ST,ST(i), DFE8 (43_general_instructions.md R810). -/
def execFucomipSTSTi (i : Fin 8) (s : State) : Outcome State Fault Refusal :=
  instr false (fcomiBody s.eip (455 + 512 * i.val)) s

/-- FCOMIP ST,ST(i), DFF0 (43_general_instructions.md R810). -/
def execFcomipSTSTi (i : Fin 8) (s : State) : Outcome State Fault Refusal :=
  instr false (fcomiBody s.eip (456 + 512 * i.val)) s

end Sys2Proof.Machine
end

