-- ==== Sys2Proof/Machine/Move.lean ====
section
/-! DEFINITION. Data movement, exchanges and conversions (44_integer_reference.md section 5,
43_general_instructions.md section 8). -/
namespace Sys2Proof.Machine
open Host

/-- MOV Eb,Gb. -/
def movEbGb (rm : Rm8) (r : Reg8) : M Unit := do
  let b ← readG8 r
  writeRm8 rm b

/-- MOV Ev,Gv. -/
def movEvGv (rm : Rm) (r : Reg) : M Unit := do
  let w ← getW
  let b ← readG w r
  writeRm w rm b

/-- MOV Gb,Eb. -/
def movGbEb (r : Reg8) (rm : Rm8) : M Unit := do
  let b ← readRm8 rm
  putR8 r b

/-- MOV Gv,Ev. -/
def movGvEv (r : Reg) (rm : Rm) : M Unit := do
  let w ← getW
  let b ← readRm w rm
  writeLoc w (.reg r) b

/-- MOV Ev,Iv. -/
def movEvIv (rm : Rm) (imm : Word) : M Unit := do
  let w ← getW
  writeRm w rm (imm.setWidth w)

/-- MOV of the accumulator from the memory item at an offset. -/
def movAccOff (w : Nat) (off : Word) : M Unit := do
  let s ← get
  let v ← segRead (s.segOr .ds) (cutAddr s.a32 off) (w / 8) (w / 8)
  writeLoc w (accLoc w) (BitVec.ofNat w v)

/-- MOV of the accumulator to the memory item at an offset. -/
def movOffAcc (w : Nat) (off : Word) : M Unit := do
  let s ← get
  let v ← readLoc w (accLoc w)
  segWrite (s.segOr .ds) (cutAddr s.a32 off) (w / 8) (w / 8) v.toNat

/-- MOVZX and MOVSX from a byte. -/
def movxByte (signed : Bool) (r : Reg) (rm : Rm8) : M Unit := do
  let w ← getW
  let b ← readRm8 rm
  writeLoc w (.reg r) (if signed then b.signExtend w else b.setWidth w)

/-- MOVZX and MOVSX from a word. -/
def movxWord (signed : Bool) (r : Reg) (rm : Rm) : M Unit := do
  let w ← getW
  let b ← readRm 16 rm
  writeLoc w (.reg r) (if signed then b.signExtend w else b.setWidth w)

/-- LEA (44_integer_reference.md R1398). -/
def leaBody (r : Reg) (m : Ea) : M Unit := do
  let w ← getW
  let s ← get
  writeLoc w (.reg r) ((eaOffset s m).setWidth w)

/-- XLAT (44_integer_reference.md R1399). -/
def xlatBody : M Unit := do
  let s ← get
  let off := cutAddr s.a32 (s.r32 .ebx + zx32 (s.r8 .al))
  let v ← segRead (s.segOr .ds) off 1 1
  putR8 .al (BitVec.ofNat 8 v)

/-- CBW and CWDE (44_integer_reference.md R1400). -/
def cbwBody : M Unit := do
  let s ← get
  if s.o32 then putR32 .eax (sx32 (s.r16 .eax)) else putR16 .eax ((s.r8 .al).signExtend 16)

/-- CWD and CDQ (44_integer_reference.md R1401). -/
def cwdBody : M Unit := do
  let w ← getW
  let a ← readG w .eax
  writeLoc w (.reg .edx) (if msb a then BitVec.allOnes w else 0)

/-- BSWAP (44_integer_reference.md R1402); with a 16-bit operand size the register is a free value (log 16). -/
def bswapBody (r : Reg) : M Unit := do
  let s ← get
  let x := s.r32 r
  if s.o32 then putR32 r (field x 0 8 ++ field x 8 8 ++ field x 16 8 ++ field x 24 8 : BitVec 32)
  else do
    let f ← draw 32
    putR32 r f

/-- XCHG of two located operands (43_general_instructions.md R806): with memory it is locked without a prefix
(20_memory.md R220). -/
def xchgLoc (w : Nat) (l g : Loc) : M Unit := locked (do
  let a ← readLoc w l
  let b ← readLoc w g
  writeLoc w l b
  writeLoc w g a)

/-- XCHG Eb,Gb. -/
def xchgEbGb (rm : Rm8) (r : Reg8) : M Unit := do
  let l ← locRm8 rm true
  xchgLoc 8 l (.reg8 r)

/-- XCHG Ev,Gv. -/
def xchgEvGv (rm : Rm) (r : Reg) : M Unit := do
  let w ← getW
  let l ← locRm rm (w / 8) true
  xchgLoc w l (.reg r)

/-- XCHG eAX with a register. -/
def xchgAcc (r : Reg) : M Unit := do
  let w ← getW
  xchgLoc w (.reg .eax) (.reg r)

/-- XADD (44_integer_reference.md R1403). -/
def xaddLoc (w : Nat) (l g : Loc) : M Unit := do
  let a ← readLoc w l
  let b ← readLoc w g
  let (r, f) := addFlags a b false
  writeLoc w l r
  writeLoc w g a
  putArith f

/-- XADD Eb,Gb. -/
def xaddEbGb (rm : Rm8) (r : Reg8) : M Unit := do
  let l ← locRm8 rm true
  xaddLoc 8 l (.reg8 r)

/-- XADD Ev,Gv. -/
def xaddEvGv (rm : Rm) (r : Reg) : M Unit := do
  let w ← getW
  let l ← locRm rm (w / 8) true
  xaddLoc w l (.reg r)

/-- CMPXCHG (44_integer_reference.md R1404). -/
def cmpxchgLoc (w : Nat) (l g : Loc) : M Unit := do
  let e ← readLoc w l
  let b ← readLoc w g
  let a ← readLoc w (accLoc w)
  putArith (subFlags a e false).2
  if a = e then writeLoc w l b
  else do
    writeLoc w (accLoc w) e
    writeLoc w l e

/-- CMPXCHG Eb,Gb. -/
def cmpxchgEbGb (rm : Rm8) (r : Reg8) : M Unit := do
  let l ← locRm8 rm true
  cmpxchgLoc 8 l (.reg8 r)

/-- CMPXCHG Ev,Gv. -/
def cmpxchgEvGv (rm : Rm) (r : Reg) : M Unit := do
  let w ← getW
  let l ← locRm rm (w / 8) true
  cmpxchgLoc w l (.reg r)

/-- CMPXCHG8B (43_general_instructions.md R808). -/
def cmpxchg8bBody (m : Ea) : M Unit := do
  let l ← locMem m 8 true
  let x ← readLoc 64 l
  let s ← get
  if x = s.r32 .edx ++ s.r32 .eax then do
    putFlag fZF true
    writeLoc 64 l (s.r32 .ecx ++ s.r32 .ebx)
  else do
    putFlag fZF false
    putR32 .edx (field x 32 32)
    putR32 .eax (field x 0 32)
    writeLoc 64 l x

/-- SETcc (44_integer_reference.md R1405). -/
def setccBody (c : Cond) (rm : Rm8) : M Unit := do
  let s ← get
  writeRm8 rm (if s.cond c then 1#8 else 0#8)

/-- CMOVcc (44_integer_reference.md R1406): the operand is read even when the condition is false. -/
def cmovBody (c : Cond) (r : Reg) (rm : Rm) : M Unit := do
  let w ← getW
  let t ← readRm w rm
  let s ← get
  whenM (s.cond c) (writeLoc w (.reg r) t)

/-- XCHG Eb,Gb, 86 (43_general_instructions.md R806). -/
def execXchgEbGb (rm : Rm8) (r : Reg8) (s : State) : Outcome State Fault Refusal :=
  instr (isMem rm) (xchgEbGb rm r) s

/-- XCHG Ev,Gv, 87 (43_general_instructions.md R806). -/
def execXchgEvGv (rm : Rm) (r : Reg) (s : State) : Outcome State Fault Refusal :=
  instr (isMem rm) (xchgEvGv rm r) s

/-- MOV Eb,Gb, 88 (44_integer_reference.md R1395). -/
def execMovEbGb (rm : Rm8) (r : Reg8) (s : State) : Outcome State Fault Refusal :=
  instr false (movEbGb rm r) s

/-- MOV Ev,Gv, 89 (44_integer_reference.md R1395). -/
def execMovEvGv (rm : Rm) (r : Reg) (s : State) : Outcome State Fault Refusal :=
  instr false (movEvGv rm r) s

/-- MOV Gb,Eb, 8A (44_integer_reference.md R1395). -/
def execMovGbEb (r : Reg8) (rm : Rm8) (s : State) : Outcome State Fault Refusal :=
  instr false (movGbEb r rm) s

/-- MOV Gv,Ev, 8B (44_integer_reference.md R1395). -/
def execMovGvEv (r : Reg) (rm : Rm) (s : State) : Outcome State Fault Refusal :=
  instr false (movGvEv r rm) s

/-- LEA Gv,M, 8D (44_integer_reference.md R1398). -/
def execLeaGvM (r : Reg) (m : Ea) (s : State) : Outcome State Fault Refusal :=
  instr false (leaBody r m) s

/-- NOP , 90 (44_integer_reference.md R1407). -/
def execNop (s : State) : Outcome State Fault Refusal :=
  instr false (pure ()) s

/-- XCHG eAX,eXX, 90 (43_general_instructions.md R806). -/
def execXchgEAXRv (r : Reg) (s : State) : Outcome State Fault Refusal :=
  instr false (xchgAcc r) s

/-- CBW_CWDE , 98 (44_integer_reference.md R1400). -/
def execCbwCwde (s : State) : Outcome State Fault Refusal :=
  instr false cbwBody s

/-- CWD_CDQ , 99 (44_integer_reference.md R1401). -/
def execCwdCdq (s : State) : Outcome State Fault Refusal :=
  instr false cwdBody s

/-- MOV AL,Ob, A0 (44_integer_reference.md R1395). -/
def execMovALOb (off : BitVec 32) (s : State) : Outcome State Fault Refusal :=
  instr false (movAccOff 8 off) s

/-- MOV eAX,Ov, A1 (44_integer_reference.md R1395). -/
def execMoveAXOv (off : BitVec 32) (s : State) : Outcome State Fault Refusal :=
  instr false (do
    let w ← getW
    movAccOff w off) s

/-- MOV Ob,AL, A2 (44_integer_reference.md R1395). -/
def execMovObAL (off : BitVec 32) (s : State) : Outcome State Fault Refusal :=
  instr false (movOffAcc 8 off) s

/-- MOV Ov,eAX, A3 (44_integer_reference.md R1395). -/
def execMovOveAX (off : BitVec 32) (s : State) : Outcome State Fault Refusal :=
  instr false (do
    let w ← getW
    movOffAcc w off) s

/-- MOV byte register,Ib, B0 (44_integer_reference.md R1395). -/
def execMovR8Ib (r : Reg8) (imm : BitVec 8) (s : State) : Outcome State Fault Refusal :=
  instr false (putR8 r imm) s

/-- MOV eXX,Iv, B8 (44_integer_reference.md R1395). -/
def execMovRvIv (r : Reg) (imm : BitVec 32) (s : State) : Outcome State Fault Refusal :=
  instr false (movEvIv (.reg r) imm) s

/-- MOV Eb,Ib, C600 (44_integer_reference.md R1395). -/
def execMovEbIb (rm : Rm8) (imm : BitVec 8) (s : State) : Outcome State Fault Refusal :=
  instr false (writeRm8 rm imm) s

/-- MOV Ev,Iv, C700 (44_integer_reference.md R1395). -/
def execMovEvIv (rm : Rm) (imm : BitVec 32) (s : State) : Outcome State Fault Refusal :=
  instr false (movEvIv rm imm) s

/-- XLAT_XLATB , D7 (44_integer_reference.md R1399). -/
def execXlatXlatb (s : State) : Outcome State Fault Refusal :=
  instr false xlatBody s

/-- CMOVcc Gv,Ev, 0F40 (44_integer_reference.md R1406). -/
def execCmovccGvEv (c : Cond) (r : Reg) (rm : Rm) (s : State) : Outcome State Fault Refusal :=
  instr false (cmovBody c r rm) s

/-- SETcc Eb, 0F90 (44_integer_reference.md R1405). -/
def execSetccEb (c : Cond) (rm : Rm8) (s : State) : Outcome State Fault Refusal :=
  instr false (setccBody c rm) s

/-- CMPXCHG Eb,Gb, 0FB0 (44_integer_reference.md R1404). -/
def execCmpxchgEbGb (rm : Rm8) (r : Reg8) (s : State) : Outcome State Fault Refusal :=
  instr (isMem rm) (cmpxchgEbGb rm r) s

/-- CMPXCHG Ev,Gv, 0FB1 (44_integer_reference.md R1404). -/
def execCmpxchgEvGv (rm : Rm) (r : Reg) (s : State) : Outcome State Fault Refusal :=
  instr (isMem rm) (cmpxchgEvGv rm r) s

/-- MOVZX Gv,Eb, 0FB6 (44_integer_reference.md R1396). -/
def execMovzxGvEb (r : Reg) (rm : Rm8) (s : State) : Outcome State Fault Refusal :=
  instr false (movxByte false r rm) s

/-- MOVZX Gv,Ew, 0FB7 (44_integer_reference.md R1396). -/
def execMovzxGvEw (r : Reg) (rm : Rm) (s : State) : Outcome State Fault Refusal :=
  instr false (movxWord false r rm) s

/-- MOVSX Gv,Eb, 0FBE (44_integer_reference.md R1397). -/
def execMovsxGvEb (r : Reg) (rm : Rm8) (s : State) : Outcome State Fault Refusal :=
  instr false (movxByte true r rm) s

/-- MOVSX Gv,Ew, 0FBF (44_integer_reference.md R1397). -/
def execMovsxGvEw (r : Reg) (rm : Rm) (s : State) : Outcome State Fault Refusal :=
  instr false (movxWord true r rm) s

/-- XADD Eb,Gb, 0FC0 (44_integer_reference.md R1403). -/
def execXaddEbGb (rm : Rm8) (r : Reg8) (s : State) : Outcome State Fault Refusal :=
  instr (isMem rm) (xaddEbGb rm r) s

/-- XADD Ev,Gv, 0FC1 (44_integer_reference.md R1403). -/
def execXaddEvGv (rm : Rm) (r : Reg) (s : State) : Outcome State Fault Refusal :=
  instr (isMem rm) (xaddEvGv rm r) s

/-- CMPXCHG8B Mq, 0FC708 (43_general_instructions.md R808). -/
def execCmpxchg8bMq (m : Ea) (s : State) : Outcome State Fault Refusal :=
  instr true (cmpxchg8bBody m) s

/-- BSWAP 32-bit register, 0FC8 (44_integer_reference.md R1402). -/
def execBswap (r : Reg) (s : State) : Outcome State Fault Refusal :=
  instr false (bswapBody r) s

end Sys2Proof.Machine
end

