-- ==== Sys2Proof/Machine/MulDiv.lean ====
section
/-! DEFINITION. Multiplication, division and decimal adjustment (44_integer_reference.md sections 3 and 8). -/
namespace Sys2Proof.Machine
open Host

/-- Write the double-width result of a multiplication, or a remainder and a quotient: high and low part to
AH:AL, DX:AX or EDX:EAX (44_integer_reference.md R1370, R1373). -/
def putPair (w : Nat) (hi lo : BitVec w) : M Unit :=
  if w = 8 then do
    putR8 .al (lo.setWidth 8)
    putR8 .ah (hi.setWidth 8)
  else modify fun s => (s.setRw w .eax lo).setRw w .edx hi

/-- The double-width dividend: AX, DX:AX or EDX:EAX (44_integer_reference.md R1373). -/
def getPair (w : Nat) : M (BitVec (w + w)) := do
  let s ← get
  let lo := s.r32 .eax
  let hi := s.r32 .edx
  pure (if w = 8 then lo.setWidth (w + w) else (hi.setWidth w ++ lo.setWidth w))

/-- The accumulator as an operand of `w` bits. -/
def getAcc (w : Nat) : M (BitVec w) := do
  let s ← get
  pure ((s.r32 .eax).setWidth w)

/-- The flags of a multiplication: CF and OF as given, the others undefined (44_integer_reference.md R1370). -/
def mulFlags (c : Bool) : M Unit := do
  let f ← draw 32
  putFlagsMasked arithMask (setBit (setBit f fCF c) fOF c)

/-- MUL (44_integer_reference.md R1370). -/
def mulBody (w : Nat) (b : BitVec w) : M Unit := do
  let a ← getAcc w
  let p := BitVec.ofNat (w + w) (a.toNat * b.toNat)
  putPair w (field p w w) (field p 0 w)
  mulFlags (decide (field p w w ≠ 0))

/-- IMUL with one operand (44_integer_reference.md R1371). -/
def imulBody (w : Nat) (b : BitVec w) : M Unit := do
  let a ← getAcc w
  let x := a.toInt * b.toInt
  let p := BitVec.ofInt (w + w) x
  putPair w (field p w w) (field p 0 w)
  mulFlags (decide ((field p 0 w : BitVec w).toInt ≠ x))

/-- IMUL with two or three operands (44_integer_reference.md R1372). -/
def imulTo (w : Nat) (r : Reg) (a b : BitVec w) : M Unit := do
  let x := a.toInt * b.toInt
  let p := BitVec.ofInt w x
  modify fun s => s.setRw w r p
  mulFlags (decide (p.toInt ≠ x))

/-- DIV (44_integer_reference.md R1373). -/
def divBody (w : Nat) (b : BitVec w) : M Unit := do
  let d ← getPair w
  if b = 0 then raiseDE
  else if 2 ^ w ≤ d.toNat / b.toNat then raiseDE
  else do
    putPair w (BitVec.ofNat w (d.toNat % b.toNat)) (BitVec.ofNat w (d.toNat / b.toNat))
    freeArith

/-- IDIV (44_integer_reference.md R1374). -/
def idivBody (w : Nat) (b : BitVec w) : M Unit := do
  let d ← getPair w
  let q := d.toInt.tdiv b.toInt
  if b = 0 then raiseDE
  else if q < -(2 ^ (w - 1) : Int) ∨ (2 ^ (w - 1) : Int) ≤ q then raiseDE
  else do
    putPair w (BitVec.ofInt w (d.toInt.tmod b.toInt)) (BitVec.ofInt w q)
    freeArith

/-- The four instructions with an implied accumulator. -/
inductive MulOp where
  | mul | imul | div | idiv
  deriving DecidableEq, Repr

/-- Their effect on an operand that has been read. -/
def mulOp (op : MulOp) (w : Nat) (b : BitVec w) : M Unit :=
  match op with
  | .mul => mulBody w b
  | .imul => imulBody w b
  | .div => divBody w b
  | .idiv => idivBody w b

/-- Form Eb. -/
def mulEbBody (op : MulOp) (rm : Rm8) : M Unit := do
  let b ← readRm8 rm
  mulOp op 8 b

/-- Form Ev. -/
def mulEvBody (op : MulOp) (rm : Rm) : M Unit := do
  let w ← getW
  let b ← readRm w rm
  mulOp op w b

/-- IMUL Gv,Ev. -/
def imulGvEvBody (r : Reg) (rm : Rm) : M Unit := do
  let w ← getW
  let b ← readRm w rm
  let a ← readG w r
  imulTo w r a b

/-- IMUL Gv,Ev,Iv. -/
def imulImm (r : Reg) (rm : Rm) (imm : Word) : M Unit := do
  let w ← getW
  let a ← readRm w rm
  imulTo w r a (imm.setWidth w)

/-- IMUL Gv,Ev,Ib. -/
def imulImm8 (r : Reg) (rm : Rm) (imm : Byte) : M Unit := do
  let w ← getW
  let a ← readRm w rm
  imulTo w r a (imm.signExtend w)

/-- DAA and DAS, which differ in the direction of the adjustment and in what clears CF (44_integer_reference.md R1430, R1431). -/
def decimalAdjust (sub : Bool) : M Unit := do
  let s ← get
  let al := s.r8 .al
  let cf := s.flag fCF
  let lowAdj := 9 < al.toNat % 16 || s.flag fAF
  let highAdj := 0x99 < al.toNat || cf
  let wrap := if sub then decide (al.toNat < 6) else decide (256 ≤ al.toNat + 6)
  let d : Byte := (if lowAdj then 6#8 else 0#8) + (if highAdj then 0x60#8 else 0#8)
  let r := if sub then al - d else al + d
  let cf1 := if sub then highAdj || (lowAdj && (cf || wrap)) else highAdj
  let of ← drawBool
  putR8 .al r
  putArith (szp r cf1 lowAdj of)

/-- AAA and AAS (44_integer_reference.md R1432, R1433). -/
def asciiAdjust (sub : Bool) : M Unit := do
  let s ← get
  let ax := s.r16 .eax
  let adj := 9 < (s.r8 .al).toNat % 16 || s.flag fAF
  let y := if sub then ax - 6#16 - 0x100#16 else ax + 0x106#16
  let r := (if adj then y else ax) &&& 0xFF0F#16
  let f ← draw 32
  putR16 .eax r
  putFlagsMasked arithMask (setBit (setBit f fCF adj) fAF adj)

/-- The flags of AAM and AAD: SF, ZF and PF of AL, the others undefined (44_integer_reference.md R1434, R1435). -/
def asciiFlags (al : Byte) : M Unit := do
  let cf ← drawBool
  let af ← drawBool
  let of ← drawBool
  putArith (szp al cf af of)

/-- AAM (44_integer_reference.md R1434). -/
def aam (b : Byte) : M Unit := do
  let al ← readG8 .al
  if b = 0 then raiseDE
  else do
    putR8 .ah (al / b)
    putR8 .al (al % b)
    asciiFlags (al % b)

/-- AAD (44_integer_reference.md R1435). -/
def aad (b : Byte) : M Unit := do
  let al ← readG8 .al
  let ah ← readG8 .ah
  let r := al + ah * b
  putR8 .al r
  putR8 .ah 0
  asciiFlags r

/-- DAA , 27 (44_integer_reference.md R1430). -/
def execDaa (s : State) : Outcome State Fault Refusal :=
  instr false (decimalAdjust false) s

/-- DAS , 2F (44_integer_reference.md R1431). -/
def execDas (s : State) : Outcome State Fault Refusal :=
  instr false (decimalAdjust true) s

/-- AAA , 37 (44_integer_reference.md R1432). -/
def execAaa (s : State) : Outcome State Fault Refusal :=
  instr false (asciiAdjust false) s

/-- AAS , 3F (44_integer_reference.md R1433). -/
def execAas (s : State) : Outcome State Fault Refusal :=
  instr false (asciiAdjust true) s

/-- IMUL Gv,Ev,Iv, 69 (44_integer_reference.md R1372). -/
def execImulGvEvIv (r : Reg) (rm : Rm) (imm : BitVec 32) (s : State) : Outcome State Fault Refusal :=
  instr false (imulImm r rm imm) s

/-- IMUL Gv,Ev,Ib, 6B (44_integer_reference.md R1372). -/
def execImulGvEvIb (r : Reg) (rm : Rm) (imm : BitVec 8) (s : State) : Outcome State Fault Refusal :=
  instr false (imulImm8 r rm imm) s

/-- AAM Ib, D4 (44_integer_reference.md R1434). -/
def execAamIb (imm : BitVec 8) (s : State) : Outcome State Fault Refusal :=
  instr false (aam imm) s

/-- AAD Ib, D5 (44_integer_reference.md R1435). -/
def execAadIb (imm : BitVec 8) (s : State) : Outcome State Fault Refusal :=
  instr false (aad imm) s

/-- MUL Eb, F620 (44_integer_reference.md R1370). -/
def execMulEb (rm : Rm8) (s : State) : Outcome State Fault Refusal :=
  instr false (mulEbBody .mul rm) s

/-- IMUL Eb, F628 (44_integer_reference.md R1371). -/
def execImulEb (rm : Rm8) (s : State) : Outcome State Fault Refusal :=
  instr false (mulEbBody .imul rm) s

/-- DIV Eb, F630 (44_integer_reference.md R1373). -/
def execDivEb (rm : Rm8) (s : State) : Outcome State Fault Refusal :=
  instr false (mulEbBody .div rm) s

/-- IDIV Eb, F638 (44_integer_reference.md R1374). -/
def execIdivEb (rm : Rm8) (s : State) : Outcome State Fault Refusal :=
  instr false (mulEbBody .idiv rm) s

/-- MUL Ev, F720 (44_integer_reference.md R1370). -/
def execMulEv (rm : Rm) (s : State) : Outcome State Fault Refusal :=
  instr false (mulEvBody .mul rm) s

/-- IMUL Ev, F728 (44_integer_reference.md R1371). -/
def execImulEv (rm : Rm) (s : State) : Outcome State Fault Refusal :=
  instr false (mulEvBody .imul rm) s

/-- DIV Ev, F730 (44_integer_reference.md R1373). -/
def execDivEv (rm : Rm) (s : State) : Outcome State Fault Refusal :=
  instr false (mulEvBody .div rm) s

/-- IDIV Ev, F738 (44_integer_reference.md R1374). -/
def execIdivEv (rm : Rm) (s : State) : Outcome State Fault Refusal :=
  instr false (mulEvBody .idiv rm) s

/-- IMUL Gv,Ev, 0FAF (44_integer_reference.md R1372). -/
def execImulGvEv (r : Reg) (rm : Rm) (s : State) : Outcome State Fault Refusal :=
  instr false (imulGvEvBody r rm) s

end Sys2Proof.Machine
end

