-- ==== Sys2Proof/Machine/Prefix.lean ====
section
/-! DEFINITION. The prefix bytes: each sets its mark on the instruction that follows (30_encoding.md R481 to R485). -/
namespace Sys2Proof.Machine
open Host

/-- Mark the instruction being decoded. -/
def State.prefixed (s : State) (f : Ins → Ins) : State := { s with ins := f s.ins }

/-- prefix_SEG_ES prefix, 26 (30_encoding.md R481). -/
def execPrefixSegEs (s : State) : Outcome State Fault Refusal :=
  .next (s.prefixed fun i => { i with seg := some .es })

/-- prefix_SEG_CS prefix, 2E (30_encoding.md R481). -/
def execPrefixSegCs (s : State) : Outcome State Fault Refusal :=
  .next (s.prefixed fun i => { i with seg := some .cs })

/-- prefix_SEG_SS prefix, 36 (30_encoding.md R481). -/
def execPrefixSegSs (s : State) : Outcome State Fault Refusal :=
  .next (s.prefixed fun i => { i with seg := some .ss })

/-- prefix_SEG_DS prefix, 3E (30_encoding.md R481). -/
def execPrefixSegDs (s : State) : Outcome State Fault Refusal :=
  .next (s.prefixed fun i => { i with seg := some .ds })

/-- prefix_SEG_FS prefix, 64 (30_encoding.md R481). -/
def execPrefixSegFs (s : State) : Outcome State Fault Refusal :=
  .next (s.prefixed fun i => { i with seg := some .fs })

/-- prefix_SEG_GS prefix, 65 (30_encoding.md R481). -/
def execPrefixSegGs (s : State) : Outcome State Fault Refusal :=
  .next (s.prefixed fun i => { i with seg := some .gs })

/-- prefix_operand_size prefix, 66 (30_encoding.md R485). -/
def execPrefixOperandSize (s : State) : Outcome State Fault Refusal :=
  .next (s.prefixed fun i => { i with op66 := true })

/-- prefix_address_size prefix, 67 (30_encoding.md R485). -/
def execPrefixAddressSize (s : State) : Outcome State Fault Refusal :=
  .next (s.prefixed fun i => { i with ad67 := true })

/-- prefix_LOCK prefix, F0 (40_system_instructions.md R593). -/
def execPrefixLock (s : State) : Outcome State Fault Refusal :=
  .next (s.prefixed fun i => { i with lock := true })

/-- prefix_REPNE_REPNZ prefix, F2 (43_general_instructions.md R800). After another repeat prefix it is the one that
counts, which the spec leaves open (R484, R800; log 52, DESIGN CHOICE). -/
def execPrefixRepneRepnz (s : State) : Outcome State Fault Refusal :=
  .next (s.prefixed fun i => { i with rep := some .ne })

/-- prefix_REP_REPE_REPZ prefix, F3 (43_general_instructions.md R800). After another repeat prefix it is the one that
counts, which the spec leaves open (R484, R800; log 52, DESIGN CHOICE). -/
def execPrefixRepRepeRepz (s : State) : Outcome State Fault Refusal :=
  .next (s.prefixed fun i => { i with rep := some .e })

end Sys2Proof.Machine
end

