-- ==== Sys2Proof/Machine/Shifts.lean ====
section
/-! DEFINITION. Shifts and rotates (44_integer_reference.md section 4). -/
namespace Sys2Proof.Machine
open Host

/-- A shift or rotate of a byte operand by a count. -/
def shiftEb (op : Shift) (rm : Rm8) (count : Byte) : M Unit := do
  let l ← locRm8 rm true
  shiftLoc op 8 l count

/-- A shift or rotate of a word or doubleword operand by a count. -/
def shiftEv (op : Shift) (rm : Rm) (count : Byte) : M Unit := do
  let w ← getW
  let l ← locRm rm (w / 8) true
  shiftLoc op w l count

/-- A shift or rotate of a byte operand by CL. -/
def shiftEbCl (op : Shift) (rm : Rm8) : M Unit := do
  let c ← readG8 .cl
  shiftEb op rm c

/-- A shift or rotate of a word or doubleword operand by CL. -/
def shiftEvCl (op : Shift) (rm : Rm) : M Unit := do
  let c ← readG8 .cl
  shiftEv op rm c

/-- SHLD and SHRD. -/
def doubleEv (left : Bool) (rm : Rm) (r : Reg) (count : Byte) : M Unit := do
  let w ← getW
  let l ← locRm rm (w / 8) true
  let b ← readG w r
  doubleShift left w l b count

/-- SHLD and SHRD by CL. -/
def doubleEvCl (left : Bool) (rm : Rm) (r : Reg) : M Unit := do
  let c ← readG8 .cl
  doubleEv left rm r c

/-- ROL Eb,Ib, C000 (44_integer_reference.md R1384). -/
def execRolEbIb (rm : Rm8) (imm : BitVec 8) (s : State) : Outcome State Fault Refusal :=
  instr false (shiftEb .rol rm imm) s

/-- ROR Eb,Ib, C008 (44_integer_reference.md R1385). -/
def execRorEbIb (rm : Rm8) (imm : BitVec 8) (s : State) : Outcome State Fault Refusal :=
  instr false (shiftEb .ror rm imm) s

/-- RCL Eb,Ib, C010 (44_integer_reference.md R1386). -/
def execRclEbIb (rm : Rm8) (imm : BitVec 8) (s : State) : Outcome State Fault Refusal :=
  instr false (shiftEb .rcl rm imm) s

/-- RCR Eb,Ib, C018 (44_integer_reference.md R1387). -/
def execRcrEbIb (rm : Rm8) (imm : BitVec 8) (s : State) : Outcome State Fault Refusal :=
  instr false (shiftEb .rcr rm imm) s

/-- SHL_SAL Eb,Ib, C020 (44_integer_reference.md R1381). -/
def execShlSalEbIb (rm : Rm8) (imm : BitVec 8) (s : State) : Outcome State Fault Refusal :=
  instr false (shiftEb .shl rm imm) s

/-- SHR Eb,Ib, C028 (44_integer_reference.md R1382). -/
def execShrEbIb (rm : Rm8) (imm : BitVec 8) (s : State) : Outcome State Fault Refusal :=
  instr false (shiftEb .shr rm imm) s

/-- SAR Eb,Ib, C038 (44_integer_reference.md R1383). -/
def execSarEbIb (rm : Rm8) (imm : BitVec 8) (s : State) : Outcome State Fault Refusal :=
  instr false (shiftEb .sar rm imm) s

/-- ROL Ev,Ib, C100 (44_integer_reference.md R1384). -/
def execRolEvIb (rm : Rm) (imm : BitVec 8) (s : State) : Outcome State Fault Refusal :=
  instr false (shiftEv .rol rm imm) s

/-- ROR Ev,Ib, C108 (44_integer_reference.md R1385). -/
def execRorEvIb (rm : Rm) (imm : BitVec 8) (s : State) : Outcome State Fault Refusal :=
  instr false (shiftEv .ror rm imm) s

/-- RCL Ev,Ib, C110 (44_integer_reference.md R1386). -/
def execRclEvIb (rm : Rm) (imm : BitVec 8) (s : State) : Outcome State Fault Refusal :=
  instr false (shiftEv .rcl rm imm) s

/-- RCR Ev,Ib, C118 (44_integer_reference.md R1387). -/
def execRcrEvIb (rm : Rm) (imm : BitVec 8) (s : State) : Outcome State Fault Refusal :=
  instr false (shiftEv .rcr rm imm) s

/-- SHL_SAL Ev,Ib, C120 (44_integer_reference.md R1381). -/
def execShlSalEvIb (rm : Rm) (imm : BitVec 8) (s : State) : Outcome State Fault Refusal :=
  instr false (shiftEv .shl rm imm) s

/-- SHR Ev,Ib, C128 (44_integer_reference.md R1382). -/
def execShrEvIb (rm : Rm) (imm : BitVec 8) (s : State) : Outcome State Fault Refusal :=
  instr false (shiftEv .shr rm imm) s

/-- SAR Ev,Ib, C138 (44_integer_reference.md R1383). -/
def execSarEvIb (rm : Rm) (imm : BitVec 8) (s : State) : Outcome State Fault Refusal :=
  instr false (shiftEv .sar rm imm) s

/-- ROL Eb,1, D000 (44_integer_reference.md R1384). -/
def execRolEb1 (rm : Rm8) (s : State) : Outcome State Fault Refusal :=
  instr false (shiftEb .rol rm 1) s

/-- ROR Eb,1, D008 (44_integer_reference.md R1385). -/
def execRorEb1 (rm : Rm8) (s : State) : Outcome State Fault Refusal :=
  instr false (shiftEb .ror rm 1) s

/-- RCL Eb,1, D010 (44_integer_reference.md R1386). -/
def execRclEb1 (rm : Rm8) (s : State) : Outcome State Fault Refusal :=
  instr false (shiftEb .rcl rm 1) s

/-- RCR Eb,1, D018 (44_integer_reference.md R1387). -/
def execRcrEb1 (rm : Rm8) (s : State) : Outcome State Fault Refusal :=
  instr false (shiftEb .rcr rm 1) s

/-- SHL_SAL Eb,1, D020 (44_integer_reference.md R1381). -/
def execShlSalEb1 (rm : Rm8) (s : State) : Outcome State Fault Refusal :=
  instr false (shiftEb .shl rm 1) s

/-- SHR Eb,1, D028 (44_integer_reference.md R1382). -/
def execShrEb1 (rm : Rm8) (s : State) : Outcome State Fault Refusal :=
  instr false (shiftEb .shr rm 1) s

/-- SAR Eb,1, D038 (44_integer_reference.md R1383). -/
def execSarEb1 (rm : Rm8) (s : State) : Outcome State Fault Refusal :=
  instr false (shiftEb .sar rm 1) s

/-- ROL Ev,1, D100 (44_integer_reference.md R1384). -/
def execRolEv1 (rm : Rm) (s : State) : Outcome State Fault Refusal :=
  instr false (shiftEv .rol rm 1) s

/-- ROR Ev,1, D108 (44_integer_reference.md R1385). -/
def execRorEv1 (rm : Rm) (s : State) : Outcome State Fault Refusal :=
  instr false (shiftEv .ror rm 1) s

/-- RCL Ev,1, D110 (44_integer_reference.md R1386). -/
def execRclEv1 (rm : Rm) (s : State) : Outcome State Fault Refusal :=
  instr false (shiftEv .rcl rm 1) s

/-- RCR Ev,1, D118 (44_integer_reference.md R1387). -/
def execRcrEv1 (rm : Rm) (s : State) : Outcome State Fault Refusal :=
  instr false (shiftEv .rcr rm 1) s

/-- SHL_SAL Ev,1, D120 (44_integer_reference.md R1381). -/
def execShlSalEv1 (rm : Rm) (s : State) : Outcome State Fault Refusal :=
  instr false (shiftEv .shl rm 1) s

/-- SHR Ev,1, D128 (44_integer_reference.md R1382). -/
def execShrEv1 (rm : Rm) (s : State) : Outcome State Fault Refusal :=
  instr false (shiftEv .shr rm 1) s

/-- SAR Ev,1, D138 (44_integer_reference.md R1383). -/
def execSarEv1 (rm : Rm) (s : State) : Outcome State Fault Refusal :=
  instr false (shiftEv .sar rm 1) s

/-- ROL Eb,CL, D200 (44_integer_reference.md R1384). -/
def execRolEbCL (rm : Rm8) (s : State) : Outcome State Fault Refusal :=
  instr false (shiftEbCl .rol rm) s

/-- ROR Eb,CL, D208 (44_integer_reference.md R1385). -/
def execRorEbCL (rm : Rm8) (s : State) : Outcome State Fault Refusal :=
  instr false (shiftEbCl .ror rm) s

/-- RCL Eb,CL, D210 (44_integer_reference.md R1386). -/
def execRclEbCL (rm : Rm8) (s : State) : Outcome State Fault Refusal :=
  instr false (shiftEbCl .rcl rm) s

/-- RCR Eb,CL, D218 (44_integer_reference.md R1387). -/
def execRcrEbCL (rm : Rm8) (s : State) : Outcome State Fault Refusal :=
  instr false (shiftEbCl .rcr rm) s

/-- SHL_SAL Eb,CL, D220 (44_integer_reference.md R1381). -/
def execShlSalEbCL (rm : Rm8) (s : State) : Outcome State Fault Refusal :=
  instr false (shiftEbCl .shl rm) s

/-- SHR Eb,CL, D228 (44_integer_reference.md R1382). -/
def execShrEbCL (rm : Rm8) (s : State) : Outcome State Fault Refusal :=
  instr false (shiftEbCl .shr rm) s

/-- SAR Eb,CL, D238 (44_integer_reference.md R1383). -/
def execSarEbCL (rm : Rm8) (s : State) : Outcome State Fault Refusal :=
  instr false (shiftEbCl .sar rm) s

/-- ROL Ev,CL, D300 (44_integer_reference.md R1384). -/
def execRolEvCL (rm : Rm) (s : State) : Outcome State Fault Refusal :=
  instr false (shiftEvCl .rol rm) s

/-- ROR Ev,CL, D308 (44_integer_reference.md R1385). -/
def execRorEvCL (rm : Rm) (s : State) : Outcome State Fault Refusal :=
  instr false (shiftEvCl .ror rm) s

/-- RCL Ev,CL, D310 (44_integer_reference.md R1386). -/
def execRclEvCL (rm : Rm) (s : State) : Outcome State Fault Refusal :=
  instr false (shiftEvCl .rcl rm) s

/-- RCR Ev,CL, D318 (44_integer_reference.md R1387). -/
def execRcrEvCL (rm : Rm) (s : State) : Outcome State Fault Refusal :=
  instr false (shiftEvCl .rcr rm) s

/-- SHL_SAL Ev,CL, D320 (44_integer_reference.md R1381). -/
def execShlSalEvCL (rm : Rm) (s : State) : Outcome State Fault Refusal :=
  instr false (shiftEvCl .shl rm) s

/-- SHR Ev,CL, D328 (44_integer_reference.md R1382). -/
def execShrEvCL (rm : Rm) (s : State) : Outcome State Fault Refusal :=
  instr false (shiftEvCl .shr rm) s

/-- SAR Ev,CL, D338 (44_integer_reference.md R1383). -/
def execSarEvCL (rm : Rm) (s : State) : Outcome State Fault Refusal :=
  instr false (shiftEvCl .sar rm) s

/-- SHLD Ev,Gv,Ib, 0FA4 (44_integer_reference.md R1388). -/
def execShldEvGvIb (rm : Rm) (r : Reg) (imm : BitVec 8) (s : State) : Outcome State Fault Refusal :=
  instr false (doubleEv true rm r imm) s

/-- SHLD Ev,Gv,CL, 0FA5 (44_integer_reference.md R1388). -/
def execShldEvGvCL (rm : Rm) (r : Reg) (s : State) : Outcome State Fault Refusal :=
  instr false (doubleEvCl true rm r) s

/-- SHRD Ev,Gv,Ib, 0FAC (44_integer_reference.md R1389). -/
def execShrdEvGvIb (rm : Rm) (r : Reg) (imm : BitVec 8) (s : State) : Outcome State Fault Refusal :=
  instr false (doubleEv false rm r imm) s

/-- SHRD Ev,Gv,CL, 0FAD (44_integer_reference.md R1389). -/
def execShrdEvGvCL (rm : Rm) (r : Reg) (s : State) : Outcome State Fault Refusal :=
  instr false (doubleEvCl false rm r) s

end Sys2Proof.Machine
end

