-- ==== Sys2Proof/Machine/Stack.lean ====
section
/-! DEFINITION. The stack, segment-register loads, and the flag instructions that depend on privilege
(43_general_instructions.md sections 3 to 5). -/
namespace Sys2Proof.Machine
open Host

/-- Push a value of `w` bits (43_general_instructions.md R781). -/
def pushW (w : Nat) (v : BitVec w) : M Unit := push (w / 8) v.toNat

/-- PUSH of a register; PUSH ESP pushes the value before. -/
def pushReg (r : Reg) : M Unit := do
  let w ← getW
  let v ← readG w r
  pushW w v

/-- PUSH Ev. -/
def pushEvBody (rm : Rm) : M Unit := do
  let w ← getW
  let v ← readRm w rm
  pushW w v

/-- PUSH of an immediate, cut to the operand size. -/
def pushImm (imm : Word) : M Unit := do
  let w ← getW
  pushW w (imm.setWidth w)

/-- POP of a register. -/
def popReg (r : Reg) : M Unit := do
  let w ← getW
  let v ← pop (w / 8)
  writeLoc w (.reg r) (BitVec.ofNat w v)

/-- POP Ev: an address that uses ESP is computed after the increment. -/
def popEvBody (rm : Rm) : M Unit := do
  let w ← getW
  let v ← pop (w / 8)
  writeRm w rm (BitVec.ofNat w v)

/-- Push items one after another. -/
def pushEach (n : Nat) : List Nat → M Unit
  | [] => pure ()
  | v :: vs => do
    push n v
    pushEach n vs

/-- PUSHA and PUSHAD: the fifth item is SP or ESP before the instruction, by the operand size (43_general_instructions.md R782). -/
def pushaBody : M Unit := do
  let s ← get
  pushEach (bytes s.o32)
    [s.gpr.eax.toNat, s.gpr.ecx.toNat, s.gpr.edx.toNat, s.gpr.ebx.toNat, s.gpr.esp.toNat, s.gpr.ebp.toNat,
     s.gpr.esi.toNat, s.gpr.edi.toNat]

/-- Pop into registers one after another; no register means that the item is discarded. -/
def popEach (w : Nat) : List (Option Reg) → M Unit
  | [] => pure ()
  | r :: rs => do
    let v ← pop (w / 8)
    match r with
    | some r => writeLoc w (.reg r) (BitVec.ofNat w v)
    | none => pure ()
    popEach w rs

/-- POPA and POPAD (43_general_instructions.md R782). -/
def popaBody : M Unit := do
  let w ← getW
  popEach w [some .edi, some .esi, some .ebp, none, some .ebx, some .edx, some .ecx, some .eax]

/-- The frames of the enclosing levels that ENTER copies, `k` of them, from below the frame at `b`. R783 has 'eBP <- eBP - n (in
the stack-pointer width)' for each, which with a 16-bit operand on a 32-bit stack can be read so that a borrow stays in
EBP[31:16], where the last assignment writes BP alone: the model counts in a temporary, and EBP[31:16] stays as it was
(43_general_instructions.md R783, log 57, DESIGN CHOICE). -/
def copyFrames (n : Nat) : Nat → Word → M Unit
  | 0, _ => pure ()
  | k + 1, b => do
    let s ← get
    let b1 := s.seg.ss.cutSp (b - BitVec.ofNat 32 n)
    let v ← segRead .ss b1 n n
    push n v
    copyFrames n k b1

/-- ENTER (43_general_instructions.md R783). The test of the new top of the stack is made as a write is, and sets the dirty
flag of that page although nothing is written (log 57, DESIGN CHOICE). -/
def enterBody (size : Half) (level : Byte) : M Unit := do
  let w ← getW
  let n := w / 8
  let k := level.toNat % 32
  let s ← get
  pushW w ((s.r32 .ebp).setWidth w)
  let t ← get
  let frame := t.sp
  copyFrames n (k - 1) (s.seg.ss.cutSp (s.r32 .ebp))
  whenM (decide (0 < k)) (push n frame.toNat)
  writeLoc w (.reg .ebp) (frame.setWidth w)
  addSp (-(zx32 size))
  let u ← get
  let la ← segLinear .ss u.seg.ss u.sp n .write
  let _ ← linearSpans la n true (u.cpl = 3)

/-- LEAVE (43_general_instructions.md R783). The stack pointer takes EBP in the width of the stack, also with a 16-bit
operand on a 32-bit stack, where R783 can be read to take BP alone (log 57, DESIGN CHOICE). -/
def leaveBody : M Unit := do
  modify fun s => s.setSp (s.r32 .ebp)
  popReg .ebp

/-- PUSH of a segment register (43_general_instructions.md R786). -/
def pushSeg (r : SegReg) : M Unit := do
  let s ← get
  push (bytes s.o32) (s.seg.get r).sel.toNat

/-- An SS load holds interrupts and debug traps for one instruction (43_general_instructions.md R787). -/
def markSsLoad (r : SegReg) : M Unit :=
  modify fun s => { s with tr := { s.tr with ssLoad := s.tr.ssLoad || decide (r = .ss) } }

/-- POP of a segment register (43_general_instructions.md R786): the increment has the width of the stack
before the load. -/
def popSeg (r : SegReg) : M Unit := do
  let s ← get
  let n := bytes s.o32
  let v ← peek 0 n
  loadSeg r (BitVec.ofNat 16 v)
  let sp := s.seg.ss.cutSp (s.sp + BitVec.ofNat 32 n)
  putR32 .esp (s.seg.ss.withSp s.gpr.esp sp)
  markSsLoad r

/-- MOV Sw,Ew (43_general_instructions.md R785). -/
def movSwEwBody (sr : SegReg) (rm : Rm) : M Unit := do
  if sr = .cs then raiseUD
  else do
    let sel ← readRm 16 rm
    loadSeg sr sel
    markSsLoad sr

/-- MOV Ew,Sw (43_general_instructions.md R785): a 32-bit register receives the selector zero-extended. -/
def movEwSwBody (rm : Rm) (sr : SegReg) : M Unit := do
  let s ← get
  let sel := (s.seg.get sr).sel
  match rm with
  | .reg r => writeLoc (bits s.o32) (.reg r) (sel.setWidth (bits s.o32))
  | .mem _ => writeRm 16 rm sel

/-- LES, LDS, LSS, LFS and LGS (43_general_instructions.md R788). -/
def loadFar (sr : SegReg) (r : Reg) (m : Ea) : M Unit := do
  let w ← getW
  let off ← readEa m 0 (w / 8) (w / 8)
  let sel ← readEa m (BitVec.ofNat 32 (w / 8)) 2 2
  loadSeg sr (BitVec.ofNat 16 sel)
  writeLoc w (.reg r) (BitVec.ofNat w off)

/-- In virtual-8086 mode with IOPL below 3 (43_general_instructions.md R790). -/
def State.v86Low (s : State) : Bool := s.v86 && s.iopl ≠ 3

/-- The FLAGS image the 8086 program sees (43_general_instructions.md R790). -/
def State.v86Image (s : State) : Half :=
  (setBit (field s.eflags 0 16) 9 (s.flag fVIF)) ||| 0x3000#16

/-- PUSHF and PUSHFD (43_general_instructions.md R790). -/
def pushfBody : M Unit := do
  let s ← get
  if s.v86Low then
    if bit s.sys.cr4 0 && !s.o32 then push 2 s.v86Image.toNat else raiseGP0
  else if s.o32 then push 4 (s.eflags &&& 0x00FCFFFF#32).toNat
  else push 2 (field s.eflags 0 16 : Half).toNat

/-- The bits POPF writes (43_general_instructions.md R790). -/
def State.popfMask (s : State) : Word :=
  0x4DD5#32 ||| (if s.o32 then 0x240000#32 else 0) |||
    (if !s.prot || s.cpl ≤ s.iopl then 0x200#32 else 0) |||
    (if !s.prot || (!s.flag fVM && s.cpl = 0) then 0x3000#32 else 0)

/-- POPF and POPFD (43_general_instructions.md R790). -/
def popfBody : M Unit := do
  let s ← get
  if s.v86Low then
    if bit s.sys.cr4 0 && !s.o32 then do
      let x ← peek 0 2
      let f := BitVec.ofNat 32 x
      if bit f fTF || (bit f fIF && s.flag fVIP) then raiseGP0
      else do
        putFlagsMasked 0x4DD5#32 f
        putFlag fVIF (bit f fIF)
        addSp 2
    else raiseGP0
  else do
    let x ← pop (bytes s.o32)
    putFlagsMasked s.popfMask (BitVec.ofNat 32 x)

/-- The flag CLI and STI act on (43_general_instructions.md R791). -/
def interruptFlag : M Nat := do
  let s ← get
  if !s.prot then pure fIF
  else if !s.flag fVM then
    if s.cpl ≤ s.iopl then pure fIF
    else if bit s.sys.cr4 1 && s.cpl = 3 then pure fVIF
    else raiseGP0
  else if s.iopl = 3 then pure fIF
  else if bit s.sys.cr4 0 then pure fVIF
  else raiseGP0

/-- CLI (43_general_instructions.md R791). -/
def cliBody : M Unit := do
  let f ← interruptFlag
  putFlag f false

/-- STI (43_general_instructions.md R791). -/
def stiBody : M Unit := do
  let f ← interruptFlag
  let s ← get
  if f = fVIF then
    if s.flag fVIP then raiseGP0 else putFlag fVIF true
  else do
    modify fun s => { s with tr := { s.tr with sti := !s.flag fIF } }
    putFlag fIF true

/-- PUSH ES, 06 (43_general_instructions.md R786). -/
def execPushEs (s : State) : Outcome State Fault Refusal :=
  instr false (pushSeg .es) s

/-- POP ES, 07 (43_general_instructions.md R786). -/
def execPopEs (s : State) : Outcome State Fault Refusal :=
  instr false (popSeg .es) s

/-- PUSH CS, 0E (43_general_instructions.md R786). -/
def execPushCs (s : State) : Outcome State Fault Refusal :=
  instr false (pushSeg .cs) s

/-- PUSH SS, 16 (43_general_instructions.md R786). -/
def execPushSs (s : State) : Outcome State Fault Refusal :=
  instr false (pushSeg .ss) s

/-- POP SS, 17 (43_general_instructions.md R786). -/
def execPopSs (s : State) : Outcome State Fault Refusal :=
  instr false (popSeg .ss) s

/-- PUSH DS, 1E (43_general_instructions.md R786). -/
def execPushDs (s : State) : Outcome State Fault Refusal :=
  instr false (pushSeg .ds) s

/-- POP DS, 1F (43_general_instructions.md R786). -/
def execPopDs (s : State) : Outcome State Fault Refusal :=
  instr false (popSeg .ds) s

/-- PUSH FS, 0FA0 (43_general_instructions.md R786). -/
def execPushFs (s : State) : Outcome State Fault Refusal :=
  instr false (pushSeg .fs) s

/-- POP FS, 0FA1 (43_general_instructions.md R786). -/
def execPopFs (s : State) : Outcome State Fault Refusal :=
  instr false (popSeg .fs) s

/-- PUSH GS, 0FA8 (43_general_instructions.md R786). -/
def execPushGs (s : State) : Outcome State Fault Refusal :=
  instr false (pushSeg .gs) s

/-- POP GS, 0FA9 (43_general_instructions.md R786). -/
def execPopGs (s : State) : Outcome State Fault Refusal :=
  instr false (popSeg .gs) s

/-- PUSH eXX, 50 (43_general_instructions.md R781). -/
def execPushRv (r : Reg) (s : State) : Outcome State Fault Refusal :=
  instr false (pushReg r) s

/-- POP eXX, 58 (43_general_instructions.md R781). -/
def execPopRv (r : Reg) (s : State) : Outcome State Fault Refusal :=
  instr false (popReg r) s

/-- PUSHA_PUSHAD , 60 (43_general_instructions.md R782). -/
def execPushaPushad (s : State) : Outcome State Fault Refusal :=
  instr false pushaBody s

/-- POPA_POPAD , 61 (43_general_instructions.md R782). -/
def execPopaPopad (s : State) : Outcome State Fault Refusal :=
  instr false popaBody s

/-- PUSH Iv, 68 (43_general_instructions.md R781). -/
def execPushIv (imm : BitVec 32) (s : State) : Outcome State Fault Refusal :=
  instr false (pushImm imm) s

/-- PUSH Ib, 6A (43_general_instructions.md R781). -/
def execPushIb (imm : BitVec 8) (s : State) : Outcome State Fault Refusal :=
  instr false (pushImm (imm.signExtend 32)) s

/-- MOV Ew,Sw, 8C (43_general_instructions.md R785). -/
def execMovEwSw (rm : Rm) (sr : SegReg) (s : State) : Outcome State Fault Refusal :=
  instr false (movEwSwBody rm sr) s

/-- MOV Sw,Ew, 8E (43_general_instructions.md R785). -/
def execMovSwEw (sr : SegReg) (rm : Rm) (s : State) : Outcome State Fault Refusal :=
  instr false (movSwEwBody sr rm) s

/-- POP Ev, 8F00 (43_general_instructions.md R781). -/
def execPopEv (rm : Rm) (s : State) : Outcome State Fault Refusal :=
  instr false (popEvBody rm) s

/-- PUSHF_PUSHFD Fv, 9C (43_general_instructions.md R790). -/
def execPushfPushfd (s : State) : Outcome State Fault Refusal :=
  instr false pushfBody s

/-- POPF_POPFD Fv, 9D (43_general_instructions.md R790). -/
def execPopfPopfd (s : State) : Outcome State Fault Refusal :=
  instr false popfBody s

/-- LES Gv,Mp, C4 (43_general_instructions.md R788). -/
def execLesGvMp (r : Reg) (m : Ea) (s : State) : Outcome State Fault Refusal :=
  instr false (loadFar .es r m) s

/-- LDS Gv,Mp, C5 (43_general_instructions.md R788). -/
def execLdsGvMp (r : Reg) (m : Ea) (s : State) : Outcome State Fault Refusal :=
  instr false (loadFar .ds r m) s

/-- ENTER Iw,Ib, C8 (43_general_instructions.md R783). -/
def execEnterIwIb (imm : BitVec 16) (imm2 : BitVec 8) (s : State) : Outcome State Fault Refusal :=
  instr false (enterBody imm imm2) s

/-- LEAVE , C9 (43_general_instructions.md R783). -/
def execLeave (s : State) : Outcome State Fault Refusal :=
  instr false leaveBody s

/-- CLI , FA (43_general_instructions.md R791). -/
def execCli (s : State) : Outcome State Fault Refusal :=
  instr false cliBody s

/-- STI , FB (43_general_instructions.md R791). -/
def execSti (s : State) : Outcome State Fault Refusal :=
  instr false stiBody s

/-- PUSH Ev, FF30 (43_general_instructions.md R781). -/
def execPushEv (rm : Rm) (s : State) : Outcome State Fault Refusal :=
  instr false (pushEvBody rm) s

/-- LSS Gv,Mp, 0FB2 (43_general_instructions.md R788). -/
def execLssGvMp (r : Reg) (m : Ea) (s : State) : Outcome State Fault Refusal :=
  instr false (loadFar .ss r m) s

/-- LFS Gv,Mp, 0FB4 (43_general_instructions.md R788). -/
def execLfsGvMp (r : Reg) (m : Ea) (s : State) : Outcome State Fault Refusal :=
  instr false (loadFar .fs r m) s

/-- LGS Gv,Mp, 0FB5 (43_general_instructions.md R788). -/
def execLgsGvMp (r : Reg) (m : Ea) (s : State) : Outcome State Fault Refusal :=
  instr false (loadFar .gs r m) s

end Sys2Proof.Machine
end

