-- ==== Sys2Proof/Machine/System.lean ====
section
/-! DEFINITION. The system instructions (40_system_instructions.md). -/
namespace Sys2Proof.Machine
open Host

/-- Load a descriptor-table register from a 6-byte operand (40_system_instructions.md R571). -/
def loadTable (m : Ea) (put : TableReg → Sys → Sys) : M Unit := do
  requireCpl0
  let s ← get
  let lim ← readEa m 0 2 1
  let base ← readEa m 2 4 1
  let b := BitVec.ofNat 32 base
  let t : TableReg := { base := if s.o32 then b else b &&& 0x00FFFFFF#32, limit := BitVec.ofNat 16 lim }
  modify fun s => { s with sys := put t s.sys }

/-- Store a descriptor-table register to a 6-byte operand (40_system_instructions.md R572); with a 16-bit operand
size the fourth base byte is a free value (log 16). -/
def storeTable (m : Ea) (t : TableReg) : M Unit := do
  let s ← get
  let f ← draw 8
  let lo ← accessEa m 0 2 4 true
  let hi ← accessEa m 2 4 1 true
  writeSpans lo 2 t.limit.toNat
  writeSpans hi 4 (if s.o32 then t.base else (f ++ field t.base 0 24 : BitVec 32)).toNat

/-- LLDT (40_system_instructions.md R575). -/
def lldtBody (rm : Rm) : M Unit := do
  requireProt
  requireCpl0
  let sel ← readRm 16 rm
  if isNull sel then modify fun s => { s with sys := { s.sys with ldtr := s.sys.ldtr.nulled sel } }
  else if bit sel 2 then raiseGP sel
  else do
    let (_, d) ← needDesc 13 sel
    if descS d || descType d ≠ 2 then raiseGP sel
    else if !descP d then raiseNP sel
    else modify fun s => { s with sys := { s.sys with ldtr := Seg.ofDesc sel d } }

/-- LTR (40_system_instructions.md R577). -/
def ltrBody (rm : Rm) : M Unit := do
  requireProt
  requireCpl0
  let sel ← readRm 16 rm
  if isNull sel then raiseGP0
  else if bit sel 2 then raiseGP sel
  else do
    let (a, d) ← needDesc 13 sel
    if descS d || (descType d ≠ 1 && descType d ≠ 9) then raiseGP sel
    else if !descP d then raiseNP sel
    else do
      let ps ← linearSpans (a + 4) 4 true false
      takeBusy sel ps
      let r := Seg.ofDesc sel d
      modify fun s => { s with sys := { s.sys with tr := { r with type := r.type ||| 2 } } }

/-- Store 16 bits; to a 32-bit register the upper half is a free value (40_system_instructions.md R576, R582, log 16). -/
def storeWord (rm : Rm) (v : Half) : M Unit := do
  let s ← get
  match rm with
  | .reg r =>
    if s.o32 then do
      let f ← draw 16
      putR32 r (f ++ v : BitVec 32)
    else putR16 r v
  | .mem _ => writeRm 16 rm v

/-- SLDT (40_system_instructions.md R576). -/
def sldtBody (rm : Rm) : M Unit := do
  requireProt
  let s ← get
  storeWord rm s.sys.ldtr.sel

/-- STR (40_system_instructions.md R578). -/
def strBody (rm : Rm) : M Unit := do
  requireProt
  let s ← get
  storeWord rm s.sys.tr.sel

/-- SMSW (40_system_instructions.md R582). -/
def smswBody (rm : Rm) : M Unit := do
  let s ← get
  storeWord rm (field s.sys.cr0 0 16)

/-- Flush the TLBs if PE or PG differ (22_paging.md R372), and read the page-directory-pointer entries when PG
changes with PAE on (22_paging.md R360). -/
def afterCr0 (old new : Word) : M Unit := do
  whenM (bit old 0 != bit new 0 || bit old 31 != bit new 31) flushTlb
  let s ← get
  whenM (s.paging && s.pae && bit old 31 != bit new 31) loadPdptes

/-- LMSW (40_system_instructions.md R581). -/
def lmswBody (rm : Rm) : M Unit := do
  requireCpl0
  let v ← readRm 16 rm
  let s ← get
  let old := s.sys.cr0
  let new := blend 0xE#32 old (zx32 v) ||| (zx32 v &&& 1#32)
  modify fun s => { s with sys := { s.sys with cr0 := new } }
  afterCr0 old new

/-- CLTS (40_system_instructions.md R583). -/
def cltsBody : M Unit := do
  requireCpl0
  modify fun s => { s with sys := { s.sys with cr0 := setBit s.sys.cr0 3 false } }

/-- Only CR0, CR2, CR3 and CR4 exist (40_system_instructions.md R579). -/
def crExists (n : Nat) : Bool := n = 0 || n = 2 || n = 3 || n = 4

/-- MOV from a control register (40_system_instructions.md R579). CR3 is read as it is held: bits 11:5 that were loaded with
CR4.PAE = 1 read as loaded also after PAE is cleared, where they are reserved; 10_state.md R64 and R70 and decision D4 speak of
writes of reserved bits only (log 23, DESIGN CHOICE, unsafe). -/
def movFromCr (r : Reg) (n : Nat) : M Unit := do
  requireCpl0
  if !crExists n then raiseUD
  else do
    let s ← get
    putR32 r (if n = 0 then s.sys.cr0 else if n = 2 then s.sys.cr2 else if n = 3 then s.sys.cr3 else s.sys.cr4)
    freeArith

/-- Write CR0 (40_system_instructions.md R579). -/
def writeCr0 (v : Word) : M Unit := do
  if cr0Bad v then raiseGP0
  else do
    let s ← get
    modify fun s => { s with sys := { s.sys with cr0 := cr0Value v } }
    afterCr0 s.sys.cr0 v

/-- Write CR4 (40_system_instructions.md R579). CR3 stays as it is when PAE is cleared, bits 11:5 included, which are reserved
from then on (10_state.md R70, log 23, DESIGN CHOICE, unsafe). -/
def writeCr4 (v : Word) : M Unit := do
  if v &&& 0xFFFFFE00#32 ≠ 0 then raiseGP0
  else do
    let s ← get
    modify fun s => { s with sys := { s.sys with cr4 := v } }
    whenM (decide ((s.sys.cr4 ^^^ v) &&& 0xB0#32 ≠ 0)) (do
      flushTlb
      let t ← get
      whenM (t.paging && t.pae) loadPdptes)

/-- MOV to a control register (40_system_instructions.md R579). -/
def movToCr (n : Nat) (r : Reg) : M Unit := do
  requireCpl0
  if !crExists n then raiseUD
  else do
    let s ← get
    let v := s.r32 r
    if n = 0 then writeCr0 v
    else if n = 2 then modify fun s => { s with sys := { s.sys with cr2 := v } }
    else if n = 3 then loadCr3 v
    else writeCr4 v
    freeArith

/-- The tests of a MOV of a debug register, and which register it is (40_system_instructions.md R580). -/
def debugReg (n : Nat) : M Nat := do
  requireCpl0
  let s ← get
  if (n = 4 ∨ n = 5) ∧ bit s.sys.cr4 3 then raiseUD
  else if bit s.dbg.dr7 13 then
    throw (.exc { vec := 1, code := none, cr2 := none, dr6 := 0x2000#32, keep := false })
  else pure (if n = 4 ∨ n = 5 then n + 2 else n)

/-- A debug register. -/
def Dbg.reg (d : Dbg) (n : Nat) : Word :=
  if n = 6 then d.dr6 else if n = 7 then d.dr7 else d.addr n

/-- The debug registers with one written; the fixed bits of DR6 and DR7 stay (10_state.md R75, R76). -/
def Dbg.setReg (d : Dbg) (n : Nat) (v : Word) : Dbg :=
  if n = 0 then { d with dr0 := v }
  else if n = 1 then { d with dr1 := v }
  else if n = 2 then { d with dr2 := v }
  else if n = 3 then { d with dr3 := v }
  else if n = 6 then { d with dr6 := (v &&& 0xE00F#32) ||| 0xFFFF0FF0#32 }
  else { d with dr7 := (v &&& ~~~0xD800#32) ||| 0x400#32 }

/-- MOV from a debug register (40_system_instructions.md R580). -/
def movFromDr (r : Reg) (n : Nat) : M Unit := do
  let k ← debugReg n
  let s ← get
  putR32 r (s.dbg.reg k)
  freeArith

/-- MOV to a debug register (40_system_instructions.md R580). -/
def movToDr (n : Nat) (r : Reg) : M Unit := do
  let k ← debugReg n
  modify fun s => { s with dbg := s.dbg.setReg k (s.r32 r) }
  freeArith

/-- ARPL (40_system_instructions.md R584). A destination in memory is a read-modify-write operand, checked as a write before it
is read (23_protection.md R410, 43_general_instructions.md R771); it is written, and meets write breakpoints, in the adjusting
case only. -/
def arplBody (rm : Rm) (r : Reg) : M Unit := do
  requireProt
  let (l, la) ← locUpdate rm 2
  let d ← readLoc 16 l
  let g ← readG 16 r
  if rpl d < rpl g then do
    noteWrite la 2
    writeLoc 16 l ((d &&& 0xFFFC#16) ||| (g &&& 3#16))
    putFlag fZF true
  else putFlag fZF false

/-- The segment is visible at the current level and the selector's (40_system_instructions.md R585). -/
def visible (d : Desc) (sel : Half) (cpl : BitVec 2) : Bool := !(cpl > descDpl d) && !(rpl sel > descDpl d)

/-- The descriptor of a selector that is tested: none if it is null or outside its table (40_system_instructions.md R585). -/
def testedDesc (sel : Half) : M (Option Desc) := do
  if isNull sel then pure none
  else do
    let f ← fetchDesc sel
    pure (f.map Prod.snd)

/-- LAR and LSL accept the segment (40_system_instructions.md R585, R586). -/
def examined (types : List Nat) (d : Desc) (sel : Half) (cpl : BitVec 2) : Bool :=
  (descS d || types.contains (descType d).toNat) && (descConforming d || visible d sel cpl)

/-- LAR and LSL: `value` of the descriptor goes to the register if it is accepted (40_system_instructions.md R585, R586). -/
def examine (types : List Nat) (value : Desc → Word) (r : Reg) (rm : Rm) : M Unit := do
  requireProt
  let w ← getW
  let sel ← readRm 16 rm
  let f ← testedDesc sel
  let s ← get
  match f with
  | none => putFlag fZF false
  | some d =>
    if examined types d sel s.cpl then do
      writeLoc w (.reg r) ((value d).setWidth w)
      putFlag fZF true
    else putFlag fZF false

/-- LAR (40_system_instructions.md R585). -/
def larBody (r : Reg) (rm : Rm) : M Unit :=
  examine [1, 2, 3, 4, 5, 9, 11, 12] (fun d => field d 32 32 &&& 0x00F0FF00#32) r rm

/-- LSL (40_system_instructions.md R586). -/
def lslBody (r : Reg) (rm : Rm) : M Unit := examine [1, 2, 3, 9, 11] descLimit r rm

/-- VERR and VERW: ZF tells whether the segment passes (40_system_instructions.md R587, R588). -/
def verify (ok : Desc → Half → BitVec 2 → Bool) (rm : Rm) : M Unit := do
  requireProt
  let sel ← readRm 16 rm
  let f ← testedDesc sel
  let s ← get
  putFlag fZF (match f with
    | none => false
    | some d => ok d sel s.cpl)

/-- VERR (40_system_instructions.md R587). -/
def verrBody (rm : Rm) : M Unit :=
  verify (fun d sel cpl => isReadable (descS d) (descType d) && (descConforming d || visible d sel cpl)) rm

/-- VERW (40_system_instructions.md R588). -/
def verwBody (rm : Rm) : M Unit :=
  verify (fun d sel cpl => isWritable (descS d) (descType d) && visible d sel cpl) rm

/-- INVD (40_system_instructions.md R589). -/
def invdBody : M Unit := do
  requireCpl0
  dropCaches
  flushTlb
  emit .sync

/-- WBINVD (40_system_instructions.md R590), which ends with a FLUSH cycle (20_memory.md R254). -/
def wbinvdBody : M Unit := do
  requireCpl0
  writeBackCaches
  flushTlb
  emit .flush

/-- INVLPG (40_system_instructions.md R591). -/
def invlpgBody (m : Ea) : M Unit := do
  requireCpl0
  let s ← get
  flushTlbPage ((s.seg.get (eaSeg s m)).base + eaOffset s m)

/-- HLT (40_system_instructions.md R592). -/
def hltBody : M Unit := do
  requireCpl0
  emit .halt
  modify fun s =>
    { s with lat := { s.lat with activity := .halted }, tr := { s.tr with noStep := true } }

/-- D6H and F1H: their effect is unspecified; the general registers and the status flags are free values (log 17). -/
def unspecified : M Unit := do
  let a ← draw 32
  let c ← draw 32
  let d ← draw 32
  let b ← draw 32
  let sp ← draw 32
  let bp ← draw 32
  let si ← draw 32
  let di ← draw 32
  modify fun s => { s with gpr := ⟨a, c, d, b, sp, bp, si, di⟩ }
  freeArith

/-- ARPL Ew,Gw, 63 (40_system_instructions.md R584). -/
def execArplEwGw (rm : Rm) (r : Reg) (s : State) : Outcome State Fault Refusal :=
  instr false (arplBody rm r) s

/-- reserved_MOVB AL,Ib, 82 (31_opcode_map.md R548). -/
def execReserved82 (s : State) : Outcome State Fault Refusal :=
  instr false raiseUD s

/-- (reserved) , D6 (31_opcode_map.md R548). -/
def execReservedD6 (s : State) : Outcome State Fault Refusal :=
  instr false unspecified s

/-- (reserved) , F1 (31_opcode_map.md R548). -/
def execReservedF1 (s : State) : Outcome State Fault Refusal :=
  instr false unspecified s

/-- HLT , F4 (40_system_instructions.md R592). -/
def execHlt (s : State) : Outcome State Fault Refusal :=
  instr false hltBody s

/-- SLDT Ew, 0F0000 (40_system_instructions.md R576). -/
def execSldtEw (rm : Rm) (s : State) : Outcome State Fault Refusal :=
  instr false (sldtBody rm) s

/-- STR Ew, 0F0008 (40_system_instructions.md R578). -/
def execStrEw (rm : Rm) (s : State) : Outcome State Fault Refusal :=
  instr false (strBody rm) s

/-- LLDT Ew, 0F0010 (40_system_instructions.md R575). -/
def execLldtEw (rm : Rm) (s : State) : Outcome State Fault Refusal :=
  instr false (lldtBody rm) s

/-- LTR Ew, 0F0018 (40_system_instructions.md R577). -/
def execLtrEw (rm : Rm) (s : State) : Outcome State Fault Refusal :=
  instr false (ltrBody rm) s

/-- VERR Ew, 0F0020 (40_system_instructions.md R587). -/
def execVerrEw (rm : Rm) (s : State) : Outcome State Fault Refusal :=
  instr false (verrBody rm) s

/-- VERW Ew, 0F0028 (40_system_instructions.md R588). -/
def execVerwEw (rm : Rm) (s : State) : Outcome State Fault Refusal :=
  instr false (verwBody rm) s

/-- SGDT Ms, 0F0100 (40_system_instructions.md R572). -/
def execSgdtMs (m : Ea) (s : State) : Outcome State Fault Refusal :=
  instr false (do
    let t ← get
    storeTable m t.sys.gdtr) s

/-- SIDT Ms, 0F0108 (40_system_instructions.md R574). -/
def execSidtMs (m : Ea) (s : State) : Outcome State Fault Refusal :=
  instr false (do
    let t ← get
    storeTable m t.sys.idtr) s

/-- LGDT Ms, 0F0110 (40_system_instructions.md R571). -/
def execLgdtMs (m : Ea) (s : State) : Outcome State Fault Refusal :=
  instr false (loadTable m (fun t y => { y with gdtr := t })) s

/-- LIDT Ms, 0F0118 (40_system_instructions.md R573). -/
def execLidtMs (m : Ea) (s : State) : Outcome State Fault Refusal :=
  instr false (loadTable m (fun t y => { y with idtr := t })) s

/-- SMSW Ew, 0F0120 (40_system_instructions.md R582). -/
def execSmswEw (rm : Rm) (s : State) : Outcome State Fault Refusal :=
  instr false (smswBody rm) s

/-- LMSW Ew, 0F0130 (40_system_instructions.md R581). -/
def execLmswEw (rm : Rm) (s : State) : Outcome State Fault Refusal :=
  instr false (lmswBody rm) s

/-- INVLPG M, 0F0138 (40_system_instructions.md R591). -/
def execInvlpgM (m : Ea) (s : State) : Outcome State Fault Refusal :=
  instr false (invlpgBody m) s

/-- LAR Gv,Ew, 0F02 (40_system_instructions.md R585). -/
def execLarGvEw (r : Reg) (rm : Rm) (s : State) : Outcome State Fault Refusal :=
  instr false (larBody r rm) s

/-- LSL Gv,Ew, 0F03 (40_system_instructions.md R586). -/
def execLslGvEw (r : Reg) (rm : Rm) (s : State) : Outcome State Fault Refusal :=
  instr false (lslBody r rm) s

/-- CLTS , 0F06 (40_system_instructions.md R583). -/
def execClts (s : State) : Outcome State Fault Refusal :=
  instr false cltsBody s

/-- INVD , 0F08 (40_system_instructions.md R589). -/
def execInvd (s : State) : Outcome State Fault Refusal :=
  instr false invdBody s

/-- WBINVD , 0F09 (40_system_instructions.md R590). -/
def execWbinvd (s : State) : Outcome State Fault Refusal :=
  instr false wbinvdBody s

/-- UD2 , 0F0B (43_general_instructions.md R815). -/
def execUd2 (s : State) : Outcome State Fault Refusal :=
  instr false raiseUD s

/-- MOV Rd,Cd, 0F20 (40_system_instructions.md R579). -/
def execMovRdCd (r : Reg) (cr : Fin 8) (s : State) : Outcome State Fault Refusal :=
  instr false (movFromCr r cr.val) s

/-- MOV Rd,Dd, 0F21 (40_system_instructions.md R580). -/
def execMovRdDd (r : Reg) (dr : Fin 8) (s : State) : Outcome State Fault Refusal :=
  instr false (movFromDr r dr.val) s

/-- MOV Cd,Rd, 0F22 (40_system_instructions.md R579). -/
def execMovCdRd (cr : Fin 8) (r : Reg) (s : State) : Outcome State Fault Refusal :=
  instr false (movToCr cr.val r) s

/-- MOV Dd,Rd, 0F23 (40_system_instructions.md R580). -/
def execMovDdRd (dr : Fin 8) (r : Reg) (s : State) : Outcome State Fault Refusal :=
  instr false (movToDr dr.val r) s

/-- reserved_MOV Rd,Td, 0F24 (31_opcode_map.md R548). -/
def execReserved0F24 (_tr : Fin 8) (_r : Reg) (s : State) : Outcome State Fault Refusal :=
  instr false raiseUD s

/-- reserved_MOV Td,Rd, 0F26 (31_opcode_map.md R548). -/
def execReserved0F26 (_tr : Fin 8) (_r : Reg) (s : State) : Outcome State Fault Refusal :=
  instr false raiseUD s

/-- WRMSR , 0F30 (40_system_instructions.md R601). -/
def execWrmsr (s : State) : Outcome State Fault Refusal :=
  instr false Sys2Proof.Machine.wrmsr s

/-- RDTSC , 0F31 (40_system_instructions.md R603). -/
def execRdtsc (s : State) : Outcome State Fault Refusal :=
  instr false Sys2Proof.Machine.rdtsc s

/-- RDMSR , 0F32 (40_system_instructions.md R600). -/
def execRdmsr (s : State) : Outcome State Fault Refusal :=
  instr false Sys2Proof.Machine.rdmsr s

/-- RDPMC , 0F33 (40_system_instructions.md R602). -/
def execRdpmc (s : State) : Outcome State Fault Refusal :=
  instr false Sys2Proof.Machine.rdpmc s

/-- CPUID , 0FA2 (40_system_instructions.md R604). -/
def execCpuid (s : State) : Outcome State Fault Refusal :=
  instr false Sys2Proof.Machine.cpuid s

/-- (reserved) , 0FA6 (31_opcode_map.md R548). -/
def execReserved0FA6 (s : State) : Outcome State Fault Refusal :=
  instr false raiseUD s

/-- (reserved) , 0FA7 (31_opcode_map.md R548). -/
def execReserved0FA7 (s : State) : Outcome State Fault Refusal :=
  instr false raiseUD s

/-- RSM , 0FAA (40_system_instructions.md R594). -/
def execRsm (s : State) : Outcome State Fault Refusal :=
  instr false (Sys2Proof.Machine.rsm s.eip) s

end Sys2Proof.Machine
end

