-- ==== Sys2Proof/Machine/Dispatch.lean ====
section
/-! DEFINITION. One arm per instruction, each a call of its meaning. -/
namespace Sys2Proof.Machine
open Host

def exec (i : Instr) (s : State) : Host.Outcome State Fault Refusal :=
  match i with
  | .addEbGb rm r => Sys2Proof.Machine.execAddEbGb rm r s
  | .addEvGv rm r => Sys2Proof.Machine.execAddEvGv rm r s
  | .addGbEb r rm => Sys2Proof.Machine.execAddGbEb r rm s
  | .addGvEv r rm => Sys2Proof.Machine.execAddGvEv r rm s
  | .addALIb imm => Sys2Proof.Machine.execAddALIb imm s
  | .addeAXIv imm => Sys2Proof.Machine.execAddeAXIv imm s
  | .addEbIb rm imm => Sys2Proof.Machine.execAddEbIb rm imm s
  | .addEvIv rm imm => Sys2Proof.Machine.execAddEvIv rm imm s
  | .addEvIb rm imm => Sys2Proof.Machine.execAddEvIb rm imm s
  | .orEbGb rm r => Sys2Proof.Machine.execOrEbGb rm r s
  | .orEvGv rm r => Sys2Proof.Machine.execOrEvGv rm r s
  | .orGbEb r rm => Sys2Proof.Machine.execOrGbEb r rm s
  | .orGvEv r rm => Sys2Proof.Machine.execOrGvEv r rm s
  | .orALIb imm => Sys2Proof.Machine.execOrALIb imm s
  | .oreAXIv imm => Sys2Proof.Machine.execOreAXIv imm s
  | .orEbIb rm imm => Sys2Proof.Machine.execOrEbIb rm imm s
  | .orEvIv rm imm => Sys2Proof.Machine.execOrEvIv rm imm s
  | .orEvIb rm imm => Sys2Proof.Machine.execOrEvIb rm imm s
  | .adcEbGb rm r => Sys2Proof.Machine.execAdcEbGb rm r s
  | .adcEvGv rm r => Sys2Proof.Machine.execAdcEvGv rm r s
  | .adcGbEb r rm => Sys2Proof.Machine.execAdcGbEb r rm s
  | .adcGvEv r rm => Sys2Proof.Machine.execAdcGvEv r rm s
  | .adcALIb imm => Sys2Proof.Machine.execAdcALIb imm s
  | .adceAXIv imm => Sys2Proof.Machine.execAdceAXIv imm s
  | .adcEbIb rm imm => Sys2Proof.Machine.execAdcEbIb rm imm s
  | .adcEvIv rm imm => Sys2Proof.Machine.execAdcEvIv rm imm s
  | .adcEvIb rm imm => Sys2Proof.Machine.execAdcEvIb rm imm s
  | .sbbEbGb rm r => Sys2Proof.Machine.execSbbEbGb rm r s
  | .sbbEvGv rm r => Sys2Proof.Machine.execSbbEvGv rm r s
  | .sbbGbEb r rm => Sys2Proof.Machine.execSbbGbEb r rm s
  | .sbbGvEv r rm => Sys2Proof.Machine.execSbbGvEv r rm s
  | .sbbALIb imm => Sys2Proof.Machine.execSbbALIb imm s
  | .sbbeAXIv imm => Sys2Proof.Machine.execSbbeAXIv imm s
  | .sbbEbIb rm imm => Sys2Proof.Machine.execSbbEbIb rm imm s
  | .sbbEvIv rm imm => Sys2Proof.Machine.execSbbEvIv rm imm s
  | .sbbEvIb rm imm => Sys2Proof.Machine.execSbbEvIb rm imm s
  | .andEbGb rm r => Sys2Proof.Machine.execAndEbGb rm r s
  | .andEvGv rm r => Sys2Proof.Machine.execAndEvGv rm r s
  | .andGbEb r rm => Sys2Proof.Machine.execAndGbEb r rm s
  | .andGvEv r rm => Sys2Proof.Machine.execAndGvEv r rm s
  | .andALIb imm => Sys2Proof.Machine.execAndALIb imm s
  | .andeAXIv imm => Sys2Proof.Machine.execAndeAXIv imm s
  | .andEbIb rm imm => Sys2Proof.Machine.execAndEbIb rm imm s
  | .andEvIv rm imm => Sys2Proof.Machine.execAndEvIv rm imm s
  | .andEvIb rm imm => Sys2Proof.Machine.execAndEvIb rm imm s
  | .subEbGb rm r => Sys2Proof.Machine.execSubEbGb rm r s
  | .subEvGv rm r => Sys2Proof.Machine.execSubEvGv rm r s
  | .subGbEb r rm => Sys2Proof.Machine.execSubGbEb r rm s
  | .subGvEv r rm => Sys2Proof.Machine.execSubGvEv r rm s
  | .subALIb imm => Sys2Proof.Machine.execSubALIb imm s
  | .subeAXIv imm => Sys2Proof.Machine.execSubeAXIv imm s
  | .subEbIb rm imm => Sys2Proof.Machine.execSubEbIb rm imm s
  | .subEvIv rm imm => Sys2Proof.Machine.execSubEvIv rm imm s
  | .subEvIb rm imm => Sys2Proof.Machine.execSubEvIb rm imm s
  | .xorEbGb rm r => Sys2Proof.Machine.execXorEbGb rm r s
  | .xorEvGv rm r => Sys2Proof.Machine.execXorEvGv rm r s
  | .xorGbEb r rm => Sys2Proof.Machine.execXorGbEb r rm s
  | .xorGvEv r rm => Sys2Proof.Machine.execXorGvEv r rm s
  | .xorALIb imm => Sys2Proof.Machine.execXorALIb imm s
  | .xoreAXIv imm => Sys2Proof.Machine.execXoreAXIv imm s
  | .xorEbIb rm imm => Sys2Proof.Machine.execXorEbIb rm imm s
  | .xorEvIv rm imm => Sys2Proof.Machine.execXorEvIv rm imm s
  | .xorEvIb rm imm => Sys2Proof.Machine.execXorEvIb rm imm s
  | .cmpEbGb rm r => Sys2Proof.Machine.execCmpEbGb rm r s
  | .cmpEvGv rm r => Sys2Proof.Machine.execCmpEvGv rm r s
  | .cmpGbEb r rm => Sys2Proof.Machine.execCmpGbEb r rm s
  | .cmpGvEv r rm => Sys2Proof.Machine.execCmpGvEv r rm s
  | .cmpALIb imm => Sys2Proof.Machine.execCmpALIb imm s
  | .cmpeAXIv imm => Sys2Proof.Machine.execCmpeAXIv imm s
  | .cmpEbIb rm imm => Sys2Proof.Machine.execCmpEbIb rm imm s
  | .cmpEvIv rm imm => Sys2Proof.Machine.execCmpEvIv rm imm s
  | .cmpEvIb rm imm => Sys2Proof.Machine.execCmpEvIb rm imm s
  | .pushEs => Sys2Proof.Machine.execPushEs s
  | .popEs => Sys2Proof.Machine.execPopEs s
  | .pushCs => Sys2Proof.Machine.execPushCs s
  | .pushSs => Sys2Proof.Machine.execPushSs s
  | .popSs => Sys2Proof.Machine.execPopSs s
  | .pushDs => Sys2Proof.Machine.execPushDs s
  | .popDs => Sys2Proof.Machine.execPopDs s
  | .pushFs => Sys2Proof.Machine.execPushFs s
  | .popFs => Sys2Proof.Machine.execPopFs s
  | .pushGs => Sys2Proof.Machine.execPushGs s
  | .popGs => Sys2Proof.Machine.execPopGs s
  | .daa => Sys2Proof.Machine.execDaa s
  | .das => Sys2Proof.Machine.execDas s
  | .aaa => Sys2Proof.Machine.execAaa s
  | .aas => Sys2Proof.Machine.execAas s
  | .incRv r => Sys2Proof.Machine.execIncRv r s
  | .decRv r => Sys2Proof.Machine.execDecRv r s
  | .pushRv r => Sys2Proof.Machine.execPushRv r s
  | .popRv r => Sys2Proof.Machine.execPopRv r s
  | .pushaPushad => Sys2Proof.Machine.execPushaPushad s
  | .popaPopad => Sys2Proof.Machine.execPopaPopad s
  | .boundGvMa r m => Sys2Proof.Machine.execBoundGvMa r m s
  | .arplEwGw rm r => Sys2Proof.Machine.execArplEwGw rm r s
  | .pushIv imm => Sys2Proof.Machine.execPushIv imm s
  | .imulGvEvIv r rm imm => Sys2Proof.Machine.execImulGvEvIv r rm imm s
  | .pushIb imm => Sys2Proof.Machine.execPushIb imm s
  | .imulGvEvIb r rm imm => Sys2Proof.Machine.execImulGvEvIb r rm imm s
  | .insbYbDX => Sys2Proof.Machine.execInsbYbDX s
  | .inswInsdYvDX => Sys2Proof.Machine.execInswInsdYvDX s
  | .outsbDXXb => Sys2Proof.Machine.execOutsbDXXb s
  | .outswOutsdDXXv => Sys2Proof.Machine.execOutswOutsdDXXv s
  | .jccJb c disp => Sys2Proof.Machine.execJccJb c disp s
  | .reserved82 => Sys2Proof.Machine.execReserved82 s
  | .testEbGb rm r => Sys2Proof.Machine.execTestEbGb rm r s
  | .testEvGv rm r => Sys2Proof.Machine.execTestEvGv rm r s
  | .xchgEbGb rm r => Sys2Proof.Machine.execXchgEbGb rm r s
  | .xchgEvGv rm r => Sys2Proof.Machine.execXchgEvGv rm r s
  | .movEbGb rm r => Sys2Proof.Machine.execMovEbGb rm r s
  | .movEvGv rm r => Sys2Proof.Machine.execMovEvGv rm r s
  | .movGbEb r rm => Sys2Proof.Machine.execMovGbEb r rm s
  | .movGvEv r rm => Sys2Proof.Machine.execMovGvEv r rm s
  | .movEwSw rm sr => Sys2Proof.Machine.execMovEwSw rm sr s
  | .leaGvM r m => Sys2Proof.Machine.execLeaGvM r m s
  | .movSwEw sr rm => Sys2Proof.Machine.execMovSwEw sr rm s
  | .popEv rm => Sys2Proof.Machine.execPopEv rm s
  | .nop => Sys2Proof.Machine.execNop s
  | .xchgEAXRv r => Sys2Proof.Machine.execXchgEAXRv r s
  | .cbwCwde => Sys2Proof.Machine.execCbwCwde s
  | .cwdCdq => Sys2Proof.Machine.execCwdCdq s
  | .callAp off sel => Sys2Proof.Machine.execCallAp off sel s
  | .waitFwait => Sys2Proof.Machine.execWaitFwait s
  | .pushfPushfd => Sys2Proof.Machine.execPushfPushfd s
  | .popfPopfd => Sys2Proof.Machine.execPopfPopfd s
  | .sahf => Sys2Proof.Machine.execSahf s
  | .lahf => Sys2Proof.Machine.execLahf s
  | .movALOb off => Sys2Proof.Machine.execMovALOb off s
  | .moveAXOv off => Sys2Proof.Machine.execMoveAXOv off s
  | .movObAL off => Sys2Proof.Machine.execMovObAL off s
  | .movOveAX off => Sys2Proof.Machine.execMovOveAX off s
  | .movsbYbXb => Sys2Proof.Machine.execMovsbYbXb s
  | .movswMovsdYvXv => Sys2Proof.Machine.execMovswMovsdYvXv s
  | .cmpsbXbYb => Sys2Proof.Machine.execCmpsbXbYb s
  | .cmpswCmpsdXvYv => Sys2Proof.Machine.execCmpswCmpsdXvYv s
  | .testALIb imm => Sys2Proof.Machine.execTestALIb imm s
  | .testeAXIv imm => Sys2Proof.Machine.execTesteAXIv imm s
  | .stosbYbAL => Sys2Proof.Machine.execStosbYbAL s
  | .stoswStosdYveAX => Sys2Proof.Machine.execStoswStosdYveAX s
  | .lodsbALXb => Sys2Proof.Machine.execLodsbALXb s
  | .lodswLodsdeAXXv => Sys2Proof.Machine.execLodswLodsdeAXXv s
  | .scasbALYb => Sys2Proof.Machine.execScasbALYb s
  | .scaswScasdeAXYv => Sys2Proof.Machine.execScaswScasdeAXYv s
  | .movR8Ib r imm => Sys2Proof.Machine.execMovR8Ib r imm s
  | .movRvIv r imm => Sys2Proof.Machine.execMovRvIv r imm s
  | .rolEbIb rm imm => Sys2Proof.Machine.execRolEbIb rm imm s
  | .rorEbIb rm imm => Sys2Proof.Machine.execRorEbIb rm imm s
  | .rclEbIb rm imm => Sys2Proof.Machine.execRclEbIb rm imm s
  | .rcrEbIb rm imm => Sys2Proof.Machine.execRcrEbIb rm imm s
  | .shlSalEbIb rm imm => Sys2Proof.Machine.execShlSalEbIb rm imm s
  | .shrEbIb rm imm => Sys2Proof.Machine.execShrEbIb rm imm s
  | .sarEbIb rm imm => Sys2Proof.Machine.execSarEbIb rm imm s
  | .rolEvIb rm imm => Sys2Proof.Machine.execRolEvIb rm imm s
  | .rorEvIb rm imm => Sys2Proof.Machine.execRorEvIb rm imm s
  | .rclEvIb rm imm => Sys2Proof.Machine.execRclEvIb rm imm s
  | .rcrEvIb rm imm => Sys2Proof.Machine.execRcrEvIb rm imm s
  | .shlSalEvIb rm imm => Sys2Proof.Machine.execShlSalEvIb rm imm s
  | .shrEvIb rm imm => Sys2Proof.Machine.execShrEvIb rm imm s
  | .sarEvIb rm imm => Sys2Proof.Machine.execSarEvIb rm imm s
  | .rolEb1 rm => Sys2Proof.Machine.execRolEb1 rm s
  | .rorEb1 rm => Sys2Proof.Machine.execRorEb1 rm s
  | .rclEb1 rm => Sys2Proof.Machine.execRclEb1 rm s
  | .rcrEb1 rm => Sys2Proof.Machine.execRcrEb1 rm s
  | .shlSalEb1 rm => Sys2Proof.Machine.execShlSalEb1 rm s
  | .shrEb1 rm => Sys2Proof.Machine.execShrEb1 rm s
  | .sarEb1 rm => Sys2Proof.Machine.execSarEb1 rm s
  | .rolEv1 rm => Sys2Proof.Machine.execRolEv1 rm s
  | .rorEv1 rm => Sys2Proof.Machine.execRorEv1 rm s
  | .rclEv1 rm => Sys2Proof.Machine.execRclEv1 rm s
  | .rcrEv1 rm => Sys2Proof.Machine.execRcrEv1 rm s
  | .shlSalEv1 rm => Sys2Proof.Machine.execShlSalEv1 rm s
  | .shrEv1 rm => Sys2Proof.Machine.execShrEv1 rm s
  | .sarEv1 rm => Sys2Proof.Machine.execSarEv1 rm s
  | .rolEbCL rm => Sys2Proof.Machine.execRolEbCL rm s
  | .rorEbCL rm => Sys2Proof.Machine.execRorEbCL rm s
  | .rclEbCL rm => Sys2Proof.Machine.execRclEbCL rm s
  | .rcrEbCL rm => Sys2Proof.Machine.execRcrEbCL rm s
  | .shlSalEbCL rm => Sys2Proof.Machine.execShlSalEbCL rm s
  | .shrEbCL rm => Sys2Proof.Machine.execShrEbCL rm s
  | .sarEbCL rm => Sys2Proof.Machine.execSarEbCL rm s
  | .rolEvCL rm => Sys2Proof.Machine.execRolEvCL rm s
  | .rorEvCL rm => Sys2Proof.Machine.execRorEvCL rm s
  | .rclEvCL rm => Sys2Proof.Machine.execRclEvCL rm s
  | .rcrEvCL rm => Sys2Proof.Machine.execRcrEvCL rm s
  | .shlSalEvCL rm => Sys2Proof.Machine.execShlSalEvCL rm s
  | .shrEvCL rm => Sys2Proof.Machine.execShrEvCL rm s
  | .sarEvCL rm => Sys2Proof.Machine.execSarEvCL rm s
  | .retNearIw imm => Sys2Proof.Machine.execRetNearIw imm s
  | .retNear => Sys2Proof.Machine.execRetNear s
  | .lesGvMp r m => Sys2Proof.Machine.execLesGvMp r m s
  | .ldsGvMp r m => Sys2Proof.Machine.execLdsGvMp r m s
  | .movEbIb rm imm => Sys2Proof.Machine.execMovEbIb rm imm s
  | .movEvIv rm imm => Sys2Proof.Machine.execMovEvIv rm imm s
  | .enterIwIb imm imm2 => Sys2Proof.Machine.execEnterIwIb imm imm2 s
  | .leave => Sys2Proof.Machine.execLeave s
  | .retFarIw imm => Sys2Proof.Machine.execRetFarIw imm s
  | .retFar => Sys2Proof.Machine.execRetFar s
  | .int3 => Sys2Proof.Machine.execInt3 s
  | .intIb imm => Sys2Proof.Machine.execIntIb imm s
  | .into => Sys2Proof.Machine.execInto s
  | .iretIretd => Sys2Proof.Machine.execIretIretd s
  | .aamIb imm => Sys2Proof.Machine.execAamIb imm s
  | .aadIb imm => Sys2Proof.Machine.execAadIb imm s
  | .reservedD6 => Sys2Proof.Machine.execReservedD6 s
  | .xlatXlatb => Sys2Proof.Machine.execXlatXlatb s
  | .loopneLoopnzJb disp => Sys2Proof.Machine.execLoopneLoopnzJb disp s
  | .loopeLoopzJb disp => Sys2Proof.Machine.execLoopeLoopzJb disp s
  | .loopJb disp => Sys2Proof.Machine.execLoopJb disp s
  | .jcxzJecxzJb disp => Sys2Proof.Machine.execJcxzJecxzJb disp s
  | .inALIb imm => Sys2Proof.Machine.execInALIb imm s
  | .ineAXIb imm => Sys2Proof.Machine.execIneAXIb imm s
  | .outIbAL imm => Sys2Proof.Machine.execOutIbAL imm s
  | .outIbeAX imm => Sys2Proof.Machine.execOutIbeAX imm s
  | .callJv disp => Sys2Proof.Machine.execCallJv disp s
  | .jmpJv disp => Sys2Proof.Machine.execJmpJv disp s
  | .jmpAp off sel => Sys2Proof.Machine.execJmpAp off sel s
  | .jmpJb disp => Sys2Proof.Machine.execJmpJb disp s
  | .inALDX => Sys2Proof.Machine.execInALDX s
  | .ineAXDX => Sys2Proof.Machine.execIneAXDX s
  | .outDXAL => Sys2Proof.Machine.execOutDXAL s
  | .outDXeAX => Sys2Proof.Machine.execOutDXeAX s
  | .reservedF1 => Sys2Proof.Machine.execReservedF1 s
  | .hlt => Sys2Proof.Machine.execHlt s
  | .cmc => Sys2Proof.Machine.execCmc s
  | .testEbIb rm imm => Sys2Proof.Machine.execTestEbIb rm imm s
  | .notEb rm => Sys2Proof.Machine.execNotEb rm s
  | .negEb rm => Sys2Proof.Machine.execNegEb rm s
  | .mulEb rm => Sys2Proof.Machine.execMulEb rm s
  | .imulEb rm => Sys2Proof.Machine.execImulEb rm s
  | .divEb rm => Sys2Proof.Machine.execDivEb rm s
  | .idivEb rm => Sys2Proof.Machine.execIdivEb rm s
  | .testEvIv rm imm => Sys2Proof.Machine.execTestEvIv rm imm s
  | .notEv rm => Sys2Proof.Machine.execNotEv rm s
  | .negEv rm => Sys2Proof.Machine.execNegEv rm s
  | .mulEv rm => Sys2Proof.Machine.execMulEv rm s
  | .imulEv rm => Sys2Proof.Machine.execImulEv rm s
  | .divEv rm => Sys2Proof.Machine.execDivEv rm s
  | .idivEv rm => Sys2Proof.Machine.execIdivEv rm s
  | .clc => Sys2Proof.Machine.execClc s
  | .stc => Sys2Proof.Machine.execStc s
  | .cli => Sys2Proof.Machine.execCli s
  | .sti => Sys2Proof.Machine.execSti s
  | .cld => Sys2Proof.Machine.execCld s
  | .std => Sys2Proof.Machine.execStd s
  | .incEb rm => Sys2Proof.Machine.execIncEb rm s
  | .decEb rm => Sys2Proof.Machine.execDecEb rm s
  | .incEv rm => Sys2Proof.Machine.execIncEv rm s
  | .decEv rm => Sys2Proof.Machine.execDecEv rm s
  | .callEv rm => Sys2Proof.Machine.execCallEv rm s
  | .callEp m => Sys2Proof.Machine.execCallEp m s
  | .jmpEv rm => Sys2Proof.Machine.execJmpEv rm s
  | .jmpEp m => Sys2Proof.Machine.execJmpEp m s
  | .pushEv rm => Sys2Proof.Machine.execPushEv rm s
  | .prefixSegEs => Sys2Proof.Machine.execPrefixSegEs s
  | .prefixSegCs => Sys2Proof.Machine.execPrefixSegCs s
  | .prefixSegSs => Sys2Proof.Machine.execPrefixSegSs s
  | .prefixSegDs => Sys2Proof.Machine.execPrefixSegDs s
  | .prefixSegFs => Sys2Proof.Machine.execPrefixSegFs s
  | .prefixSegGs => Sys2Proof.Machine.execPrefixSegGs s
  | .prefixOperandSize => Sys2Proof.Machine.execPrefixOperandSize s
  | .prefixAddressSize => Sys2Proof.Machine.execPrefixAddressSize s
  | .prefixLock => Sys2Proof.Machine.execPrefixLock s
  | .prefixRepneRepnz => Sys2Proof.Machine.execPrefixRepneRepnz s
  | .prefixRepRepeRepz => Sys2Proof.Machine.execPrefixRepRepeRepz s
  | .sldtEw rm => Sys2Proof.Machine.execSldtEw rm s
  | .strEw rm => Sys2Proof.Machine.execStrEw rm s
  | .lldtEw rm => Sys2Proof.Machine.execLldtEw rm s
  | .ltrEw rm => Sys2Proof.Machine.execLtrEw rm s
  | .verrEw rm => Sys2Proof.Machine.execVerrEw rm s
  | .verwEw rm => Sys2Proof.Machine.execVerwEw rm s
  | .sgdtMs m => Sys2Proof.Machine.execSgdtMs m s
  | .sidtMs m => Sys2Proof.Machine.execSidtMs m s
  | .lgdtMs m => Sys2Proof.Machine.execLgdtMs m s
  | .lidtMs m => Sys2Proof.Machine.execLidtMs m s
  | .smswEw rm => Sys2Proof.Machine.execSmswEw rm s
  | .lmswEw rm => Sys2Proof.Machine.execLmswEw rm s
  | .invlpgM m => Sys2Proof.Machine.execInvlpgM m s
  | .larGvEw r rm => Sys2Proof.Machine.execLarGvEw r rm s
  | .lslGvEw r rm => Sys2Proof.Machine.execLslGvEw r rm s
  | .clts => Sys2Proof.Machine.execClts s
  | .invd => Sys2Proof.Machine.execInvd s
  | .wbinvd => Sys2Proof.Machine.execWbinvd s
  | .ud2 => Sys2Proof.Machine.execUd2 s
  | .movRdCd r cr => Sys2Proof.Machine.execMovRdCd r cr s
  | .movRdDd r dr => Sys2Proof.Machine.execMovRdDd r dr s
  | .movCdRd cr r => Sys2Proof.Machine.execMovCdRd cr r s
  | .movDdRd dr r => Sys2Proof.Machine.execMovDdRd dr r s
  | .reserved0F24 tr r => Sys2Proof.Machine.execReserved0F24 tr r s
  | .reserved0F26 tr r => Sys2Proof.Machine.execReserved0F26 tr r s
  | .wrmsr => Sys2Proof.Machine.execWrmsr s
  | .rdtsc => Sys2Proof.Machine.execRdtsc s
  | .rdmsr => Sys2Proof.Machine.execRdmsr s
  | .rdpmc => Sys2Proof.Machine.execRdpmc s
  | .cmovccGvEv c r rm => Sys2Proof.Machine.execCmovccGvEv c r rm s
  | .jccJv c disp => Sys2Proof.Machine.execJccJv c disp s
  | .setccEb c rm => Sys2Proof.Machine.execSetccEb c rm s
  | .cpuid => Sys2Proof.Machine.execCpuid s
  | .btEvGv rm r => Sys2Proof.Machine.execBtEvGv rm r s
  | .shldEvGvIb rm r imm => Sys2Proof.Machine.execShldEvGvIb rm r imm s
  | .shldEvGvCL rm r => Sys2Proof.Machine.execShldEvGvCL rm r s
  | .reserved0FA6 => Sys2Proof.Machine.execReserved0FA6 s
  | .reserved0FA7 => Sys2Proof.Machine.execReserved0FA7 s
  | .rsm => Sys2Proof.Machine.execRsm s
  | .btsEvGv rm r => Sys2Proof.Machine.execBtsEvGv rm r s
  | .shrdEvGvIb rm r imm => Sys2Proof.Machine.execShrdEvGvIb rm r imm s
  | .shrdEvGvCL rm r => Sys2Proof.Machine.execShrdEvGvCL rm r s
  | .imulGvEv r rm => Sys2Proof.Machine.execImulGvEv r rm s
  | .cmpxchgEbGb rm r => Sys2Proof.Machine.execCmpxchgEbGb rm r s
  | .cmpxchgEvGv rm r => Sys2Proof.Machine.execCmpxchgEvGv rm r s
  | .lssGvMp r m => Sys2Proof.Machine.execLssGvMp r m s
  | .btrEvGv rm r => Sys2Proof.Machine.execBtrEvGv rm r s
  | .lfsGvMp r m => Sys2Proof.Machine.execLfsGvMp r m s
  | .lgsGvMp r m => Sys2Proof.Machine.execLgsGvMp r m s
  | .movzxGvEb r rm => Sys2Proof.Machine.execMovzxGvEb r rm s
  | .movzxGvEw r rm => Sys2Proof.Machine.execMovzxGvEw r rm s
  | .btEvIb rm imm => Sys2Proof.Machine.execBtEvIb rm imm s
  | .btsEvIb rm imm => Sys2Proof.Machine.execBtsEvIb rm imm s
  | .btrEvIb rm imm => Sys2Proof.Machine.execBtrEvIb rm imm s
  | .btcEvIb rm imm => Sys2Proof.Machine.execBtcEvIb rm imm s
  | .btcEvGv rm r => Sys2Proof.Machine.execBtcEvGv rm r s
  | .bsfGvEv r rm => Sys2Proof.Machine.execBsfGvEv r rm s
  | .bsrGvEv r rm => Sys2Proof.Machine.execBsrGvEv r rm s
  | .movsxGvEb r rm => Sys2Proof.Machine.execMovsxGvEb r rm s
  | .movsxGvEw r rm => Sys2Proof.Machine.execMovsxGvEw r rm s
  | .xaddEbGb rm r => Sys2Proof.Machine.execXaddEbGb rm r s
  | .xaddEvGv rm r => Sys2Proof.Machine.execXaddEvGv rm r s
  | .cmpxchg8bMq m => Sys2Proof.Machine.execCmpxchg8bMq m s
  | .bswap r => Sys2Proof.Machine.execBswap r s
  | .faddM32 m => Sys2Proof.Machine.execFaddM32 m s
  | .fmulM32 m => Sys2Proof.Machine.execFmulM32 m s
  | .fcomM32 m => Sys2Proof.Machine.execFcomM32 m s
  | .fcompM32 m => Sys2Proof.Machine.execFcompM32 m s
  | .fsubM32 m => Sys2Proof.Machine.execFsubM32 m s
  | .fsubrM32 m => Sys2Proof.Machine.execFsubrM32 m s
  | .fdivM32 m => Sys2Proof.Machine.execFdivM32 m s
  | .fdivrM32 m => Sys2Proof.Machine.execFdivrM32 m s
  | .fldM32 m => Sys2Proof.Machine.execFldM32 m s
  | .fstM32 m => Sys2Proof.Machine.execFstM32 m s
  | .fstpM32 m => Sys2Proof.Machine.execFstpM32 m s
  | .fldenv m => Sys2Proof.Machine.execFldenv m s
  | .fldcw m => Sys2Proof.Machine.execFldcw m s
  | .fstenvFnstenv m => Sys2Proof.Machine.execFstenvFnstenv m s
  | .fstcwFnstcw m => Sys2Proof.Machine.execFstcwFnstcw m s
  | .fiaddI32 m => Sys2Proof.Machine.execFiaddI32 m s
  | .fimulI32 m => Sys2Proof.Machine.execFimulI32 m s
  | .ficomI32 m => Sys2Proof.Machine.execFicomI32 m s
  | .ficompI32 m => Sys2Proof.Machine.execFicompI32 m s
  | .fisubI32 m => Sys2Proof.Machine.execFisubI32 m s
  | .fisubrI32 m => Sys2Proof.Machine.execFisubrI32 m s
  | .fidivI32 m => Sys2Proof.Machine.execFidivI32 m s
  | .fidivrI32 m => Sys2Proof.Machine.execFidivrI32 m s
  | .fildI32 m => Sys2Proof.Machine.execFildI32 m s
  | .fistI32 m => Sys2Proof.Machine.execFistI32 m s
  | .fistpI32 m => Sys2Proof.Machine.execFistpI32 m s
  | .fldM80 m => Sys2Proof.Machine.execFldM80 m s
  | .fstpM80 m => Sys2Proof.Machine.execFstpM80 m s
  | .faddM64 m => Sys2Proof.Machine.execFaddM64 m s
  | .fmulM64 m => Sys2Proof.Machine.execFmulM64 m s
  | .fcomM64 m => Sys2Proof.Machine.execFcomM64 m s
  | .fcompM64 m => Sys2Proof.Machine.execFcompM64 m s
  | .fsubM64 m => Sys2Proof.Machine.execFsubM64 m s
  | .fsubrM64 m => Sys2Proof.Machine.execFsubrM64 m s
  | .fdivM64 m => Sys2Proof.Machine.execFdivM64 m s
  | .fdivrM64 m => Sys2Proof.Machine.execFdivrM64 m s
  | .fldM64 m => Sys2Proof.Machine.execFldM64 m s
  | .fstM64 m => Sys2Proof.Machine.execFstM64 m s
  | .fstpM64 m => Sys2Proof.Machine.execFstpM64 m s
  | .frstor m => Sys2Proof.Machine.execFrstor m s
  | .fsaveFnsave m => Sys2Proof.Machine.execFsaveFnsave m s
  | .fstswFnstsw m => Sys2Proof.Machine.execFstswFnstsw m s
  | .fiaddI16 m => Sys2Proof.Machine.execFiaddI16 m s
  | .fimulI16 m => Sys2Proof.Machine.execFimulI16 m s
  | .ficomI16 m => Sys2Proof.Machine.execFicomI16 m s
  | .ficompI16 m => Sys2Proof.Machine.execFicompI16 m s
  | .fisubI16 m => Sys2Proof.Machine.execFisubI16 m s
  | .fisubrI16 m => Sys2Proof.Machine.execFisubrI16 m s
  | .fidivI16 m => Sys2Proof.Machine.execFidivI16 m s
  | .fidivrI16 m => Sys2Proof.Machine.execFidivrI16 m s
  | .fildI16 m => Sys2Proof.Machine.execFildI16 m s
  | .fistI16 m => Sys2Proof.Machine.execFistI16 m s
  | .fistpI16 m => Sys2Proof.Machine.execFistpI16 m s
  | .fbld m => Sys2Proof.Machine.execFbld m s
  | .fildI64 m => Sys2Proof.Machine.execFildI64 m s
  | .fbstp m => Sys2Proof.Machine.execFbstp m s
  | .fistpI64 m => Sys2Proof.Machine.execFistpI64 m s
  | .faddSTSTi k => Sys2Proof.Machine.execFaddSTSTi k s
  | .fmulSTSTi k => Sys2Proof.Machine.execFmulSTSTi k s
  | .fcomSTSTi k => Sys2Proof.Machine.execFcomSTSTi k s
  | .fcompSTSTi k => Sys2Proof.Machine.execFcompSTSTi k s
  | .fsubSTSTi k => Sys2Proof.Machine.execFsubSTSTi k s
  | .fsubrSTSTi k => Sys2Proof.Machine.execFsubrSTSTi k s
  | .fdivSTSTi k => Sys2Proof.Machine.execFdivSTSTi k s
  | .fdivrSTSTi k => Sys2Proof.Machine.execFdivrSTSTi k s
  | .fldSTSTi k => Sys2Proof.Machine.execFldSTSTi k s
  | .fxchSTSTi k => Sys2Proof.Machine.execFxchSTSTi k s
  | .fnop => Sys2Proof.Machine.execFnop s
  | .fchs => Sys2Proof.Machine.execFchs s
  | .fabs => Sys2Proof.Machine.execFabs s
  | .ftst => Sys2Proof.Machine.execFtst s
  | .fxam => Sys2Proof.Machine.execFxam s
  | .fld1 => Sys2Proof.Machine.execFld1 s
  | .fldl2t => Sys2Proof.Machine.execFldl2t s
  | .fldl2e => Sys2Proof.Machine.execFldl2e s
  | .fldpi => Sys2Proof.Machine.execFldpi s
  | .fldlg2 => Sys2Proof.Machine.execFldlg2 s
  | .fldln2 => Sys2Proof.Machine.execFldln2 s
  | .fldz => Sys2Proof.Machine.execFldz s
  | .f2xm1 => Sys2Proof.Machine.execF2xm1 s
  | .fyl2x => Sys2Proof.Machine.execFyl2x s
  | .fptan => Sys2Proof.Machine.execFptan s
  | .fpatan => Sys2Proof.Machine.execFpatan s
  | .fxtract => Sys2Proof.Machine.execFxtract s
  | .fprem1 => Sys2Proof.Machine.execFprem1 s
  | .fdecstp => Sys2Proof.Machine.execFdecstp s
  | .fincstp => Sys2Proof.Machine.execFincstp s
  | .fprem => Sys2Proof.Machine.execFprem s
  | .fyl2xp1 => Sys2Proof.Machine.execFyl2xp1 s
  | .fsqrt => Sys2Proof.Machine.execFsqrt s
  | .fsincos => Sys2Proof.Machine.execFsincos s
  | .frndint => Sys2Proof.Machine.execFrndint s
  | .fscale => Sys2Proof.Machine.execFscale s
  | .fsin => Sys2Proof.Machine.execFsin s
  | .fcos => Sys2Proof.Machine.execFcos s
  | .fucompp => Sys2Proof.Machine.execFucompp s
  | .fclexFnclex => Sys2Proof.Machine.execFclexFnclex s
  | .finitFninit => Sys2Proof.Machine.execFinitFninit s
  | .faddSTiST k => Sys2Proof.Machine.execFaddSTiST k s
  | .fmulSTiST k => Sys2Proof.Machine.execFmulSTiST k s
  | .fsubrSTiST k => Sys2Proof.Machine.execFsubrSTiST k s
  | .fsubSTiST k => Sys2Proof.Machine.execFsubSTiST k s
  | .fdivrSTiST k => Sys2Proof.Machine.execFdivrSTiST k s
  | .fdivSTiST k => Sys2Proof.Machine.execFdivSTiST k s
  | .ffreeSTi k => Sys2Proof.Machine.execFfreeSTi k s
  | .fstSTi k => Sys2Proof.Machine.execFstSTi k s
  | .fstpSTi k => Sys2Proof.Machine.execFstpSTi k s
  | .fucomSTiST k => Sys2Proof.Machine.execFucomSTiST k s
  | .fucompSTi k => Sys2Proof.Machine.execFucompSTi k s
  | .faddpSTiST k => Sys2Proof.Machine.execFaddpSTiST k s
  | .fmulpSTiST k => Sys2Proof.Machine.execFmulpSTiST k s
  | .fsubrpSTiST k => Sys2Proof.Machine.execFsubrpSTiST k s
  | .fsubpSTiST k => Sys2Proof.Machine.execFsubpSTiST k s
  | .fdivrpSTiST k => Sys2Proof.Machine.execFdivrpSTiST k s
  | .fdivpSTiST k => Sys2Proof.Machine.execFdivpSTiST k s
  | .fcompp => Sys2Proof.Machine.execFcompp s
  | .fstswAxFnstswAx => Sys2Proof.Machine.execFstswAxFnstswAx s
  | .fcmovbSTSTi k => Sys2Proof.Machine.execFcmovbSTSTi k s
  | .fcmoveSTSTi k => Sys2Proof.Machine.execFcmoveSTSTi k s
  | .fcmovbeSTSTi k => Sys2Proof.Machine.execFcmovbeSTSTi k s
  | .fcmovuSTSTi k => Sys2Proof.Machine.execFcmovuSTSTi k s
  | .fcmovnbSTSTi k => Sys2Proof.Machine.execFcmovnbSTSTi k s
  | .fcmovneSTSTi k => Sys2Proof.Machine.execFcmovneSTSTi k s
  | .fcmovnbeSTSTi k => Sys2Proof.Machine.execFcmovnbeSTSTi k s
  | .fcmovnuSTSTi k => Sys2Proof.Machine.execFcmovnuSTSTi k s
  | .fucomiSTSTi k => Sys2Proof.Machine.execFucomiSTSTi k s
  | .fcomiSTSTi k => Sys2Proof.Machine.execFcomiSTSTi k s
  | .fucomipSTSTi k => Sys2Proof.Machine.execFucomipSTSTi k s
  | .fcomipSTSTi k => Sys2Proof.Machine.execFcomipSTSTi k s

end Sys2Proof.Machine
end

