-- ==== Sys2Proof/WellFormed.lean ====
section
/-! DEFINITION. Which instruction terms an encoding can produce under given operand and address sizes. -/
namespace Sys2Proof

/-- A 16-bit immediate, displacement or offset held in a doubleword has a zero upper half. -/
def fits (wide : Bool) (v : BitVec 32) : Bool := wide || v.toNat < 65536

/-- A memory operand that some modR/M, SIB and displacement bytes encode (30_encoding.md R487 to R489). -/
def Ea.wf (a32 : Bool) : Ea → Bool
  | .base16 b d => !a32 && !(b == .bp && d == .none)
  | .abs16 _ => !a32
  | .base32 b d => a32 && b != .esp && !(b == .ebp && d == .none)
  | .abs32 _ => a32
  | .sib _ _ b d => a32 && !(b == .ebp && d == .none)
  | .sibAbs _ _ _ => a32

/-- A register is always encodable; a memory operand as `Ea.wf` says. -/
def RegMem.wf {ρ : Type} (a32 : Bool) : RegMem ρ → Bool
  | .reg _ => true
  | .mem m => m.wf a32

/-- The well-formed instructions under the sizes in force. -/
def Instr.wf (z : Sizes) : Instr → Bool
  | .addEbGb rm _ => rm.wf z.a32
  | .addEvGv rm _ => rm.wf z.a32
  | .addGbEb _ rm => rm.wf z.a32
  | .addGvEv _ rm => rm.wf z.a32
  | .addALIb _ => true
  | .addeAXIv imm => fits z.o32 imm
  | .addEbIb rm _ => rm.wf z.a32
  | .addEvIv rm imm => rm.wf z.a32 && fits z.o32 imm
  | .addEvIb rm _ => rm.wf z.a32
  | .orEbGb rm _ => rm.wf z.a32
  | .orEvGv rm _ => rm.wf z.a32
  | .orGbEb _ rm => rm.wf z.a32
  | .orGvEv _ rm => rm.wf z.a32
  | .orALIb _ => true
  | .oreAXIv imm => fits z.o32 imm
  | .orEbIb rm _ => rm.wf z.a32
  | .orEvIv rm imm => rm.wf z.a32 && fits z.o32 imm
  | .orEvIb rm _ => rm.wf z.a32
  | .adcEbGb rm _ => rm.wf z.a32
  | .adcEvGv rm _ => rm.wf z.a32
  | .adcGbEb _ rm => rm.wf z.a32
  | .adcGvEv _ rm => rm.wf z.a32
  | .adcALIb _ => true
  | .adceAXIv imm => fits z.o32 imm
  | .adcEbIb rm _ => rm.wf z.a32
  | .adcEvIv rm imm => rm.wf z.a32 && fits z.o32 imm
  | .adcEvIb rm _ => rm.wf z.a32
  | .sbbEbGb rm _ => rm.wf z.a32
  | .sbbEvGv rm _ => rm.wf z.a32
  | .sbbGbEb _ rm => rm.wf z.a32
  | .sbbGvEv _ rm => rm.wf z.a32
  | .sbbALIb _ => true
  | .sbbeAXIv imm => fits z.o32 imm
  | .sbbEbIb rm _ => rm.wf z.a32
  | .sbbEvIv rm imm => rm.wf z.a32 && fits z.o32 imm
  | .sbbEvIb rm _ => rm.wf z.a32
  | .andEbGb rm _ => rm.wf z.a32
  | .andEvGv rm _ => rm.wf z.a32
  | .andGbEb _ rm => rm.wf z.a32
  | .andGvEv _ rm => rm.wf z.a32
  | .andALIb _ => true
  | .andeAXIv imm => fits z.o32 imm
  | .andEbIb rm _ => rm.wf z.a32
  | .andEvIv rm imm => rm.wf z.a32 && fits z.o32 imm
  | .andEvIb rm _ => rm.wf z.a32
  | .subEbGb rm _ => rm.wf z.a32
  | .subEvGv rm _ => rm.wf z.a32
  | .subGbEb _ rm => rm.wf z.a32
  | .subGvEv _ rm => rm.wf z.a32
  | .subALIb _ => true
  | .subeAXIv imm => fits z.o32 imm
  | .subEbIb rm _ => rm.wf z.a32
  | .subEvIv rm imm => rm.wf z.a32 && fits z.o32 imm
  | .subEvIb rm _ => rm.wf z.a32
  | .xorEbGb rm _ => rm.wf z.a32
  | .xorEvGv rm _ => rm.wf z.a32
  | .xorGbEb _ rm => rm.wf z.a32
  | .xorGvEv _ rm => rm.wf z.a32
  | .xorALIb _ => true
  | .xoreAXIv imm => fits z.o32 imm
  | .xorEbIb rm _ => rm.wf z.a32
  | .xorEvIv rm imm => rm.wf z.a32 && fits z.o32 imm
  | .xorEvIb rm _ => rm.wf z.a32
  | .cmpEbGb rm _ => rm.wf z.a32
  | .cmpEvGv rm _ => rm.wf z.a32
  | .cmpGbEb _ rm => rm.wf z.a32
  | .cmpGvEv _ rm => rm.wf z.a32
  | .cmpALIb _ => true
  | .cmpeAXIv imm => fits z.o32 imm
  | .cmpEbIb rm _ => rm.wf z.a32
  | .cmpEvIv rm imm => rm.wf z.a32 && fits z.o32 imm
  | .cmpEvIb rm _ => rm.wf z.a32
  | .pushEs => true
  | .popEs => true
  | .pushCs => true
  | .pushSs => true
  | .popSs => true
  | .pushDs => true
  | .popDs => true
  | .pushFs => true
  | .popFs => true
  | .pushGs => true
  | .popGs => true
  | .daa => true
  | .das => true
  | .aaa => true
  | .aas => true
  | .incRv _ => true
  | .decRv _ => true
  | .pushRv _ => true
  | .popRv _ => true
  | .pushaPushad => true
  | .popaPopad => true
  | .boundGvMa _ m => m.wf z.a32
  | .arplEwGw rm _ => rm.wf z.a32
  | .pushIv imm => fits z.o32 imm
  | .imulGvEvIv _ rm imm => rm.wf z.a32 && fits z.o32 imm
  | .pushIb _ => true
  | .imulGvEvIb _ rm _ => rm.wf z.a32
  | .insbYbDX => true
  | .inswInsdYvDX => true
  | .outsbDXXb => true
  | .outswOutsdDXXv => true
  | .jccJb _ _ => true
  | .reserved82 => true
  | .testEbGb rm _ => rm.wf z.a32
  | .testEvGv rm _ => rm.wf z.a32
  | .xchgEbGb rm _ => rm.wf z.a32
  | .xchgEvGv rm _ => rm.wf z.a32
  | .movEbGb rm _ => rm.wf z.a32
  | .movEvGv rm _ => rm.wf z.a32
  | .movGbEb _ rm => rm.wf z.a32
  | .movGvEv _ rm => rm.wf z.a32
  | .movEwSw rm _ => rm.wf z.a32
  | .leaGvM _ m => m.wf z.a32
  | .movSwEw sr rm => rm.wf z.a32 && sr != .cs
  | .popEv rm => rm.wf z.a32
  | .nop => true
  | .xchgEAXRv r => r != .eax
  | .cbwCwde => true
  | .cwdCdq => true
  | .callAp off _ => fits z.o32 off
  | .waitFwait => true
  | .pushfPushfd => true
  | .popfPopfd => true
  | .sahf => true
  | .lahf => true
  | .movALOb off => fits z.a32 off
  | .moveAXOv off => fits z.a32 off
  | .movObAL off => fits z.a32 off
  | .movOveAX off => fits z.a32 off
  | .movsbYbXb => true
  | .movswMovsdYvXv => true
  | .cmpsbXbYb => true
  | .cmpswCmpsdXvYv => true
  | .testALIb _ => true
  | .testeAXIv imm => fits z.o32 imm
  | .stosbYbAL => true
  | .stoswStosdYveAX => true
  | .lodsbALXb => true
  | .lodswLodsdeAXXv => true
  | .scasbALYb => true
  | .scaswScasdeAXYv => true
  | .movR8Ib _ _ => true
  | .movRvIv _ imm => fits z.o32 imm
  | .rolEbIb rm _ => rm.wf z.a32
  | .rorEbIb rm _ => rm.wf z.a32
  | .rclEbIb rm _ => rm.wf z.a32
  | .rcrEbIb rm _ => rm.wf z.a32
  | .shlSalEbIb rm _ => rm.wf z.a32
  | .shrEbIb rm _ => rm.wf z.a32
  | .sarEbIb rm _ => rm.wf z.a32
  | .rolEvIb rm _ => rm.wf z.a32
  | .rorEvIb rm _ => rm.wf z.a32
  | .rclEvIb rm _ => rm.wf z.a32
  | .rcrEvIb rm _ => rm.wf z.a32
  | .shlSalEvIb rm _ => rm.wf z.a32
  | .shrEvIb rm _ => rm.wf z.a32
  | .sarEvIb rm _ => rm.wf z.a32
  | .rolEb1 rm => rm.wf z.a32
  | .rorEb1 rm => rm.wf z.a32
  | .rclEb1 rm => rm.wf z.a32
  | .rcrEb1 rm => rm.wf z.a32
  | .shlSalEb1 rm => rm.wf z.a32
  | .shrEb1 rm => rm.wf z.a32
  | .sarEb1 rm => rm.wf z.a32
  | .rolEv1 rm => rm.wf z.a32
  | .rorEv1 rm => rm.wf z.a32
  | .rclEv1 rm => rm.wf z.a32
  | .rcrEv1 rm => rm.wf z.a32
  | .shlSalEv1 rm => rm.wf z.a32
  | .shrEv1 rm => rm.wf z.a32
  | .sarEv1 rm => rm.wf z.a32
  | .rolEbCL rm => rm.wf z.a32
  | .rorEbCL rm => rm.wf z.a32
  | .rclEbCL rm => rm.wf z.a32
  | .rcrEbCL rm => rm.wf z.a32
  | .shlSalEbCL rm => rm.wf z.a32
  | .shrEbCL rm => rm.wf z.a32
  | .sarEbCL rm => rm.wf z.a32
  | .rolEvCL rm => rm.wf z.a32
  | .rorEvCL rm => rm.wf z.a32
  | .rclEvCL rm => rm.wf z.a32
  | .rcrEvCL rm => rm.wf z.a32
  | .shlSalEvCL rm => rm.wf z.a32
  | .shrEvCL rm => rm.wf z.a32
  | .sarEvCL rm => rm.wf z.a32
  | .retNearIw _ => true
  | .retNear => true
  | .lesGvMp _ m => m.wf z.a32
  | .ldsGvMp _ m => m.wf z.a32
  | .movEbIb rm _ => rm.wf z.a32
  | .movEvIv rm imm => rm.wf z.a32 && fits z.o32 imm
  | .enterIwIb _ _ => true
  | .leave => true
  | .retFarIw _ => true
  | .retFar => true
  | .int3 => true
  | .intIb _ => true
  | .into => true
  | .iretIretd => true
  | .aamIb _ => true
  | .aadIb _ => true
  | .reservedD6 => true
  | .xlatXlatb => true
  | .loopneLoopnzJb _ => true
  | .loopeLoopzJb _ => true
  | .loopJb _ => true
  | .jcxzJecxzJb _ => true
  | .inALIb _ => true
  | .ineAXIb _ => true
  | .outIbAL _ => true
  | .outIbeAX _ => true
  | .callJv disp => fits z.o32 disp
  | .jmpJv disp => fits z.o32 disp
  | .jmpAp off _ => fits z.o32 off
  | .jmpJb _ => true
  | .inALDX => true
  | .ineAXDX => true
  | .outDXAL => true
  | .outDXeAX => true
  | .reservedF1 => true
  | .hlt => true
  | .cmc => true
  | .testEbIb rm _ => rm.wf z.a32
  | .notEb rm => rm.wf z.a32
  | .negEb rm => rm.wf z.a32
  | .mulEb rm => rm.wf z.a32
  | .imulEb rm => rm.wf z.a32
  | .divEb rm => rm.wf z.a32
  | .idivEb rm => rm.wf z.a32
  | .testEvIv rm imm => rm.wf z.a32 && fits z.o32 imm
  | .notEv rm => rm.wf z.a32
  | .negEv rm => rm.wf z.a32
  | .mulEv rm => rm.wf z.a32
  | .imulEv rm => rm.wf z.a32
  | .divEv rm => rm.wf z.a32
  | .idivEv rm => rm.wf z.a32
  | .clc => true
  | .stc => true
  | .cli => true
  | .sti => true
  | .cld => true
  | .std => true
  | .incEb rm => rm.wf z.a32
  | .decEb rm => rm.wf z.a32
  | .incEv rm => rm.wf z.a32
  | .decEv rm => rm.wf z.a32
  | .callEv rm => rm.wf z.a32
  | .callEp m => m.wf z.a32
  | .jmpEv rm => rm.wf z.a32
  | .jmpEp m => m.wf z.a32
  | .pushEv rm => rm.wf z.a32
  | .prefixSegEs => true
  | .prefixSegCs => true
  | .prefixSegSs => true
  | .prefixSegDs => true
  | .prefixSegFs => true
  | .prefixSegGs => true
  | .prefixOperandSize => true
  | .prefixAddressSize => true
  | .prefixLock => true
  | .prefixRepneRepnz => true
  | .prefixRepRepeRepz => true
  | .sldtEw rm => rm.wf z.a32
  | .strEw rm => rm.wf z.a32
  | .lldtEw rm => rm.wf z.a32
  | .ltrEw rm => rm.wf z.a32
  | .verrEw rm => rm.wf z.a32
  | .verwEw rm => rm.wf z.a32
  | .sgdtMs m => m.wf z.a32
  | .sidtMs m => m.wf z.a32
  | .lgdtMs m => m.wf z.a32
  | .lidtMs m => m.wf z.a32
  | .smswEw rm => rm.wf z.a32
  | .lmswEw rm => rm.wf z.a32
  | .invlpgM m => m.wf z.a32
  | .larGvEw _ rm => rm.wf z.a32
  | .lslGvEw _ rm => rm.wf z.a32
  | .clts => true
  | .invd => true
  | .wbinvd => true
  | .ud2 => true
  | .movRdCd _ _ => true
  | .movRdDd _ _ => true
  | .movCdRd _ _ => true
  | .movDdRd _ _ => true
  | .reserved0F24 _ _ => true
  | .reserved0F26 _ _ => true
  | .wrmsr => true
  | .rdtsc => true
  | .rdmsr => true
  | .rdpmc => true
  | .cmovccGvEv _ _ rm => rm.wf z.a32
  | .jccJv _ disp => fits z.o32 disp
  | .setccEb _ rm => rm.wf z.a32
  | .cpuid => true
  | .btEvGv rm _ => rm.wf z.a32
  | .shldEvGvIb rm _ _ => rm.wf z.a32
  | .shldEvGvCL rm _ => rm.wf z.a32
  | .reserved0FA6 => true
  | .reserved0FA7 => true
  | .rsm => true
  | .btsEvGv rm _ => rm.wf z.a32
  | .shrdEvGvIb rm _ _ => rm.wf z.a32
  | .shrdEvGvCL rm _ => rm.wf z.a32
  | .imulGvEv _ rm => rm.wf z.a32
  | .cmpxchgEbGb rm _ => rm.wf z.a32
  | .cmpxchgEvGv rm _ => rm.wf z.a32
  | .lssGvMp _ m => m.wf z.a32
  | .btrEvGv rm _ => rm.wf z.a32
  | .lfsGvMp _ m => m.wf z.a32
  | .lgsGvMp _ m => m.wf z.a32
  | .movzxGvEb _ rm => rm.wf z.a32
  | .movzxGvEw _ rm => rm.wf z.a32
  | .btEvIb rm _ => rm.wf z.a32
  | .btsEvIb rm _ => rm.wf z.a32
  | .btrEvIb rm _ => rm.wf z.a32
  | .btcEvIb rm _ => rm.wf z.a32
  | .btcEvGv rm _ => rm.wf z.a32
  | .bsfGvEv _ rm => rm.wf z.a32
  | .bsrGvEv _ rm => rm.wf z.a32
  | .movsxGvEb _ rm => rm.wf z.a32
  | .movsxGvEw _ rm => rm.wf z.a32
  | .xaddEbGb rm _ => rm.wf z.a32
  | .xaddEvGv rm _ => rm.wf z.a32
  | .cmpxchg8bMq m => m.wf z.a32
  | .bswap _ => true
  | .faddM32 m => m.wf z.a32
  | .fmulM32 m => m.wf z.a32
  | .fcomM32 m => m.wf z.a32
  | .fcompM32 m => m.wf z.a32
  | .fsubM32 m => m.wf z.a32
  | .fsubrM32 m => m.wf z.a32
  | .fdivM32 m => m.wf z.a32
  | .fdivrM32 m => m.wf z.a32
  | .fldM32 m => m.wf z.a32
  | .fstM32 m => m.wf z.a32
  | .fstpM32 m => m.wf z.a32
  | .fldenv m => m.wf z.a32
  | .fldcw m => m.wf z.a32
  | .fstenvFnstenv m => m.wf z.a32
  | .fstcwFnstcw m => m.wf z.a32
  | .fiaddI32 m => m.wf z.a32
  | .fimulI32 m => m.wf z.a32
  | .ficomI32 m => m.wf z.a32
  | .ficompI32 m => m.wf z.a32
  | .fisubI32 m => m.wf z.a32
  | .fisubrI32 m => m.wf z.a32
  | .fidivI32 m => m.wf z.a32
  | .fidivrI32 m => m.wf z.a32
  | .fildI32 m => m.wf z.a32
  | .fistI32 m => m.wf z.a32
  | .fistpI32 m => m.wf z.a32
  | .fldM80 m => m.wf z.a32
  | .fstpM80 m => m.wf z.a32
  | .faddM64 m => m.wf z.a32
  | .fmulM64 m => m.wf z.a32
  | .fcomM64 m => m.wf z.a32
  | .fcompM64 m => m.wf z.a32
  | .fsubM64 m => m.wf z.a32
  | .fsubrM64 m => m.wf z.a32
  | .fdivM64 m => m.wf z.a32
  | .fdivrM64 m => m.wf z.a32
  | .fldM64 m => m.wf z.a32
  | .fstM64 m => m.wf z.a32
  | .fstpM64 m => m.wf z.a32
  | .frstor m => m.wf z.a32
  | .fsaveFnsave m => m.wf z.a32
  | .fstswFnstsw m => m.wf z.a32
  | .fiaddI16 m => m.wf z.a32
  | .fimulI16 m => m.wf z.a32
  | .ficomI16 m => m.wf z.a32
  | .ficompI16 m => m.wf z.a32
  | .fisubI16 m => m.wf z.a32
  | .fisubrI16 m => m.wf z.a32
  | .fidivI16 m => m.wf z.a32
  | .fidivrI16 m => m.wf z.a32
  | .fildI16 m => m.wf z.a32
  | .fistI16 m => m.wf z.a32
  | .fistpI16 m => m.wf z.a32
  | .fbld m => m.wf z.a32
  | .fildI64 m => m.wf z.a32
  | .fbstp m => m.wf z.a32
  | .fistpI64 m => m.wf z.a32
  | .faddSTSTi _ => true
  | .fmulSTSTi _ => true
  | .fcomSTSTi _ => true
  | .fcompSTSTi _ => true
  | .fsubSTSTi _ => true
  | .fsubrSTSTi _ => true
  | .fdivSTSTi _ => true
  | .fdivrSTSTi _ => true
  | .fldSTSTi _ => true
  | .fxchSTSTi _ => true
  | .fnop => true
  | .fchs => true
  | .fabs => true
  | .ftst => true
  | .fxam => true
  | .fld1 => true
  | .fldl2t => true
  | .fldl2e => true
  | .fldpi => true
  | .fldlg2 => true
  | .fldln2 => true
  | .fldz => true
  | .f2xm1 => true
  | .fyl2x => true
  | .fptan => true
  | .fpatan => true
  | .fxtract => true
  | .fprem1 => true
  | .fdecstp => true
  | .fincstp => true
  | .fprem => true
  | .fyl2xp1 => true
  | .fsqrt => true
  | .fsincos => true
  | .frndint => true
  | .fscale => true
  | .fsin => true
  | .fcos => true
  | .fucompp => true
  | .fclexFnclex => true
  | .finitFninit => true
  | .faddSTiST _ => true
  | .fmulSTiST _ => true
  | .fsubrSTiST _ => true
  | .fsubSTiST _ => true
  | .fdivrSTiST _ => true
  | .fdivSTiST _ => true
  | .ffreeSTi _ => true
  | .fstSTi _ => true
  | .fstpSTi _ => true
  | .fucomSTiST _ => true
  | .fucompSTi _ => true
  | .faddpSTiST _ => true
  | .fmulpSTiST _ => true
  | .fsubrpSTiST _ => true
  | .fsubpSTiST _ => true
  | .fdivrpSTiST _ => true
  | .fdivpSTiST _ => true
  | .fcompp => true
  | .fstswAxFnstswAx => true
  | .fcmovbSTSTi _ => true
  | .fcmoveSTSTi _ => true
  | .fcmovbeSTSTi _ => true
  | .fcmovuSTSTi _ => true
  | .fcmovnbSTSTi _ => true
  | .fcmovneSTSTi _ => true
  | .fcmovnbeSTSTi _ => true
  | .fcmovnuSTSTi _ => true
  | .fucomiSTSTi _ => true
  | .fcomiSTSTi _ => true
  | .fucomipSTSTi _ => true
  | .fcomipSTSTi _ => true

end Sys2Proof
end

