-- ==== Sys2Proof/Decode.lean ====
section
/-! DEFINITION. Decoding: bytes to an instruction, total, rejecting by name; and the encoder. -/
namespace Sys2Proof

/-- Why no instruction was decoded: `short`, more bytes are needed; `undefined`, the encoding is
reserved or blank (#UD, 30_encoding.md R494); `undefinedEsc`, the same in an escape opcode, where
#NM comes first; `undefinedPriv`, a register form of LGDT, LIDT or INVLPG, where the privilege test
comes first (40_system_instructions.md R571, R573, R591). -/
inductive DecodeErr where
  | short
  | undefined
  | undefinedEsc
  | undefinedPriv
  deriving DecidableEq, Repr

/-- A parser: consumes bytes from the front of a list. -/
abbrev Parser := StateT (List Byte) (Except DecodeErr)

/-- A reserved or blank cell of the opcode map. -/
def undefinedOp {α : Type} : Parser α := fun _ => .error .undefined
/-- A blank cell of a group whose opcode has an immediate operand: its bytes are consumed first (30_encoding.md R496). -/
def undefinedAfter {ι α : Type} (imm : Parser ι) : Parser α := do
  let _ ← imm
  undefinedOp
/-- A reserved or blank cell among the escape opcodes. -/
def undefinedEsc {α : Type} : Parser α := fun _ => .error .undefinedEsc

/-- The register with a given encoding number (10_state.md R33). -/
def Reg.ofNum : Nat → Reg
  | 0 => .eax | 1 => .ecx | 2 => .edx | 3 => .ebx | 4 => .esp | 5 => .ebp | 6 => .esi | _ => .edi
/-- The encoding number of a register. -/
def Reg.num : Reg → Nat
  | .eax => 0 | .ecx => 1 | .edx => 2 | .ebx => 3 | .esp => 4 | .ebp => 5 | .esi => 6 | .edi => 7
/-- The byte register with a given encoding number. -/
def Reg8.ofNum : Nat → Reg8
  | 0 => .al | 1 => .cl | 2 => .dl | 3 => .bl | 4 => .ah | 5 => .ch | 6 => .dh | _ => .bh
/-- The encoding number of a byte register. -/
def Reg8.num : Reg8 → Nat
  | .al => 0 | .cl => 1 | .dl => 2 | .bl => 3 | .ah => 4 | .ch => 5 | .dh => 6 | .bh => 7
/-- The encoding number of a segment register (10_state.md R54). -/
def SegReg.num : SegReg → Nat
  | .es => 0 | .cs => 1 | .ss => 2 | .ds => 3 | .fs => 4 | .gs => 5
/-- The encoding number of a condition. -/
def Cond.num : Cond → Nat
  | .o => 0 | .no => 1 | .b => 2 | .ae => 3 | .e => 4 | .ne => 5 | .be => 6 | .a => 7
  | .s => 8 | .ns => 9 | .p => 10 | .np => 11 | .l => 12 | .ge => 13 | .le => 14 | .g => 15
/-- The r/m number of a 16-bit register sum (30_encoding.md R488). -/
def Base16.num : Base16 → Nat
  | .bxSi => 0 | .bxDi => 1 | .bpSi => 2 | .bpDi => 3 | .si => 4 | .di => 5 | .bp => 6 | .bx => 7
/-- The 16-bit register sum with a given r/m number. -/
def Base16.ofNum : Nat → Base16
  | 0 => .bxSi | 1 => .bxDi | 2 => .bpSi | 3 => .bpDi | 4 => .si | 5 => .di | 6 => .bp | _ => .bx
/-- A three-bit field as an index. -/
def digit (d : Nat) : Fin 8 := Fin.ofNat 8 d

/-- The next byte. -/
def byte1 : Parser Byte := fun bs =>
  match bs with
  | [] => .error .short
  | b :: t => .ok (b, t)
/-- The next two bytes, low byte first (30_encoding.md R480). -/
def half : Parser Half := do
  let a ← byte1
  let b ← byte1
  pure (b ++ a)
/-- The next four bytes, low byte first. -/
def dword : Parser Word := do
  let a ← byte1
  let b ← byte1
  let c ← byte1
  let d ← byte1
  pure (d ++ c ++ b ++ a)
/-- Four bytes, or two zero-extended, by a size attribute. -/
def sized (wide : Bool) : Parser Word :=
  if wide then dword else do
    let h ← half
    pure (h.zeroExtend 32)

/-- The 16-bit addressing forms (30_encoding.md R488). -/
def parseEa16 (md rm : Nat) : Parser Ea :=
  match md with
  | 0 => if rm = 6 then do
           let d ← half
           pure (.abs16 d)
         else pure (.base16 (Base16.ofNum rm) .none)
  | 1 => do
    let d ← byte1
    pure (.base16 (Base16.ofNum rm) (.d8 d))
  | _ => do
    let d ← half
    pure (.base16 (Base16.ofNum rm) (.d16 d))

/-- The displacement that mod 00, 01 or 10 asks for with 32-bit addressing. -/
def parseDisp32 (md : Nat) : Parser Disp32 :=
  match md with
  | 0 => pure .none
  | 1 => do
    let d ← byte1
    pure (.d8 d)
  | _ => do
    let d ← dword
    pure (.d32 d)

/-- The 32-bit addressing forms with their SIB byte (30_encoding.md R487, R489). -/
def parseEa32 (md rm : Nat) : Parser Ea :=
  if rm = 4 then do
    let s ← byte1
    let scale := Fin.ofNat 4 (s.toNat / 64)
    let index := Reg.ofNum (s.toNat / 8 % 8)
    if md = 0 ∧ s.toNat % 8 = 5 then
      let d ← dword
      pure (.sibAbs scale index d)
    else
      let d ← parseDisp32 md
      pure (.sib scale index (Reg.ofNum (s.toNat % 8)) d)
  else if md = 0 ∧ rm = 5 then do
    let d ← dword
    pure (.abs32 d)
  else do
    let d ← parseDisp32 md
    pure (.base32 (Reg.ofNum rm) d)

/-- The memory operand of a modR/M byte with the given mod (not 11B) and r/m fields. -/
def parseEa (a32 : Bool) (md rm : Nat) : Parser Ea :=
  if a32 then parseEa32 md rm else parseEa16 md rm

/-- A modR/M byte with an E operand: its reg field and the operand (30_encoding.md R487). -/
def parseE {ρ : Type} (a32 : Bool) (reg : Nat → ρ) : Parser (Nat × RegMem ρ) := do
  let b ← byte1
  if b.toNat / 64 = 3 then
    pure (b.toNat / 8 % 8, .reg (reg (b.toNat % 8)))
  else
    let m ← parseEa a32 (b.toNat / 64) (b.toNat % 8)
    pure (b.toNat / 8 % 8, .mem m)

/-- An M operand is memory only: a register form is undefined (30_encoding.md R492). -/
def memOnly {ρ : Type} : RegMem ρ → Parser Ea
  | .reg _ => undefinedOp
  | .mem m => pure m

/-- The memory operand of LGDT, LIDT or INVLPG (40_system_instructions.md R571, R573, R591). -/
def memPriv {ρ : Type} : RegMem ρ → Parser Ea
  | .reg _ => fun _ => .error .undefinedPriv
  | .mem m => pure m

/-- A modR/M byte with an M operand. -/
def parseM (a32 : Bool) : Parser (Nat × Ea) := do
  let (d, rm) ← parseE a32 Reg.ofNum
  let m ← memOnly rm
  pure (d, m)

/-- A modR/M byte with an R operand: r/m names a register whatever mod holds (30_encoding.md R492). -/
def parseRd : Parser (Nat × Reg) := do
  let b ← byte1
  pure (b.toNat / 8 % 8, Reg.ofNum (b.toNat % 8))

/-- An S operand: segment numbers 6 and 7 are undefined (30_encoding.md R490). -/
def parseSegAny : Nat → Parser SegReg
  | 0 => pure .es | 1 => pure .cs | 2 => pure .ss | 3 => pure .ds | 4 => pure .fs | 5 => pure .gs
  | _ => undefinedOp

/-- The S operand of a segment-register load: CS is undefined as a destination (30_encoding.md R490). -/
def parseSegLoad (d : Nat) : Parser SegReg :=
  if d = 1 then undefinedOp else parseSegAny d

/-- A modR/M byte. -/
def modrmByte (md reg rm : Nat) : Byte := BitVec.ofNat 8 (md * 64 + reg * 8 + rm)
/-- Two bytes, low byte first. -/
def half16 (h : Half) : List Byte := [h.extractLsb' 0 8, h.extractLsb' 8 8]
/-- Four bytes, low byte first. -/
def dword32 (w : Word) : List Byte :=
  [w.extractLsb' 0 8, w.extractLsb' 8 8, w.extractLsb' 16 8, w.extractLsb' 24 8]
/-- Four bytes, or the low two, by a size attribute. -/
def sizedBytes (wide : Bool) (w : Word) : List Byte :=
  if wide then dword32 w else half16 (w.extractLsb' 0 16)

/-- The bytes of a modR/M operand in memory: modR/M, SIB, displacement. -/
def encodeEa (d : Nat) : Ea → List Byte
  | .base16 b .none => [modrmByte 0 d b.num]
  | .base16 b (.d8 x) => [modrmByte 1 d b.num, x]
  | .base16 b (.d16 x) => modrmByte 2 d b.num :: half16 x
  | .abs16 x => modrmByte 0 d 6 :: half16 x
  | .base32 b .none => [modrmByte 0 d b.num]
  | .base32 b (.d8 x) => [modrmByte 1 d b.num, x]
  | .base32 b (.d32 x) => modrmByte 2 d b.num :: dword32 x
  | .abs32 x => modrmByte 0 d 5 :: dword32 x
  | .sib s i b .none => [modrmByte 0 d 4, modrmByte s.val i.num b.num]
  | .sib s i b (.d8 x) => [modrmByte 1 d 4, modrmByte s.val i.num b.num, x]
  | .sib s i b (.d32 x) => modrmByte 2 d 4 :: modrmByte s.val i.num b.num :: dword32 x
  | .sibAbs s i x => modrmByte 0 d 4 :: modrmByte s.val i.num 5 :: dword32 x

/-- The bytes of an E operand with a given reg field. -/
def encodeE {ρ : Type} (d : Nat) (num : ρ → Nat) : RegMem ρ → List Byte
  | .reg r => [modrmByte 3 d (num r)]
  | .mem m => encodeEa d m


/-- The two-byte map, row 0 (31_opcode_map.md). -/
noncomputable def twoByte0 (z : Sizes) (lo : Nat) : Parser Instr :=
  match lo with
  | 0 => do
      let (d, rm) ← parseE z.a32 Reg.ofNum
      match d with
      | 0 => pure (.sldtEw rm)
      | 1 => pure (.strEw rm)
      | 2 => pure (.lldtEw rm)
      | 3 => pure (.ltrEw rm)
      | 4 => pure (.verrEw rm)
      | 5 => pure (.verwEw rm)
      | _ => undefinedOp
  | 1 => do
      let (d, rm) ← parseE z.a32 Reg.ofNum
      match d with
      | 0 => do let m ← memOnly rm; pure (.sgdtMs m)
      | 1 => do let m ← memOnly rm; pure (.sidtMs m)
      | 2 => do let m ← memPriv rm; pure (.lgdtMs m)
      | 3 => do let m ← memPriv rm; pure (.lidtMs m)
      | 4 => pure (.smswEw rm)
      | 6 => pure (.lmswEw rm)
      | 7 => do let m ← memPriv rm; pure (.invlpgM m)
      | _ => undefinedOp
  | 2 => do
      let (d, rm) ← parseE z.a32 Reg.ofNum
      pure (.larGvEw (Reg.ofNum d) rm)
  | 3 => do
      let (d, rm) ← parseE z.a32 Reg.ofNum
      pure (.lslGvEw (Reg.ofNum d) rm)
  | 6 => pure (.clts)
  | 8 => pure (.invd)
  | 9 => pure (.wbinvd)
  | 11 => pure (.ud2)
  | _ => undefinedOp

/-- The two-byte map, row 2 (31_opcode_map.md). -/
noncomputable def twoByte2 (z : Sizes) (lo : Nat) : Parser Instr :=
  match lo with
  | 0 => do
      let (d, r) ← parseRd
      pure (.movRdCd r (digit d))
  | 1 => do
      let (d, r) ← parseRd
      pure (.movRdDd r (digit d))
  | 2 => do
      let (d, r) ← parseRd
      pure (.movCdRd (digit d) r)
  | 3 => do
      let (d, r) ← parseRd
      pure (.movDdRd (digit d) r)
  | 4 => do
      let (d, r) ← parseRd
      pure (.reserved0F24 (digit d) r)
  | 6 => do
      let (d, r) ← parseRd
      pure (.reserved0F26 (digit d) r)
  | _ => undefinedOp

/-- The two-byte map, row 3 (31_opcode_map.md). -/
noncomputable def twoByte3 (z : Sizes) (lo : Nat) : Parser Instr :=
  match lo with
  | 0 => pure (.wrmsr)
  | 1 => pure (.rdtsc)
  | 2 => pure (.rdmsr)
  | 3 => pure (.rdpmc)
  | _ => undefinedOp

/-- The two-byte map, row 4 (31_opcode_map.md). -/
noncomputable def twoByte4 (z : Sizes) (lo : Nat) : Parser Instr :=
  match lo with
  | 0 => do
      let (d, rm) ← parseE z.a32 Reg.ofNum
      pure (.cmovccGvEv .o (Reg.ofNum d) rm)
  | 1 => do
      let (d, rm) ← parseE z.a32 Reg.ofNum
      pure (.cmovccGvEv .no (Reg.ofNum d) rm)
  | 2 => do
      let (d, rm) ← parseE z.a32 Reg.ofNum
      pure (.cmovccGvEv .b (Reg.ofNum d) rm)
  | 3 => do
      let (d, rm) ← parseE z.a32 Reg.ofNum
      pure (.cmovccGvEv .ae (Reg.ofNum d) rm)
  | 4 => do
      let (d, rm) ← parseE z.a32 Reg.ofNum
      pure (.cmovccGvEv .e (Reg.ofNum d) rm)
  | 5 => do
      let (d, rm) ← parseE z.a32 Reg.ofNum
      pure (.cmovccGvEv .ne (Reg.ofNum d) rm)
  | 6 => do
      let (d, rm) ← parseE z.a32 Reg.ofNum
      pure (.cmovccGvEv .be (Reg.ofNum d) rm)
  | 7 => do
      let (d, rm) ← parseE z.a32 Reg.ofNum
      pure (.cmovccGvEv .a (Reg.ofNum d) rm)
  | 8 => do
      let (d, rm) ← parseE z.a32 Reg.ofNum
      pure (.cmovccGvEv .s (Reg.ofNum d) rm)
  | 9 => do
      let (d, rm) ← parseE z.a32 Reg.ofNum
      pure (.cmovccGvEv .ns (Reg.ofNum d) rm)
  | 10 => do
      let (d, rm) ← parseE z.a32 Reg.ofNum
      pure (.cmovccGvEv .p (Reg.ofNum d) rm)
  | 11 => do
      let (d, rm) ← parseE z.a32 Reg.ofNum
      pure (.cmovccGvEv .np (Reg.ofNum d) rm)
  | 12 => do
      let (d, rm) ← parseE z.a32 Reg.ofNum
      pure (.cmovccGvEv .l (Reg.ofNum d) rm)
  | 13 => do
      let (d, rm) ← parseE z.a32 Reg.ofNum
      pure (.cmovccGvEv .ge (Reg.ofNum d) rm)
  | 14 => do
      let (d, rm) ← parseE z.a32 Reg.ofNum
      pure (.cmovccGvEv .le (Reg.ofNum d) rm)
  | 15 => do
      let (d, rm) ← parseE z.a32 Reg.ofNum
      pure (.cmovccGvEv .g (Reg.ofNum d) rm)
  | _ => undefinedOp

/-- The two-byte map, row 8 (31_opcode_map.md). -/
noncomputable def twoByte8 (z : Sizes) (lo : Nat) : Parser Instr :=
  match lo with
  | 0 => do
      let disp ← sized z.o32
      pure (.jccJv .o disp)
  | 1 => do
      let disp ← sized z.o32
      pure (.jccJv .no disp)
  | 2 => do
      let disp ← sized z.o32
      pure (.jccJv .b disp)
  | 3 => do
      let disp ← sized z.o32
      pure (.jccJv .ae disp)
  | 4 => do
      let disp ← sized z.o32
      pure (.jccJv .e disp)
  | 5 => do
      let disp ← sized z.o32
      pure (.jccJv .ne disp)
  | 6 => do
      let disp ← sized z.o32
      pure (.jccJv .be disp)
  | 7 => do
      let disp ← sized z.o32
      pure (.jccJv .a disp)
  | 8 => do
      let disp ← sized z.o32
      pure (.jccJv .s disp)
  | 9 => do
      let disp ← sized z.o32
      pure (.jccJv .ns disp)
  | 10 => do
      let disp ← sized z.o32
      pure (.jccJv .p disp)
  | 11 => do
      let disp ← sized z.o32
      pure (.jccJv .np disp)
  | 12 => do
      let disp ← sized z.o32
      pure (.jccJv .l disp)
  | 13 => do
      let disp ← sized z.o32
      pure (.jccJv .ge disp)
  | 14 => do
      let disp ← sized z.o32
      pure (.jccJv .le disp)
  | 15 => do
      let disp ← sized z.o32
      pure (.jccJv .g disp)
  | _ => undefinedOp

/-- The two-byte map, row 9 (31_opcode_map.md). -/
noncomputable def twoByte9 (z : Sizes) (lo : Nat) : Parser Instr :=
  match lo with
  | 0 => do
      let (d, rm) ← parseE z.a32 Reg8.ofNum
      pure (.setccEb .o rm)
  | 1 => do
      let (d, rm) ← parseE z.a32 Reg8.ofNum
      pure (.setccEb .no rm)
  | 2 => do
      let (d, rm) ← parseE z.a32 Reg8.ofNum
      pure (.setccEb .b rm)
  | 3 => do
      let (d, rm) ← parseE z.a32 Reg8.ofNum
      pure (.setccEb .ae rm)
  | 4 => do
      let (d, rm) ← parseE z.a32 Reg8.ofNum
      pure (.setccEb .e rm)
  | 5 => do
      let (d, rm) ← parseE z.a32 Reg8.ofNum
      pure (.setccEb .ne rm)
  | 6 => do
      let (d, rm) ← parseE z.a32 Reg8.ofNum
      pure (.setccEb .be rm)
  | 7 => do
      let (d, rm) ← parseE z.a32 Reg8.ofNum
      pure (.setccEb .a rm)
  | 8 => do
      let (d, rm) ← parseE z.a32 Reg8.ofNum
      pure (.setccEb .s rm)
  | 9 => do
      let (d, rm) ← parseE z.a32 Reg8.ofNum
      pure (.setccEb .ns rm)
  | 10 => do
      let (d, rm) ← parseE z.a32 Reg8.ofNum
      pure (.setccEb .p rm)
  | 11 => do
      let (d, rm) ← parseE z.a32 Reg8.ofNum
      pure (.setccEb .np rm)
  | 12 => do
      let (d, rm) ← parseE z.a32 Reg8.ofNum
      pure (.setccEb .l rm)
  | 13 => do
      let (d, rm) ← parseE z.a32 Reg8.ofNum
      pure (.setccEb .ge rm)
  | 14 => do
      let (d, rm) ← parseE z.a32 Reg8.ofNum
      pure (.setccEb .le rm)
  | 15 => do
      let (d, rm) ← parseE z.a32 Reg8.ofNum
      pure (.setccEb .g rm)
  | _ => undefinedOp

/-- The two-byte map, row A (31_opcode_map.md). -/
noncomputable def twoByteA (z : Sizes) (lo : Nat) : Parser Instr :=
  match lo with
  | 0 => pure (.pushFs)
  | 1 => pure (.popFs)
  | 2 => pure (.cpuid)
  | 3 => do
      let (d, rm) ← parseE z.a32 Reg.ofNum
      pure (.btEvGv rm (Reg.ofNum d))
  | 4 => do
      let (d, rm) ← parseE z.a32 Reg.ofNum
      let imm ← byte1
      pure (.shldEvGvIb rm (Reg.ofNum d) imm)
  | 5 => do
      let (d, rm) ← parseE z.a32 Reg.ofNum
      pure (.shldEvGvCL rm (Reg.ofNum d))
  | 6 => pure (.reserved0FA6)
  | 7 => pure (.reserved0FA7)
  | 8 => pure (.pushGs)
  | 9 => pure (.popGs)
  | 10 => pure (.rsm)
  | 11 => do
      let (d, rm) ← parseE z.a32 Reg.ofNum
      pure (.btsEvGv rm (Reg.ofNum d))
  | 12 => do
      let (d, rm) ← parseE z.a32 Reg.ofNum
      let imm ← byte1
      pure (.shrdEvGvIb rm (Reg.ofNum d) imm)
  | 13 => do
      let (d, rm) ← parseE z.a32 Reg.ofNum
      pure (.shrdEvGvCL rm (Reg.ofNum d))
  | 15 => do
      let (d, rm) ← parseE z.a32 Reg.ofNum
      pure (.imulGvEv (Reg.ofNum d) rm)
  | _ => undefinedOp

/-- The two-byte map, row B (31_opcode_map.md). -/
noncomputable def twoByteB (z : Sizes) (lo : Nat) : Parser Instr :=
  match lo with
  | 0 => do
      let (d, rm) ← parseE z.a32 Reg8.ofNum
      pure (.cmpxchgEbGb rm (Reg8.ofNum d))
  | 1 => do
      let (d, rm) ← parseE z.a32 Reg.ofNum
      pure (.cmpxchgEvGv rm (Reg.ofNum d))
  | 2 => do
      let (d, m) ← parseM z.a32
      pure (.lssGvMp (Reg.ofNum d) m)
  | 3 => do
      let (d, rm) ← parseE z.a32 Reg.ofNum
      pure (.btrEvGv rm (Reg.ofNum d))
  | 4 => do
      let (d, m) ← parseM z.a32
      pure (.lfsGvMp (Reg.ofNum d) m)
  | 5 => do
      let (d, m) ← parseM z.a32
      pure (.lgsGvMp (Reg.ofNum d) m)
  | 6 => do
      let (d, rm) ← parseE z.a32 Reg8.ofNum
      pure (.movzxGvEb (Reg.ofNum d) rm)
  | 7 => do
      let (d, rm) ← parseE z.a32 Reg.ofNum
      pure (.movzxGvEw (Reg.ofNum d) rm)
  | 10 => do
      let (d, rm) ← parseE z.a32 Reg.ofNum
      match d with
      | 4 => do let imm ← byte1; pure (.btEvIb rm imm)
      | 5 => do let imm ← byte1; pure (.btsEvIb rm imm)
      | 6 => do let imm ← byte1; pure (.btrEvIb rm imm)
      | 7 => do let imm ← byte1; pure (.btcEvIb rm imm)
      | _ => undefinedAfter byte1
  | 11 => do
      let (d, rm) ← parseE z.a32 Reg.ofNum
      pure (.btcEvGv rm (Reg.ofNum d))
  | 12 => do
      let (d, rm) ← parseE z.a32 Reg.ofNum
      pure (.bsfGvEv (Reg.ofNum d) rm)
  | 13 => do
      let (d, rm) ← parseE z.a32 Reg.ofNum
      pure (.bsrGvEv (Reg.ofNum d) rm)
  | 14 => do
      let (d, rm) ← parseE z.a32 Reg8.ofNum
      pure (.movsxGvEb (Reg.ofNum d) rm)
  | 15 => do
      let (d, rm) ← parseE z.a32 Reg.ofNum
      pure (.movsxGvEw (Reg.ofNum d) rm)
  | _ => undefinedOp

/-- The two-byte map, row C (31_opcode_map.md). -/
noncomputable def twoByteC (z : Sizes) (lo : Nat) : Parser Instr :=
  match lo with
  | 0 => do
      let (d, rm) ← parseE z.a32 Reg8.ofNum
      pure (.xaddEbGb rm (Reg8.ofNum d))
  | 1 => do
      let (d, rm) ← parseE z.a32 Reg.ofNum
      pure (.xaddEvGv rm (Reg.ofNum d))
  | 7 => do
      let (d, rm) ← parseE z.a32 Reg.ofNum
      match d with
      | 1 => do let m ← memOnly rm; pure (.cmpxchg8bMq m)
      | _ => undefinedOp
  | 8 => pure (.bswap .eax)
  | 9 => pure (.bswap .ecx)
  | 10 => pure (.bswap .edx)
  | 11 => pure (.bswap .ebx)
  | 12 => pure (.bswap .esp)
  | 13 => pure (.bswap .ebp)
  | 14 => pure (.bswap .esi)
  | 15 => pure (.bswap .edi)
  | _ => undefinedOp

/-- The two-byte map: the byte after 0FH (31_opcode_map.md R543, R544). -/
noncomputable def twoByte (z : Sizes) (b : Nat) : Parser Instr :=
  match b / 16 with
  | 0 => twoByte0 z (b % 16)
  | 2 => twoByte2 z (b % 16)
  | 3 => twoByte3 z (b % 16)
  | 4 => twoByte4 z (b % 16)
  | 8 => twoByte8 z (b % 16)
  | 9 => twoByte9 z (b % 16)
  | 10 => twoByteA z (b % 16)
  | 11 => twoByteB z (b % 16)
  | 12 => twoByteC z (b % 16)
  | _ => undefinedOp

/-- The memory forms of escape D8H by the reg digit (31_opcode_map.md R546). -/
noncomputable def escMemD8 (d : Nat) (m : Ea) : Parser Instr :=
  match d with
  | 0 => pure (.faddM32 m)
  | 1 => pure (.fmulM32 m)
  | 2 => pure (.fcomM32 m)
  | 3 => pure (.fcompM32 m)
  | 4 => pure (.fsubM32 m)
  | 5 => pure (.fsubrM32 m)
  | 6 => pure (.fdivM32 m)
  | 7 => pure (.fdivrM32 m)
  | _ => undefinedEsc

/-- The register forms of escape D8H by the reg digit and the low three bits (31_opcode_map.md R547). -/
noncomputable def escRegD8 (d : Nat) (i : Fin 8) : Parser Instr :=
  match d with
  | 0 => pure (.faddSTSTi i)
  | 1 => pure (.fmulSTSTi i)
  | 2 => pure (.fcomSTSTi i)
  | 3 => pure (.fcompSTSTi i)
  | 4 => pure (.fsubSTSTi i)
  | 5 => pure (.fsubrSTSTi i)
  | 6 => pure (.fdivSTSTi i)
  | 7 => pure (.fdivrSTSTi i)
  | _ => undefinedEsc

/-- The memory forms of escape D9H by the reg digit (31_opcode_map.md R546). -/
noncomputable def escMemD9 (d : Nat) (m : Ea) : Parser Instr :=
  match d with
  | 0 => pure (.fldM32 m)
  | 2 => pure (.fstM32 m)
  | 3 => pure (.fstpM32 m)
  | 4 => pure (.fldenv m)
  | 5 => pure (.fldcw m)
  | 6 => pure (.fstenvFnstenv m)
  | 7 => pure (.fstcwFnstcw m)
  | _ => undefinedEsc

/-- The register forms of escape D9H by the reg digit and the low three bits (31_opcode_map.md R547). -/
noncomputable def escRegD9 (d : Nat) (i : Fin 8) : Parser Instr :=
  match d with
  | 0 => pure (.fldSTSTi i)
  | 1 => pure (.fxchSTSTi i)
  | 2 => match i with
    | 0 => pure .fnop
    | _ => undefinedEsc
  | 4 => match i with
    | 0 => pure .fchs
    | 1 => pure .fabs
    | 4 => pure .ftst
    | 5 => pure .fxam
    | _ => undefinedEsc
  | 5 => match i with
    | 0 => pure .fld1
    | 1 => pure .fldl2t
    | 2 => pure .fldl2e
    | 3 => pure .fldpi
    | 4 => pure .fldlg2
    | 5 => pure .fldln2
    | 6 => pure .fldz
    | _ => undefinedEsc
  | 6 => match i with
    | 0 => pure .f2xm1
    | 1 => pure .fyl2x
    | 2 => pure .fptan
    | 3 => pure .fpatan
    | 4 => pure .fxtract
    | 5 => pure .fprem1
    | 6 => pure .fdecstp
    | 7 => pure .fincstp
    | _ => undefinedEsc
  | 7 => match i with
    | 0 => pure .fprem
    | 1 => pure .fyl2xp1
    | 2 => pure .fsqrt
    | 3 => pure .fsincos
    | 4 => pure .frndint
    | 5 => pure .fscale
    | 6 => pure .fsin
    | 7 => pure .fcos
    | _ => undefinedEsc
  | _ => undefinedEsc

/-- The memory forms of escape DAH by the reg digit (31_opcode_map.md R546). -/
noncomputable def escMemDA (d : Nat) (m : Ea) : Parser Instr :=
  match d with
  | 0 => pure (.fiaddI32 m)
  | 1 => pure (.fimulI32 m)
  | 2 => pure (.ficomI32 m)
  | 3 => pure (.ficompI32 m)
  | 4 => pure (.fisubI32 m)
  | 5 => pure (.fisubrI32 m)
  | 6 => pure (.fidivI32 m)
  | 7 => pure (.fidivrI32 m)
  | _ => undefinedEsc

/-- The register forms of escape DAH by the reg digit and the low three bits (31_opcode_map.md R547). -/
noncomputable def escRegDA (d : Nat) (i : Fin 8) : Parser Instr :=
  match d with
  | 0 => pure (.fcmovbSTSTi i)
  | 1 => pure (.fcmoveSTSTi i)
  | 2 => pure (.fcmovbeSTSTi i)
  | 3 => pure (.fcmovuSTSTi i)
  | 5 => match i with
    | 1 => pure .fucompp
    | _ => undefinedEsc
  | _ => undefinedEsc

/-- The memory forms of escape DBH by the reg digit (31_opcode_map.md R546). -/
noncomputable def escMemDB (d : Nat) (m : Ea) : Parser Instr :=
  match d with
  | 0 => pure (.fildI32 m)
  | 2 => pure (.fistI32 m)
  | 3 => pure (.fistpI32 m)
  | 5 => pure (.fldM80 m)
  | 7 => pure (.fstpM80 m)
  | _ => undefinedEsc

/-- The register forms of escape DBH by the reg digit and the low three bits (31_opcode_map.md R547). -/
noncomputable def escRegDB (d : Nat) (i : Fin 8) : Parser Instr :=
  match d with
  | 0 => pure (.fcmovnbSTSTi i)
  | 1 => pure (.fcmovneSTSTi i)
  | 2 => pure (.fcmovnbeSTSTi i)
  | 3 => pure (.fcmovnuSTSTi i)
  | 4 => match i with
    | 2 => pure .fclexFnclex
    | 3 => pure .finitFninit
    | _ => undefinedEsc
  | 5 => pure (.fucomiSTSTi i)
  | 6 => pure (.fcomiSTSTi i)
  | _ => undefinedEsc

/-- The memory forms of escape DCH by the reg digit (31_opcode_map.md R546). -/
noncomputable def escMemDC (d : Nat) (m : Ea) : Parser Instr :=
  match d with
  | 0 => pure (.faddM64 m)
  | 1 => pure (.fmulM64 m)
  | 2 => pure (.fcomM64 m)
  | 3 => pure (.fcompM64 m)
  | 4 => pure (.fsubM64 m)
  | 5 => pure (.fsubrM64 m)
  | 6 => pure (.fdivM64 m)
  | 7 => pure (.fdivrM64 m)
  | _ => undefinedEsc

/-- The register forms of escape DCH by the reg digit and the low three bits (31_opcode_map.md R547). -/
noncomputable def escRegDC (d : Nat) (i : Fin 8) : Parser Instr :=
  match d with
  | 0 => pure (.faddSTiST i)
  | 1 => pure (.fmulSTiST i)
  | 4 => pure (.fsubrSTiST i)
  | 5 => pure (.fsubSTiST i)
  | 6 => pure (.fdivrSTiST i)
  | 7 => pure (.fdivSTiST i)
  | _ => undefinedEsc

/-- The memory forms of escape DDH by the reg digit (31_opcode_map.md R546). -/
noncomputable def escMemDD (d : Nat) (m : Ea) : Parser Instr :=
  match d with
  | 0 => pure (.fldM64 m)
  | 2 => pure (.fstM64 m)
  | 3 => pure (.fstpM64 m)
  | 4 => pure (.frstor m)
  | 6 => pure (.fsaveFnsave m)
  | 7 => pure (.fstswFnstsw m)
  | _ => undefinedEsc

/-- The register forms of escape DDH by the reg digit and the low three bits (31_opcode_map.md R547). -/
noncomputable def escRegDD (d : Nat) (i : Fin 8) : Parser Instr :=
  match d with
  | 0 => pure (.ffreeSTi i)
  | 2 => pure (.fstSTi i)
  | 3 => pure (.fstpSTi i)
  | 4 => pure (.fucomSTiST i)
  | 5 => pure (.fucompSTi i)
  | _ => undefinedEsc

/-- The memory forms of escape DEH by the reg digit (31_opcode_map.md R546). -/
noncomputable def escMemDE (d : Nat) (m : Ea) : Parser Instr :=
  match d with
  | 0 => pure (.fiaddI16 m)
  | 1 => pure (.fimulI16 m)
  | 2 => pure (.ficomI16 m)
  | 3 => pure (.ficompI16 m)
  | 4 => pure (.fisubI16 m)
  | 5 => pure (.fisubrI16 m)
  | 6 => pure (.fidivI16 m)
  | 7 => pure (.fidivrI16 m)
  | _ => undefinedEsc

/-- The register forms of escape DEH by the reg digit and the low three bits (31_opcode_map.md R547). -/
noncomputable def escRegDE (d : Nat) (i : Fin 8) : Parser Instr :=
  match d with
  | 0 => pure (.faddpSTiST i)
  | 1 => pure (.fmulpSTiST i)
  | 3 => match i with
    | 1 => pure .fcompp
    | _ => undefinedEsc
  | 4 => pure (.fsubrpSTiST i)
  | 5 => pure (.fsubpSTiST i)
  | 6 => pure (.fdivrpSTiST i)
  | 7 => pure (.fdivpSTiST i)
  | _ => undefinedEsc

/-- The memory forms of escape DFH by the reg digit (31_opcode_map.md R546). -/
noncomputable def escMemDF (d : Nat) (m : Ea) : Parser Instr :=
  match d with
  | 0 => pure (.fildI16 m)
  | 2 => pure (.fistI16 m)
  | 3 => pure (.fistpI16 m)
  | 4 => pure (.fbld m)
  | 5 => pure (.fildI64 m)
  | 6 => pure (.fbstp m)
  | 7 => pure (.fistpI64 m)
  | _ => undefinedEsc

/-- The register forms of escape DFH by the reg digit and the low three bits (31_opcode_map.md R547). -/
noncomputable def escRegDF (d : Nat) (i : Fin 8) : Parser Instr :=
  match d with
  | 4 => match i with
    | 0 => pure .fstswAxFnstswAx
    | _ => undefinedEsc
  | 5 => pure (.fucomipSTSTi i)
  | 6 => pure (.fcomipSTSTi i)
  | _ => undefinedEsc

/-- The escape opcodes D8H to DFH: the modR/M byte chooses the instruction (31_opcode_map.md R546, R547). -/
noncomputable def escape (z : Sizes) (e : Nat) : Parser Instr := do
  let b ← byte1
  let reg := b.toNat / 8 % 8
  if b.toNat / 64 = 3 then
    let i := digit (b.toNat % 8)
    match e with
    | 0 => escRegD8 reg i
    | 1 => escRegD9 reg i
    | 2 => escRegDA reg i
    | 3 => escRegDB reg i
    | 4 => escRegDC reg i
    | 5 => escRegDD reg i
    | 6 => escRegDE reg i
    | _ => escRegDF reg i
  else
    let m ← parseEa z.a32 (b.toNat / 64) (b.toNat % 8)
    match e with
    | 0 => escMemD8 reg m
    | 1 => escMemD9 reg m
    | 2 => escMemDA reg m
    | 3 => escMemDB reg m
    | 4 => escMemDC reg m
    | 5 => escMemDD reg m
    | 6 => escMemDE reg m
    | _ => escMemDF reg m

/-- The one-byte map, row 0 (31_opcode_map.md R541, R542). -/
noncomputable def oneByte0 (z : Sizes) (lo : Nat) : Parser Instr :=
  match lo with
  | 0 => do
      let (d, rm) ← parseE z.a32 Reg8.ofNum
      pure (.addEbGb rm (Reg8.ofNum d))
  | 1 => do
      let (d, rm) ← parseE z.a32 Reg.ofNum
      pure (.addEvGv rm (Reg.ofNum d))
  | 2 => do
      let (d, rm) ← parseE z.a32 Reg8.ofNum
      pure (.addGbEb (Reg8.ofNum d) rm)
  | 3 => do
      let (d, rm) ← parseE z.a32 Reg.ofNum
      pure (.addGvEv (Reg.ofNum d) rm)
  | 4 => do
      let imm ← byte1
      pure (.addALIb imm)
  | 5 => do
      let imm ← sized z.o32
      pure (.addeAXIv imm)
  | 6 => pure (.pushEs)
  | 7 => pure (.popEs)
  | 8 => do
      let (d, rm) ← parseE z.a32 Reg8.ofNum
      pure (.orEbGb rm (Reg8.ofNum d))
  | 9 => do
      let (d, rm) ← parseE z.a32 Reg.ofNum
      pure (.orEvGv rm (Reg.ofNum d))
  | 10 => do
      let (d, rm) ← parseE z.a32 Reg8.ofNum
      pure (.orGbEb (Reg8.ofNum d) rm)
  | 11 => do
      let (d, rm) ← parseE z.a32 Reg.ofNum
      pure (.orGvEv (Reg.ofNum d) rm)
  | 12 => do
      let imm ← byte1
      pure (.orALIb imm)
  | 13 => do
      let imm ← sized z.o32
      pure (.oreAXIv imm)
  | 14 => pure (.pushCs)
  | 15 => do
      let b ← byte1
      twoByte z b.toNat
  | _ => undefinedOp

/-- The one-byte map, row 1 (31_opcode_map.md R541, R542). -/
noncomputable def oneByte1 (z : Sizes) (lo : Nat) : Parser Instr :=
  match lo with
  | 0 => do
      let (d, rm) ← parseE z.a32 Reg8.ofNum
      pure (.adcEbGb rm (Reg8.ofNum d))
  | 1 => do
      let (d, rm) ← parseE z.a32 Reg.ofNum
      pure (.adcEvGv rm (Reg.ofNum d))
  | 2 => do
      let (d, rm) ← parseE z.a32 Reg8.ofNum
      pure (.adcGbEb (Reg8.ofNum d) rm)
  | 3 => do
      let (d, rm) ← parseE z.a32 Reg.ofNum
      pure (.adcGvEv (Reg.ofNum d) rm)
  | 4 => do
      let imm ← byte1
      pure (.adcALIb imm)
  | 5 => do
      let imm ← sized z.o32
      pure (.adceAXIv imm)
  | 6 => pure (.pushSs)
  | 7 => pure (.popSs)
  | 8 => do
      let (d, rm) ← parseE z.a32 Reg8.ofNum
      pure (.sbbEbGb rm (Reg8.ofNum d))
  | 9 => do
      let (d, rm) ← parseE z.a32 Reg.ofNum
      pure (.sbbEvGv rm (Reg.ofNum d))
  | 10 => do
      let (d, rm) ← parseE z.a32 Reg8.ofNum
      pure (.sbbGbEb (Reg8.ofNum d) rm)
  | 11 => do
      let (d, rm) ← parseE z.a32 Reg.ofNum
      pure (.sbbGvEv (Reg.ofNum d) rm)
  | 12 => do
      let imm ← byte1
      pure (.sbbALIb imm)
  | 13 => do
      let imm ← sized z.o32
      pure (.sbbeAXIv imm)
  | 14 => pure (.pushDs)
  | 15 => pure (.popDs)
  | _ => undefinedOp

/-- The one-byte map, row 2 (31_opcode_map.md R541, R542). -/
noncomputable def oneByte2 (z : Sizes) (lo : Nat) : Parser Instr :=
  match lo with
  | 0 => do
      let (d, rm) ← parseE z.a32 Reg8.ofNum
      pure (.andEbGb rm (Reg8.ofNum d))
  | 1 => do
      let (d, rm) ← parseE z.a32 Reg.ofNum
      pure (.andEvGv rm (Reg.ofNum d))
  | 2 => do
      let (d, rm) ← parseE z.a32 Reg8.ofNum
      pure (.andGbEb (Reg8.ofNum d) rm)
  | 3 => do
      let (d, rm) ← parseE z.a32 Reg.ofNum
      pure (.andGvEv (Reg.ofNum d) rm)
  | 4 => do
      let imm ← byte1
      pure (.andALIb imm)
  | 5 => do
      let imm ← sized z.o32
      pure (.andeAXIv imm)
  | 6 => pure (.prefixSegEs)
  | 7 => pure (.daa)
  | 8 => do
      let (d, rm) ← parseE z.a32 Reg8.ofNum
      pure (.subEbGb rm (Reg8.ofNum d))
  | 9 => do
      let (d, rm) ← parseE z.a32 Reg.ofNum
      pure (.subEvGv rm (Reg.ofNum d))
  | 10 => do
      let (d, rm) ← parseE z.a32 Reg8.ofNum
      pure (.subGbEb (Reg8.ofNum d) rm)
  | 11 => do
      let (d, rm) ← parseE z.a32 Reg.ofNum
      pure (.subGvEv (Reg.ofNum d) rm)
  | 12 => do
      let imm ← byte1
      pure (.subALIb imm)
  | 13 => do
      let imm ← sized z.o32
      pure (.subeAXIv imm)
  | 14 => pure (.prefixSegCs)
  | 15 => pure (.das)
  | _ => undefinedOp

/-- The one-byte map, row 3 (31_opcode_map.md R541, R542). -/
noncomputable def oneByte3 (z : Sizes) (lo : Nat) : Parser Instr :=
  match lo with
  | 0 => do
      let (d, rm) ← parseE z.a32 Reg8.ofNum
      pure (.xorEbGb rm (Reg8.ofNum d))
  | 1 => do
      let (d, rm) ← parseE z.a32 Reg.ofNum
      pure (.xorEvGv rm (Reg.ofNum d))
  | 2 => do
      let (d, rm) ← parseE z.a32 Reg8.ofNum
      pure (.xorGbEb (Reg8.ofNum d) rm)
  | 3 => do
      let (d, rm) ← parseE z.a32 Reg.ofNum
      pure (.xorGvEv (Reg.ofNum d) rm)
  | 4 => do
      let imm ← byte1
      pure (.xorALIb imm)
  | 5 => do
      let imm ← sized z.o32
      pure (.xoreAXIv imm)
  | 6 => pure (.prefixSegSs)
  | 7 => pure (.aaa)
  | 8 => do
      let (d, rm) ← parseE z.a32 Reg8.ofNum
      pure (.cmpEbGb rm (Reg8.ofNum d))
  | 9 => do
      let (d, rm) ← parseE z.a32 Reg.ofNum
      pure (.cmpEvGv rm (Reg.ofNum d))
  | 10 => do
      let (d, rm) ← parseE z.a32 Reg8.ofNum
      pure (.cmpGbEb (Reg8.ofNum d) rm)
  | 11 => do
      let (d, rm) ← parseE z.a32 Reg.ofNum
      pure (.cmpGvEv (Reg.ofNum d) rm)
  | 12 => do
      let imm ← byte1
      pure (.cmpALIb imm)
  | 13 => do
      let imm ← sized z.o32
      pure (.cmpeAXIv imm)
  | 14 => pure (.prefixSegDs)
  | 15 => pure (.aas)
  | _ => undefinedOp

/-- The one-byte map, row 4 (31_opcode_map.md R541, R542). -/
noncomputable def oneByte4 (z : Sizes) (lo : Nat) : Parser Instr :=
  match lo with
  | 0 => pure (.incRv .eax)
  | 1 => pure (.incRv .ecx)
  | 2 => pure (.incRv .edx)
  | 3 => pure (.incRv .ebx)
  | 4 => pure (.incRv .esp)
  | 5 => pure (.incRv .ebp)
  | 6 => pure (.incRv .esi)
  | 7 => pure (.incRv .edi)
  | 8 => pure (.decRv .eax)
  | 9 => pure (.decRv .ecx)
  | 10 => pure (.decRv .edx)
  | 11 => pure (.decRv .ebx)
  | 12 => pure (.decRv .esp)
  | 13 => pure (.decRv .ebp)
  | 14 => pure (.decRv .esi)
  | 15 => pure (.decRv .edi)
  | _ => undefinedOp

/-- The one-byte map, row 5 (31_opcode_map.md R541, R542). -/
noncomputable def oneByte5 (z : Sizes) (lo : Nat) : Parser Instr :=
  match lo with
  | 0 => pure (.pushRv .eax)
  | 1 => pure (.pushRv .ecx)
  | 2 => pure (.pushRv .edx)
  | 3 => pure (.pushRv .ebx)
  | 4 => pure (.pushRv .esp)
  | 5 => pure (.pushRv .ebp)
  | 6 => pure (.pushRv .esi)
  | 7 => pure (.pushRv .edi)
  | 8 => pure (.popRv .eax)
  | 9 => pure (.popRv .ecx)
  | 10 => pure (.popRv .edx)
  | 11 => pure (.popRv .ebx)
  | 12 => pure (.popRv .esp)
  | 13 => pure (.popRv .ebp)
  | 14 => pure (.popRv .esi)
  | 15 => pure (.popRv .edi)
  | _ => undefinedOp

/-- The one-byte map, row 6 (31_opcode_map.md R541, R542). -/
noncomputable def oneByte6 (z : Sizes) (lo : Nat) : Parser Instr :=
  match lo with
  | 0 => pure (.pushaPushad)
  | 1 => pure (.popaPopad)
  | 2 => do
      let (d, m) ← parseM z.a32
      pure (.boundGvMa (Reg.ofNum d) m)
  | 3 => do
      let (d, rm) ← parseE z.a32 Reg.ofNum
      pure (.arplEwGw rm (Reg.ofNum d))
  | 4 => pure (.prefixSegFs)
  | 5 => pure (.prefixSegGs)
  | 6 => pure (.prefixOperandSize)
  | 7 => pure (.prefixAddressSize)
  | 8 => do
      let imm ← sized z.o32
      pure (.pushIv imm)
  | 9 => do
      let (d, rm) ← parseE z.a32 Reg.ofNum
      let imm ← sized z.o32
      pure (.imulGvEvIv (Reg.ofNum d) rm imm)
  | 10 => do
      let imm ← byte1
      pure (.pushIb imm)
  | 11 => do
      let (d, rm) ← parseE z.a32 Reg.ofNum
      let imm ← byte1
      pure (.imulGvEvIb (Reg.ofNum d) rm imm)
  | 12 => pure (.insbYbDX)
  | 13 => pure (.inswInsdYvDX)
  | 14 => pure (.outsbDXXb)
  | 15 => pure (.outswOutsdDXXv)
  | _ => undefinedOp

/-- The one-byte map, row 7 (31_opcode_map.md R541, R542). -/
noncomputable def oneByte7 (z : Sizes) (lo : Nat) : Parser Instr :=
  match lo with
  | 0 => do
      let disp ← byte1
      pure (.jccJb .o disp)
  | 1 => do
      let disp ← byte1
      pure (.jccJb .no disp)
  | 2 => do
      let disp ← byte1
      pure (.jccJb .b disp)
  | 3 => do
      let disp ← byte1
      pure (.jccJb .ae disp)
  | 4 => do
      let disp ← byte1
      pure (.jccJb .e disp)
  | 5 => do
      let disp ← byte1
      pure (.jccJb .ne disp)
  | 6 => do
      let disp ← byte1
      pure (.jccJb .be disp)
  | 7 => do
      let disp ← byte1
      pure (.jccJb .a disp)
  | 8 => do
      let disp ← byte1
      pure (.jccJb .s disp)
  | 9 => do
      let disp ← byte1
      pure (.jccJb .ns disp)
  | 10 => do
      let disp ← byte1
      pure (.jccJb .p disp)
  | 11 => do
      let disp ← byte1
      pure (.jccJb .np disp)
  | 12 => do
      let disp ← byte1
      pure (.jccJb .l disp)
  | 13 => do
      let disp ← byte1
      pure (.jccJb .ge disp)
  | 14 => do
      let disp ← byte1
      pure (.jccJb .le disp)
  | 15 => do
      let disp ← byte1
      pure (.jccJb .g disp)
  | _ => undefinedOp

/-- The one-byte map, row 8 (31_opcode_map.md R541, R542). The immediate of the reserved 82 is consumed
before #UD (30_encoding.md R496) and has no effect, so the instruction does not hold it and the encoder writes 0. -/
noncomputable def oneByte8 (z : Sizes) (lo : Nat) : Parser Instr :=
  match lo with
  | 0 => do
      let (d, rm) ← parseE z.a32 Reg8.ofNum
      match d with
      | 0 => do let imm ← byte1; pure (.addEbIb rm imm)
      | 1 => do let imm ← byte1; pure (.orEbIb rm imm)
      | 2 => do let imm ← byte1; pure (.adcEbIb rm imm)
      | 3 => do let imm ← byte1; pure (.sbbEbIb rm imm)
      | 4 => do let imm ← byte1; pure (.andEbIb rm imm)
      | 5 => do let imm ← byte1; pure (.subEbIb rm imm)
      | 6 => do let imm ← byte1; pure (.xorEbIb rm imm)
      | 7 => do let imm ← byte1; pure (.cmpEbIb rm imm)
      | _ => undefinedOp
  | 1 => do
      let (d, rm) ← parseE z.a32 Reg.ofNum
      match d with
      | 0 => do let imm ← sized z.o32; pure (.addEvIv rm imm)
      | 1 => do let imm ← sized z.o32; pure (.orEvIv rm imm)
      | 2 => do let imm ← sized z.o32; pure (.adcEvIv rm imm)
      | 3 => do let imm ← sized z.o32; pure (.sbbEvIv rm imm)
      | 4 => do let imm ← sized z.o32; pure (.andEvIv rm imm)
      | 5 => do let imm ← sized z.o32; pure (.subEvIv rm imm)
      | 6 => do let imm ← sized z.o32; pure (.xorEvIv rm imm)
      | 7 => do let imm ← sized z.o32; pure (.cmpEvIv rm imm)
      | _ => undefinedOp
  | 2 => do
      let _ ← byte1
      pure (.reserved82)
  | 3 => do
      let (d, rm) ← parseE z.a32 Reg.ofNum
      match d with
      | 0 => do let imm ← byte1; pure (.addEvIb rm imm)
      | 1 => do let imm ← byte1; pure (.orEvIb rm imm)
      | 2 => do let imm ← byte1; pure (.adcEvIb rm imm)
      | 3 => do let imm ← byte1; pure (.sbbEvIb rm imm)
      | 4 => do let imm ← byte1; pure (.andEvIb rm imm)
      | 5 => do let imm ← byte1; pure (.subEvIb rm imm)
      | 6 => do let imm ← byte1; pure (.xorEvIb rm imm)
      | 7 => do let imm ← byte1; pure (.cmpEvIb rm imm)
      | _ => undefinedOp
  | 4 => do
      let (d, rm) ← parseE z.a32 Reg8.ofNum
      pure (.testEbGb rm (Reg8.ofNum d))
  | 5 => do
      let (d, rm) ← parseE z.a32 Reg.ofNum
      pure (.testEvGv rm (Reg.ofNum d))
  | 6 => do
      let (d, rm) ← parseE z.a32 Reg8.ofNum
      pure (.xchgEbGb rm (Reg8.ofNum d))
  | 7 => do
      let (d, rm) ← parseE z.a32 Reg.ofNum
      pure (.xchgEvGv rm (Reg.ofNum d))
  | 8 => do
      let (d, rm) ← parseE z.a32 Reg8.ofNum
      pure (.movEbGb rm (Reg8.ofNum d))
  | 9 => do
      let (d, rm) ← parseE z.a32 Reg.ofNum
      pure (.movEvGv rm (Reg.ofNum d))
  | 10 => do
      let (d, rm) ← parseE z.a32 Reg8.ofNum
      pure (.movGbEb (Reg8.ofNum d) rm)
  | 11 => do
      let (d, rm) ← parseE z.a32 Reg.ofNum
      pure (.movGvEv (Reg.ofNum d) rm)
  | 12 => do
      let (d, rm) ← parseE z.a32 Reg.ofNum
      let sr ← parseSegAny d
      pure (.movEwSw rm sr)
  | 13 => do
      let (d, m) ← parseM z.a32
      pure (.leaGvM (Reg.ofNum d) m)
  | 14 => do
      let (d, rm) ← parseE z.a32 Reg.ofNum
      let sr ← parseSegLoad d
      pure (.movSwEw sr rm)
  | 15 => do
      let (d, rm) ← parseE z.a32 Reg.ofNum
      match d with
      | 0 => pure (.popEv rm)
      | _ => undefinedOp
  | _ => undefinedOp

/-- The one-byte map, row 9 (31_opcode_map.md R541, R542). -/
noncomputable def oneByte9 (z : Sizes) (lo : Nat) : Parser Instr :=
  match lo with
  | 0 => pure (.nop)
  | 1 => pure (.xchgEAXRv .ecx)
  | 2 => pure (.xchgEAXRv .edx)
  | 3 => pure (.xchgEAXRv .ebx)
  | 4 => pure (.xchgEAXRv .esp)
  | 5 => pure (.xchgEAXRv .ebp)
  | 6 => pure (.xchgEAXRv .esi)
  | 7 => pure (.xchgEAXRv .edi)
  | 8 => pure (.cbwCwde)
  | 9 => pure (.cwdCdq)
  | 10 => do
      let off ← sized z.o32
      let sel ← half
      pure (.callAp off sel)
  | 11 => pure (.waitFwait)
  | 12 => pure (.pushfPushfd)
  | 13 => pure (.popfPopfd)
  | 14 => pure (.sahf)
  | 15 => pure (.lahf)
  | _ => undefinedOp

/-- The one-byte map, row A (31_opcode_map.md R541, R542). -/
noncomputable def oneByteA (z : Sizes) (lo : Nat) : Parser Instr :=
  match lo with
  | 0 => do
      let off ← sized z.a32
      pure (.movALOb off)
  | 1 => do
      let off ← sized z.a32
      pure (.moveAXOv off)
  | 2 => do
      let off ← sized z.a32
      pure (.movObAL off)
  | 3 => do
      let off ← sized z.a32
      pure (.movOveAX off)
  | 4 => pure (.movsbYbXb)
  | 5 => pure (.movswMovsdYvXv)
  | 6 => pure (.cmpsbXbYb)
  | 7 => pure (.cmpswCmpsdXvYv)
  | 8 => do
      let imm ← byte1
      pure (.testALIb imm)
  | 9 => do
      let imm ← sized z.o32
      pure (.testeAXIv imm)
  | 10 => pure (.stosbYbAL)
  | 11 => pure (.stoswStosdYveAX)
  | 12 => pure (.lodsbALXb)
  | 13 => pure (.lodswLodsdeAXXv)
  | 14 => pure (.scasbALYb)
  | 15 => pure (.scaswScasdeAXYv)
  | _ => undefinedOp

/-- The one-byte map, row B (31_opcode_map.md R541, R542). -/
noncomputable def oneByteB (z : Sizes) (lo : Nat) : Parser Instr :=
  match lo with
  | 0 => do
      let imm ← byte1
      pure (.movR8Ib .al imm)
  | 1 => do
      let imm ← byte1
      pure (.movR8Ib .cl imm)
  | 2 => do
      let imm ← byte1
      pure (.movR8Ib .dl imm)
  | 3 => do
      let imm ← byte1
      pure (.movR8Ib .bl imm)
  | 4 => do
      let imm ← byte1
      pure (.movR8Ib .ah imm)
  | 5 => do
      let imm ← byte1
      pure (.movR8Ib .ch imm)
  | 6 => do
      let imm ← byte1
      pure (.movR8Ib .dh imm)
  | 7 => do
      let imm ← byte1
      pure (.movR8Ib .bh imm)
  | 8 => do
      let imm ← sized z.o32
      pure (.movRvIv .eax imm)
  | 9 => do
      let imm ← sized z.o32
      pure (.movRvIv .ecx imm)
  | 10 => do
      let imm ← sized z.o32
      pure (.movRvIv .edx imm)
  | 11 => do
      let imm ← sized z.o32
      pure (.movRvIv .ebx imm)
  | 12 => do
      let imm ← sized z.o32
      pure (.movRvIv .esp imm)
  | 13 => do
      let imm ← sized z.o32
      pure (.movRvIv .ebp imm)
  | 14 => do
      let imm ← sized z.o32
      pure (.movRvIv .esi imm)
  | 15 => do
      let imm ← sized z.o32
      pure (.movRvIv .edi imm)
  | _ => undefinedOp

/-- The one-byte map, row C (31_opcode_map.md R541, R542). -/
noncomputable def oneByteC (z : Sizes) (lo : Nat) : Parser Instr :=
  match lo with
  | 0 => do
      let (d, rm) ← parseE z.a32 Reg8.ofNum
      match d with
      | 0 => do let imm ← byte1; pure (.rolEbIb rm imm)
      | 1 => do let imm ← byte1; pure (.rorEbIb rm imm)
      | 2 => do let imm ← byte1; pure (.rclEbIb rm imm)
      | 3 => do let imm ← byte1; pure (.rcrEbIb rm imm)
      | 4 => do let imm ← byte1; pure (.shlSalEbIb rm imm)
      | 5 => do let imm ← byte1; pure (.shrEbIb rm imm)
      | 7 => do let imm ← byte1; pure (.sarEbIb rm imm)
      | _ => undefinedAfter byte1
  | 1 => do
      let (d, rm) ← parseE z.a32 Reg.ofNum
      match d with
      | 0 => do let imm ← byte1; pure (.rolEvIb rm imm)
      | 1 => do let imm ← byte1; pure (.rorEvIb rm imm)
      | 2 => do let imm ← byte1; pure (.rclEvIb rm imm)
      | 3 => do let imm ← byte1; pure (.rcrEvIb rm imm)
      | 4 => do let imm ← byte1; pure (.shlSalEvIb rm imm)
      | 5 => do let imm ← byte1; pure (.shrEvIb rm imm)
      | 7 => do let imm ← byte1; pure (.sarEvIb rm imm)
      | _ => undefinedAfter byte1
  | 2 => do
      let imm ← half
      pure (.retNearIw imm)
  | 3 => pure (.retNear)
  | 4 => do
      let (d, m) ← parseM z.a32
      pure (.lesGvMp (Reg.ofNum d) m)
  | 5 => do
      let (d, m) ← parseM z.a32
      pure (.ldsGvMp (Reg.ofNum d) m)
  | 6 => do
      let (d, rm) ← parseE z.a32 Reg8.ofNum
      match d with
      | 0 => do let imm ← byte1; pure (.movEbIb rm imm)
      | _ => undefinedAfter byte1
  | 7 => do
      let (d, rm) ← parseE z.a32 Reg.ofNum
      match d with
      | 0 => do let imm ← sized z.o32; pure (.movEvIv rm imm)
      | _ => undefinedAfter (sized z.o32)
  | 8 => do
      let imm ← half
      let imm2 ← byte1
      pure (.enterIwIb imm imm2)
  | 9 => pure (.leave)
  | 10 => do
      let imm ← half
      pure (.retFarIw imm)
  | 11 => pure (.retFar)
  | 12 => pure (.int3)
  | 13 => do
      let imm ← byte1
      pure (.intIb imm)
  | 14 => pure (.into)
  | 15 => pure (.iretIretd)
  | _ => undefinedOp

/-- The one-byte map, row D (31_opcode_map.md R541, R542). -/
noncomputable def oneByteD (z : Sizes) (lo : Nat) : Parser Instr :=
  match lo with
  | 0 => do
      let (d, rm) ← parseE z.a32 Reg8.ofNum
      match d with
      | 0 => pure (.rolEb1 rm)
      | 1 => pure (.rorEb1 rm)
      | 2 => pure (.rclEb1 rm)
      | 3 => pure (.rcrEb1 rm)
      | 4 => pure (.shlSalEb1 rm)
      | 5 => pure (.shrEb1 rm)
      | 7 => pure (.sarEb1 rm)
      | _ => undefinedOp
  | 1 => do
      let (d, rm) ← parseE z.a32 Reg.ofNum
      match d with
      | 0 => pure (.rolEv1 rm)
      | 1 => pure (.rorEv1 rm)
      | 2 => pure (.rclEv1 rm)
      | 3 => pure (.rcrEv1 rm)
      | 4 => pure (.shlSalEv1 rm)
      | 5 => pure (.shrEv1 rm)
      | 7 => pure (.sarEv1 rm)
      | _ => undefinedOp
  | 2 => do
      let (d, rm) ← parseE z.a32 Reg8.ofNum
      match d with
      | 0 => pure (.rolEbCL rm)
      | 1 => pure (.rorEbCL rm)
      | 2 => pure (.rclEbCL rm)
      | 3 => pure (.rcrEbCL rm)
      | 4 => pure (.shlSalEbCL rm)
      | 5 => pure (.shrEbCL rm)
      | 7 => pure (.sarEbCL rm)
      | _ => undefinedOp
  | 3 => do
      let (d, rm) ← parseE z.a32 Reg.ofNum
      match d with
      | 0 => pure (.rolEvCL rm)
      | 1 => pure (.rorEvCL rm)
      | 2 => pure (.rclEvCL rm)
      | 3 => pure (.rcrEvCL rm)
      | 4 => pure (.shlSalEvCL rm)
      | 5 => pure (.shrEvCL rm)
      | 7 => pure (.sarEvCL rm)
      | _ => undefinedOp
  | 4 => do
      let imm ← byte1
      pure (.aamIb imm)
  | 5 => do
      let imm ← byte1
      pure (.aadIb imm)
  | 6 => pure (.reservedD6)
  | 7 => pure (.xlatXlatb)
  | 8 => escape z 0
  | 9 => escape z 1
  | 10 => escape z 2
  | 11 => escape z 3
  | 12 => escape z 4
  | 13 => escape z 5
  | 14 => escape z 6
  | 15 => escape z 7
  | _ => undefinedOp

/-- The one-byte map, row E (31_opcode_map.md R541, R542). -/
noncomputable def oneByteE (z : Sizes) (lo : Nat) : Parser Instr :=
  match lo with
  | 0 => do
      let disp ← byte1
      pure (.loopneLoopnzJb disp)
  | 1 => do
      let disp ← byte1
      pure (.loopeLoopzJb disp)
  | 2 => do
      let disp ← byte1
      pure (.loopJb disp)
  | 3 => do
      let disp ← byte1
      pure (.jcxzJecxzJb disp)
  | 4 => do
      let imm ← byte1
      pure (.inALIb imm)
  | 5 => do
      let imm ← byte1
      pure (.ineAXIb imm)
  | 6 => do
      let imm ← byte1
      pure (.outIbAL imm)
  | 7 => do
      let imm ← byte1
      pure (.outIbeAX imm)
  | 8 => do
      let disp ← sized z.o32
      pure (.callJv disp)
  | 9 => do
      let disp ← sized z.o32
      pure (.jmpJv disp)
  | 10 => do
      let off ← sized z.o32
      let sel ← half
      pure (.jmpAp off sel)
  | 11 => do
      let disp ← byte1
      pure (.jmpJb disp)
  | 12 => pure (.inALDX)
  | 13 => pure (.ineAXDX)
  | 14 => pure (.outDXAL)
  | 15 => pure (.outDXeAX)
  | _ => undefinedOp

/-- The one-byte map, row F (31_opcode_map.md R541, R542). -/
noncomputable def oneByteF (z : Sizes) (lo : Nat) : Parser Instr :=
  match lo with
  | 0 => pure (.prefixLock)
  | 1 => pure (.reservedF1)
  | 2 => pure (.prefixRepneRepnz)
  | 3 => pure (.prefixRepRepeRepz)
  | 4 => pure (.hlt)
  | 5 => pure (.cmc)
  | 6 => do
      let (d, rm) ← parseE z.a32 Reg8.ofNum
      match d with
      | 0 => do let imm ← byte1; pure (.testEbIb rm imm)
      | 2 => pure (.notEb rm)
      | 3 => pure (.negEb rm)
      | 4 => pure (.mulEb rm)
      | 5 => pure (.imulEb rm)
      | 6 => pure (.divEb rm)
      | 7 => pure (.idivEb rm)
      | _ => undefinedOp
  | 7 => do
      let (d, rm) ← parseE z.a32 Reg.ofNum
      match d with
      | 0 => do let imm ← sized z.o32; pure (.testEvIv rm imm)
      | 2 => pure (.notEv rm)
      | 3 => pure (.negEv rm)
      | 4 => pure (.mulEv rm)
      | 5 => pure (.imulEv rm)
      | 6 => pure (.divEv rm)
      | 7 => pure (.idivEv rm)
      | _ => undefinedOp
  | 8 => pure (.clc)
  | 9 => pure (.stc)
  | 10 => pure (.cli)
  | 11 => pure (.sti)
  | 12 => pure (.cld)
  | 13 => pure (.std)
  | 14 => do
      let (d, rm) ← parseE z.a32 Reg8.ofNum
      match d with
      | 0 => pure (.incEb rm)
      | 1 => pure (.decEb rm)
      | _ => undefinedOp
  | 15 => do
      let (d, rm) ← parseE z.a32 Reg.ofNum
      match d with
      | 0 => pure (.incEv rm)
      | 1 => pure (.decEv rm)
      | 2 => pure (.callEv rm)
      | 3 => do let m ← memOnly rm; pure (.callEp m)
      | 4 => pure (.jmpEv rm)
      | 5 => do let m ← memOnly rm; pure (.jmpEp m)
      | 6 => pure (.pushEv rm)
      | _ => undefinedOp
  | _ => undefinedOp

/-- The decoder: one prefix byte or one instruction from the bytes at hand, with the bytes that follow it
(30_encoding.md R496). Total; it answers `short` when it needs a byte it was not given. -/
noncomputable def decode (z : Sizes) : Parser Instr := do
  let b ← byte1
  match b.toNat / 16 with
  | 0 => oneByte0 z (b.toNat % 16)
  | 1 => oneByte1 z (b.toNat % 16)
  | 2 => oneByte2 z (b.toNat % 16)
  | 3 => oneByte3 z (b.toNat % 16)
  | 4 => oneByte4 z (b.toNat % 16)
  | 5 => oneByte5 z (b.toNat % 16)
  | 6 => oneByte6 z (b.toNat % 16)
  | 7 => oneByte7 z (b.toNat % 16)
  | 8 => oneByte8 z (b.toNat % 16)
  | 9 => oneByte9 z (b.toNat % 16)
  | 10 => oneByteA z (b.toNat % 16)
  | 11 => oneByteB z (b.toNat % 16)
  | 12 => oneByteC z (b.toNat % 16)
  | 13 => oneByteD z (b.toNat % 16)
  | 14 => oneByteE z (b.toNat % 16)
  | _ => oneByteF z (b.toNat % 16)

/-- The encoder: the bytes of an instruction under the sizes in force, written from the same tables. A
prefix is its own byte. An escape or group opcode carries its digit in the modR/M byte. -/
def encode (z : Sizes) : Instr → List Byte
  | .addEbGb rm r => [0x00#8] ++ encodeE r.num Reg8.num rm
  | .addEvGv rm r => [0x01#8] ++ encodeE r.num Reg.num rm
  | .addGbEb r rm => [0x02#8] ++ encodeE r.num Reg8.num rm
  | .addGvEv r rm => [0x03#8] ++ encodeE r.num Reg.num rm
  | .addALIb imm => [0x04#8] ++ [imm]
  | .addeAXIv imm => [0x05#8] ++ sizedBytes z.o32 imm
  | .addEbIb rm imm => [0x80#8] ++ encodeE 0 Reg8.num rm ++ [imm]
  | .addEvIv rm imm => [0x81#8] ++ encodeE 0 Reg.num rm ++ sizedBytes z.o32 imm
  | .addEvIb rm imm => [0x83#8] ++ encodeE 0 Reg.num rm ++ [imm]
  | .orEbGb rm r => [0x08#8] ++ encodeE r.num Reg8.num rm
  | .orEvGv rm r => [0x09#8] ++ encodeE r.num Reg.num rm
  | .orGbEb r rm => [0x0A#8] ++ encodeE r.num Reg8.num rm
  | .orGvEv r rm => [0x0B#8] ++ encodeE r.num Reg.num rm
  | .orALIb imm => [0x0C#8] ++ [imm]
  | .oreAXIv imm => [0x0D#8] ++ sizedBytes z.o32 imm
  | .orEbIb rm imm => [0x80#8] ++ encodeE 1 Reg8.num rm ++ [imm]
  | .orEvIv rm imm => [0x81#8] ++ encodeE 1 Reg.num rm ++ sizedBytes z.o32 imm
  | .orEvIb rm imm => [0x83#8] ++ encodeE 1 Reg.num rm ++ [imm]
  | .adcEbGb rm r => [0x10#8] ++ encodeE r.num Reg8.num rm
  | .adcEvGv rm r => [0x11#8] ++ encodeE r.num Reg.num rm
  | .adcGbEb r rm => [0x12#8] ++ encodeE r.num Reg8.num rm
  | .adcGvEv r rm => [0x13#8] ++ encodeE r.num Reg.num rm
  | .adcALIb imm => [0x14#8] ++ [imm]
  | .adceAXIv imm => [0x15#8] ++ sizedBytes z.o32 imm
  | .adcEbIb rm imm => [0x80#8] ++ encodeE 2 Reg8.num rm ++ [imm]
  | .adcEvIv rm imm => [0x81#8] ++ encodeE 2 Reg.num rm ++ sizedBytes z.o32 imm
  | .adcEvIb rm imm => [0x83#8] ++ encodeE 2 Reg.num rm ++ [imm]
  | .sbbEbGb rm r => [0x18#8] ++ encodeE r.num Reg8.num rm
  | .sbbEvGv rm r => [0x19#8] ++ encodeE r.num Reg.num rm
  | .sbbGbEb r rm => [0x1A#8] ++ encodeE r.num Reg8.num rm
  | .sbbGvEv r rm => [0x1B#8] ++ encodeE r.num Reg.num rm
  | .sbbALIb imm => [0x1C#8] ++ [imm]
  | .sbbeAXIv imm => [0x1D#8] ++ sizedBytes z.o32 imm
  | .sbbEbIb rm imm => [0x80#8] ++ encodeE 3 Reg8.num rm ++ [imm]
  | .sbbEvIv rm imm => [0x81#8] ++ encodeE 3 Reg.num rm ++ sizedBytes z.o32 imm
  | .sbbEvIb rm imm => [0x83#8] ++ encodeE 3 Reg.num rm ++ [imm]
  | .andEbGb rm r => [0x20#8] ++ encodeE r.num Reg8.num rm
  | .andEvGv rm r => [0x21#8] ++ encodeE r.num Reg.num rm
  | .andGbEb r rm => [0x22#8] ++ encodeE r.num Reg8.num rm
  | .andGvEv r rm => [0x23#8] ++ encodeE r.num Reg.num rm
  | .andALIb imm => [0x24#8] ++ [imm]
  | .andeAXIv imm => [0x25#8] ++ sizedBytes z.o32 imm
  | .andEbIb rm imm => [0x80#8] ++ encodeE 4 Reg8.num rm ++ [imm]
  | .andEvIv rm imm => [0x81#8] ++ encodeE 4 Reg.num rm ++ sizedBytes z.o32 imm
  | .andEvIb rm imm => [0x83#8] ++ encodeE 4 Reg.num rm ++ [imm]
  | .subEbGb rm r => [0x28#8] ++ encodeE r.num Reg8.num rm
  | .subEvGv rm r => [0x29#8] ++ encodeE r.num Reg.num rm
  | .subGbEb r rm => [0x2A#8] ++ encodeE r.num Reg8.num rm
  | .subGvEv r rm => [0x2B#8] ++ encodeE r.num Reg.num rm
  | .subALIb imm => [0x2C#8] ++ [imm]
  | .subeAXIv imm => [0x2D#8] ++ sizedBytes z.o32 imm
  | .subEbIb rm imm => [0x80#8] ++ encodeE 5 Reg8.num rm ++ [imm]
  | .subEvIv rm imm => [0x81#8] ++ encodeE 5 Reg.num rm ++ sizedBytes z.o32 imm
  | .subEvIb rm imm => [0x83#8] ++ encodeE 5 Reg.num rm ++ [imm]
  | .xorEbGb rm r => [0x30#8] ++ encodeE r.num Reg8.num rm
  | .xorEvGv rm r => [0x31#8] ++ encodeE r.num Reg.num rm
  | .xorGbEb r rm => [0x32#8] ++ encodeE r.num Reg8.num rm
  | .xorGvEv r rm => [0x33#8] ++ encodeE r.num Reg.num rm
  | .xorALIb imm => [0x34#8] ++ [imm]
  | .xoreAXIv imm => [0x35#8] ++ sizedBytes z.o32 imm
  | .xorEbIb rm imm => [0x80#8] ++ encodeE 6 Reg8.num rm ++ [imm]
  | .xorEvIv rm imm => [0x81#8] ++ encodeE 6 Reg.num rm ++ sizedBytes z.o32 imm
  | .xorEvIb rm imm => [0x83#8] ++ encodeE 6 Reg.num rm ++ [imm]
  | .cmpEbGb rm r => [0x38#8] ++ encodeE r.num Reg8.num rm
  | .cmpEvGv rm r => [0x39#8] ++ encodeE r.num Reg.num rm
  | .cmpGbEb r rm => [0x3A#8] ++ encodeE r.num Reg8.num rm
  | .cmpGvEv r rm => [0x3B#8] ++ encodeE r.num Reg.num rm
  | .cmpALIb imm => [0x3C#8] ++ [imm]
  | .cmpeAXIv imm => [0x3D#8] ++ sizedBytes z.o32 imm
  | .cmpEbIb rm imm => [0x80#8] ++ encodeE 7 Reg8.num rm ++ [imm]
  | .cmpEvIv rm imm => [0x81#8] ++ encodeE 7 Reg.num rm ++ sizedBytes z.o32 imm
  | .cmpEvIb rm imm => [0x83#8] ++ encodeE 7 Reg.num rm ++ [imm]
  | .pushEs => [0x06#8]
  | .popEs => [0x07#8]
  | .pushCs => [0x0E#8]
  | .pushSs => [0x16#8]
  | .popSs => [0x17#8]
  | .pushDs => [0x1E#8]
  | .popDs => [0x1F#8]
  | .pushFs => [0x0F#8, 0xA0#8]
  | .popFs => [0x0F#8, 0xA1#8]
  | .pushGs => [0x0F#8, 0xA8#8]
  | .popGs => [0x0F#8, 0xA9#8]
  | .daa => [0x27#8]
  | .das => [0x2F#8]
  | .aaa => [0x37#8]
  | .aas => [0x3F#8]
  | .incRv r => [BitVec.ofNat 8 (64 + r.num)]
  | .decRv r => [BitVec.ofNat 8 (72 + r.num)]
  | .pushRv r => [BitVec.ofNat 8 (80 + r.num)]
  | .popRv r => [BitVec.ofNat 8 (88 + r.num)]
  | .pushaPushad => [0x60#8]
  | .popaPopad => [0x61#8]
  | .boundGvMa r m => [0x62#8] ++ encodeEa r.num m
  | .arplEwGw rm r => [0x63#8] ++ encodeE r.num Reg.num rm
  | .pushIv imm => [0x68#8] ++ sizedBytes z.o32 imm
  | .imulGvEvIv r rm imm => [0x69#8] ++ encodeE r.num Reg.num rm ++ sizedBytes z.o32 imm
  | .pushIb imm => [0x6A#8] ++ [imm]
  | .imulGvEvIb r rm imm => [0x6B#8] ++ encodeE r.num Reg.num rm ++ [imm]
  | .insbYbDX => [0x6C#8]
  | .inswInsdYvDX => [0x6D#8]
  | .outsbDXXb => [0x6E#8]
  | .outswOutsdDXXv => [0x6F#8]
  | .jccJb c disp => [BitVec.ofNat 8 (112 + c.num)] ++ [disp]
  | .reserved82 => [0x82#8] ++ [0#8]
  | .testEbGb rm r => [0x84#8] ++ encodeE r.num Reg8.num rm
  | .testEvGv rm r => [0x85#8] ++ encodeE r.num Reg.num rm
  | .xchgEbGb rm r => [0x86#8] ++ encodeE r.num Reg8.num rm
  | .xchgEvGv rm r => [0x87#8] ++ encodeE r.num Reg.num rm
  | .movEbGb rm r => [0x88#8] ++ encodeE r.num Reg8.num rm
  | .movEvGv rm r => [0x89#8] ++ encodeE r.num Reg.num rm
  | .movGbEb r rm => [0x8A#8] ++ encodeE r.num Reg8.num rm
  | .movGvEv r rm => [0x8B#8] ++ encodeE r.num Reg.num rm
  | .movEwSw rm sr => [0x8C#8] ++ encodeE sr.num Reg.num rm
  | .leaGvM r m => [0x8D#8] ++ encodeEa r.num m
  | .movSwEw sr rm => [0x8E#8] ++ encodeE sr.num Reg.num rm
  | .popEv rm => [0x8F#8] ++ encodeE 0 Reg.num rm
  | .nop => [0x90#8]
  | .xchgEAXRv r => [BitVec.ofNat 8 (144 + r.num)]
  | .cbwCwde => [0x98#8]
  | .cwdCdq => [0x99#8]
  | .callAp off sel => [0x9A#8] ++ sizedBytes z.o32 off ++ half16 sel
  | .waitFwait => [0x9B#8]
  | .pushfPushfd => [0x9C#8]
  | .popfPopfd => [0x9D#8]
  | .sahf => [0x9E#8]
  | .lahf => [0x9F#8]
  | .movALOb off => [0xA0#8] ++ sizedBytes z.a32 off
  | .moveAXOv off => [0xA1#8] ++ sizedBytes z.a32 off
  | .movObAL off => [0xA2#8] ++ sizedBytes z.a32 off
  | .movOveAX off => [0xA3#8] ++ sizedBytes z.a32 off
  | .movsbYbXb => [0xA4#8]
  | .movswMovsdYvXv => [0xA5#8]
  | .cmpsbXbYb => [0xA6#8]
  | .cmpswCmpsdXvYv => [0xA7#8]
  | .testALIb imm => [0xA8#8] ++ [imm]
  | .testeAXIv imm => [0xA9#8] ++ sizedBytes z.o32 imm
  | .stosbYbAL => [0xAA#8]
  | .stoswStosdYveAX => [0xAB#8]
  | .lodsbALXb => [0xAC#8]
  | .lodswLodsdeAXXv => [0xAD#8]
  | .scasbALYb => [0xAE#8]
  | .scaswScasdeAXYv => [0xAF#8]
  | .movR8Ib r imm => [BitVec.ofNat 8 (176 + r.num)] ++ [imm]
  | .movRvIv r imm => [BitVec.ofNat 8 (184 + r.num)] ++ sizedBytes z.o32 imm
  | .rolEbIb rm imm => [0xC0#8] ++ encodeE 0 Reg8.num rm ++ [imm]
  | .rorEbIb rm imm => [0xC0#8] ++ encodeE 1 Reg8.num rm ++ [imm]
  | .rclEbIb rm imm => [0xC0#8] ++ encodeE 2 Reg8.num rm ++ [imm]
  | .rcrEbIb rm imm => [0xC0#8] ++ encodeE 3 Reg8.num rm ++ [imm]
  | .shlSalEbIb rm imm => [0xC0#8] ++ encodeE 4 Reg8.num rm ++ [imm]
  | .shrEbIb rm imm => [0xC0#8] ++ encodeE 5 Reg8.num rm ++ [imm]
  | .sarEbIb rm imm => [0xC0#8] ++ encodeE 7 Reg8.num rm ++ [imm]
  | .rolEvIb rm imm => [0xC1#8] ++ encodeE 0 Reg.num rm ++ [imm]
  | .rorEvIb rm imm => [0xC1#8] ++ encodeE 1 Reg.num rm ++ [imm]
  | .rclEvIb rm imm => [0xC1#8] ++ encodeE 2 Reg.num rm ++ [imm]
  | .rcrEvIb rm imm => [0xC1#8] ++ encodeE 3 Reg.num rm ++ [imm]
  | .shlSalEvIb rm imm => [0xC1#8] ++ encodeE 4 Reg.num rm ++ [imm]
  | .shrEvIb rm imm => [0xC1#8] ++ encodeE 5 Reg.num rm ++ [imm]
  | .sarEvIb rm imm => [0xC1#8] ++ encodeE 7 Reg.num rm ++ [imm]
  | .rolEb1 rm => [0xD0#8] ++ encodeE 0 Reg8.num rm
  | .rorEb1 rm => [0xD0#8] ++ encodeE 1 Reg8.num rm
  | .rclEb1 rm => [0xD0#8] ++ encodeE 2 Reg8.num rm
  | .rcrEb1 rm => [0xD0#8] ++ encodeE 3 Reg8.num rm
  | .shlSalEb1 rm => [0xD0#8] ++ encodeE 4 Reg8.num rm
  | .shrEb1 rm => [0xD0#8] ++ encodeE 5 Reg8.num rm
  | .sarEb1 rm => [0xD0#8] ++ encodeE 7 Reg8.num rm
  | .rolEv1 rm => [0xD1#8] ++ encodeE 0 Reg.num rm
  | .rorEv1 rm => [0xD1#8] ++ encodeE 1 Reg.num rm
  | .rclEv1 rm => [0xD1#8] ++ encodeE 2 Reg.num rm
  | .rcrEv1 rm => [0xD1#8] ++ encodeE 3 Reg.num rm
  | .shlSalEv1 rm => [0xD1#8] ++ encodeE 4 Reg.num rm
  | .shrEv1 rm => [0xD1#8] ++ encodeE 5 Reg.num rm
  | .sarEv1 rm => [0xD1#8] ++ encodeE 7 Reg.num rm
  | .rolEbCL rm => [0xD2#8] ++ encodeE 0 Reg8.num rm
  | .rorEbCL rm => [0xD2#8] ++ encodeE 1 Reg8.num rm
  | .rclEbCL rm => [0xD2#8] ++ encodeE 2 Reg8.num rm
  | .rcrEbCL rm => [0xD2#8] ++ encodeE 3 Reg8.num rm
  | .shlSalEbCL rm => [0xD2#8] ++ encodeE 4 Reg8.num rm
  | .shrEbCL rm => [0xD2#8] ++ encodeE 5 Reg8.num rm
  | .sarEbCL rm => [0xD2#8] ++ encodeE 7 Reg8.num rm
  | .rolEvCL rm => [0xD3#8] ++ encodeE 0 Reg.num rm
  | .rorEvCL rm => [0xD3#8] ++ encodeE 1 Reg.num rm
  | .rclEvCL rm => [0xD3#8] ++ encodeE 2 Reg.num rm
  | .rcrEvCL rm => [0xD3#8] ++ encodeE 3 Reg.num rm
  | .shlSalEvCL rm => [0xD3#8] ++ encodeE 4 Reg.num rm
  | .shrEvCL rm => [0xD3#8] ++ encodeE 5 Reg.num rm
  | .sarEvCL rm => [0xD3#8] ++ encodeE 7 Reg.num rm
  | .retNearIw imm => [0xC2#8] ++ half16 imm
  | .retNear => [0xC3#8]
  | .lesGvMp r m => [0xC4#8] ++ encodeEa r.num m
  | .ldsGvMp r m => [0xC5#8] ++ encodeEa r.num m
  | .movEbIb rm imm => [0xC6#8] ++ encodeE 0 Reg8.num rm ++ [imm]
  | .movEvIv rm imm => [0xC7#8] ++ encodeE 0 Reg.num rm ++ sizedBytes z.o32 imm
  | .enterIwIb imm imm2 => [0xC8#8] ++ half16 imm ++ [imm2]
  | .leave => [0xC9#8]
  | .retFarIw imm => [0xCA#8] ++ half16 imm
  | .retFar => [0xCB#8]
  | .int3 => [0xCC#8]
  | .intIb imm => [0xCD#8] ++ [imm]
  | .into => [0xCE#8]
  | .iretIretd => [0xCF#8]
  | .aamIb imm => [0xD4#8] ++ [imm]
  | .aadIb imm => [0xD5#8] ++ [imm]
  | .reservedD6 => [0xD6#8]
  | .xlatXlatb => [0xD7#8]
  | .loopneLoopnzJb disp => [0xE0#8] ++ [disp]
  | .loopeLoopzJb disp => [0xE1#8] ++ [disp]
  | .loopJb disp => [0xE2#8] ++ [disp]
  | .jcxzJecxzJb disp => [0xE3#8] ++ [disp]
  | .inALIb imm => [0xE4#8] ++ [imm]
  | .ineAXIb imm => [0xE5#8] ++ [imm]
  | .outIbAL imm => [0xE6#8] ++ [imm]
  | .outIbeAX imm => [0xE7#8] ++ [imm]
  | .callJv disp => [0xE8#8] ++ sizedBytes z.o32 disp
  | .jmpJv disp => [0xE9#8] ++ sizedBytes z.o32 disp
  | .jmpAp off sel => [0xEA#8] ++ sizedBytes z.o32 off ++ half16 sel
  | .jmpJb disp => [0xEB#8] ++ [disp]
  | .inALDX => [0xEC#8]
  | .ineAXDX => [0xED#8]
  | .outDXAL => [0xEE#8]
  | .outDXeAX => [0xEF#8]
  | .reservedF1 => [0xF1#8]
  | .hlt => [0xF4#8]
  | .cmc => [0xF5#8]
  | .testEbIb rm imm => [0xF6#8] ++ encodeE 0 Reg8.num rm ++ [imm]
  | .notEb rm => [0xF6#8] ++ encodeE 2 Reg8.num rm
  | .negEb rm => [0xF6#8] ++ encodeE 3 Reg8.num rm
  | .mulEb rm => [0xF6#8] ++ encodeE 4 Reg8.num rm
  | .imulEb rm => [0xF6#8] ++ encodeE 5 Reg8.num rm
  | .divEb rm => [0xF6#8] ++ encodeE 6 Reg8.num rm
  | .idivEb rm => [0xF6#8] ++ encodeE 7 Reg8.num rm
  | .testEvIv rm imm => [0xF7#8] ++ encodeE 0 Reg.num rm ++ sizedBytes z.o32 imm
  | .notEv rm => [0xF7#8] ++ encodeE 2 Reg.num rm
  | .negEv rm => [0xF7#8] ++ encodeE 3 Reg.num rm
  | .mulEv rm => [0xF7#8] ++ encodeE 4 Reg.num rm
  | .imulEv rm => [0xF7#8] ++ encodeE 5 Reg.num rm
  | .divEv rm => [0xF7#8] ++ encodeE 6 Reg.num rm
  | .idivEv rm => [0xF7#8] ++ encodeE 7 Reg.num rm
  | .clc => [0xF8#8]
  | .stc => [0xF9#8]
  | .cli => [0xFA#8]
  | .sti => [0xFB#8]
  | .cld => [0xFC#8]
  | .std => [0xFD#8]
  | .incEb rm => [0xFE#8] ++ encodeE 0 Reg8.num rm
  | .decEb rm => [0xFE#8] ++ encodeE 1 Reg8.num rm
  | .incEv rm => [0xFF#8] ++ encodeE 0 Reg.num rm
  | .decEv rm => [0xFF#8] ++ encodeE 1 Reg.num rm
  | .callEv rm => [0xFF#8] ++ encodeE 2 Reg.num rm
  | .callEp m => [0xFF#8] ++ encodeEa 3 m
  | .jmpEv rm => [0xFF#8] ++ encodeE 4 Reg.num rm
  | .jmpEp m => [0xFF#8] ++ encodeEa 5 m
  | .pushEv rm => [0xFF#8] ++ encodeE 6 Reg.num rm
  | .prefixSegEs => [0x26#8]
  | .prefixSegCs => [0x2E#8]
  | .prefixSegSs => [0x36#8]
  | .prefixSegDs => [0x3E#8]
  | .prefixSegFs => [0x64#8]
  | .prefixSegGs => [0x65#8]
  | .prefixOperandSize => [0x66#8]
  | .prefixAddressSize => [0x67#8]
  | .prefixLock => [0xF0#8]
  | .prefixRepneRepnz => [0xF2#8]
  | .prefixRepRepeRepz => [0xF3#8]
  | .sldtEw rm => [0x0F#8, 0x00#8] ++ encodeE 0 Reg.num rm
  | .strEw rm => [0x0F#8, 0x00#8] ++ encodeE 1 Reg.num rm
  | .lldtEw rm => [0x0F#8, 0x00#8] ++ encodeE 2 Reg.num rm
  | .ltrEw rm => [0x0F#8, 0x00#8] ++ encodeE 3 Reg.num rm
  | .verrEw rm => [0x0F#8, 0x00#8] ++ encodeE 4 Reg.num rm
  | .verwEw rm => [0x0F#8, 0x00#8] ++ encodeE 5 Reg.num rm
  | .sgdtMs m => [0x0F#8, 0x01#8] ++ encodeEa 0 m
  | .sidtMs m => [0x0F#8, 0x01#8] ++ encodeEa 1 m
  | .lgdtMs m => [0x0F#8, 0x01#8] ++ encodeEa 2 m
  | .lidtMs m => [0x0F#8, 0x01#8] ++ encodeEa 3 m
  | .smswEw rm => [0x0F#8, 0x01#8] ++ encodeE 4 Reg.num rm
  | .lmswEw rm => [0x0F#8, 0x01#8] ++ encodeE 6 Reg.num rm
  | .invlpgM m => [0x0F#8, 0x01#8] ++ encodeEa 7 m
  | .larGvEw r rm => [0x0F#8, 0x02#8] ++ encodeE r.num Reg.num rm
  | .lslGvEw r rm => [0x0F#8, 0x03#8] ++ encodeE r.num Reg.num rm
  | .clts => [0x0F#8, 0x06#8]
  | .invd => [0x0F#8, 0x08#8]
  | .wbinvd => [0x0F#8, 0x09#8]
  | .ud2 => [0x0F#8, 0x0B#8]
  | .movRdCd r cr => [0x0F#8, 0x20#8] ++ [modrmByte 3 cr.val r.num]
  | .movRdDd r dr => [0x0F#8, 0x21#8] ++ [modrmByte 3 dr.val r.num]
  | .movCdRd cr r => [0x0F#8, 0x22#8] ++ [modrmByte 3 cr.val r.num]
  | .movDdRd dr r => [0x0F#8, 0x23#8] ++ [modrmByte 3 dr.val r.num]
  | .reserved0F24 tr r => [0x0F#8, 0x24#8] ++ [modrmByte 3 tr.val r.num]
  | .reserved0F26 tr r => [0x0F#8, 0x26#8] ++ [modrmByte 3 tr.val r.num]
  | .wrmsr => [0x0F#8, 0x30#8]
  | .rdtsc => [0x0F#8, 0x31#8]
  | .rdmsr => [0x0F#8, 0x32#8]
  | .rdpmc => [0x0F#8, 0x33#8]
  | .cmovccGvEv c r rm => [0x0F#8, BitVec.ofNat 8 (64 + c.num)] ++ encodeE r.num Reg.num rm
  | .jccJv c disp => [0x0F#8, BitVec.ofNat 8 (128 + c.num)] ++ sizedBytes z.o32 disp
  | .setccEb c rm => [0x0F#8, BitVec.ofNat 8 (144 + c.num)] ++ encodeE 0 Reg8.num rm
  | .cpuid => [0x0F#8, 0xA2#8]
  | .btEvGv rm r => [0x0F#8, 0xA3#8] ++ encodeE r.num Reg.num rm
  | .shldEvGvIb rm r imm => [0x0F#8, 0xA4#8] ++ encodeE r.num Reg.num rm ++ [imm]
  | .shldEvGvCL rm r => [0x0F#8, 0xA5#8] ++ encodeE r.num Reg.num rm
  | .reserved0FA6 => [0x0F#8, 0xA6#8]
  | .reserved0FA7 => [0x0F#8, 0xA7#8]
  | .rsm => [0x0F#8, 0xAA#8]
  | .btsEvGv rm r => [0x0F#8, 0xAB#8] ++ encodeE r.num Reg.num rm
  | .shrdEvGvIb rm r imm => [0x0F#8, 0xAC#8] ++ encodeE r.num Reg.num rm ++ [imm]
  | .shrdEvGvCL rm r => [0x0F#8, 0xAD#8] ++ encodeE r.num Reg.num rm
  | .imulGvEv r rm => [0x0F#8, 0xAF#8] ++ encodeE r.num Reg.num rm
  | .cmpxchgEbGb rm r => [0x0F#8, 0xB0#8] ++ encodeE r.num Reg8.num rm
  | .cmpxchgEvGv rm r => [0x0F#8, 0xB1#8] ++ encodeE r.num Reg.num rm
  | .lssGvMp r m => [0x0F#8, 0xB2#8] ++ encodeEa r.num m
  | .btrEvGv rm r => [0x0F#8, 0xB3#8] ++ encodeE r.num Reg.num rm
  | .lfsGvMp r m => [0x0F#8, 0xB4#8] ++ encodeEa r.num m
  | .lgsGvMp r m => [0x0F#8, 0xB5#8] ++ encodeEa r.num m
  | .movzxGvEb r rm => [0x0F#8, 0xB6#8] ++ encodeE r.num Reg8.num rm
  | .movzxGvEw r rm => [0x0F#8, 0xB7#8] ++ encodeE r.num Reg.num rm
  | .btEvIb rm imm => [0x0F#8, 0xBA#8] ++ encodeE 4 Reg.num rm ++ [imm]
  | .btsEvIb rm imm => [0x0F#8, 0xBA#8] ++ encodeE 5 Reg.num rm ++ [imm]
  | .btrEvIb rm imm => [0x0F#8, 0xBA#8] ++ encodeE 6 Reg.num rm ++ [imm]
  | .btcEvIb rm imm => [0x0F#8, 0xBA#8] ++ encodeE 7 Reg.num rm ++ [imm]
  | .btcEvGv rm r => [0x0F#8, 0xBB#8] ++ encodeE r.num Reg.num rm
  | .bsfGvEv r rm => [0x0F#8, 0xBC#8] ++ encodeE r.num Reg.num rm
  | .bsrGvEv r rm => [0x0F#8, 0xBD#8] ++ encodeE r.num Reg.num rm
  | .movsxGvEb r rm => [0x0F#8, 0xBE#8] ++ encodeE r.num Reg8.num rm
  | .movsxGvEw r rm => [0x0F#8, 0xBF#8] ++ encodeE r.num Reg.num rm
  | .xaddEbGb rm r => [0x0F#8, 0xC0#8] ++ encodeE r.num Reg8.num rm
  | .xaddEvGv rm r => [0x0F#8, 0xC1#8] ++ encodeE r.num Reg.num rm
  | .cmpxchg8bMq m => [0x0F#8, 0xC7#8] ++ encodeEa 1 m
  | .bswap r => [0x0F#8, BitVec.ofNat 8 (200 + r.num)]
  | .faddM32 m => 0xD8#8 :: encodeEa 0 m
  | .fmulM32 m => 0xD8#8 :: encodeEa 1 m
  | .fcomM32 m => 0xD8#8 :: encodeEa 2 m
  | .fcompM32 m => 0xD8#8 :: encodeEa 3 m
  | .fsubM32 m => 0xD8#8 :: encodeEa 4 m
  | .fsubrM32 m => 0xD8#8 :: encodeEa 5 m
  | .fdivM32 m => 0xD8#8 :: encodeEa 6 m
  | .fdivrM32 m => 0xD8#8 :: encodeEa 7 m
  | .fldM32 m => 0xD9#8 :: encodeEa 0 m
  | .fstM32 m => 0xD9#8 :: encodeEa 2 m
  | .fstpM32 m => 0xD9#8 :: encodeEa 3 m
  | .fldenv m => 0xD9#8 :: encodeEa 4 m
  | .fldcw m => 0xD9#8 :: encodeEa 5 m
  | .fstenvFnstenv m => 0xD9#8 :: encodeEa 6 m
  | .fstcwFnstcw m => 0xD9#8 :: encodeEa 7 m
  | .fiaddI32 m => 0xDA#8 :: encodeEa 0 m
  | .fimulI32 m => 0xDA#8 :: encodeEa 1 m
  | .ficomI32 m => 0xDA#8 :: encodeEa 2 m
  | .ficompI32 m => 0xDA#8 :: encodeEa 3 m
  | .fisubI32 m => 0xDA#8 :: encodeEa 4 m
  | .fisubrI32 m => 0xDA#8 :: encodeEa 5 m
  | .fidivI32 m => 0xDA#8 :: encodeEa 6 m
  | .fidivrI32 m => 0xDA#8 :: encodeEa 7 m
  | .fildI32 m => 0xDB#8 :: encodeEa 0 m
  | .fistI32 m => 0xDB#8 :: encodeEa 2 m
  | .fistpI32 m => 0xDB#8 :: encodeEa 3 m
  | .fldM80 m => 0xDB#8 :: encodeEa 5 m
  | .fstpM80 m => 0xDB#8 :: encodeEa 7 m
  | .faddM64 m => 0xDC#8 :: encodeEa 0 m
  | .fmulM64 m => 0xDC#8 :: encodeEa 1 m
  | .fcomM64 m => 0xDC#8 :: encodeEa 2 m
  | .fcompM64 m => 0xDC#8 :: encodeEa 3 m
  | .fsubM64 m => 0xDC#8 :: encodeEa 4 m
  | .fsubrM64 m => 0xDC#8 :: encodeEa 5 m
  | .fdivM64 m => 0xDC#8 :: encodeEa 6 m
  | .fdivrM64 m => 0xDC#8 :: encodeEa 7 m
  | .fldM64 m => 0xDD#8 :: encodeEa 0 m
  | .fstM64 m => 0xDD#8 :: encodeEa 2 m
  | .fstpM64 m => 0xDD#8 :: encodeEa 3 m
  | .frstor m => 0xDD#8 :: encodeEa 4 m
  | .fsaveFnsave m => 0xDD#8 :: encodeEa 6 m
  | .fstswFnstsw m => 0xDD#8 :: encodeEa 7 m
  | .fiaddI16 m => 0xDE#8 :: encodeEa 0 m
  | .fimulI16 m => 0xDE#8 :: encodeEa 1 m
  | .ficomI16 m => 0xDE#8 :: encodeEa 2 m
  | .ficompI16 m => 0xDE#8 :: encodeEa 3 m
  | .fisubI16 m => 0xDE#8 :: encodeEa 4 m
  | .fisubrI16 m => 0xDE#8 :: encodeEa 5 m
  | .fidivI16 m => 0xDE#8 :: encodeEa 6 m
  | .fidivrI16 m => 0xDE#8 :: encodeEa 7 m
  | .fildI16 m => 0xDF#8 :: encodeEa 0 m
  | .fistI16 m => 0xDF#8 :: encodeEa 2 m
  | .fistpI16 m => 0xDF#8 :: encodeEa 3 m
  | .fbld m => 0xDF#8 :: encodeEa 4 m
  | .fildI64 m => 0xDF#8 :: encodeEa 5 m
  | .fbstp m => 0xDF#8 :: encodeEa 6 m
  | .fistpI64 m => 0xDF#8 :: encodeEa 7 m
  | .faddSTSTi i => [0xD8#8, BitVec.ofNat 8 (192 + i.val)]
  | .fmulSTSTi i => [0xD8#8, BitVec.ofNat 8 (200 + i.val)]
  | .fcomSTSTi i => [0xD8#8, BitVec.ofNat 8 (208 + i.val)]
  | .fcompSTSTi i => [0xD8#8, BitVec.ofNat 8 (216 + i.val)]
  | .fsubSTSTi i => [0xD8#8, BitVec.ofNat 8 (224 + i.val)]
  | .fsubrSTSTi i => [0xD8#8, BitVec.ofNat 8 (232 + i.val)]
  | .fdivSTSTi i => [0xD8#8, BitVec.ofNat 8 (240 + i.val)]
  | .fdivrSTSTi i => [0xD8#8, BitVec.ofNat 8 (248 + i.val)]
  | .fldSTSTi i => [0xD9#8, BitVec.ofNat 8 (192 + i.val)]
  | .fxchSTSTi i => [0xD9#8, BitVec.ofNat 8 (200 + i.val)]
  | .fnop => [0xD9#8, 0xD0#8]
  | .fchs => [0xD9#8, 0xE0#8]
  | .fabs => [0xD9#8, 0xE1#8]
  | .ftst => [0xD9#8, 0xE4#8]
  | .fxam => [0xD9#8, 0xE5#8]
  | .fld1 => [0xD9#8, 0xE8#8]
  | .fldl2t => [0xD9#8, 0xE9#8]
  | .fldl2e => [0xD9#8, 0xEA#8]
  | .fldpi => [0xD9#8, 0xEB#8]
  | .fldlg2 => [0xD9#8, 0xEC#8]
  | .fldln2 => [0xD9#8, 0xED#8]
  | .fldz => [0xD9#8, 0xEE#8]
  | .f2xm1 => [0xD9#8, 0xF0#8]
  | .fyl2x => [0xD9#8, 0xF1#8]
  | .fptan => [0xD9#8, 0xF2#8]
  | .fpatan => [0xD9#8, 0xF3#8]
  | .fxtract => [0xD9#8, 0xF4#8]
  | .fprem1 => [0xD9#8, 0xF5#8]
  | .fdecstp => [0xD9#8, 0xF6#8]
  | .fincstp => [0xD9#8, 0xF7#8]
  | .fprem => [0xD9#8, 0xF8#8]
  | .fyl2xp1 => [0xD9#8, 0xF9#8]
  | .fsqrt => [0xD9#8, 0xFA#8]
  | .fsincos => [0xD9#8, 0xFB#8]
  | .frndint => [0xD9#8, 0xFC#8]
  | .fscale => [0xD9#8, 0xFD#8]
  | .fsin => [0xD9#8, 0xFE#8]
  | .fcos => [0xD9#8, 0xFF#8]
  | .fucompp => [0xDA#8, 0xE9#8]
  | .fclexFnclex => [0xDB#8, 0xE2#8]
  | .finitFninit => [0xDB#8, 0xE3#8]
  | .faddSTiST i => [0xDC#8, BitVec.ofNat 8 (192 + i.val)]
  | .fmulSTiST i => [0xDC#8, BitVec.ofNat 8 (200 + i.val)]
  | .fsubrSTiST i => [0xDC#8, BitVec.ofNat 8 (224 + i.val)]
  | .fsubSTiST i => [0xDC#8, BitVec.ofNat 8 (232 + i.val)]
  | .fdivrSTiST i => [0xDC#8, BitVec.ofNat 8 (240 + i.val)]
  | .fdivSTiST i => [0xDC#8, BitVec.ofNat 8 (248 + i.val)]
  | .ffreeSTi i => [0xDD#8, BitVec.ofNat 8 (192 + i.val)]
  | .fstSTi i => [0xDD#8, BitVec.ofNat 8 (208 + i.val)]
  | .fstpSTi i => [0xDD#8, BitVec.ofNat 8 (216 + i.val)]
  | .fucomSTiST i => [0xDD#8, BitVec.ofNat 8 (224 + i.val)]
  | .fucompSTi i => [0xDD#8, BitVec.ofNat 8 (232 + i.val)]
  | .faddpSTiST i => [0xDE#8, BitVec.ofNat 8 (192 + i.val)]
  | .fmulpSTiST i => [0xDE#8, BitVec.ofNat 8 (200 + i.val)]
  | .fsubrpSTiST i => [0xDE#8, BitVec.ofNat 8 (224 + i.val)]
  | .fsubpSTiST i => [0xDE#8, BitVec.ofNat 8 (232 + i.val)]
  | .fdivrpSTiST i => [0xDE#8, BitVec.ofNat 8 (240 + i.val)]
  | .fdivpSTiST i => [0xDE#8, BitVec.ofNat 8 (248 + i.val)]
  | .fcompp => [0xDE#8, 0xD9#8]
  | .fstswAxFnstswAx => [0xDF#8, 0xE0#8]
  | .fcmovbSTSTi i => [0xDA#8, BitVec.ofNat 8 (192 + i.val)]
  | .fcmoveSTSTi i => [0xDA#8, BitVec.ofNat 8 (200 + i.val)]
  | .fcmovbeSTSTi i => [0xDA#8, BitVec.ofNat 8 (208 + i.val)]
  | .fcmovuSTSTi i => [0xDA#8, BitVec.ofNat 8 (216 + i.val)]
  | .fcmovnbSTSTi i => [0xDB#8, BitVec.ofNat 8 (192 + i.val)]
  | .fcmovneSTSTi i => [0xDB#8, BitVec.ofNat 8 (200 + i.val)]
  | .fcmovnbeSTSTi i => [0xDB#8, BitVec.ofNat 8 (208 + i.val)]
  | .fcmovnuSTSTi i => [0xDB#8, BitVec.ofNat 8 (216 + i.val)]
  | .fucomiSTSTi i => [0xDB#8, BitVec.ofNat 8 (232 + i.val)]
  | .fcomiSTSTi i => [0xDB#8, BitVec.ofNat 8 (240 + i.val)]
  | .fucomipSTSTi i => [0xDF#8, BitVec.ofNat 8 (232 + i.val)]
  | .fcomipSTSTi i => [0xDF#8, BitVec.ofNat 8 (240 + i.val)]

/-- The bytes of a word of `n` bytes, least significant first. -/
def bytesOf (w : Nat) : Nat → List Byte
  | 0 => []
  | n + 1 => BitVec.ofNat 8 w :: bytesOf (w / 256) n

/-- What the decoder reads from a row of the opcode table: bit 0 of `w` is the least significant bit of
the first byte, the bytes above `nbits` are zero. The sizes are those of 16-bit code, the reset state. -/
noncomputable def decodeTableWord (nbits w : Nat) : Option Instr :=
  match decode ⟨false, false⟩ (bytesOf (w % 2 ^ nbits) 15) with
  | .ok (i, _) => some i
  | .error _ => none

end Sys2Proof
end

