-- ==== Sys2Proof/Machine/Fetch.lean ====
section
/-! DEFINITION. Fetching and decoding the next instruction (30_encoding.md R496, 23_protection.md R414). -/
namespace Sys2Proof.Machine
open Host

/-- The offset the fetch goes on at (30_encoding.md R496). -/
def State.fetchOff (s : State) : Word := s.eip + BitVec.ofNat 32 s.ins.len

/-- How many of the next bytes lie inside the code segment, at most the given number (23_protection.md R410, R414). -/
def insideCode (r : Seg) : Word → Nat → Nat
  | _, 0 => 0
  | off, n + 1 => if r.valid && r.inLimit off 1 then insideCode r (off + 1) n + 1 else 0

/-- Read instruction bytes; the APIC page holds none (62_apic.md R944). Where other agents write, the bytes are read one by
one in an order of free choice, a write falling before each (20_memory.md R216, R217, log 10); a LOCK prefix locks the access
of its instruction, not the fetch. The bytes are those that memory holds by then: a store of another processor or agent into
code about to run is always seen, with no serializing operation of this processor, though 20_memory.md R265 and
70_reset_and_hazards.md R1324 promise that for this processor's own stores only (log 39, DESIGN CHOICE, unsafe). -/
def fetchBytes (la : Word) (n : Nat) (user : Bool) : M (List Byte) := do
  let ps ← linearSpans la n false user
  if anyApic ps then stop .apicAccess
  else do
    let s ← get
    if s.others.isEmpty then loadSpans ps else loadFree gap ps

/-- The exception of an encoding that is reserved or blank (30_encoding.md R494, 43_general_instructions.md R810); a LOCK
prefix raises #UD on any of them (30_encoding.md R483, 40_system_instructions.md R593), before a test that R547 puts first
for every ESC opcode (log 57, DESIGN CHOICE). -/
def badEncoding {α : Type} (e : DecodeErr) : M α := do
  let s ← get
  if s.ins.lock then raiseUD
  else
    match e with
    | .undefinedEsc => if bit s.sys.cr0 2 || bit s.sys.cr0 3 then raiseNM else raiseUD
    | .undefinedPriv => do
      requireCpl0
      raiseUD
    | _ => raiseUD

/-- Decode from bytes, with the number of bytes taken; none if more bytes are needed. -/
noncomputable def decodeFrom (bs : List Byte) : M (Option (Instr × Nat)) := do
  let s ← get
  match decode s.sizes bs with
  | .ok (i, rest) => pure (some (i, bs.length - rest.length))
  | .error .short => pure none
  | .error e => badEncoding e

/-- Fetch and decode the instruction at CS:EIP, or the part of it after the prefixes already seen. Bytes on the
next page are read only if they are needed; a byte beyond the limit or beyond the fifteenth raises #GP(0)
(30_encoding.md R482, R496). -/
noncomputable def fetchInstr : M (Instr × Nat) := do
  let s ← get
  let off := s.fetchOff
  let n := insideCode s.seg.cs off (Config.maxInstr - s.ins.len)
  let la := s.seg.cs.base + off
  let first := min n (0x1000 - la.toNat % 0x1000)
  if n = 0 then raiseGP0
  else do
    let a ← fetchBytes la first (s.cpl = 3)
    let d ← decodeFrom a
    match d with
    | some r => pure r
    | none =>
      if first = n then raiseGP0
      else do
        let b ← fetchBytes (la + BitVec.ofNat 32 first) (n - first) (s.cpl = 3)
        let d ← decodeFrom (a ++ b)
        match d with
        | some r => pure r
        | none => raiseGP0

/-- An enabled breakpoint with an undefined setting (65_debug_perfmon.md R1112, R1114, R1115). -/
def Dbg.badSetting (d : Dbg) (de : Bool) (n : Nat) : Bool :=
  bpEnabled d.dr7 n &&
    (bpLen d.dr7 n = none || (bpCond d.dr7 n = 2 && !de) || (bpCond d.dr7 n = 0 && field d.dr7 (18 + 4 * n) 2 ≠ 0))

/-- The breakpoints at the address of an instruction (65_debug_perfmon.md R1115). -/
def Dbg.codeHits (d : Dbg) (la : Word) : BitVec 4 :=
  let h := fun n => bpCond d.dr7 n = 0 && field d.dr7 (18 + 4 * n) 2 = 0 && d.addr n = la
  BitVec.ofNat 4 (ofBool (h 0) + 2 * ofBool (h 1) + 4 * ofBool (h 2) + 8 * ofBool (h 3))

/-- The instruction-breakpoint test before a fetch (65_debug_perfmon.md R1115, 60_exceptions.md R845 step B6). -/
def checkCodeBreakpoint : M Unit := do
  let s ← get
  let d := s.dbg
  let de := bit s.sys.cr4 3
  if d.badSetting de 0 || d.badSetting de 1 || d.badSetting de 2 || d.badSetting de 3 then stop .breakpointSetting
  else
    let hits := d.codeHits (s.seg.cs.base + s.eip)
    if hits &&& d.enabledSet ≠ 0 && !s.flag fRF && !s.lat.inhibit && !s.lat.midRep then
      throw (.exc { vec := 1, code := none, cr2 := none, dr6 := (hits &&& d.enabledSet).setWidth 32, keep := false })
    else pure ()

/-- The breakpoint test at the first byte, then the fetch. -/
noncomputable def fetchNext : M (Instr × Nat) := do
  let s ← get
  whenM (decide (s.ins.len = 0)) checkCodeBreakpoint
  fetchInstr

/-- The state in which a decoded instruction of `n` bytes executes. -/
def State.decoded (s : State) (n : Nat) : State := { s with ins := { s.ins with len := s.ins.len + n } }

/-- The time-stamp counter advances by a free positive amount in every step (65_debug_perfmon.md R1140, log 20). -/
def State.tick (s : State) : State :=
  { s with free := s.free + 1,
           msr := { s.msr with tsc := s.msr.tsc + 1 + (Config.tscExtra s.free).setWidth 64 } }

/-- What goes on by itself before every step: the time-stamp counter; and, but while STPCLK# is asserted, which changes no
register and no memory (70_reset_and_hazards.md R1331), the caches and translations made ahead of the program. -/
def State.prelude (s : State) : State := if s.lat.stopClock then s.tick else s.tick.background

/-- The key under which memory holds the byte that the fetch finds at a linear address. -/
def State.fetchPhys (s : State) (la : Word) : Nat :=
  match translate la false (s.cpl = 3) s with
  | .ok p _ =>
    match placeOf s.map s.smm.inSmm (busAddr s p.pa) with
    | .ram k => k
    | .rom k => k
    | .device a => a
    | .nothing a => a
  | .error _ _ => la.toNat

/-- Bytes placed in memory one after another where the fetch finds them. -/
def State.placeBytes (s : State) (la : Word) : List Byte → State
  | [] => s
  | b :: bs => ({ s with mem := memWrite s.mem (s.fetchPhys la) b } : State).placeBytes (la + 1) bs

end Sys2Proof.Machine
end

