-- ==== Sys2Proof/Machine/Step.lean ====
section
/-! DEFINITION. One step of the machine: the boundary, then one fetched element, a prefix byte or an instruction
(60_exceptions.md R845, log 1). -/
namespace Sys2Proof.Machine
open Host

/-- Fetch the next element and run it. -/
noncomputable def fetchAndRun (s : State) : Host.Outcome State Fault Refusal :=
  match fetchNext s with
  | .ok (i, n) t => exec i (t.decoded n)
  | .error (.exc x) t => takeException s t x
  | .error (.fault f) _ => .fault f
  | .error (.refused r) _ => .refused r

/-- One step. -/
noncomputable def step (s : State) : Host.Outcome State Fault Refusal :=
  let t := s.prelude
  if t.ins.len ≠ 0 then fetchAndRun t
  else
    match boundary t with
    | .ok .run u => fetchAndRun u
    | .ok .stay u => .next u
    | .ok (.take e ack) u => takeAt e ack u
    | .error (.exc x) u => takeException t u x
    | .error (.fault f) _ => .fault f
    | .error (.refused r) _ => .refused r

/-- The processor past the boot protocol, as the bootstrap processor if it was still to run (log 2). -/
def State.booted (s : State) : State := if s.booting then s.bootWon else s

/-- The state with an instruction placed where the next step fetches it; its bytes above `nbits` are zero. A processor
whose boot protocol has not run has won it. -/
def State.withFetchWord (s : State) (nbits w : Nat) : State :=
  s.booted.placeBytes (s.seg.cs.base + s.fetchOff) (leBytes 15 (w % 2 ^ nbits))

end Sys2Proof.Machine
end

