-- ==== Sys2Proof/Safety.lean ====
section
/-! DEFINITION. What a safe run is, and the terms in which claims about the machine are made. -/
namespace Sys2Proof.Machine
open Host

/-- The fixed bits of EFLAGS: bit 1 reads 1, bits 3, 5, 15 and 31:22 read 0 (10_state.md R41). -/
def eflagsFixed (f : Word) : Bool := f &&& 0xFFC0802A#32 = 2#32

/-- The fixed bits of CR0: bit 4 reads 1, the reserved bits read 0 (10_state.md R64, R65). -/
def cr0Fixed (v : Word) : Bool := v &&& ~~~cr0Mask = 0x10#32

/-- Bits 31:9 of CR4 are reserved and never set (10_state.md R71). -/
def cr4Fixed (v : Word) : Bool := v &&& 0xFFFFFE00#32 = 0#32

/-- The invariant of the machine at the start of a step: memory in its canonical form, no instruction half done,
and the reserved bits of EFLAGS, CR0 and CR4, also of the CR4 that an SMI has saved, as the manual says they read. -/
def Inv (s : State) : Prop :=
  Memory.wf s.mem = true ∧ s.tr = Trans.clear ∧ eflagsFixed s.eflags = true ∧ cr0Fixed s.sys.cr0 = true ∧
    cr4Fixed s.sys.cr4 = true ∧ cr4Fixed s.smm.saved.cr4 = true

/-- The part of the invariant that the effect of one instruction is stated under: memory in its canonical form, and
no instruction half done. -/
def State.ready (s : State) : Prop := Memory.wf s.mem = true ∧ s.tr = Trans.clear

/-- No LOCK prefix, or one that the instruction allows (30_encoding.md R483). -/
def State.lockOk (s : State) (allowed : Bool) : Bool := !s.ins.lock || allowed

/-- DebugCtl asks neither for last-branch records nor for trace messages (65_debug_perfmon.md R1130, R1131). -/
def State.noLbr (s : State) : Bool := !bit s.msr.debugCtl 0 && !bit s.msr.debugCtl 6

/-- `n` steps lead from one state to another without a fault or a refusal. -/
def Reaches : Nat → State → State → Prop
  | 0, s, t => s = t
  | n + 1, s, t => ∃ u, step s = .next u ∧ Reaches n u t

/-- A run from `s` never stops with a fault or a refusal. -/
def Safe (s : State) : Prop := ∀ n t, Reaches n s t → ∃ u, step t = .next u

/-- Linear addresses are physical addresses of RAM that no other agent writes: paging off, MTRRs off, A20M# not asserted,
no entry in the platform's map, nothing listed that other agents write between accesses. -/
def State.plain (s : State) : Bool :=
  !s.paging && !bit s.msr.mtrrDef 11 && !s.lat.a20m && s.map.isEmpty && s.others.isEmpty

/-- The linear address of an offset in a segment. -/
def State.lin (s : State) (r : SegReg) (off : Word) : Nat := ((s.seg.get r).base + off).toNat

/-- Every check of an access of `n` bytes passes and the APIC page is not reached (23_protection.md R410,
20_memory.md R211). -/
def State.reaches (s : State) (r : SegReg) (off : Word) (n align : Nat) (k : Access) : Bool :=
  let g := s.seg.get r
  s.plain && g.allows r k s.prot && g.inLimit off n &&
    (!s.alignOn || decide (s.lin r off % align = 0)) && decide (s.lin r off + n ≤ Config.apicPage)

/-- The bytes of a memory from an address up. -/
def memBytes (m : List Cell) : Nat → Nat → List Byte
  | _, 0 => []
  | a, n + 1 => memRead m a :: memBytes m (a + 1) n

/-- A little-endian number in memory. -/
def State.num (s : State) (a n : Nat) : Nat := leNat (memBytes s.mem a n)

/-- `t` holds the number `v` in `n` bytes at `a`, and every other byte as `s` has it. -/
def Stored (s t : State) (a n v : Nat) : Prop :=
  t.num a n = v % 256 ^ n ∧ ∀ k, k < a ∨ a + n ≤ k → memRead t.mem k = memRead s.mem k

/-- No byte of memory has changed. -/
def MemSame (s t : State) : Prop := ∀ k, memRead t.mem k = memRead s.mem k

/-- The operand can be read or written: a register always, memory if its checks pass. -/
def State.can {ρ : Type} (s : State) (rm : RegMem ρ) (n : Nat) (k : Access) : Bool :=
  match rm with
  | .reg _ => true
  | .mem m => s.reaches (eaSeg s m) (eaOffset s m) n n k

/-- The linear address of a memory operand. -/
def State.ea (s : State) (m : Ea) : Nat := s.lin (eaSeg s m) (eaOffset s m)

/-- The value of a byte operand. -/
def State.val8 (s : State) : Rm8 → Byte
  | .reg r => s.r8 r
  | .mem m => BitVec.ofNat 8 (s.num (s.ea m) 1)

/-- The value of an operand of `w` bits, 16 or 32. -/
def State.val (s : State) (w : Nat) : Rm → BitVec w
  | .reg r => (s.r32 r).setWidth w
  | .mem m => BitVec.ofNat w (s.num (s.ea m) (w / 8))

/-- The byte operand has received `v`, and no other register and no other byte of memory has changed. -/
def Wrote8 (s t : State) (rm : Rm8) (v : Byte) : Prop :=
  match rm with
  | .reg r => t.gpr = (s.setR8 r v).gpr ∧ MemSame s t
  | .mem m => t.gpr = s.gpr ∧ Stored s t (s.ea m) 1 v.toNat

/-- The operand of `w` bits has received `v`, and no other register and no other byte of memory has changed. -/
def Wrote (s t : State) (w : Nat) (rm : Rm) (v : BitVec w) : Prop :=
  match rm with
  | .reg r => t.gpr = (s.setRw w r v).gpr ∧ MemSame s t
  | .mem m => t.gpr = s.gpr ∧ Stored s t (s.ea m) (w / 8) v.toNat

/-- The stack offset at which a push of `n` bytes stores (43_general_instructions.md R780). -/
def State.pushOff (s : State) (n : Nat) : Word := s.seg.ss.cutSp (s.sp - BitVec.ofNat 32 n)

/-- The stack offset `n` bytes above the top, wrapped at the width of the stack (43_general_instructions.md R780). -/
def State.popOff (s : State) (n : Nat) : Word := s.seg.ss.cutSp (s.sp + BitVec.ofNat 32 n)

/-- `n` bytes can be pushed. -/
def State.canPush (s : State) (n : Nat) : Bool := s.reaches .ss (s.pushOff n) n n .write

/-- `n` bytes can be read `k` bytes above the top of the stack. -/
def State.canPop (s : State) (k n : Nat) : Bool := s.reaches .ss (s.popOff k) n n .read

/-- The item of `n` bytes that lies `k` bytes above the top of the stack. -/
def State.item (s : State) (k n : Nat) : Nat := s.num (s.lin .ss (s.popOff k)) n

/-- `t` is `s` with the item `v` of `n` bytes pushed: no other register, no other byte of memory. -/
def Pushed (s t : State) (n v : Nat) : Prop :=
  t.seg = s.seg ∧ t.gpr = (s.setSp (s.pushOff n)).gpr ∧ Stored s t (s.lin .ss (s.pushOff n)) n v

/-- The debug registers are the same. -/
def Dbg.same (d e : Dbg) : Prop :=
  e.dr0 = d.dr0 ∧ e.dr1 = d.dr1 ∧ e.dr2 = d.dr2 ∧ e.dr3 = d.dr3 ∧ e.dr6 = d.dr6 ∧ e.dr7 = d.dr7

/-- The latches are the same, but for the two one-instruction shadows and the mark of an interrupted repetition. -/
def Latches.same (l m : Latches) : Prop :=
  m = { l with inhibit := m.inhibit, stiShadow := m.stiShadow, midRep := m.midRep }

/-- Nothing but the general registers, EIP, EFLAGS, memory and the segment, control, debug and FPU registers has
changed. -/
def Apart (s t : State) : Prop :=
  t.cpl = s.cpl ∧ t.msr = s.msr ∧ t.apic = s.apic ∧ t.map = s.map ∧ t.events = s.events ∧ t.bus = s.bus ∧
    t.smm.inSmm = s.smm.inSmm ∧ t.smm.smbase = s.smm.smbase ∧ t.smm.saved = s.smm.saved ∧ t.ins = Ins.clear ∧
    t.cached = s.cached ∧ t.others = s.others ∧ t.noReturn = s.noReturn ∧ Latches.same s.lat t.lat

/-- Nothing but the general registers, EIP, EFLAGS, memory and the segment registers has changed. -/
def QuietButSeg (s t : State) : Prop :=
  Apart s t ∧ t.sys = s.sys ∧ t.fpu = s.fpu ∧ t.tlb = s.tlb ∧ Dbg.same s.dbg t.dbg

/-- Nothing but the general registers, EIP, EFLAGS and memory has changed. -/
def Quiet (s t : State) : Prop := QuietButSeg s t ∧ t.seg = s.seg

/-- EFLAGS after an instruction: the bits of `mask` from `f`, RF clear, the others unchanged (60_exceptions.md R845). -/
def flagsAfter (s : State) (mask f : Word) : Word := setBit (blend mask s.eflags f) fRF false

/-- No status flag has changed. -/
def FlagsSame (s t : State) : Prop := t.eflags = setBit s.eflags fRF false

/-- An instruction that has completed and fallen through: EIP at the next one, nothing else than general registers,
flags and memory touched. -/
def Falls (s t : State) : Prop := t.eip = s.nextEip ∧ Quiet s t

/-- No general register and no byte of memory has changed. -/
def Untouched (s t : State) : Prop := t.gpr = s.gpr ∧ MemSame s t

/-- Executing `i` at `s` answers a next state, one of which `q` holds. -/
def Completes (i : Instr) (s : State) (q : State → Prop) : Prop := ∃ t, exec i s = .next t ∧ q t

/-- A control transfer inside the code segment: EIP at the target, no flag, nothing else than general registers and
memory touched. The last-branch registers are recorded only if DebugCtl asks for it. -/
def Jumps (s t : State) (target : Word) : Prop := t.eip = target ∧ FlagsSame s t ∧ Quiet s t

end Sys2Proof.Machine
end

