-- ==== Sys2Proof/Certificates/Slice0/Obligations.lean ====
section
/-! DEFINITION. The statements for the provers, each a rule of the machine over every state, with the forms they
are made for. In every one of them the undefined values are quantified: nothing is said of them. -/

namespace Sys2Proof.Machine

/-- The byte forms of a two-operand instruction. -/
inductive Form8 where
  | ebGb (rm : Rm8) (r : Reg8)
  | gbEb (r : Reg8) (rm : Rm8)
  | alIb (k : Byte)
  | ebIb (rm : Rm8) (k : Byte)

/-- The first operand. -/
def Form8.dst : Form8 → Rm8
  | .ebGb rm _ => rm
  | .gbEb r _ => .reg r
  | .alIb _ => .reg .al
  | .ebIb rm _ => rm

/-- The value of the second operand. -/
def Form8.src (s : State) : Form8 → Byte
  | .ebGb _ r => s.r8 r
  | .gbEb _ rm => s.val8 rm
  | .alIb k => k
  | .ebIb _ k => k

/-- The second operand can be read. -/
def Form8.srcOk (s : State) : Form8 → Bool
  | .gbEb _ rm => s.can rm 1 .read
  | _ => true

/-- The word and doubleword forms of a two-operand instruction. -/
inductive FormV where
  | evGv (rm : Rm) (r : Reg)
  | gvEv (r : Reg) (rm : Rm)
  | axIv (k : Word)
  | evIv (rm : Rm) (k : Word)
  | evIb (rm : Rm) (k : Byte)

/-- The first operand. -/
def FormV.dst : FormV → Rm
  | .evGv rm _ => rm
  | .gvEv r _ => .reg r
  | .axIv _ => .reg .eax
  | .evIv rm _ => rm
  | .evIb rm _ => rm

/-- The value of the second operand at `w` bits; a byte is sign-extended. -/
def FormV.src (s : State) (w : Nat) : FormV → BitVec w
  | .evGv _ r => (s.r32 r).setWidth w
  | .gvEv _ rm => s.val w rm
  | .axIv k => k.setWidth w
  | .evIv _ k => k.setWidth w
  | .evIb _ k => k.signExtend w

/-- The second operand can be read. -/
def FormV.srcOk (s : State) (w : Nat) : FormV → Bool
  | .gvEv _ rm => s.can rm (w / 8) .read
  | _ => true

/-- The instruction of an operation and a byte form, where the opcode map has one. -/
noncomputable def aluIns8 : Alu → Form8 → Option Instr
  | .add, .ebGb rm r => some (.addEbGb rm r)
  | .add, .gbEb r rm => some (.addGbEb r rm)
  | .add, .alIb k => some (.addALIb k)
  | .add, .ebIb rm k => some (.addEbIb rm k)
  | .or, .ebGb rm r => some (.orEbGb rm r)
  | .or, .gbEb r rm => some (.orGbEb r rm)
  | .or, .alIb k => some (.orALIb k)
  | .or, .ebIb rm k => some (.orEbIb rm k)
  | .adc, .ebGb rm r => some (.adcEbGb rm r)
  | .adc, .gbEb r rm => some (.adcGbEb r rm)
  | .adc, .alIb k => some (.adcALIb k)
  | .adc, .ebIb rm k => some (.adcEbIb rm k)
  | .sbb, .ebGb rm r => some (.sbbEbGb rm r)
  | .sbb, .gbEb r rm => some (.sbbGbEb r rm)
  | .sbb, .alIb k => some (.sbbALIb k)
  | .sbb, .ebIb rm k => some (.sbbEbIb rm k)
  | .and, .ebGb rm r => some (.andEbGb rm r)
  | .and, .gbEb r rm => some (.andGbEb r rm)
  | .and, .alIb k => some (.andALIb k)
  | .and, .ebIb rm k => some (.andEbIb rm k)
  | .sub, .ebGb rm r => some (.subEbGb rm r)
  | .sub, .gbEb r rm => some (.subGbEb r rm)
  | .sub, .alIb k => some (.subALIb k)
  | .sub, .ebIb rm k => some (.subEbIb rm k)
  | .xor, .ebGb rm r => some (.xorEbGb rm r)
  | .xor, .gbEb r rm => some (.xorGbEb r rm)
  | .xor, .alIb k => some (.xorALIb k)
  | .xor, .ebIb rm k => some (.xorEbIb rm k)
  | .cmp, .ebGb rm r => some (.cmpEbGb rm r)
  | .cmp, .gbEb r rm => some (.cmpGbEb r rm)
  | .cmp, .alIb k => some (.cmpALIb k)
  | .cmp, .ebIb rm k => some (.cmpEbIb rm k)
  | .test, .ebGb rm r => some (.testEbGb rm r)
  | .test, .alIb k => some (.testALIb k)
  | .test, .ebIb rm k => some (.testEbIb rm k)
  | .test, .gbEb _ _ => none

/-- The instruction of an operation and a word or doubleword form, where the opcode map has one. -/
noncomputable def aluInsV : Alu → FormV → Option Instr
  | .add, .evGv rm r => some (.addEvGv rm r)
  | .add, .gvEv r rm => some (.addGvEv r rm)
  | .add, .axIv k => some (.addeAXIv k)
  | .add, .evIv rm k => some (.addEvIv rm k)
  | .add, .evIb rm k => some (.addEvIb rm k)
  | .or, .evGv rm r => some (.orEvGv rm r)
  | .or, .gvEv r rm => some (.orGvEv r rm)
  | .or, .axIv k => some (.oreAXIv k)
  | .or, .evIv rm k => some (.orEvIv rm k)
  | .or, .evIb rm k => some (.orEvIb rm k)
  | .adc, .evGv rm r => some (.adcEvGv rm r)
  | .adc, .gvEv r rm => some (.adcGvEv r rm)
  | .adc, .axIv k => some (.adceAXIv k)
  | .adc, .evIv rm k => some (.adcEvIv rm k)
  | .adc, .evIb rm k => some (.adcEvIb rm k)
  | .sbb, .evGv rm r => some (.sbbEvGv rm r)
  | .sbb, .gvEv r rm => some (.sbbGvEv r rm)
  | .sbb, .axIv k => some (.sbbeAXIv k)
  | .sbb, .evIv rm k => some (.sbbEvIv rm k)
  | .sbb, .evIb rm k => some (.sbbEvIb rm k)
  | .and, .evGv rm r => some (.andEvGv rm r)
  | .and, .gvEv r rm => some (.andGvEv r rm)
  | .and, .axIv k => some (.andeAXIv k)
  | .and, .evIv rm k => some (.andEvIv rm k)
  | .and, .evIb rm k => some (.andEvIb rm k)
  | .sub, .evGv rm r => some (.subEvGv rm r)
  | .sub, .gvEv r rm => some (.subGvEv r rm)
  | .sub, .axIv k => some (.subeAXIv k)
  | .sub, .evIv rm k => some (.subEvIv rm k)
  | .sub, .evIb rm k => some (.subEvIb rm k)
  | .xor, .evGv rm r => some (.xorEvGv rm r)
  | .xor, .gvEv r rm => some (.xorGvEv r rm)
  | .xor, .axIv k => some (.xoreAXIv k)
  | .xor, .evIv rm k => some (.xorEvIv rm k)
  | .xor, .evIb rm k => some (.xorEvIb rm k)
  | .cmp, .evGv rm r => some (.cmpEvGv rm r)
  | .cmp, .gvEv r rm => some (.cmpGvEv r rm)
  | .cmp, .axIv k => some (.cmpeAXIv k)
  | .cmp, .evIv rm k => some (.cmpEvIv rm k)
  | .cmp, .evIb rm k => some (.cmpEvIb rm k)
  | .test, .evGv rm r => some (.testEvGv rm r)
  | .test, .axIv k => some (.testeAXIv k)
  | .test, .evIv rm k => some (.testEvIv rm k)
  | .test, .gvEv _ _ => none
  | .test, .evIb _ _ => none

/-- The count of a shift: an immediate byte, one, or CL. -/
inductive Count where
  | ib (k : Byte)
  | one
  | cl

/-- The value of a count. -/
def Count.value (s : State) : Count → Byte
  | .ib k => k
  | .one => 1
  | .cl => s.r8 .cl

/-- A shift or rotate of a byte. -/
noncomputable def shiftIns8 (op : Shift) (c : Count) (rm : Rm8) : Instr :=
  match op, c with
  | .rol, .ib k => .rolEbIb rm k
  | .rol, .one => .rolEb1 rm
  | .rol, .cl => .rolEbCL rm
  | .ror, .ib k => .rorEbIb rm k
  | .ror, .one => .rorEb1 rm
  | .ror, .cl => .rorEbCL rm
  | .rcl, .ib k => .rclEbIb rm k
  | .rcl, .one => .rclEb1 rm
  | .rcl, .cl => .rclEbCL rm
  | .rcr, .ib k => .rcrEbIb rm k
  | .rcr, .one => .rcrEb1 rm
  | .rcr, .cl => .rcrEbCL rm
  | .shl, .ib k => .shlSalEbIb rm k
  | .shl, .one => .shlSalEb1 rm
  | .shl, .cl => .shlSalEbCL rm
  | .shr, .ib k => .shrEbIb rm k
  | .shr, .one => .shrEb1 rm
  | .shr, .cl => .shrEbCL rm
  | .sar, .ib k => .sarEbIb rm k
  | .sar, .one => .sarEb1 rm
  | .sar, .cl => .sarEbCL rm

/-- A shift or rotate of a word or doubleword. -/
noncomputable def shiftInsV (op : Shift) (c : Count) (rm : Rm) : Instr :=
  match op, c with
  | .rol, .ib k => .rolEvIb rm k
  | .rol, .one => .rolEv1 rm
  | .rol, .cl => .rolEvCL rm
  | .ror, .ib k => .rorEvIb rm k
  | .ror, .one => .rorEv1 rm
  | .ror, .cl => .rorEvCL rm
  | .rcl, .ib k => .rclEvIb rm k
  | .rcl, .one => .rclEv1 rm
  | .rcl, .cl => .rclEvCL rm
  | .rcr, .ib k => .rcrEvIb rm k
  | .rcr, .one => .rcrEv1 rm
  | .rcr, .cl => .rcrEvCL rm
  | .shl, .ib k => .shlSalEvIb rm k
  | .shl, .one => .shlSalEv1 rm
  | .shl, .cl => .shlSalEvCL rm
  | .shr, .ib k => .shrEvIb rm k
  | .shr, .one => .shrEv1 rm
  | .shr, .cl => .shrEvCL rm
  | .sar, .ib k => .sarEvIb rm k
  | .sar, .one => .sarEv1 rm
  | .sar, .cl => .sarEvCL rm

/-- SHLD (`left`) and SHRD, by an immediate byte or CL; there is no form by one. -/
noncomputable def doubleIns (left : Bool) (c : Count) (rm : Rm) (r : Reg) : Option Instr :=
  match left, c with
  | true, .ib k => some (.shldEvGvIb rm r k)
  | true, .cl => some (.shldEvGvCL rm r)
  | false, .ib k => some (.shrdEvGvIb rm r k)
  | false, .cl => some (.shrdEvGvCL rm r)
  | _, .one => none

/-- INC, DEC, NEG and NOT of a byte. -/
noncomputable def unaryIns8 (op : Alu1) (rm : Rm8) : Instr :=
  match op with
  | .inc => .incEb rm
  | .dec => .decEb rm
  | .neg => .negEb rm
  | .not => .notEb rm

/-- INC, DEC, NEG and NOT of a word or doubleword. -/
noncomputable def unaryInsV (op : Alu1) (rm : Rm) : Instr :=
  match op with
  | .inc => .incEv rm
  | .dec => .decEv rm
  | .neg => .negEv rm
  | .not => .notEv rm

/-- Result, written flags and their values of INC, DEC, NEG and NOT: INC and DEC leave CF, NOT leaves all flags. -/
def unaryRule {w : Nat} (op : Alu1) (a : BitVec w) : BitVec w × Word × Word :=
  match op with
  | .inc => (a + 1, 0x8D4#32, (addFlags a 1 false).2.word)
  | .dec => (a - 1, 0x8D4#32, (subFlags a 1 false).2.word)
  | .neg => (-a, arithMask, (subFlags 0 a false).2.word)
  | .not => (~~~a, 0, 0)

/-- What a shift or rotate of `d` by `count` writes, and the flags it writes: nothing changes for a count that is 0
modulo 32. `cf`, `of` and `af` are the undefined values. -/
def shiftRule {w : Nat} (op : Shift) (d : BitVec w) (old : Bool) (count : Byte) (cf of af : Bool) :
    BitVec w × Word × Word :=
  let c := count.toNat % 32
  let p := shiftValue op d old c
  let k := if op = .shl ∧ w < c then cf else p.2
  let o := if c = 1 then shiftOf op d p.1 k else of
  if c = 0 then (d, 0, 0) else (p.1, if op.isRotate then 0x801#32 else arithMask, (szp p.1 k af o).word)

/-- What SHLD and SHRD write: `r` and `f` are the undefined values of a count above the width. -/
def doubleRule {w : Nat} (left : Bool) (d src : BitVec w) (count : Byte) (r : BitVec w) (f : Word) (of af : Bool) :
    BitVec w × Word × Word :=
  let c := count.toNat % 32
  let x := if left then (d <<< c) ||| (src >>> (w - c)) else (d >>> c) ||| (src <<< (w - c))
  let cf := if left then bit d (w - c) else bit d (c - 1)
  if c = 0 then (d, 0, 0)
  else if w < c then (r, arithMask, f)
  else (x, arithMask, (szp x cf af (if c = 1 then msb x != msb d else of)).word)

end Sys2Proof.Machine

open Sys2Proof Sys2Proof.Machine

/-- ADD, OR, ADC, SBB, AND, SUB, XOR, CMP and TEST of bytes complete with the result and all six flags. AF after a
logical instruction is undefined. Rests on the spec's general-knowledge rules R1351 to R1362. -/
def Obligations.AluBytes : Prop :=
  ∀ (op : Alu) (f : Form8) (i : Instr) (s : State), aluIns8 op f = some i → s.ready →
    s.lockOk (op.writes && isMem f.dst) = true → s.can f.dst 1 (if op.writes then .write else .read) = true →
    f.srcOk s = true →
    Completes i s fun t => ∃ af : Bool,
      let p := op.result (s.val8 f.dst) (f.src s) (s.flag fCF) af
      (if op.writes then Wrote8 s t f.dst p.1 else Untouched s t) ∧
        t.eflags = flagsAfter s arithMask p.2.word ∧ Falls s t

/-- ADD, OR, ADC, SBB, AND, SUB, XOR, CMP and TEST of words and doublewords complete with the result and all six flags;
a byte immediate is sign-extended. Rests on the general-knowledge rules R1351 to R1362 of the spec. -/
def Obligations.AluWords : Prop :=
  ∀ (op : Alu) (f : FormV) (i : Instr) (s : State), aluInsV op f = some i → s.ready →
    s.lockOk (op.writes && isMem f.dst) = true →
    s.can f.dst (bytes s.o32) (if op.writes then .write else .read) = true → f.srcOk s (bits s.o32) = true →
    Completes i s fun t => ∃ af : Bool,
      let p := op.result (s.val (bits s.o32) f.dst) (f.src s (bits s.o32)) (s.flag fCF) af
      (if op.writes then Wrote s t (bits s.o32) f.dst p.1 else Untouched s t) ∧
        t.eflags = flagsAfter s arithMask p.2.word ∧ Falls s t

/-- INC, DEC, NEG and NOT of a byte, a word or a doubleword, and the one-byte forms of INC and DEC, complete with the
result; INC and DEC leave CF, NOT leaves every flag. Rests on the spec's general-knowledge rules R1363 to R1366. -/
def Obligations.Unary : Prop :=
  (∀ (op : Alu1) (rm : Rm8) (s : State), s.ready → s.lockOk (isMem rm) = true → s.can rm 1 .write = true →
    Completes (unaryIns8 op rm) s fun t =>
      let p := unaryRule op (s.val8 rm)
      Wrote8 s t rm p.1 ∧ t.eflags = flagsAfter s p.2.1 p.2.2 ∧ Falls s t) ∧
  (∀ (op : Alu1) (rm : Rm) (s : State), s.ready → s.lockOk (isMem rm) = true →
    s.can rm (bytes s.o32) .write = true →
    Completes (unaryInsV op rm) s fun t =>
      let p := unaryRule op (s.val (bits s.o32) rm)
      Wrote s t (bits s.o32) rm p.1 ∧ t.eflags = flagsAfter s p.2.1 p.2.2 ∧ Falls s t) ∧
  (∀ (i : Instr) (op : Alu1) (r : Reg) (s : State), i = .incRv r ∧ op = .inc ∨ i = .decRv r ∧ op = .dec → s.ready →
    s.lockOk false = true →
    Completes i s fun t =>
      let p := unaryRule op (s.val (bits s.o32) (.reg r))
      Wrote s t (bits s.o32) (.reg r) p.1 ∧ t.eflags = flagsAfter s p.2.1 p.2.2 ∧ Falls s t)

/-- The shifts and rotates complete, by every count; a count of 0 modulo 32 changes nothing. OF after a count above
one, AF after a shift and CF after SHL by more than the width are undefined. Rests on the spec's general-knowledge
rules R1380 to R1387. -/
def Sys2Proof.Machine.ShiftsOne : Prop :=
  (∀ (op : Shift) (c : Count) (rm : Rm8) (s : State), s.ready → s.lockOk false = true → s.can rm 1 .write = true →
    Completes (shiftIns8 op c rm) s fun t => ∃ cf of af : Bool,
      let p := shiftRule op (s.val8 rm) (s.flag fCF) (c.value s) cf of af
      Wrote8 s t rm p.1 ∧ t.eflags = flagsAfter s p.2.1 p.2.2 ∧ Falls s t) ∧
  (∀ (op : Shift) (c : Count) (rm : Rm) (s : State), s.ready → s.lockOk false = true →
    s.can rm (bytes s.o32) .write = true →
    Completes (shiftInsV op c rm) s fun t => ∃ cf of af : Bool,
      let p := shiftRule op (s.val (bits s.o32) rm) (s.flag fCF) (c.value s) cf of af
      Wrote s t (bits s.o32) rm p.1 ∧ t.eflags = flagsAfter s p.2.1 p.2.2 ∧ Falls s t)

/-- SHLD and SHRD complete; a count above the width leaves the destination and the flags undefined. Rests on the
spec's general-knowledge rules R1388 and R1389. -/
def Sys2Proof.Machine.ShiftsTwo : Prop :=
  ∀ (left : Bool) (c : Count) (rm : Rm) (r : Reg) (i : Instr) (s : State), doubleIns left c rm r = some i → s.ready →
    s.lockOk false = true → s.can rm (bytes s.o32) .write = true →
    Completes i s fun t => ∃ (x : BitVec (bits s.o32)) (f : Word) (of af : Bool),
      let p := doubleRule left (s.val (bits s.o32) rm) ((s.r32 r).setWidth (bits s.o32)) (c.value s) x f of af
      Wrote s t (bits s.o32) rm p.1 ∧ t.eflags = flagsAfter s p.2.1 p.2.2 ∧ Falls s t

namespace Sys2Proof.Machine

/-- The exact product of MUL (unsigned) or IMUL (signed). -/
def product {w : Nat} (signed : Bool) (a b : BitVec w) : Int :=
  if signed then a.toInt * b.toInt else (a.toNat * b.toNat : Nat)

/-- The exact product needs more than `w` bits. -/
def tooWide (signed : Bool) (w : Nat) (x : Int) : Bool :=
  if signed then !(decide (-2 ^ (w - 1) ≤ x) && decide (x < 2 ^ (w - 1))) else decide (2 ^ w ≤ x)

/-- A pair of results at its implied place: AH:AL, DX:AX or EDX:EAX. -/
def State.withPair (s : State) (w : Nat) (hi lo : BitVec w) : State :=
  if w = 8 then (s.setR8 .al (lo.setWidth 8)).setR8 .ah (hi.setWidth 8) else (s.setRw w .eax lo).setRw w .edx hi

/-- The dividend: AX, DX:AX or EDX:EAX. -/
def State.dividend (s : State) (w : Nat) : BitVec (w + w) :=
  if w = 8 then (s.r32 .eax).setWidth (w + w) else (s.r32 .edx).setWidth w ++ (s.r32 .eax).setWidth w

/-- The exact quotient and remainder of DIV, or of IDIV with truncation toward zero. -/
def quotient {w : Nat} (signed : Bool) (d : BitVec (w + w)) (b : BitVec w) : Int × Int :=
  if signed then (d.toInt.tdiv b.toInt, d.toInt.tmod b.toInt) else ((d.toNat / b.toNat : Nat), (d.toNat % b.toNat : Nat))

/-- DAA and DAS, step by step: the new AL, CF and AF. -/
def decimalRule (sub : Bool) (al : Byte) (cf af : Bool) : Byte × Bool × Bool :=
  let low := decide (9 < al.toNat % 16) || af
  let al1 := if low then (if sub then al - 6 else al + 6) else al
  let cf1 := if low then cf || (if sub then decide (al.toNat < 6) else decide (255 < al.toNat + 6)) else false
  let high := decide (0x99 < al.toNat) || cf
  let al2 := if high then (if sub then al1 - 0x60 else al1 + 0x60) else al1
  (al2, if high then true else if sub then cf1 else false, low)

/-- AAA and AAS: the new AX, and the value of both CF and AF. -/
def asciiRule (sub : Bool) (ax : Half) (af : Bool) : Half × Bool :=
  let adj := decide (9 < ax.toNat % 16) || af
  let x := if adj then (if sub then ax - 6 - 0x100 else ax + 0x106) else ax
  (x &&& 0xFF0F#16, adj)

/-- The instruction ends in exception `v` with error code `c`, raised before it has changed memory, a translation or
anything outside; the delivery starts from there, with the registers as before the instruction. -/
def Raises (i : Instr) (s : State) (v : Nat) (c : Option Half) : Prop :=
  ∃ u : State, exec i s = takeException s u { vec := v, code := c, cr2 := none, dr6 := 0, keep := false } ∧
    u.mem = s.mem ∧ u.stale = s.stale ∧ u.tlb = s.tlb ∧ u.bus = s.bus ∧ u.apic = s.apic ∧ u.events = s.events ∧
    (let b := rollback s u { vec := v, code := c, cr2 := none, dr6 := 0, keep := false }
     b.gpr = s.gpr ∧ b.eip = s.eip ∧ b.eflags = s.eflags ∧ b.seg = s.seg ∧ b.mem = s.mem)

end Sys2Proof.Machine

/-- MUL and IMUL with one operand complete: the double-width product in AX, DX:AX or EDX:EAX, CF and OF set when it
does not fit in its lower half, SF, ZF, AF and PF undefined. Rests on the spec's general-knowledge rules R1370 and
R1371. -/
def Sys2Proof.Machine.MultipliesPair : Prop :=
  (∀ (signed : Bool) (rm : Rm8) (s : State), s.ready → s.lockOk false = true → s.can rm 1 .read = true →
    Completes (if signed then .imulEb rm else .mulEb rm) s fun t => ∃ f : Word,
      let x := product signed (s.r8 .al) (s.val8 rm)
      let c := tooWide signed 8 x
      t.gpr = (s.withPair 8 (BitVec.ofInt 8 (x / 256)) (BitVec.ofInt 8 x)).gpr ∧ MemSame s t ∧
        t.eflags = flagsAfter s arithMask (setBit (setBit f fCF c) fOF c) ∧ Falls s t) ∧
  (∀ (signed : Bool) (rm : Rm) (s : State), s.ready → s.lockOk false = true →
    s.can rm (bytes s.o32) .read = true →
    Completes (if signed then .imulEv rm else .mulEv rm) s fun t => ∃ f : Word,
      let w := bits s.o32
      let x := product signed ((s.r32 .eax).setWidth w) (s.val w rm)
      let c := tooWide signed w x
      t.gpr = (s.withPair w (BitVec.ofInt w (x / 2 ^ w)) (BitVec.ofInt w x)).gpr ∧ MemSame s t ∧
        t.eflags = flagsAfter s arithMask (setBit (setBit f fCF c) fOF c) ∧ Falls s t)

/-- IMUL with two or three operands completes: the low part of the product in the destination register, CF and OF set
when the exact signed product does not fit. Rests on the spec's general-knowledge rule R1372. -/
def Sys2Proof.Machine.MultipliesTo : Prop :=
  ∀ (r : Reg) (rm : Rm) (k : Word) (j : Byte) (i : Instr) (s : State) (b : BitVec (bits s.o32)),
    (i = .imulGvEv r rm ∧ b = (s.r32 r).setWidth (bits s.o32) ∨
      i = .imulGvEvIv r rm k ∧ b = k.setWidth (bits s.o32) ∨
      i = .imulGvEvIb r rm j ∧ b = j.signExtend (bits s.o32)) →
    s.ready → s.lockOk false = true → s.can rm (bytes s.o32) .read = true →
    Completes i s fun t => ∃ f : Word,
      let x := product true (s.val (bits s.o32) rm) b
      let c := tooWide true (bits s.o32) x
      Wrote s t (bits s.o32) (.reg r) (BitVec.ofInt (bits s.o32) x) ∧
        t.eflags = flagsAfter s arithMask (setBit (setBit f fCF c) fOF c) ∧ Falls s t

/-- DIV and IDIV complete when the divisor is not 0 and the quotient fits, the most negative quotient of IDIV
included: quotient and remainder at their places, all six flags undefined. Rests on the spec's general-knowledge
rules R1373 and R1374. -/
def Obligations.Divide : Prop :=
  (∀ (signed : Bool) (rm : Rm8) (s : State), s.ready → s.lockOk false = true → s.can rm 1 .read = true →
    s.val8 rm ≠ 0 → tooWide signed 8 (quotient signed (s.dividend 8) (s.val8 rm)).1 = false →
    Completes (if signed then .idivEb rm else .divEb rm) s fun t => ∃ f : Word,
      let q := quotient signed (s.dividend 8) (s.val8 rm)
      t.gpr = (s.withPair 8 (BitVec.ofInt 8 q.2) (BitVec.ofInt 8 q.1)).gpr ∧ MemSame s t ∧
        t.eflags = flagsAfter s arithMask f ∧ Falls s t) ∧
  (∀ (signed : Bool) (rm : Rm) (s : State), s.ready → s.lockOk false = true →
    s.can rm (bytes s.o32) .read = true → s.val (bits s.o32) rm ≠ 0 →
    tooWide signed (bits s.o32) (quotient signed (s.dividend (bits s.o32)) (s.val (bits s.o32) rm)).1 = false →
    Completes (if signed then .idivEv rm else .divEv rm) s fun t => ∃ f : Word,
      let w := bits s.o32
      let q := quotient signed (s.dividend w) (s.val w rm)
      t.gpr = (s.withPair w (BitVec.ofInt w q.2) (BitVec.ofInt w q.1)).gpr ∧ MemSame s t ∧
        t.eflags = flagsAfter s arithMask f ∧ Falls s t)

/-- DIV and IDIV raise #DE, before anything has changed, when the divisor is 0 or the quotient cannot be represented in
the destination (43_general_instructions.md R818). -/
def Obligations.DivideError : Prop :=
  (∀ (signed : Bool) (rm : Rm8) (s : State), s.lockOk false = true → s.can rm 1 .read = true →
    (s.val8 rm = 0 ∨ tooWide signed 8 (quotient signed (s.dividend 8) (s.val8 rm)).1 = true) →
    Raises (if signed then .idivEb rm else .divEb rm) s 0 none) ∧
  (∀ (signed : Bool) (rm : Rm) (s : State), s.lockOk false = true → s.can rm (bytes s.o32) .read = true →
    (s.val (bits s.o32) rm = 0 ∨
      tooWide signed (bits s.o32) (quotient signed (s.dividend (bits s.o32)) (s.val (bits s.o32) rm)).1 = true) →
    Raises (if signed then .idivEv rm else .divEv rm) s 0 none)

/-- DAA, DAS, AAA, AAS, AAM with an operand that is not 0, and AAD complete with their results; the flags they do not
define are undefined; AAM with a zero operand raises #DE. Rests on the spec's general-knowledge rules R1430 to R1435. -/
def Obligations.Decimal : Prop :=
  (∀ s : State, s.lockOk false = true → Raises (.aamIb 0) s 0 none) ∧
  (∀ (sub : Bool) (s : State), s.ready → s.lockOk false = true →
    Completes (if sub then .das else .daa) s fun t => ∃ of : Bool,
      let p := decimalRule sub (s.r8 .al) (s.flag fCF) (s.flag fAF)
      Wrote8 s t (.reg .al) p.1 ∧ t.eflags = flagsAfter s arithMask (szp p.1 p.2.1 p.2.2 of).word ∧ Falls s t) ∧
  (∀ (sub : Bool) (s : State), s.ready → s.lockOk false = true →
    Completes (if sub then .aas else .aaa) s fun t => ∃ f : Word,
      let p := asciiRule sub (s.r16 .eax) (s.flag fAF)
      Wrote s t 16 (.reg .eax) p.1 ∧
        t.eflags = flagsAfter s arithMask (setBit (setBit f fCF p.2) fAF p.2) ∧ Falls s t) ∧
  (∀ (k : Byte) (s : State), s.ready → s.lockOk false = true → k ≠ 0 →
    Completes (.aamIb k) s fun t => ∃ cf af of : Bool,
      let al := s.r8 .al
      t.gpr = (s.withPair 8 (al / k) (al % k)).gpr ∧ MemSame s t ∧
        t.eflags = flagsAfter s arithMask (szp (al % k) cf af of).word ∧ Falls s t) ∧
  (∀ (k : Byte) (s : State), s.ready → s.lockOk false = true →
    Completes (.aadIb k) s fun t => ∃ cf af of : Bool,
      let r := s.r8 .al + s.r8 .ah * k
      t.gpr = (s.withPair 8 0 r).gpr ∧ MemSame s t ∧ t.eflags = flagsAfter s arithMask (szp r cf af of).word ∧
        Falls s t)

namespace Sys2Proof.Machine

/-- The memory operand that an instruction names by an offset alone. -/
def State.moffs (s : State) (off : Word) : Ea := if s.a32 then .abs32 off else .abs16 (off.setWidth 16)

/-- The byte forms of MOV. -/
inductive Mov8 where
  | ebGb (rm : Rm8) (r : Reg8)
  | gbEb (r : Reg8) (rm : Rm8)
  | ebIb (rm : Rm8) (k : Byte)
  | rIb (r : Reg8) (k : Byte)
  | alOb (off : Word)
  | obAl (off : Word)

/-- The instruction of a byte form. -/
noncomputable def Mov8.instr : Mov8 → Instr
  | .ebGb rm r => .movEbGb rm r
  | .gbEb r rm => .movGbEb r rm
  | .ebIb rm k => .movEbIb rm k
  | .rIb r k => .movR8Ib r k
  | .alOb off => .movALOb off
  | .obAl off => .movObAL off

/-- Where it writes. -/
def Mov8.dst (s : State) : Mov8 → Rm8
  | .ebGb rm _ => rm
  | .gbEb r _ => .reg r
  | .ebIb rm _ => rm
  | .rIb r _ => .reg r
  | .alOb _ => .reg .al
  | .obAl off => .mem (s.moffs off)

/-- What it writes. -/
def Mov8.src (s : State) : Mov8 → Byte
  | .ebGb _ r => s.r8 r
  | .gbEb _ rm => s.val8 rm
  | .ebIb _ k => k
  | .rIb _ k => k
  | .alOb off => s.val8 (.mem (s.moffs off))
  | .obAl _ => s.r8 .al

/-- What it reads can be read. -/
def Mov8.srcOk (s : State) : Mov8 → Bool
  | .gbEb _ rm => s.can rm 1 .read
  | .alOb off => s.can (.mem (s.moffs off) : Rm8) 1 .read
  | _ => true

/-- The word and doubleword forms of MOV. -/
inductive MovV where
  | evGv (rm : Rm) (r : Reg)
  | gvEv (r : Reg) (rm : Rm)
  | evIv (rm : Rm) (k : Word)
  | rIv (r : Reg) (k : Word)
  | axOv (off : Word)
  | ovAx (off : Word)

/-- The instruction of a word or doubleword form. -/
noncomputable def MovV.instr : MovV → Instr
  | .evGv rm r => .movEvGv rm r
  | .gvEv r rm => .movGvEv r rm
  | .evIv rm k => .movEvIv rm k
  | .rIv r k => .movRvIv r k
  | .axOv off => .moveAXOv off
  | .ovAx off => .movOveAX off

/-- Where it writes. -/
def MovV.dst (s : State) : MovV → Rm
  | .evGv rm _ => rm
  | .gvEv r _ => .reg r
  | .evIv rm _ => rm
  | .rIv r _ => .reg r
  | .axOv _ => .reg .eax
  | .ovAx off => .mem (s.moffs off)

/-- What it writes. -/
def MovV.src (s : State) (w : Nat) : MovV → BitVec w
  | .evGv _ r => (s.r32 r).setWidth w
  | .gvEv _ rm => s.val w rm
  | .evIv _ k => k.setWidth w
  | .rIv _ k => k.setWidth w
  | .axOv off => s.val w (.mem (s.moffs off))
  | .ovAx _ => (s.r32 .eax).setWidth w

/-- What it reads can be read. -/
def MovV.srcOk (s : State) (n : Nat) : MovV → Bool
  | .gvEv _ rm => s.can rm n .read
  | .axOv off => s.can (.mem (s.moffs off) : Rm) n .read
  | _ => true

end Sys2Proof.Machine

/-- Every form of MOV between general registers, memory and immediates completes, writes its source to its destination
and nothing else, and leaves the flags. Rests on the spec's general-knowledge rule R1395. -/
def Obligations.Moves : Prop :=
  (∀ (f : Mov8) (s : State), s.ready → s.lockOk false = true → f.srcOk s = true →
    s.can (f.dst s) 1 .write = true →
    Completes f.instr s fun t => Wrote8 s t (f.dst s) (f.src s) ∧ FlagsSame s t ∧ Falls s t) ∧
  (∀ (f : MovV) (s : State), s.ready → s.lockOk false = true → f.srcOk s (bytes s.o32) = true →
    s.can (f.dst s) (bytes s.o32) .write = true →
    Completes f.instr s fun t =>
      Wrote s t (bits s.o32) (f.dst s) (f.src s (bits s.o32)) ∧ FlagsSame s t ∧ Falls s t)

/-- MOVZX, MOVSX, LEA, XLAT, CBW, CWDE, CWD, CDQ and BSWAP complete with their results and leave the flags; BSWAP with
a 16-bit operand size leaves the register undefined. Rests on the spec's general-knowledge rules R1396 to R1402. -/
def Obligations.Conversions : Prop :=
  (∀ (r : Reg) (rm : Rm8) (i : Instr) (s : State) (v : BitVec (bits s.o32)),
    (i = .movzxGvEb r rm ∧ v = (s.val8 rm).setWidth (bits s.o32) ∨
      i = .movsxGvEb r rm ∧ v = (s.val8 rm).signExtend (bits s.o32)) →
    s.ready → s.lockOk false = true → s.can rm 1 .read = true →
    Completes i s fun t => Wrote s t (bits s.o32) (.reg r) v ∧ FlagsSame s t ∧ Falls s t) ∧
  (∀ (r : Reg) (rm : Rm) (i : Instr) (s : State) (v : BitVec (bits s.o32)),
    (i = .movzxGvEw r rm ∧ v = (s.val 16 rm).setWidth (bits s.o32) ∨
      i = .movsxGvEw r rm ∧ v = (s.val 16 rm).signExtend (bits s.o32)) →
    s.ready → s.lockOk false = true → s.can rm 2 .read = true →
    Completes i s fun t => Wrote s t (bits s.o32) (.reg r) v ∧ FlagsSame s t ∧ Falls s t) ∧
  (∀ (r : Reg) (m : Ea) (s : State), s.ready → s.lockOk false = true →
    Completes (.leaGvM r m) s fun t =>
      Wrote s t (bits s.o32) (.reg r) ((eaOffset s m).setWidth (bits s.o32)) ∧ FlagsSame s t ∧ Falls s t) ∧
  (∀ s : State, s.ready → s.lockOk false = true →
    let off := cutAddr s.a32 (s.r32 .ebx + zx32 (s.r8 .al))
    s.reaches (s.segOr .ds) off 1 1 .read = true →
    Completes .xlatXlatb s fun t =>
      Wrote8 s t (.reg .al) (BitVec.ofNat 8 (s.num (s.lin (s.segOr .ds) off) 1)) ∧ FlagsSame s t ∧ Falls s t) ∧
  (∀ s : State, s.ready → s.lockOk false = true →
    Completes .cbwCwde s fun t =>
      Wrote s t (bits s.o32) (.reg .eax)
        (if s.o32 then (s.r16 .eax).signExtend (bits s.o32) else (s.r8 .al).signExtend (bits s.o32)) ∧
      FlagsSame s t ∧ Falls s t) ∧
  (∀ s : State, s.ready → s.lockOk false = true →
    Completes .cwdCdq s fun t =>
      Wrote s t (bits s.o32) (.reg .edx)
        (if bit (s.r32 .eax) (bits s.o32 - 1) then BitVec.allOnes (bits s.o32) else 0) ∧
      FlagsSame s t ∧ Falls s t) ∧
  (∀ (r : Reg) (s : State), s.ready → s.lockOk false = true →
    Completes (.bswap r) s fun t => ∃ x : Word,
      (s.o32 = true → ∀ k < 8, ∀ b < 4, bit x (8 * b + k) = bit (s.r32 r) (8 * (3 - b) + k)) ∧
      Wrote s t 32 (.reg r) x ∧ FlagsSame s t ∧ Falls s t)

/-- XCHG, NOP and XADD complete: the two operands exchange their values, or the first receives the sum, with the flags
of ADD, before the second receives the old value of the first (43_general_instructions.md R806; XADD rests on the
spec's general-knowledge rule R1403). That XADD of a register with itself leaves its old value, the order of R1403 read
literally, is the model's choice (log 35, DEDUCED, unsafe). -/
def Obligations.Exchanges : Prop :=
  (∀ (rm : Rm8) (r : Reg8) (s : State), s.ready → s.lockOk (isMem rm) = true → s.can rm 1 .write = true →
    Completes (.xchgEbGb rm r) s fun t =>
      (∃ u, Wrote8 s u rm (s.r8 r) ∧ Wrote8 u t (.reg r) (s.val8 rm)) ∧ FlagsSame s t ∧ Falls s t) ∧
  (∀ (rm : Rm) (r : Reg) (s : State), s.ready → s.lockOk (isMem rm) = true → s.can rm (bytes s.o32) .write = true →
    Completes (.xchgEvGv rm r) s fun t =>
      (∃ u, Wrote s u (bits s.o32) rm ((s.r32 r).setWidth (bits s.o32)) ∧
        Wrote u t (bits s.o32) (.reg r) (s.val (bits s.o32) rm)) ∧ FlagsSame s t ∧ Falls s t) ∧
  (∀ (r : Reg) (s : State), s.ready → s.lockOk false = true →
    Completes (.xchgEAXRv r) s fun t =>
      (∃ u, Wrote s u (bits s.o32) (.reg .eax) ((s.r32 r).setWidth (bits s.o32)) ∧
        Wrote u t (bits s.o32) (.reg r) ((s.r32 .eax).setWidth (bits s.o32))) ∧ FlagsSame s t ∧ Falls s t) ∧
  (∀ s : State, s.ready → s.lockOk false = true →
    Completes .nop s fun t => Untouched s t ∧ FlagsSame s t ∧ Falls s t) ∧
  (∀ (rm : Rm8) (r : Reg8) (s : State), s.ready → s.lockOk (isMem rm) = true → s.can rm 1 .write = true →
    Completes (.xaddEbGb rm r) s fun t =>
      (∃ u, Wrote8 s u rm (s.val8 rm + s.r8 r) ∧ Wrote8 u t (.reg r) (s.val8 rm)) ∧
        t.eflags = flagsAfter s arithMask (addFlags (s.val8 rm) (s.r8 r) false).2.word ∧ Falls s t) ∧
  (∀ (rm : Rm) (r : Reg) (s : State), s.ready → s.lockOk (isMem rm) = true → s.can rm (bytes s.o32) .write = true →
    Completes (.xaddEvGv rm r) s fun t =>
      let w := bits s.o32
      let a := s.val w rm
      let b := (s.r32 r).setWidth w
      (∃ u, Wrote s u w rm (a + b) ∧ Wrote u t w (.reg r) a) ∧
        t.eflags = flagsAfter s arithMask (addFlags a b false).2.word ∧ Falls s t)

/-- CMPXCHG and CMPXCHG8B complete: where the operand equals the accumulator it receives the other register, else the
accumulator receives the operand, which keeps its value. CMPXCHG has the flags of CMP; CMPXCHG8B writes ZF alone.
Rests on the spec's general-knowledge rules R1404 and R808. -/
def Obligations.CompareExchange : Prop :=
  (∀ (rm : Rm8) (r : Reg8) (s : State), s.ready → s.lockOk (isMem rm) = true → s.can rm 1 .write = true →
    Completes (.cmpxchgEbGb rm r) s fun t =>
      (if s.r8 .al = s.val8 rm then Wrote8 s t rm (s.r8 r)
        else ∃ u, Wrote8 s u rm (s.val8 rm) ∧ Wrote8 u t (.reg .al) (s.val8 rm)) ∧
      t.eflags = flagsAfter s arithMask (subFlags (s.r8 .al) (s.val8 rm) false).2.word ∧ Falls s t) ∧
  (∀ (rm : Rm) (r : Reg) (s : State), s.ready → s.lockOk (isMem rm) = true → s.can rm (bytes s.o32) .write = true →
    Completes (.cmpxchgEvGv rm r) s fun t =>
      let w := bits s.o32
      let a := (s.r32 .eax).setWidth w
      let e := s.val w rm
      (if a = e then Wrote s t w rm ((s.r32 r).setWidth w)
        else ∃ u, Wrote s u w rm e ∧ Wrote u t w (.reg .eax) e) ∧
      t.eflags = flagsAfter s arithMask (subFlags a e false).2.word ∧ Falls s t) ∧
  (∀ (m : Ea) (s : State), s.ready → s.lockOk true = true → s.can (.mem m : Rm) 8 .write = true →
    Completes (.cmpxchg8bMq m) s fun t =>
      let x := BitVec.ofNat 64 (s.num (s.ea m) 8)
      let same := decide (x = s.r32 .edx ++ s.r32 .eax)
      (if same then t.gpr = s.gpr ∧ Stored s t (s.ea m) 8 (s.r32 .ecx ++ s.r32 .ebx : BitVec 64).toNat
        else t.gpr = ((s.setR32 .edx (field x 32 32)).setR32 .eax (field x 0 32)).gpr ∧
          Stored s t (s.ea m) 8 x.toNat) ∧
      t.eflags = flagsAfter s 0x40#32 (if same then 0x40#32 else 0) ∧ Falls s t)

/-- SETcc writes 1 or 0, CMOVcc copies its operand or leaves the register, by the condition, and the flags stay. The
memory operand of CMOVcc is read in both cases. Rests on the spec's general-knowledge rules R1405 and R1406. That CMOVcc
runs at all is the model's choice (log 22, DESIGN CHOICE: P6_NEW_OPCODES is on; with it off 31_opcode_map.md R550 and R1406
give #UD). -/
def Obligations.Conditional : Prop :=
  (∀ (c : Cond) (rm : Rm8) (s : State), s.ready → s.lockOk false = true → s.can rm 1 .write = true →
    Completes (.setccEb c rm) s fun t =>
      Wrote8 s t rm (if s.cond c then 1 else 0) ∧ FlagsSame s t ∧ Falls s t) ∧
  (∀ (c : Cond) (r : Reg) (rm : Rm) (s : State), s.ready → s.lockOk false = true →
    s.can rm (bytes s.o32) .read = true →
    Completes (.cmovccGvEv c r rm) s fun t =>
      (if s.cond c then Wrote s t (bits s.o32) (.reg r) (s.val (bits s.o32) rm) else Untouched s t) ∧
        FlagsSame s t ∧ Falls s t)

namespace Sys2Proof.Machine

/-- A bit-test instruction with its index in a register. -/
noncomputable def bitInsR (op : BitOp) (rm : Rm) (r : Reg) : Instr :=
  match op with
  | .bt => .btEvGv rm r
  | .bts => .btsEvGv rm r
  | .btr => .btrEvGv rm r
  | .btc => .btcEvGv rm r

/-- A bit-test instruction with an immediate index. -/
noncomputable def bitInsI (op : BitOp) (rm : Rm) (k : Byte) : Instr :=
  match op with
  | .bt => .btEvIb rm k
  | .bts => .btsEvIb rm k
  | .btr => .btrEvIb rm k
  | .btc => .btcEvIb rm k

/-- The item after a bit-test instruction on its bit `i`. -/
def bitRule {w : Nat} (op : BitOp) (x : BitVec w) (i : Nat) : BitVec w :=
  match op with
  | .bt => x
  | .bts => x ||| BitVec.twoPow w i
  | .btr => x &&& ~~~BitVec.twoPow w i
  | .btc => x ^^^ BitVec.twoPow w i

/-- `k` is the place of the lowest (`low`) or highest bit of `x` that is 1. -/
def isScan {w : Nat} (low : Bool) (x : BitVec w) (k : Nat) : Prop :=
  k < w ∧ bit x k = true ∧ ∀ j < w, (if low then j < k else k < j) → bit x j = false

/-- The flag that CLI and STI act on, IF (9) or VIF (19); none where they raise #GP(0). -/
def iflagTarget (s : State) : Option Nat :=
  if !s.prot then some 9
  else if !s.flag fVM then
    if s.cpl ≤ s.iopl then some 9 else if bit s.sys.cr4 1 && decide (s.cpl = 3) then some 19 else none
  else if s.iopl = 3 then some 9
  else if bit s.sys.cr4 0 then some 19
  else none

end Sys2Proof.Machine

/-- BT, BTS, BTR and BTC complete: CF receives the selected bit, ZF stays, OF, SF, AF and PF are undefined, the item
has the bit set, cleared or complemented. With a memory operand and a register index the index is signed and selects
the item. Rests on the spec's general-knowledge rules R1410 to R1413. -/
def Sys2Proof.Machine.TestsBits : Prop :=
  (∀ (op : BitOp) (rm : Rm) (k : Byte) (s : State), s.ready → s.lockOk (op.writes && isMem rm) = true →
    s.can rm (bytes s.o32) (if op.writes then .write else .read) = true →
    Completes (bitInsI op rm k) s fun t => ∃ f : Word,
      let w := bits s.o32
      let x := s.val w rm
      let i := k.toNat % w
      (if op.writes then Wrote s t w rm (bitRule op x i) else Untouched s t) ∧
        t.eflags = flagsAfter s 0x895#32 (setBit f fCF (bit x i)) ∧ Falls s t) ∧
  (∀ (op : BitOp) (d r : Reg) (s : State), s.ready → s.lockOk false = true →
    Completes (bitInsR op (.reg d) r) s fun t => ∃ f : Word,
      let w := bits s.o32
      let x := (s.r32 d).setWidth w
      let i := (s.r32 r).toNat % w
      (if op.writes then Wrote s t w (.reg d) (bitRule op x i) else Untouched s t) ∧
        t.eflags = flagsAfter s 0x895#32 (setBit f fCF (bit x i)) ∧ Falls s t) ∧
  (∀ (op : BitOp) (m : Ea) (r : Reg) (s : State), s.ready → s.lockOk op.writes = true →
    let w := bits s.o32
    let n := bytes s.o32
    let index := ((s.r32 r).setWidth w).toInt
    let off := eaMoved s m (BitVec.ofInt 32 (index / w * n))
    let a := s.lin (eaSeg s m) off
    s.reaches (eaSeg s m) off n n (if op.writes then .write else .read) = true →
    Completes (bitInsR op (.mem m) r) s fun t => ∃ f : Word,
      let x := BitVec.ofNat w (s.num a n)
      let i := (s.r32 r).toNat % w
      t.gpr = s.gpr ∧ (if op.writes then Stored s t a n (bitRule op x i).toNat else MemSame s t) ∧
        t.eflags = flagsAfter s 0x895#32 (setBit f fCF (bit x i)) ∧ Falls s t)

/-- BSF and BSR complete: ZF says that the operand is 0 and then the register stays, else the register receives the
place of the lowest or highest 1 bit; the other flags are undefined. Rests on the spec's general-knowledge rules R1414
and R1415. -/
def Sys2Proof.Machine.ScansBits : Prop :=
  ∀ (low : Bool) (r : Reg) (rm : Rm) (s : State), s.ready → s.lockOk false = true →
    s.can rm (bytes s.o32) .read = true →
    Completes (if low then .bsfGvEv r rm else .bsrGvEv r rm) s fun t => ∃ f : Word,
      let w := bits s.o32
      let x := s.val w rm
      (if x = 0 then Untouched s t else ∃ k, isScan low x k ∧ Wrote s t w (.reg r) (BitVec.ofNat w k)) ∧
        t.eflags = flagsAfter s arithMask (setBit f fZF (decide (x = 0))) ∧ Falls s t

/-- LAHF, SAHF, CLC, STC, CMC, CLD and STD complete, each with its one effect. Rests on the spec's general-knowledge
rules R1420 to R1426. -/
def Sys2Proof.Machine.MovesFlags : Prop :=
  (∀ s : State, s.ready → s.lockOk false = true →
    Completes .lahf s fun t =>
      Wrote8 s t (.reg .ah) ((s.eflags.setWidth 8 &&& 0xD5#8) ||| 2#8) ∧ FlagsSame s t ∧ Falls s t) ∧
  (∀ s : State, s.ready → s.lockOk false = true →
    Completes .sahf s fun t =>
      Untouched s t ∧ t.eflags = flagsAfter s 0xD5#32 ((s.r8 .ah).setWidth 32) ∧ Falls s t) ∧
  (∀ (i : Instr) (k : Nat) (b : Bool) (s : State),
    (i = .clc ∧ k = 0 ∧ b = false ∨ i = .stc ∧ k = 0 ∧ b = true ∨ i = .cmc ∧ k = 0 ∧ b = !s.flag fCF ∨
      i = .cld ∧ k = 10 ∧ b = false ∨ i = .std ∧ k = 10 ∧ b = true) →
    s.ready → s.lockOk false = true →
    Completes i s fun t => Untouched s t ∧ t.eflags = setBit (setBit s.eflags k b) fRF false ∧ Falls s t)

/-- CLI and STI act on IF where CPL is at most IOPL, outside protected mode, or in virtual-8086 mode with IOPL 3; on
VIF where CR4.PVI or CR4.VME gives it to them; elsewhere they raise #GP(0), as STI does on VIF while VIP is set
(43_general_instructions.md R791). An STI that sets IF holds maskable interrupts for one instruction, unless an STI before
it does (60_exceptions.md R838): the manual does not state the delay, and that there is one and that it is not renewed is
the spec's own decision D12, as R838 says (log 45). -/
def Sys2Proof.Machine.SetsInterruptFlag : Prop :=
  (∀ (k : Nat) (s : State), s.ready → s.lockOk false = true → iflagTarget s = some k →
    Completes .cli s fun t =>
      Untouched s t ∧ t.eflags = setBit (setBit s.eflags k false) fRF false ∧ Falls s t) ∧
  (∀ (k : Nat) (s : State), s.ready → s.lockOk false = true → iflagTarget s = some k →
    (k = 19 → s.flag fVIP = false) →
    Completes .sti s fun t =>
      Untouched s t ∧ t.eflags = setBit (setBit s.eflags k true) fRF false ∧ Falls s t ∧
        t.lat.stiShadow = (decide (k = 9) && !s.flag fIF && !s.lat.stiShadow) ∧ t.lat.inhibit = false) ∧
  (∀ s : State, s.lockOk false = true → iflagTarget s = none →
    Raises .cli s 13 (some 0) ∧ Raises .sti s 13 (some 0)) ∧
  (∀ s : State, s.lockOk false = true → iflagTarget s = some 19 → s.flag fVIP = true → Raises .sti s 13 (some 0))

namespace Sys2Proof.Machine

/-- What PUSH of a register, an immediate or a segment register pushes. -/
inductive PushSrc where
  | reg (r : Reg)
  | iv (k : Word)
  | ib (k : Byte)
  | seg (r : SegReg)

/-- The instruction. -/
noncomputable def PushSrc.instr : PushSrc → Instr
  | .reg r => .pushRv r
  | .iv k => .pushIv k
  | .ib k => .pushIb k
  | .seg .es => .pushEs
  | .seg .cs => .pushCs
  | .seg .ss => .pushSs
  | .seg .ds => .pushDs
  | .seg .fs => .pushFs
  | .seg .gs => .pushGs

/-- The value, at `w` bits: an immediate byte sign-extended, a selector zero-extended. -/
def PushSrc.value (s : State) (w : Nat) : PushSrc → BitVec w
  | .reg r => (s.r32 r).setWidth w
  | .iv k => k.setWidth w
  | .ib k => k.signExtend w
  | .seg r => (s.seg.get r).sel.setWidth w

/-- Items of `n` bytes pushed one after another. -/
def PushedAll (n : Nat) : List Nat → State → State → Prop
  | [], s, t => Untouched s t ∧ t.seg = s.seg
  | v :: vs, s, t => ∃ u, Pushed s u n v ∧ PushedAll n vs u t

/-- `k` items of `n` bytes can be pushed one after another. -/
def canPushAll (n : Nat) : Nat → State → Bool
  | 0, _ => true
  | k + 1, s => s.canPush n && canPushAll n k (s.setSp (s.pushOff n))

/-- The offset of the frame pointer `k` levels below the one that EBP points to. -/
def State.frameOff (s : State) (n k : Nat) : Word := s.seg.ss.cutSp (s.r32 .ebp - BitVec.ofNat 32 (n * k))

/-- ENTER has copied the frame pointers of the levels `j + 1` to `j + k` of the frame of `s0`, from `s` on. -/
def CopiedFrames (s0 : State) (n : Nat) : Nat → Nat → State → State → Prop
  | _, 0, s, t => Untouched s t ∧ t.seg = s.seg
  | j, k + 1, s, t =>
    ∃ u, Pushed s u n (s.num (s0.lin .ss (s0.frameOff n (j + 1))) n) ∧ CopiedFrames s0 n (j + 1) k u t

/-- Those frame pointers can be read. -/
def canReadFrames (s : State) (n : Nat) : Nat → Bool
  | 0 => true
  | k + 1 => s.reaches .ss (s.frameOff n (k + 1)) n n .read && canReadFrames s n k

/-- What PUSHF pushes: in virtual-8086 mode with IOPL below 3 the image of the virtual flags, or none if #GP(0) is
raised. -/
def pushfValue (s : State) : Option Nat :=
  if s.prot && s.flag fVM && decide (s.iopl ≠ 3) then
    if bit s.sys.cr4 0 && !s.o32 then
      some ((setBit (s.eflags.setWidth 16 : Half) 9 (s.flag fVIF)) ||| 0x3000#16).toNat
    else none
  else some (if s.o32 then s.eflags &&& 0x00FCFFFF#32 else s.eflags &&& 0xFFFF#32).toNat

/-- The flags POPF writes where IOPL does not forbid the instruction: IF only if CPL is at most IOPL or outside
protected mode, IOPL only at level 0 outside virtual-8086 mode, AC and ID only with a 32-bit operand. -/
def popfWrites (s : State) : Word :=
  0x4DD5#32 ||| (if s.o32 then 0x240000#32 else 0) |||
    (if !s.prot || decide (s.cpl ≤ s.iopl) then 0x200#32 else 0) |||
    (if !s.prot || (!s.flag fVM && decide (s.cpl = 0)) then 0x3000#32 else 0)

end Sys2Proof.Machine

/-- PUSH of a register, an immediate, a segment register or an E operand completes: the item lies at the new top of the
stack, ESP moves down by its size (43_general_instructions.md R780), and nothing else changes. PUSH ESP pushes the
value before. -/
def Obligations.Pushes : Prop :=
  (∀ (p : PushSrc) (s : State), s.ready → s.lockOk false = true → s.canPush (bytes s.o32) = true →
    Completes p.instr s fun t =>
      Pushed s t (bytes s.o32) (p.value s (bits s.o32)).toNat ∧ FlagsSame s t ∧ Falls s t) ∧
  (∀ (rm : Rm) (s : State), s.ready → s.lockOk false = true → s.canPush (bytes s.o32) = true →
    s.can rm (bytes s.o32) .read = true →
    Completes (.pushEv rm) s fun t =>
      Pushed s t (bytes s.o32) (s.val (bits s.o32) rm).toNat ∧ FlagsSame s t ∧ Falls s t)

/-- POP of a register or of an E operand completes: ESP moves up first (43_general_instructions.md R780, R781), so that
POP ESP leaves the popped value and a memory operand that uses ESP is addressed with the new one. -/
def Obligations.Pops : Prop :=
  (∀ (r : Reg) (s : State), s.ready → s.lockOk false = true → s.canPop 0 (bytes s.o32) = true →
    Completes (.popRv r) s fun t =>
      Wrote (s.setSp (s.popOff (bytes s.o32))) t (bits s.o32) (.reg r) (BitVec.ofNat _ (s.item 0 (bytes s.o32))) ∧
        FlagsSame s t ∧ Falls s t) ∧
  (∀ (rm : Rm) (s : State), s.ready → s.lockOk false = true → s.canPop 0 (bytes s.o32) = true →
    (s.setSp (s.popOff (bytes s.o32))).can rm (bytes s.o32) .write = true →
    Completes (.popEv rm) s fun t =>
      Wrote (s.setSp (s.popOff (bytes s.o32))) t (bits s.o32) rm (BitVec.ofNat _ (s.item 0 (bytes s.o32))) ∧
        FlagsSame s t ∧ Falls s t)

/-- PUSHA pushes the eight registers in order, with the ESP of before at the operand size; POPA takes seven of them back and discards one.
Both complete. Rests on the spec's general-knowledge rule R782. -/
def Obligations.PushPopAll : Prop :=
  (∀ s : State, s.ready → s.lockOk false = true → canPushAll (bytes s.o32) 8 s = true →
    Completes .pushaPushad s fun t =>
      PushedAll (bytes s.o32)
        [(s.r32 .eax).toNat, (s.r32 .ecx).toNat, (s.r32 .edx).toNat, (s.r32 .ebx).toNat, (s.r32 .esp).toNat,
          (s.r32 .ebp).toNat, (s.r32 .esi).toNat, (s.r32 .edi).toNat] s t ∧
        FlagsSame s t ∧ Falls s t) ∧
  (∀ s : State, s.ready → s.lockOk false = true → (∀ k < 8, s.canPop (bytes s.o32 * k) (bytes s.o32) = true) →
    Completes .popaPopad s fun t =>
      let w := bits s.o32
      let n := bytes s.o32
      let v := fun k => BitVec.ofNat w (s.item (n * k) n)
      t.gpr = ((((((((s.setSp (s.popOff (n * 8))).setRw w .edi (v 0)).setRw w .esi (v 1)).setRw w .ebp (v 2)).setRw w
        .ebx (v 4)).setRw w .edx (v 5)).setRw w .ecx (v 6)).setRw w .eax (v 7)).gpr ∧
      MemSame s t ∧ FlagsSame s t ∧ Falls s t)

/-- ENTER and LEAVE complete. ENTER pushes EBP, copies the frame pointers of the enclosing levels, pushes the new frame
pointer if the level is not 0, sets EBP to it and lowers ESP by the size; the new top must be writable. LEAVE undoes
it. Rests on the spec's general-knowledge rule R783. That EBP[31:16] stays as it was with a 16-bit operand on a 32-bit stack and
a level of 2 or more, where R783 can be read to leave a borrow there, is the model's choice (log 57, DESIGN CHOICE). That
LEAVE with a 16-bit operand on a 32-bit stack loads ESP from all of EBP, where R783 can be read to take BP alone, is the
model's choice too (log 57, DESIGN CHOICE). -/
def Obligations.Frames : Prop :=
  (∀ (size : Half) (level : Byte) (s : State), s.ready → s.lockOk false = true →
    let n := bytes s.o32
    let w := bits s.o32
    let k := level.toNat % 32
    let f := (s.setSp (s.pushOff n)).sp
    let low := s.seg.ss.cutSp (s.sp - BitVec.ofNat 32 (n * (k + 1)) - zx32 size)
    canPushAll n (k + 1) s = true → canReadFrames s n (k - 1) = true → s.reaches .ss low n 1 .write = true →
    Completes (.enterIwIb size level) s fun t => ∃ u v x : State,
      Pushed s u n ((s.r32 .ebp).setWidth w).toNat ∧ CopiedFrames s n 0 (k - 1) u v ∧
        (if 0 < k then Pushed v x n f.toNat else Untouched v x ∧ x.seg = v.seg) ∧
        Untouched ((x.setRw w .ebp (f.setWidth w)).setSp low) t ∧ FlagsSame s t ∧ Falls s t) ∧
  (∀ s : State, s.ready → s.lockOk false = true →
    let u := s.setSp (s.r32 .ebp)
    u.canPop 0 (bytes s.o32) = true →
    Completes .leave s fun t =>
      Wrote (u.setSp (u.popOff (bytes s.o32))) t (bits s.o32) (.reg .ebp)
        (BitVec.ofNat _ (u.item 0 (bytes s.o32))) ∧ FlagsSame s t ∧ Falls s t)

/-- PUSHF and POPF complete: PUSHF stores the flags with VM and RF clear, POPF writes those its mode allows, and in
virtual-8086 mode with IOPL below 3 they work on VIF if CR4.VME is set and the operand has 16 bits, else raise #GP(0)
(43_general_instructions.md R790; what POPF writes rests on general knowledge there). -/
def Obligations.FlagStack : Prop :=
  (∀ (v : Nat) (s : State), s.ready → s.lockOk false = true → pushfValue s = some v →
    s.canPush (bytes s.o32) = true →
    Completes .pushfPushfd s fun t => Pushed s t (bytes s.o32) v ∧ FlagsSame s t ∧ Falls s t) ∧
  (∀ s : State, s.lockOk false = true → pushfValue s = none →
    Raises .pushfPushfd s 13 (some 0) ∧ Raises .popfPopfd s 13 (some 0)) ∧
  (∀ s : State, s.ready → s.lockOk false = true → s.canPop 0 (bytes s.o32) = true →
    (s.prot && s.flag fVM && decide (s.iopl ≠ 3)) = false →
    Completes .popfPopfd s fun t =>
      t.gpr = (s.setSp (s.popOff (bytes s.o32))).gpr ∧ MemSame s t ∧
        t.eflags = flagsAfter s (popfWrites s) (BitVec.ofNat 32 (s.item 0 (bytes s.o32))) ∧ Falls s t) ∧
  (∀ s : State, s.ready → s.lockOk false = true → s.canPop 0 2 = true →
    (s.prot && s.flag fVM && decide (s.iopl ≠ 3)) = true → bit s.sys.cr4 0 = true → s.o32 = false →
    let f := BitVec.ofNat 32 (s.item 0 2)
    bit f fTF = false → (bit f fIF && s.flag fVIP) = false →
    Completes .popfPopfd s fun t =>
      t.gpr = (s.setSp (s.popOff 2)).gpr ∧ MemSame s t ∧
        t.eflags = setBit (setBit (blend 0x4DD5#32 s.eflags f) fVIF (bit f fIF)) fRF false ∧ Falls s t)

namespace Sys2Proof.Machine

/-- Where the descriptor of a selector lies and what it is, if it is inside its table and in plain memory
(21_segmentation.md R301). -/
def State.descriptor (s : State) (sel : Half) : Option (Nat × Desc) :=
  match s.descAddr sel with
  | none => none
  | some a =>
    if s.plain && decide (a.toNat + 8 ≤ 0xFEE00000) then some (a.toNat, BitVec.ofNat 64 (s.num a.toNat 8)) else none

/-- The place of the accessed flag, if a load has to set it (21_segmentation.md R297). -/
def accessedByte (a : Nat) (d : Desc) : Option Nat := if descS d && !bit d 40 then some (a + 5) else none

/-- A descriptor that may be loaded into DS, ES, FS or GS at level `cpl` (23_protection.md R420). -/
def dataLoadable (sel : Half) (d : Desc) (cpl : BitVec 2) : Bool :=
  isReadable (descS d) (descType d) &&
    (descConforming d || (decide (cpl ≤ descDpl d) && decide (rpl sel ≤ descDpl d))) && descP d

/-- A descriptor that may be loaded into SS at level `cpl` (23_protection.md R421). -/
def stackLoadable (sel : Half) (d : Desc) (cpl : BitVec 2) : Bool :=
  decide (rpl sel = cpl) && isWritable (descS d) (descType d) && decide (descDpl d = cpl) && descP d

/-- What a load of segment register `r` puts into it, and the accessed flag it sets in memory; none where this load
does not complete or its descriptor is not in plain memory (43_general_instructions.md R785). -/
def State.segLoad (s : State) (r : SegReg) (sel : Half) : Option (Seg × Option Nat) :=
  if !s.prot then some ((s.seg.get r).real sel, none)
  else if s.flag fVM then some (Seg.v86 sel, none)
  else if isNull sel then if r = .ss then none else some ((s.seg.get r).nulled sel, none)
  else
    match s.descriptor sel with
    | none => none
    | some (a, d) =>
      if r = .ss then if stackLoadable sel d s.cpl then some (Seg.ofDesc sel d, accessedByte a d) else none
      else if dataLoadable sel d s.cpl then some (Seg.ofDesc sel d, accessedByte a d) else none

/-- Memory after the accessed flag of a descriptor has been set, if it had to be. -/
def Accessed (s t : State) : Option Nat → Prop
  | none => MemSame s t
  | some a => Stored s t a 1 (s.num a 1 ||| 1)

/-- Segment register `r` has been loaded with `g`, the accessed flag set, EIP is at the next instruction; of the rest
only general registers and EFLAGS may have changed. `inhibits`: a load of SS by MOV or POP inhibits interrupts for one
instruction, unless one before it did (60_exceptions.md R837). -/
def SegLoaded (s t : State) (r : SegReg) (g : Seg × Option Nat) (inhibits : Bool) : Prop :=
  t.seg = s.seg.set r g.1 ∧ Accessed s t g.2 ∧ t.eip = s.nextEip ∧ QuietButSeg s t ∧
    t.lat.inhibit = (inhibits && decide (r = .ss) && !s.lat.inhibit) ∧ t.lat.stiShadow = false

/-- POP of a segment register. -/
noncomputable def popSegIns : SegReg → Option Instr
  | .es => some .popEs
  | .ss => some .popSs
  | .ds => some .popDs
  | .fs => some .popFs
  | .gs => some .popGs
  | .cs => none

/-- The load of a far pointer. -/
noncomputable def farLoadIns (r : Reg) (m : Ea) : SegReg → Option Instr
  | .es => some (.lesGvMp r m)
  | .ds => some (.ldsGvMp r m)
  | .ss => some (.lssGvMp r m)
  | .fs => some (.lfsGvMp r m)
  | .gs => some (.lgsGvMp r m)
  | .cs => none

end Sys2Proof.Machine

/-- MOV to a segment register, POP of one, and LES, LDS, LSS, LFS and LGS complete with the register loaded as its mode
says: selector and base in real-address mode, the fixed attributes in virtual-8086 mode, a null selector or the
descriptor, with its accessed flag set, in protected mode (43_general_instructions.md R785, R786, R788). MOV and POP of SS
inhibit interrupts until the next instruction has completed (60_exceptions.md R837); that a second such load does not renew
the inhibit is the spec's own decision D12, as R837 says (log 45). -/
def Sys2Proof.Machine.LoadsSegment : Prop :=
  (∀ (r : SegReg) (rm : Rm) (g : Seg × Option Nat) (s : State), s.ready → s.lockOk false = true → r ≠ .cs →
    s.can rm 2 .read = true → s.segLoad r (s.val 16 rm) = some g →
    Completes (.movSwEw r rm) s fun t => t.gpr = s.gpr ∧ SegLoaded s t r g true ∧ FlagsSame s t) ∧
  (∀ (r : SegReg) (i : Instr) (g : Seg × Option Nat) (s : State), s.ready → s.lockOk false = true →
    popSegIns r = some i → s.canPop 0 (bytes s.o32) = true →
    s.segLoad r (BitVec.ofNat 16 (s.item 0 (bytes s.o32))) = some g →
    Completes i s fun t =>
      t.gpr = (s.setSp (s.popOff (bytes s.o32))).gpr ∧ SegLoaded s t r g true ∧ FlagsSame s t) ∧
  (∀ (sr : SegReg) (r : Reg) (m : Ea) (i : Instr) (g : Seg × Option Nat) (s : State), s.ready →
    s.lockOk false = true → farLoadIns r m sr = some i →
    let n := bytes s.o32
    let off2 := eaPlus s m (BitVec.ofNat 32 n)
    eaFits s m (BitVec.ofNat 32 n) = true →
    s.reaches (eaSeg s m) (eaPlus s m 0) n n .read = true → s.reaches (eaSeg s m) off2 2 2 .read = true →
    s.segLoad sr (BitVec.ofNat 16 (s.num (s.lin (eaSeg s m) off2) 2)) = some g →
    Completes i s fun t =>
      t.gpr = (s.setRw (bits s.o32) r (BitVec.ofNat _ (s.num (s.lin (eaSeg s m) (eaPlus s m 0)) n))).gpr ∧
        SegLoaded s t sr g false ∧ FlagsSame s t)

/-- MOV from a segment register completes: memory receives the 16-bit selector, a register the selector at the operand
size, zero-extended. MOV to CS raises #UD. Rests on general knowledge in 43_general_instructions.md R785. -/
def Obligations.SegmentStores : Prop :=
  (∀ (r : SegReg) (d : Reg) (s : State), s.ready → s.lockOk false = true →
    Completes (.movEwSw (.reg d) r) s fun t =>
      Wrote s t (bits s.o32) (.reg d) ((s.seg.get r).sel.setWidth _) ∧ FlagsSame s t ∧ Falls s t) ∧
  (∀ (r : SegReg) (m : Ea) (s : State), s.ready → s.lockOk false = true → s.can (.mem m : Rm) 2 .write = true →
    Completes (.movEwSw (.mem m) r) s fun t =>
      t.gpr = s.gpr ∧ Stored s t (s.ea m) 2 (s.seg.get r).sel.toNat ∧ FlagsSame s t ∧ Falls s t) ∧
  (∀ (rm : Rm) (s : State), Raises (.movSwEw .cs rm) s 6 none)

/-- The checks of a segment load that fails in protected mode, each with its exception: SS with a null selector, with
a selector outside its table, with an RPL or a DPL that is not CPL, or not writable, raises #GP; SS not present raises
#SS; the data segment registers raise #GP and #NP (23_protection.md R420, R421). That the register is then as it was, also where
the segment is not present, is the spec's own decision D23 (23_protection.md R426, 43_general_instructions.md R785,
90_conflicts.md C54; log 45). -/
def Sys2Proof.Machine.LoadsSegmentFaults : Prop :=
  ∀ (r : SegReg) (rm : Rm) (s : State), s.lockOk false = true → r ≠ .cs → s.can rm 2 .read = true → s.prot = true →
    s.flag fVM = false →
    let sel := s.val 16 rm
    (isNull sel = true → r = .ss → Raises (.movSwEw r rm) s 13 (some 0)) ∧
    (isNull sel = false → s.descAddr sel = none → Raises (.movSwEw r rm) s 13 (some (sel &&& 0xFFFC#16))) ∧
    (∀ (a : Nat) (d : Desc), isNull sel = false → s.descriptor sel = some (a, d) →
      (r = .ss → (rpl sel ≠ s.cpl ∨ isWritable (descS d) (descType d) = false ∨ descDpl d ≠ s.cpl) →
        Raises (.movSwEw r rm) s 13 (some (sel &&& 0xFFFC#16))) ∧
      (r = .ss → stackLoadable sel (d ||| 0x800000000000#64) s.cpl = true → descP d = false →
        Raises (.movSwEw r rm) s 12 (some (sel &&& 0xFFFC#16))) ∧
      (r ≠ .ss → dataLoadable sel (d ||| 0x800000000000#64) s.cpl = false →
        Raises (.movSwEw r rm) s 13 (some (sel &&& 0xFFFC#16))) ∧
      (r ≠ .ss → dataLoadable sel (d ||| 0x800000000000#64) s.cpl = true → descP d = false →
        Raises (.movSwEw r rm) s 11 (some (sel &&& 0xFFFC#16))))

namespace Sys2Proof.Machine

/-- The processor's own access to `n` bytes at a linear address finds plain memory. -/
def State.plainAt (s : State) (a : Word) (n : Nat) : Bool := s.plain && decide (a.toNat + n ≤ 0xFEE00000)

/-- An I/O access of `n` bytes at a port is allowed: by the mode, by IOPL, or by the permission bit map, which lies in
plain memory (23_protection.md R435, R436). -/
def State.ioAllowed (s : State) (port n : Nat) : Bool :=
  if s.prot && (s.flag fVM || decide (s.iopl < s.cpl)) then
    let tr := s.sys.tr
    let o := s.num (tr.base + 102).toNat 2 + port / 8
    let a := tr.base + BitVec.ofNat 32 o
    decide (tr.type ≠ 1) && decide (tr.type ≠ 3) && decide (103 ≤ tr.limit.toNat) && s.plainAt (tr.base + 102) 2 &&
      decide (o + 1 ≤ tr.limit.toNat) && s.plainAt a 2 && decide (s.num a.toNat 2 / 2 ^ (port % 8) % 2 ^ n = 0)
  else true

/-- An I/O access of `n` bytes at a port is denied by IOPL and the permission bit map: there is none, it has no room
for the port, or one of the bits is set (23_protection.md R436). -/
def State.ioDenied (s : State) (port n : Nat) : Bool :=
  let tr := s.sys.tr
  let o := s.num (tr.base + 102).toNat 2 + port / 8
  let a := tr.base + BitVec.ofNat 32 o
  s.prot && (s.flag fVM || decide (s.iopl < s.cpl)) &&
    (decide (tr.type = 1) || decide (tr.type = 3) || decide (tr.limit.toNat < 103) ||
      (s.plainAt (tr.base + 102) 2 && (decide (tr.limit.toNat < o + 1) ||
        (s.plainAt a 2 && decide (s.num a.toNat 2 / 2 ^ (port % 8) % 2 ^ n ≠ 0)))))

/-- The string instructions. -/
inductive StrOp where
  | movs | cmps | stos | lods | scas | ins | outs

/-- The instruction: of bytes, or of words and doublewords. -/
noncomputable def StrOp.instr (op : StrOp) (byte : Bool) : Instr :=
  match op, byte with
  | .movs, true => .movsbYbXb
  | .movs, false => .movswMovsdYvXv
  | .cmps, true => .cmpsbXbYb
  | .cmps, false => .cmpswCmpsdXvYv
  | .stos, true => .stosbYbAL
  | .stos, false => .stoswStosdYveAX
  | .lods, true => .lodsbALXb
  | .lods, false => .lodswLodsdeAXXv
  | .scas, true => .scasbALYb
  | .scas, false => .scaswScasdeAXYv
  | .ins, true => .insbYbDX
  | .ins, false => .inswInsdYvDX
  | .outs, true => .outsbDXXb
  | .outs, false => .outswOutsdDXXv

/-- The width of an item. -/
def State.strBits (s : State) (byte : Bool) : Nat := if byte then 8 else bits s.o32

/-- The step of an index register: the size of an item, down if DF is set. -/
def State.strStep (s : State) (w : Nat) : Word :=
  if s.flag fDF then -(BitVec.ofNat 32 (w / 8)) else BitVec.ofNat 32 (w / 8)

/-- The address of the source item, DS or its override and eSI. -/
def State.strFrom (s : State) : Nat := s.lin (s.segOr .ds) (s.aReg .esi)

/-- The address of the destination item, ES and eDI. -/
def State.strTo (s : State) : Nat := s.lin .es (s.aReg .edi)

/-- The accumulator at a width. -/
def State.strAcc (s : State) (w : Nat) : BitVec w :=
  if w = 8 then (s.r8 .al).setWidth w else (s.r32 .eax).setWidth w

/-- The accesses of one iteration pass their checks. -/
def strOk (op : StrOp) (w : Nat) (s : State) : Bool :=
  let n := w / 8
  let src := s.reaches (s.segOr .ds) (s.aReg .esi) n n .read
  let dst := fun k => s.reaches .es (s.aReg .edi) n n k
  let port := s.ioAllowed (s.r16 .edx).toNat n
  match op with
  | .movs => src && dst .write
  | .cmps => src && dst .read
  | .stos => dst .write
  | .lods => src
  | .scas => dst .read
  | .ins => port && dst .write
  | .outs => port && src

/-- The general registers after one iteration. -/
def strGpr (op : StrOp) (w : Nat) (s : State) : Gprs :=
  let d := s.strStep w
  match op with
  | .movs => ((s.addA .esi d).addA .edi d).gpr
  | .cmps => ((s.addA .esi d).addA .edi d).gpr
  | .stos => (s.addA .edi d).gpr
  | .lods =>
    let v := s.num s.strFrom (w / 8)
    ((if w = 8 then s.setR8 .al (BitVec.ofNat 8 v) else s.setRw w .eax (BitVec.ofNat w v)).addA .esi d).gpr
  | .scas => (s.addA .edi d).gpr
  | .ins => (s.addA .edi d).gpr
  | .outs => (s.addA .esi d).gpr

/-- EFLAGS after one iteration. -/
def strFlags (op : StrOp) (w : Nat) (s : State) : Word :=
  let a : BitVec w := BitVec.ofNat w (s.num s.strFrom (w / 8))
  let b : BitVec w := BitVec.ofNat w (s.num s.strTo (w / 8))
  match op with
  | .cmps => blend arithMask s.eflags (subFlags a b false).2.word
  | .scas => blend arithMask s.eflags (subFlags (s.strAcc w) b false).2.word
  | _ => s.eflags

/-- Memory after one iteration; `v` is what a port has answered. -/
def strMem (op : StrOp) (w : Nat) (s t : State) (v : BitVec w) : Prop :=
  match op with
  | .movs => Stored s t s.strTo (w / 8) (s.num s.strFrom (w / 8))
  | .stos => Stored s t s.strTo (w / 8) (s.strAcc w).toNat
  | .ins => Stored s t s.strTo (w / 8) v.toNat
  | _ => MemSame s t

/-- What one iteration sends out. -/
def strBus (op : StrOp) (w : Nat) (s : State) : List BusMsg :=
  let p := (s.r16 .edx).toNat
  match op with
  | .ins => .ioRead p (w / 8) :: s.bus
  | .outs => .ioWrite p (w / 8) (BitVec.ofNat 32 (s.num s.strFrom (w / 8))) :: s.bus
  | _ => s.bus

/-- A repeated CMPS or SCAS ends by ZF: at ZF 0 under REPE, at ZF 1 under REPNE. -/
def strEnds (op : StrOp) (p : Rep) (f : Word) : Bool :=
  match op with
  | .cmps | .scas => (if p = .e then !bit f fZF else bit f fZF)
  | _ => false

/-- The general registers with eCX counted down. -/
def countedDown (s : State) (g : Gprs) : Gprs := (({ s with gpr := g } : State).addA .ecx (-1)).gpr

end Sys2Proof.Machine

/-- A string instruction without a repeat prefix completes with its one iteration. Rests on the spec's
general-knowledge semantics in 43_general_instructions.md R796 and R801 to R805. -/
def Obligations.Strings : Prop :=
  ∀ (op : StrOp) (byte : Bool) (s : State), s.ready → s.lockOk false = true → s.ins.rep = none →
    strOk op (s.strBits byte) s = true →
    Completes (op.instr byte) s fun t => ∃ v,
      let w := s.strBits byte
      t.gpr = strGpr op w s ∧ strMem op w s t v ∧ t.eflags = setBit (strFlags op w s) fRF false ∧
        Falls { s with bus := strBus op w s } t

/-- A repeated string instruction whose count is 0 completes without an iteration; else one step makes one iteration,
counts eCX down and, unless the count has reached 0 or CMPS or SCAS ends by ZF, stays at the instruction, so that an
interrupt is taken between iterations (43_general_instructions.md R800). That the live RF stays as it is meanwhile is the
model's choice (log 33: R800 speaks of the pushed image). -/
def Obligations.RepeatedStrings : Prop :=
  (∀ (op : StrOp) (byte : Bool) (p : Rep) (s : State), s.ready → s.lockOk false = true → s.ins.rep = some p →
    s.aReg .ecx = 0 →
    Completes (op.instr byte) s fun t => Untouched s t ∧ FlagsSame s t ∧ Falls s t) ∧
  (∀ (op : StrOp) (byte : Bool) (p : Rep) (s : State), s.ready → s.lockOk false = true → s.ins.rep = some p →
    s.aReg .ecx ≠ 0 → strOk op (s.strBits byte) s = true →
    let w := s.strBits byte
    let g := countedDown s (strGpr op w s)
    let f := strFlags op w s
    let more := !strEnds op p f && decide (cutAddr s.a32 (g.get .ecx) ≠ 0)
    Completes (op.instr byte) s fun t => ∃ v,
      t.gpr = g ∧ strMem op w s t v ∧ Quiet { s with bus := strBus op w s } t ∧
        (if more then t.eip = s.eip ∧ t.eflags = f ∧ t.lat.midRep = true
          else t.eip = s.nextEip ∧ t.eflags = setBit f fRF false ∧ t.lat.midRep = false))

/-- IN and OUT complete where the mode, IOPL or the permission bit map allows the port, and raise #GP(0)
where the map denies it. IN leaves a value of the platform in the accumulator, and the access is
what is seen from outside (43_general_instructions.md R795, 23_protection.md R435 and R436). How the map is read, one bit for
a port, two bytes at the bit's byte, every bit of the access clear, and no map in a 16-bit TSS, is the spec's own decision
D24, as R436 says (log 45). -/
def Obligations.PortAccess : Prop :=
  (∀ (i : Instr) (byte : Bool) (k : Byte) (port : Nat) (s : State),
    (i = (if byte then .inALIb k else .ineAXIb k) ∧ port = k.toNat ∨
      i = (if byte then .inALDX else .ineAXDX) ∧ port = (s.r16 .edx).toNat) →
    s.ready → s.lockOk false = true → s.ioAllowed port (s.strBits byte / 8) = true →
    Completes i s fun t => ∃ v : Word,
      (if byte then Wrote8 s t (.reg .al) (v.setWidth 8) else Wrote s t (bits s.o32) (.reg .eax) (v.setWidth _)) ∧
        FlagsSame s t ∧ Falls { s with bus := .ioRead port (s.strBits byte / 8) :: s.bus } t) ∧
  (∀ (i : Instr) (byte : Bool) (k : Byte) (port : Nat) (s : State),
    (i = (if byte then .outIbAL k else .outIbeAX k) ∧ port = k.toNat ∨
      i = (if byte then .outDXAL else .outDXeAX) ∧ port = (s.r16 .edx).toNat) →
    s.ready → s.lockOk false = true → s.ioAllowed port (s.strBits byte / 8) = true →
    Completes i s fun t =>
      Untouched s t ∧ FlagsSame s t ∧
        Falls { s with bus := .ioWrite port (s.strBits byte / 8) ((s.strAcc (s.strBits byte)).setWidth 32) :: s.bus } t) ∧
  (∀ (i : Instr) (byte : Bool) (k : Byte) (port : Nat) (s : State),
    ((i = (if byte then .inALIb k else .ineAXIb k) ∨ i = (if byte then .outIbAL k else .outIbeAX k)) ∧
        port = k.toNat ∨
      (i = (if byte then .inALDX else .ineAXDX) ∨ i = (if byte then .outDXAL else .outDXeAX)) ∧
        port = (s.r16 .edx).toNat) →
    s.lockOk false = true → s.ioDenied port (s.strBits byte / 8) = true → Raises i s 13 (some 0))

namespace Sys2Proof.Machine

/-- A near target inside the code segment (41_control_transfer.md R650). -/
def State.nearOk (s : State) (t : Word) : Bool := decide ((s.cutTarget t).toNat ≤ s.seg.cs.limit.toNat)

/-- A near branch: the instruction, its target, whether it is taken, and the state of the general registers it leaves. -/
structure Branch where
  instr : Instr
  target : Word
  taken : Bool
  gpr : Gprs

/-- The near branches by a displacement. -/
inductive BranchForm where
  | jb (d : Byte)
  | jv (d : Word)
  | ccb (c : Cond) (d : Byte)
  | ccv (c : Cond) (d : Word)
  | cxz (d : Byte)
  | loop (d : Byte)
  | loope (d : Byte)
  | loopne (d : Byte)

/-- Instruction, displacement and condition; the loops count eCX down first and test it after. -/
noncomputable def BranchForm.branch (s : State) (f : BranchForm) : Branch :=
  let u := s.addA .ecx (-1)
  let more := decide (u.aReg .ecx ≠ 0)
  let at8 := fun (d : Byte) => s.nextEip + d.signExtend 32
  match f with
  | .jb d => { instr := .jmpJb d, target := at8 d, taken := true, gpr := s.gpr }
  | .jv d => { instr := .jmpJv d, target := s.nextEip + d, taken := true, gpr := s.gpr }
  | .ccb c d => { instr := .jccJb c d, target := at8 d, taken := s.cond c, gpr := s.gpr }
  | .ccv c d => { instr := .jccJv c d, target := s.nextEip + d, taken := s.cond c, gpr := s.gpr }
  | .cxz d => { instr := .jcxzJecxzJb d, target := at8 d, taken := decide (s.aReg .ecx = 0), gpr := s.gpr }
  | .loop d => { instr := .loopJb d, target := at8 d, taken := more, gpr := u.gpr }
  | .loope d => { instr := .loopeLoopzJb d, target := at8 d, taken := more && s.flag fZF, gpr := u.gpr }
  | .loopne d => { instr := .loopneLoopnzJb d, target := at8 d, taken := more && !s.flag fZF, gpr := u.gpr }

/-- Memory holds the return frame of a far call in 8086 modes: CS, then EIP of the next instruction. -/
def FarFrame (n : Nat) (s t : State) : Prop := PushedAll n [s.seg.cs.sel.toNat, s.nextEip.toNat] s t

/-- CS as a far transfer in real-address or virtual-8086 mode loads it. -/
def State.cs8086 (s : State) (sel : Half) : Seg := if s.prot then Seg.v86 sel else s.seg.cs.real sel

/-- A direct far transfer to a code descriptor that lies in plain memory and passes the checks of the same privilege
level (41_control_transfer.md R663). -/
def State.codeTarget (s : State) (sel : Half) (off : Word) : Option (Nat × Desc) :=
  if isNull sel then none
  else
    match s.descriptor sel with
    | none => none
    | some (a, d) =>
      if descCode d && (if descConforming d then decide (descDpl d ≤ s.cpl)
          else decide (descDpl d = s.cpl) && decide (rpl sel ≤ s.cpl)) && descP d &&
          decide ((s.cutTarget off).toNat ≤ (descLimit d).toNat)
      then some (a, d) else none

/-- The far jumps and calls, direct and through a pointer in memory. -/
inductive FarForm where
  | ap (sel : Half) (off : Word)
  | ep (m : Ea)

/-- The instruction. -/
noncomputable def FarForm.instr (call : Bool) : FarForm → Instr
  | .ap sel off => if call then .callAp off sel else .jmpAp off sel
  | .ep m => if call then .callEp m else .jmpEp m

/-- The selector of the target. -/
def FarForm.sel (s : State) : FarForm → Half
  | .ap sel _ => sel
  | .ep m => BitVec.ofNat 16 (s.num (s.lin (eaSeg s m) (eaPlus s m (BitVec.ofNat 32 (bytes s.o32)))) 2)

/-- The offset of the target. -/
def FarForm.off (s : State) : FarForm → Word
  | .ap _ off => off
  | .ep m => BitVec.ofNat 32 (s.num (s.lin (eaSeg s m) (eaPlus s m 0)) (bytes s.o32))

/-- The pointer can be read. -/
def FarForm.ok (s : State) : FarForm → Bool
  | .ap _ _ => true
  | .ep m =>
    let n := bytes s.o32
    s.reaches (eaSeg s m) (eaPlus s m 0) n n .read && eaFits s m (BitVec.ofNat 32 n) &&
      s.reaches (eaSeg s m) (eaPlus s m (BitVec.ofNat 32 n)) 2 2 .read

end Sys2Proof.Machine

/-- JMP, Jcc, JCXZ, JECXZ, LOOP, LOOPE and LOOPNE complete: EIP at the target, cut to the operand size, if the branch is
taken, else at the next instruction; LOOPs count eCX down; no flag changes (41_control_transfer.md R650 to R654). -/
def Sys2Proof.Machine.BranchesNear : Prop :=
  (∀ (f : BranchForm) (s : State), s.ready → s.lockOk false = true → s.noLbr = true →
    let b := f.branch s
    (b.taken = true → s.nearOk b.target = true) →
    Completes b.instr s fun t =>
      t.gpr = b.gpr ∧ MemSame s t ∧ Jumps s t (if b.taken then s.cutTarget b.target else s.nextEip)) ∧
  (∀ (rm : Rm) (s : State), s.ready → s.lockOk false = true → s.noLbr = true → s.can rm (bytes s.o32) .read = true →
    let target := (s.val (bits s.o32) rm).setWidth 32
    s.nearOk target = true →
    Completes (.jmpEv rm) s fun t => Untouched s t ∧ Jumps s t (s.cutTarget target))

/-- CALL and RET near complete: CALL pushes the offset of the next instruction and goes to the target, RET takes its
target from the stack and releases the bytes it names (41_control_transfer.md R655, R656). -/
def Obligations.NearCalls : Prop :=
  (∀ (d : Word) (s : State), s.ready → s.lockOk false = true → s.noLbr = true → s.canPush (bytes s.o32) = true →
    s.nearOk (s.nextEip + d) = true →
    Completes (.callJv d) s fun t =>
      Pushed s t (bytes s.o32) s.nextEip.toNat ∧ Jumps s t (s.cutTarget (s.nextEip + d))) ∧
  (∀ (rm : Rm) (s : State), s.ready → s.lockOk false = true → s.noLbr = true → s.canPush (bytes s.o32) = true →
    s.can rm (bytes s.o32) .read = true →
    let target := (s.val (bits s.o32) rm).setWidth 32
    s.nearOk target = true →
    Completes (.callEv rm) s fun t =>
      Pushed s t (bytes s.o32) s.nextEip.toNat ∧ Jumps s t (s.cutTarget target)) ∧
  (∀ (i : Instr) (k : Half) (s : State), i = .retNear ∧ k = 0 ∨ i = .retNearIw k → s.ready →
    s.lockOk false = true → s.noLbr = true → s.canPop 0 (bytes s.o32) = true →
    let target := BitVec.ofNat 32 (s.item 0 (bytes s.o32))
    s.nearOk target = true →
    Completes i s fun t =>
      t.gpr = (s.setSp (s.popOff (bytes s.o32 + k.toNat))).gpr ∧ MemSame s t ∧ Jumps s t (s.cutTarget target))

/-- A near transfer to a target beyond the limit of the code segment raises #GP(0) (41_control_transfer.md R650). -/
def Sys2Proof.Machine.BranchLimit : Prop :=
  (∀ (f : BranchForm) (s : State), s.lockOk false = true →
    let b := f.branch s
    b.taken = true → s.nearOk b.target = false → Raises b.instr s 13 (some 0)) ∧
  (∀ (d : Word) (s : State), s.lockOk false = true → s.nearOk (s.nextEip + d) = false →
    Raises (.callJv d) s 13 (some 0)) ∧
  (∀ (rm : Rm) (s : State), s.lockOk false = true → s.can rm (bytes s.o32) .read = true →
    s.nearOk ((s.val (bits s.o32) rm).setWidth 32) = false →
    Raises (.jmpEv rm) s 13 (some 0) ∧ Raises (.callEv rm) s 13 (some 0))

/-- Far JMP and CALL complete in real-address and virtual-8086 mode: CS and EIP are loaded, CALL first pushes CS and the
offset of the next instruction (41_control_transfer.md R662); and in protected mode to a code segment of the same
privilege level, whose selector receives CPL as its RPL (41_control_transfer.md R663). -/
def Obligations.FarTransfers : Prop :=
  (∀ (call : Bool) (f : FarForm) (s : State), s.ready → s.lockOk false = true → s.noLbr = true →
    s.mode8086 = true → f.ok s = true → s.nearOk (f.off s) = true →
    (call = true → canPushAll (bytes s.o32) 2 s = true) →
    Completes (f.instr call) s fun t =>
      (if call then ∃ u, FarFrame (bytes s.o32) s u ∧ Untouched u t else Untouched s t) ∧
        Jumps { s with seg := { s.seg with cs := s.cs8086 (f.sel s) } } t (s.cutTarget (f.off s))) ∧
  (∀ (call : Bool) (f : FarForm) (a : Nat) (d : Desc) (s : State), s.ready → s.lockOk false = true →
    s.noLbr = true → s.mode8086 = false → f.ok s = true → s.codeTarget (f.sel s) (f.off s) = some (a, d) →
    (call = true → canPushAll (bytes s.o32) 2 s = true) →
    Completes (f.instr call) s fun t =>
      (∃ u, (if call then FarFrame (bytes s.o32) s u else Untouched s u) ∧ t.gpr = u.gpr ∧
        (match accessedByte a d with
          | none => MemSame u t
          | some b => Stored u t b 1 (u.num b 1 ||| 1))) ∧
        Jumps { s with seg := { s.seg with cs := Seg.code (f.sel s) d s.cpl } } t (s.cutTarget (f.off s)))

/-- Far RET completes in real-address and virtual-8086 mode, and in protected mode to a code segment of the same
privilege level: CS and EIP come from the stack, which releases the bytes the instruction names
(41_control_transfer.md R662, R670). -/
def Obligations.FarReturns : Prop :=
  ∀ (i : Instr) (k : Half) (s : State), i = .retFar ∧ k = 0 ∨ i = .retFarIw k → s.ready → s.lockOk false = true →
    s.noLbr = true →
    let n := bytes s.o32
    let off := s.cutTarget (BitVec.ofNat 32 (s.item 0 n))
    let sel : Half := BitVec.ofNat 16 (s.item n n)
    s.canPop 0 n = true → s.canPop n n = true →
    (s.mode8086 = true → s.nearOk off = true →
      Completes i s fun t =>
        t.gpr = (s.setSp (s.popOff (2 * n + k.toNat))).gpr ∧ MemSame s t ∧
          Jumps { s with seg := { s.seg with cs := s.cs8086 sel } } t off) ∧
    (∀ (a : Nat) (d : Desc), s.mode8086 = false → isNull sel = false → s.descriptor sel = some (a, d) →
      descCode d = true → rpl sel = s.cpl →
      (if descConforming d then descDpl d ≤ rpl sel else descDpl d = rpl sel) → descP d = true →
      off.toNat ≤ (descLimit d).toNat →
      Completes i s fun t =>
        t.gpr = (s.setSp (s.popOff (2 * n + k.toNat))).gpr ∧ Accessed s t (accessedByte a d) ∧
          Jumps { s with seg := { s.seg with cs := Seg.ofDesc sel d } } t off)

namespace Sys2Proof.Machine

/-- The real-address mode vector can be entered: it lies in the table and in plain memory, three words can be pushed,
and the handler is inside the limit of CS (67_8086_emulation.md R1230). -/
def State.realVectorOk (s : State) (v : Nat) : Bool :=
  let a := s.sys.idtr.base + BitVec.ofNat 32 (4 * v)
  decide (4 * v + 3 ≤ s.sys.idtr.limit.toNat) && s.plainAt a 4 && canPushAll 2 3 s && s.seg.ss.inLimit (s.pushOff 6) 6 &&
    decide (s.num a.toNat 4 % 0x10000 ≤ s.seg.cs.limit.toNat)

/-- The marks of machine checks without a valid restart address that stay where an event saves the address at which `s`
stands: those of other addresses (log 42). -/
def State.marksElsewhere (s : State) : List NoRestart :=
  s.noReturn.filter fun r => !(decide (r.cs = s.seg.cs.sel) && decide (r.eip = s.eip) && decide (r.cr3 = s.sys.cr3))

/-- A machine check without a valid restart address has saved this CS and EIP under the CR3 in force; with a 16-bit operand the
lower half of EIP counts (log 42). -/
def State.barred (s : State) (sel : Half) (off : Word) : Bool :=
  s.noReturn.any fun r =>
    decide (r.cs = sel) && decide (r.cr3 = s.sys.cr3) &&
      (decide (r.eip = off) || (!s.o32 && decide (r.eip &&& 0xFFFF#32 = off)))

/-- The handler of vector `v` has been entered in real-address mode from `s`: FLAGS, CS and IP lie on the stack, CS and
EIP come from the table, IF, TF and RF are clear (67_8086_emulation.md R1230). -/
def RealEntry (s t : State) (v : Nat) : Prop :=
  let e := s.num (s.sys.idtr.base + BitVec.ofNat 32 (4 * v)).toNat 4
  (∃ u, PushedAll 2 [s.eflags.toNat, s.seg.cs.sel.toNat, s.eip.toNat] s u ∧ Untouched u t) ∧
    t.eip = BitVec.ofNat 32 (e % 0x10000) ∧ t.eflags = setBit (setBit (setBit s.eflags 9 false) 8 false) 16 false ∧
    Quiet { s with seg := { s.seg with cs := s.seg.cs.real (BitVec.ofNat 16 (e / 0x10000)) },
                   noReturn := s.marksElsewhere } t

/-- The gate of vector `v` in plain memory: an interrupt or trap gate that is present and, for a software interrupt,
not more privileged than CPL (60_exceptions.md R848, R850). -/
def State.gateOk (s : State) (v : Nat) (soft : Bool) : Option Desc :=
  let a := s.sys.idtr.base + BitVec.ofNat 32 (8 * v)
  let g : Desc := BitVec.ofNat 64 (s.num a.toNat 8)
  let ty := (descType g).toNat
  if decide (8 * v + 7 ≤ s.sys.idtr.limit.toNat) && s.plainAt a 8 && !descS g &&
      (decide (ty = 6) || decide (ty = 7) || decide (ty = 14) || decide (ty = 15)) && descP g &&
      (!soft || decide (s.cpl ≤ descDpl g))
  then some g else none

/-- A gate is of the 32-bit kind. -/
def gateWide (g : Desc) : Bool := bit (descType g) 3

/-- The offset a gate names: 16 bits in a 16-bit gate. -/
def gateOff (g : Desc) : Word :=
  if gateWide g then (field g 48 16 ++ field g 0 16 : BitVec 32) else (field g 0 16 : BitVec 16).setWidth 32

/-- EFLAGS on entry through a gate: TF, NT, RF and VM clear, IF clear through an interrupt gate
(60_exceptions.md R852). -/
def entryFlags (f : Word) (g : Desc) : Word :=
  let x := setBit (setBit (setBit (setBit f 8 false) 14 false) 16 false) 17 false
  if bit (descType g) 0 then x else setBit x 9 false

/-- The code segment a gate leads to at the current privilege level, in plain memory, from a code segment that is usable
(60_exceptions.md R850, 42_task_management.md R732). -/
def State.handlerSame (s : State) (g : Desc) : Option (Nat × Desc) :=
  if isNull (gateSel g) || !s.seg.cs.valid then none
  else
    match s.descriptor (gateSel g) with
    | none => none
    | some (a, d) =>
      if descCode d && (if descConforming d then decide (descDpl d ≤ s.cpl) else decide (descDpl d = s.cpl)) &&
          descP d && decide ((gateOff g).toNat ≤ (descLimit d).toNat)
      then some (a, d) else none

/-- The handler has been entered through gate `g` at the same privilege level from `s`: the flags image, CS, EIP and
the error code lie on the stack, in items of the size of the gate, and then the accessed flag of the code segment is set
(60_exceptions.md R850, R853). -/
def SameEntry (s t : State) (g : Desc) (a : Nat) (d : Desc) (image : Word) (code : Option Half) : Prop :=
  (∃ u, PushedAll (bytes (gateWide g))
        ([image.toNat, s.seg.cs.sel.toNat, s.eip.toNat] ++ (code.map BitVec.toNat).toList) s u ∧ t.gpr = u.gpr ∧
      Accessed u t (accessedByte a d)) ∧
    t.eip = gateOff g ∧ t.eflags = entryFlags s.eflags g ∧
    Quiet { s with seg := { s.seg with cs := Seg.code (gateSel g) d s.cpl }, noReturn := s.marksElsewhere } t

/-- The state with EIP at the next instruction, from which a software interrupt is delivered. -/
def State.after (s : State) : State := { s with eip := s.nextEip }

/-- The image of EFLAGS that a software interrupt saves: RF in it is as it stands or 0 (log 62). -/
def SoftImage (s : State) (image : Word) : Prop := image = s.eflags ∨ image = setBit s.eflags 16 false

/-- A software interrupt: INT n, INT 3, or INTO with OF set. -/
def IsSoftInt (i : Instr) (v : Nat) (s : State) : Prop :=
  (∃ k : Byte, i = .intIb k ∧ v = k.toNat) ∨ i = .int3 ∧ v = 3 ∨ i = .into ∧ v = 4 ∧ s.flag fOF = true

/-- The bits that IRET at the same level of protected mode writes to EFLAGS (60_exceptions.md R866). -/
def iretWrites (s : State) : Word :=
  0x4DD5#32 ||| (if s.cpl ≤ s.iopl then 0x200#32 else 0) ||| (if s.cpl = 0 then 0x3000#32 else 0) |||
    (if s.o32 then 0x250000#32 else 0) ||| (if s.o32 = true ∧ s.cpl = 0 then 0x180000#32 else 0)

end Sys2Proof.Machine

/-- An exception raised in real-address mode enters its handler through the vector table, from the instruction that
raised it, with the registers as before it; no error code is pushed (67_8086_emulation.md R1230, 60_exceptions.md R830).
That memory is as the abandoned instruction left it, its stores standing, is the model's choice (log 18, DEDUCED,
unsafe). -/
def Obligations.RealExceptions : Prop :=
  ∀ (s u : State) (x : Exc), x.keep = false → x.vec ≠ 1 → Memory.wf u.mem = true →
    let b := rollback s u x
    b.gpr = s.gpr ∧ b.eip = s.eip ∧ b.eflags = s.eflags ∧ b.seg = s.seg ∧ b.cpl = s.cpl ∧ b.fpu = s.fpu ∧
      b.mem = u.mem ∧
    (b.prot = false → b.noLbr = true → b.realVectorOk x.vec = true →
      ∃ t, takeException s u x = .next t ∧ RealEntry b t x.vec)

/-- An exception raised in protected mode enters its handler through an interrupt or trap gate to the same privilege
level: what is saved, with RF set in the image, and what CS, EIP and EFLAGS become (60_exceptions.md R850, R852, R853). -/
def Obligations.ProtectedExceptions : Prop :=
  ∀ (s u : State) (x : Exc) (g : Desc) (a : Nat) (d : Desc), x.keep = false → x.vec ≠ 1 → Memory.wf u.mem = true →
    let b := rollback s u x
    b.prot = true → b.flag fVM = false → b.noLbr = true → b.gateOk x.vec false = some g →
    b.handlerSame g = some (a, d) →
    canPushAll (bytes (gateWide g)) (if x.code.isSome then 4 else 3) b = true →
    ∃ t, takeException s u x = .next t ∧ SameEntry b t g a d (setBit s.eflags 16 true) x.code

/-- INT n, INT 3 and INTO complete: the handler is entered from the next instruction, in real-address mode through the
vector table, in protected mode through a gate that their privilege level may use; INTO with OF clear does nothing
(60_exceptions.md R856, R850; 67_8086_emulation.md R1230). An RF that is set stands in the image or is 0 there, by a free choice
(log 62, DESIGN CHOICE). -/
def Sys2Proof.Machine.EntersSoftly : Prop :=
  (∀ (i : Instr) (v : Nat) (s : State), IsSoftInt i v s → s.ready → s.lockOk false = true → s.noLbr = true →
    s.prot = false → s.after.realVectorOk v = true → Completes i s fun t => RealEntry s.after t v) ∧
  (∀ (i : Instr) (v : Nat) (g : Desc) (a : Nat) (d : Desc) (s : State), IsSoftInt i v s → s.ready →
    s.lockOk false = true → s.noLbr = true → s.prot = true → s.flag fVM = false → s.gateOk v true = some g →
    s.handlerSame g = some (a, d) → canPushAll (bytes (gateWide g)) 3 s = true →
    Completes i s fun t => ∃ image, SoftImage s image ∧ SameEntry s.after t g a d image none) ∧
  (∀ s : State, s.ready → s.lockOk false = true → s.flag fOF = false →
    Completes .into s fun t => Untouched s t ∧ FlagsSame s t ∧ Falls s t)

namespace Sys2Proof.Machine

/-- The I/O map base of the current TSS (67_8086_emulation.md R1245). -/
def State.mapBase (s : State) : Nat := s.num (s.sys.tr.base + 102).toNat 2

/-- The current TSS has 32 bits, room for its I/O map base, and that word in plain memory (67_8086_emulation.md R1245). -/
def State.hasMapBase (s : State) : Bool :=
  bit s.sys.tr.type 3 && decide (103 ≤ s.sys.tr.limit.toNat) && s.plainAt (s.sys.tr.base + 102) 2

/-- The redirection flag of vector `n`, bit n mod 8 of the byte n / 8 of the 32 bytes below the I/O map, where it can be read
from plain memory; a 16-bit TSS has no map (67_8086_emulation.md R1245). -/
def State.redirected (s : State) (n : Nat) : Option Bool :=
  let o := s.mapBase - 32 + n / 8
  let a := s.sys.tr.base + BitVec.ofNat 32 o
  if s.hasMapBase && decide (32 ≤ s.mapBase) && decide (o ≤ s.sys.tr.limit.toNat) && s.plainAt a 1 then
    some (s.num a.toNat 1 / 2 ^ (n % 8) % 2 = 1)
  else none

/-- The redirection flag of vector `n` lies beyond the limit of a 32-bit TSS (67_8086_emulation.md R1245). -/
def State.beyondMap (s : State) (n : Nat) : Bool :=
  bit s.sys.tr.type 3 && (decide (s.sys.tr.limit.toNat < 103) ||
    (s.hasMapBase && decide (32 ≤ s.mapBase) && decide (s.sys.tr.limit.toNat < s.mapBase - 32 + n / 8)))

/-- From virtual-8086 mode the software interrupt goes through the IDT: INT 3 and INTO always, INT n at IOPL 3 where CR4.VME
is clear or the redirection flag is set (67_8086_emulation.md R1246, R1260: methods 1 and 4). -/
def State.throughIdt (s : State) (i : Instr) (v : Nat) : Prop :=
  s.flag fVM = true → (∀ n : Byte, i ≠ .intIb n) ∨ s.iopl = 3 ∧ (bit s.sys.cr4 0 = false ∨ s.redirected v = some true)

/-- INT n in virtual-8086 mode at IOPL 3 with CR4.VME set would look for its redirection flag in a 16-bit TSS, which has no map:
the pseudocode of 67_8086_emulation.md R1245 raises #GP(0), while by decision D56 all its flags count as 1 (log 50). -/
def State.mapless (s : State) : Prop :=
  s.flag fVM = true ∧ s.iopl = 3 ∧ bit s.sys.cr4 0 = true ∧ bit s.sys.tr.type 3 = false

/-- The FLAGS word that a redirected INT n pushes: NT clear; IOPL 0 at IOPL 3, else IOPL 3 and IF as VIF is
(67_8086_emulation.md R1261, methods 5 and 6). -/
def State.redirectImage (s : State) : Nat :=
  let f := s.eflags &&& 0xBFFF#32
  (if s.iopl = 3 then f &&& 0xCFFF#32 else setBit (f ||| 0x3000#32) 9 (s.flag fVIF)).toNat

/-- The handler of vector `v` in the table at linear address 0 has been entered from `s`, in virtual-8086 mode still: FLAGS
image, CS and IP lie on the stack, CS and EIP come from the table, TF and RF are clear, and so is IF at IOPL 3, VIF below
(67_8086_emulation.md R1261). -/
def RedirectEntry (s t : State) (v : Nat) : Prop :=
  let e := s.num (4 * v) 4
  (∃ u, PushedAll 2 [s.redirectImage, s.seg.cs.sel.toNat, s.eip.toNat] s u ∧ Untouched u t) ∧
    t.eip = BitVec.ofNat 32 (e % 0x10000) ∧
    t.eflags = setBit (setBit (setBit s.eflags (if s.iopl = 3 then 9 else 19) false) 8 false) 16 false ∧
    Quiet { s with seg := { s.seg with cs := Seg.v86 (BitVec.ofNat 16 (e / 0x10000)) },
                   noReturn := s.marksElsewhere } t

/-- INT n in virtual-8086 mode but for methods 1 and 4, which InnerTransfers has: at IOPL below 3 it raises #GP(0) where
CR4.VME is clear, its redirection flag is set or the TSS has 16 bits; where CR4.VME is set and the flag is clear it is
redirected to the 8086 program's own handler; where the map has no room for the flag it raises #GP(0), and where the I/O map base leaves no room for
the map it stops, as 93_implementation_defined.md says (67_8086_emulation.md R1245, R1246, R1260, R1261). The image of method
6 is the spec's decision D55, the read of the map D56 (log 45). -/
def InterruptsV86 : Prop :=
  ∀ (n : Byte) (s : State), s.lockOk false = true → s.prot = true → s.flag fVM = true →
    (s.iopl ≠ 3 → bit s.sys.cr4 0 = false ∨ bit s.sys.tr.type 3 = false ∨ s.redirected n.toNat = some true → Raises (.intIb n) s 13 (some 0)) ∧
    (bit s.sys.cr4 0 = true → s.beyondMap n.toNat = true → Raises (.intIb n) s 13 (some 0)) ∧
    (bit s.sys.cr4 0 = true → s.hasMapBase = true → s.mapBase < 32 → exec (.intIb n) s = .fault .redirectionMap) ∧
    (s.ready → s.noLbr = true → bit s.sys.cr4 0 = true → s.redirected n.toNat = some false → s.plain = true →
      canPushAll 2 3 s = true → s.seg.ss.inLimit (s.pushOff 6) 6 = true →
      Completes (.intIb n) s fun t => RedirectEntry s.after t n.toNat)

end Sys2Proof.Machine

/-- A software interrupt through a gate whose DPL is below CPL raises #GP with the gate's IDT error code, also from
virtual-8086 mode where it goes through the IDT (60_exceptions.md R854, R826; 67_8086_emulation.md R1260). INT n at IOPL 3 with
CR4.VME set and a 16-bit TSS raises this #GP or #GP(0): whether such a TSS counts as having all flags set is the model's free
choice (log 50, DESIGN CHOICE). -/
def Sys2Proof.Machine.GateRefuses : Prop :=
  ∀ (i : Instr) (v : Nat) (g : Desc) (s : State), IsSoftInt i v s → s.lockOk false = true → s.prot = true →
    s.gateOk v false = some g → descDpl g < s.cpl →
    (s.throughIdt i v → Raises i s 13 (some (BitVec.ofNat 16 (8 * v + 2)))) ∧
    (s.mapless → Raises i s 13 (some 0) ∨ Raises i s 13 (some (BitVec.ofNat 16 (8 * v + 2))))

/-- IRET in virtual-8086 mode: at IOPL 3 it takes CS, EIP and the flags but IOPL, VM, VIF and VIP from the stack; below, with
CR4.VME set and a 16-bit operand, VIF is loaded in the place of IF; else it raises #GP(0), and so it does where the image
sets TF, or IF while VIP is set, and where the offset lies beyond FFFFH (67_8086_emulation.md R1262, whose list of flags and
VME form the spec gives as general knowledge). NMIs are no longer blocked. That an IRET to the address that a machine check
without a valid restart address saved stops, and that it forgets the marks of the frame it takes, is the model's choice (log
42, DESIGN CHOICE). -/
def Sys2Proof.Machine.ReturnsInV86 : Prop :=
  (∀ s : State, s.lockOk false = true → s.prot = true → s.flag fVM = true → s.iopl ≠ 3 →
    s.o32 = true ∨ bit s.sys.cr4 0 = false → Raises .iretIretd s 13 (some 0)) ∧
  (∀ s : State, s.lockOk false = true → s.prot = true → s.flag fVM = true →
    let n := bytes s.o32
    let off := s.cutTarget (BitVec.ofNat 32 (s.item 0 n))
    let sel : Half := BitVec.ofNat 16 (s.item n n)
    let f := BitVec.ofNat 32 (s.item (2 * n) n)
    let unblocked : State :=
      { s with lat := { s.lat with nmiBlocked := false }, noReturn := s.noReturn.filter fun r => r.esp ≠ s.r32 .esp }
    let barred := s.barred sel off
    let back := fun (flags : Word) (t : State) =>
      t.gpr = (s.setSp (s.popOff (3 * n))).gpr ∧ MemSame s t ∧ t.eip = off ∧ t.eflags = flags ∧
        Quiet { unblocked with seg := { s.seg with cs := Seg.v86 sel } } t
    s.canPop 0 n = true → s.canPop n n = true → s.canPop (2 * n) n = true →
    (s.iopl = 3 → 0xFFFF < off.toNat → Raises .iretIretd s 13 (some 0)) ∧
    (s.iopl = 3 → off.toNat ≤ 0xFFFF → s.ready → s.noLbr = true →
      if barred = true then exec .iretIretd s = .fault .mcRestart
      else Completes .iretIretd s (back (blend (if s.o32 then 0x254FD5#32 else 0x4FD5#32) s.eflags f))) ∧
    (s.iopl ≠ 3 → bit s.sys.cr4 0 = true → s.o32 = false →
      if bit f 8 = true ∨ bit f 9 = true ∧ s.flag fVIP = true then Raises .iretIretd s 13 (some 0)
      else s.ready → s.noLbr = true →
        if barred = true then exec .iretIretd s = .fault .mcRestart
        else Completes .iretIretd s (back (setBit (blend 0x4DD5#32 s.eflags f) 19 (bit f 9)))))

/-- IRET and IRETD complete: in real-address mode they take EIP, CS and the flags from the stack, in protected mode at
the same level CS is checked and loaded and only the flags the level may write are written; NMIs are no longer blocked
and RF is as loaded (67_8086_emulation.md R1231, 60_exceptions.md R862, R863, R866). After a machine check without a valid
restart address the program cannot be restarted reliably (66_machine_check.md R1183); that IRET to the address it saved
stops under the same CR3, as 93_implementation_defined.md section 2.2 refuses the return, until an event has saved that address
again, and that an IRET forgets the marks of the frame it takes, is the model's choice (log 42, DESIGN CHOICE). -/
def Sys2Proof.Machine.ReturnsFromHandler : Prop :=
  ∀ s : State, s.ready → s.lockOk false = true → s.noLbr = true →
    let n := bytes s.o32
    let off := s.cutTarget (BitVec.ofNat 32 (s.item 0 n))
    let sel : Half := BitVec.ofNat 16 (s.item n n)
    let f := BitVec.ofNat 32 (s.item (2 * n) n)
    let unblocked : State :=
      { s with lat := { s.lat with nmiBlocked := false }, noReturn := s.noReturn.filter fun r => r.esp ≠ s.r32 .esp }
    let barred := s.barred sel off
    s.canPop 0 n = true → s.canPop n n = true → s.canPop (2 * n) n = true →
    (s.prot = false → off.toNat ≤ s.seg.cs.limit.toNat → barred = true →
      exec .iretIretd s = .fault .mcRestart) ∧
    (s.prot = false → off.toNat ≤ s.seg.cs.limit.toNat → barred = false →
      Completes .iretIretd s fun t =>
        t.gpr = (s.setSp (s.popOff (3 * n))).gpr ∧ MemSame s t ∧ t.eip = off ∧
          t.eflags = blend (if s.o32 then 0x257FD5#32 else 0x7FD5#32) s.eflags f ∧
          Quiet { unblocked with seg := { s.seg with cs := s.seg.cs.real sel } } t) ∧
    (∀ (a : Nat) (d : Desc), s.prot = true → s.flag fVM = false → s.flag fNT = false →
      (s.o32 = true → s.cpl = 0 → bit f fVM = false) → isNull sel = false → s.descriptor sel = some (a, d) →
      descCode d = true → rpl sel = s.cpl →
      (if descConforming d then descDpl d ≤ rpl sel else descDpl d = rpl sel) → descP d = true →
      off.toNat ≤ (descLimit d).toNat →
      if barred = true then exec .iretIretd s = .fault .mcRestart
      else
        Completes .iretIretd s fun t =>
          t.gpr = (s.setSp (s.popOff (3 * n))).gpr ∧ Accessed s t (accessedByte a d) ∧ t.eip = off ∧
            t.eflags = blend (iretWrites s) s.eflags f ∧
            Quiet { unblocked with seg := { s.seg with cs := Seg.ofDesc sel d } } t)

/-- BOUND completes without effect where the signed index lies between the two bounds, and raises #BR where it does not
(43_general_instructions.md R816); an upper bound beyond the limit, or beyond the last offset of all, raises #SS(0) through
SS and #GP(0) otherwise: a pair does not wrap (R819). -/
def Obligations.Bounds : Prop :=
  ∀ (r : Reg) (m : Ea) (s : State), s.lockOk false = true →
    let n := bytes s.o32
    let w := bits s.o32
    let off2 := eaPlus s m (BitVec.ofNat 32 n)
    let lo : BitVec w := BitVec.ofNat w (s.num (s.lin (eaSeg s m) (eaPlus s m 0)) n)
    let hi : BitVec w := BitVec.ofNat w (s.num (s.lin (eaSeg s m) off2) n)
    let i : BitVec w := (s.r32 r).setWidth w
    s.reaches (eaSeg s m) (eaPlus s m 0) n n .read = true →
    (eaFits s m (BitVec.ofNat 32 n) = true → s.reaches (eaSeg s m) off2 n n .read = true → s.ready →
      lo.toInt ≤ i.toInt ∧ i.toInt ≤ hi.toInt →
      Completes (.boundGvMa r m) s fun t => Untouched s t ∧ FlagsSame s t ∧ Falls s t) ∧
    (eaFits s m (BitVec.ofNat 32 n) = true → s.reaches (eaSeg s m) off2 n n .read = true →
      i.toInt < lo.toInt ∨ hi.toInt < i.toInt → Raises (.boundGvMa r m) s 5 none) ∧
    (eaFits s m (BitVec.ofNat 32 n) = true → (s.seg.get (eaSeg s m)).inLimit off2 n = false →
      Raises (.boundGvMa r m) s (if eaSeg s m = .ss then 12 else 13) (some 0)) ∧
    (eaFits s m (BitVec.ofNat 32 n) = false →
      Raises (.boundGvMa r m) s (if eaSeg s m = .ss then 12 else 13) (some 0))

namespace Sys2Proof.Machine

/-- Privileged instructions may run: real-address mode, or CPL 0 outside virtual-8086 mode (23_protection.md R430). -/
def State.privileged (s : State) : Bool := !s.prot || (!s.flag fVM && decide (s.cpl = 0))

/-- Protected mode proper, where the instructions that exist only there run (23_protection.md R432). -/
def State.protMode (s : State) : Bool := s.prot && !s.flag fVM

/-- The instructions that raise #GP(0) at another privilege level than 0 (23_protection.md R430). -/
inductive IsPrivileged : Instr → Prop where
  | lgdt (m : Ea) : IsPrivileged (.lgdtMs m)
  | lidt (m : Ea) : IsPrivileged (.lidtMs m)
  | lmsw (rm : Rm) : IsPrivileged (.lmswEw rm)
  | clts : IsPrivileged .clts
  | fromCr (r : Reg) (n : Fin 8) : IsPrivileged (.movRdCd r n)
  | toCr (n : Fin 8) (r : Reg) : IsPrivileged (.movCdRd n r)
  | fromDr (r : Reg) (n : Fin 8) : IsPrivileged (.movRdDd r n)
  | toDr (n : Fin 8) (r : Reg) : IsPrivileged (.movDdRd n r)
  | invd : IsPrivileged .invd
  | wbinvd : IsPrivileged .wbinvd
  | invlpg (m : Ea) : IsPrivileged (.invlpgM m)
  | hlt : IsPrivileged .hlt
  | rdmsr : IsPrivileged .rdmsr
  | wrmsr : IsPrivileged .wrmsr

/-- The instructions that raise #UD outside protected mode (23_protection.md R432). -/
inductive IsProtOnly : Instr → Prop where
  | lldt (rm : Rm) : IsProtOnly (.lldtEw rm)
  | ltr (rm : Rm) : IsProtOnly (.ltrEw rm)
  | sldt (rm : Rm) : IsProtOnly (.sldtEw rm)
  | str (rm : Rm) : IsProtOnly (.strEw rm)
  | arpl (rm : Rm) (r : Reg) : IsProtOnly (.arplEwGw rm r)
  | lar (r : Reg) (rm : Rm) : IsProtOnly (.larGvEw r rm)
  | lsl (r : Reg) (rm : Rm) : IsProtOnly (.lslGvEw r rm)
  | verr (rm : Rm) : IsProtOnly (.verrEw rm)
  | verw (rm : Rm) : IsProtOnly (.verwEw rm)

/-- The instructions that only raise #UD. -/
inductive IsUndefined : Instr → Prop where
  | ud2 : IsUndefined .ud2
  | r82 : IsUndefined .reserved82
  | fa6 : IsUndefined .reserved0FA6
  | fa7 : IsUndefined .reserved0FA7
  | fromTr (n : Fin 8) (r : Reg) : IsUndefined (.reserved0F24 n r)
  | toTr (n : Fin 8) (r : Reg) : IsUndefined (.reserved0F26 n r)

/-- The processor's own accesses to `n` bytes at a physical address find RAM: MTRRs off, A20M# not asserted, no entry in
the platform's map, outside the APIC page. -/
def State.ramAt (s : State) (a n : Nat) : Bool :=
  !bit s.msr.mtrrDef 11 && !s.lat.a20m && s.map.isEmpty &&
    (!s.apicOn || decide (a + n ≤ Config.apicPage) || decide (Config.apicPage + 0x1000 ≤ a))

/-- The page-directory-pointer table at an address, if it can be loaded: plain memory, and no reserved bit set in an
entry that is present (22_paging.md R360). -/
def State.pdpt (s : State) (cr3 : Word) : Option (QWord × QWord × QWord × QWord) :=
  let e := fun k : Nat => BitVec.ofNat 64 (s.num ((cr3.toNat &&& 0xFFFFFFE0) + 8 * k) 8)
  let ok := fun x : QWord => !bit x 0 || decide (x &&& Config.pdpteReserved = 0)
  if s.ramAt (cr3.toNat &&& 0xFFFFFFE0) 32 && ok (e 0) && ok (e 1) && ok (e 2) && ok (e 3) then some (e 0, e 1, e 2, e 3)
  else none

/-- The control registers with the page-directory-pointer entries replaced. -/
def Sys.withPdpt (y : Sys) (p : QWord × QWord × QWord × QWord) : Sys :=
  { y with pdpte0 := p.1, pdpte1 := p.2.1, pdpte2 := p.2.2.1, pdpte3 := p.2.2.2 }

/-- The number of the control register that a MOV names is one that exists. -/
def isCr (n : Fin 8) : Bool := n = 0 || n = 2 || n = 3 || n = 4

/-- The value of a control register. -/
def Sys.cr (y : Sys) (n : Fin 8) : Word := if n = 0 then y.cr0 else if n = 2 then y.cr2 else if n = 3 then y.cr3 else y.cr4

/-- The debug register that a MOV reaches: DR4 and DR5 are DR6 and DR7 while CR4.DE is clear (10_state.md R74). -/
def drAlias (n : Fin 8) : Nat := if n = 4 then 6 else if n = 5 then 7 else n.val

/-- The value of a debug register. -/
def Dbg.dr (d : Dbg) (k : Nat) : Word :=
  if k = 0 then d.dr0 else if k = 1 then d.dr1 else if k = 2 then d.dr2 else if k = 3 then d.dr3
  else if k = 6 then d.dr6 else d.dr7

/-- A MOV of a debug register is allowed: not DR4 or DR5 with CR4.DE set, and DR7.GD clear. -/
def State.drOk (s : State) (n : Fin 8) : Bool :=
  !((decide (n = 4) || decide (n = 5)) && bit s.sys.cr4 3) && !bit s.dbg.dr7 13

/-- What WRMSR of a value comes to. -/
inductive MsrVerdict where
  | takes
  | gp
  | stops (r : Refusal)

/-- A model-specific register: its address, what it reads as, the bits whose value is not fixed, what WRMSR of a value
comes to, what a legal write leaves, and whether it is a memory-type range register (11_state_msr.md R135). -/
structure MsrRow where
  addr : Nat
  get : Msrs → QWord
  unfixed : Msrs → QWord := fun _ => 0
  verdict : QWord → MsrVerdict := fun _ => .gp
  put : QWord → Msrs → Msrs := fun _ m => m
  isMtrr : Bool := false

/-- A write is legal if it sets no bit outside `mask` and `legal` holds (11_state_msr.md R132). -/
def takesIf (mask : QWord) (legal : QWord → Bool) (v : QWord) : MsrVerdict :=
  if v &&& ~~~mask = 0 ∧ legal v = true then .takes else .gp

/-- Every write is legal. -/
def takesAny (_ : QWord) : MsrVerdict := .takes

/-- Only all zeros and all ones may be written; what another value does is undefined (66_machine_check.md R1184, R1185). -/
def takesEnds (v : QWord) : MsrVerdict := if v = 0 ∨ v = 0xFFFFFFFFFFFFFFFF#64 then .takes else .stops .mcCtlWrite

/-- A byte of a value that encodes a memory type (20_memory.md R256). -/
def isTypeAt (v : QWord) (k : Nat) : Bool := [0, 1, 4, 5, 6].contains (field v (8 * k) 8 : Byte).toNat

/-- The registers outside the memory-type ranges and the machine-check banks (11_state_msr.md R137 to R141,
65_debug_perfmon.md R1130, R1131, R1140, R1150, R1151, 66_machine_check.md R1182 to R1184, 20_memory.md R256, R257). -/
def msrSingles : List MsrRow :=
  let addrValid := fun (m : Msrs) => bit (m.mc[p5Bank]).status 58
  [{ addr := 0x0, get := fun m => if addrValid m then (m.mc[p5Bank]).addr else 0,
     unfixed := fun m => if addrValid m then 0 else 0xFFFFFFFFF#64 },
   { addr := 0x1, get := fun m => (m.mc[p5Bank]).status },
   { addr := 0x10, get := fun m => m.tsc, verdict := takesAny, put := fun v m => { m with tsc := v &&& 0xFFFFFFFF#64 } },
   { addr := 0x1B, get := fun m => m.apicBase, verdict := takesAny,
     put := fun v m => { m with apicBase :=
       (v &&& ~~~0x900#64) ||| (m.apicBase &&& 0x100#64) ||| (m.apicBase &&& v &&& 0x800#64) } },
   { addr := 0x2A, get := fun m => m.eblCr, unfixed := fun _ => ~~~0x05F3F7DF#64,
     verdict := takesIf 0x05F3F7DF#64 (fun _ => true),
     put := fun v m => { m with eblCr := (m.eblCr &&& ~~~0xDF#64) ||| (v &&& 0xDF#64) } },
   { addr := 0x79, get := fun _ => 0, unfixed := fun _ => ~~~0, verdict := takesAny },
   { addr := 0x8B, get := fun _ => 0, unfixed := fun _ => ~~~0, verdict := takesAny },
   { addr := 0xC1, get := fun m => m.perfCtr0.setWidth 64, verdict := takesAny,
     put := fun v m => { m with perfCtr0 := (v.setWidth 32).signExtend 40 } },
   { addr := 0xC2, get := fun m => m.perfCtr1.setWidth 64, verdict := takesAny,
     put := fun v m => { m with perfCtr1 := (v.setWidth 32).signExtend 40 } }] ++
  [{ addr := 0xFE, get := fun _ => 0x508#64 },
   { addr := 0x179, get := fun _ => 0x105#64, verdict := fun _ => .stops .mcgCapWrite },
   { addr := 0x17A, get := fun m => m.mcgStatus, unfixed := fun _ => ~~~7#64, verdict := takesIf 7#64 (fun _ => true),
     put := fun v m => { m with mcgStatus := v } },
   { addr := 0x17B, get := fun m => m.mcgCtl, verdict := takesEnds, put := fun v m => { m with mcgCtl := v } },
   { addr := 0x186, get := fun m => m.evntSel0.setWidth 64, verdict := takesIf 0xFFDFFFFF#64 (fun _ => true),
     put := fun v m => { m with evntSel0 := v.setWidth 32 } },
   { addr := 0x187, get := fun m => m.evntSel1.setWidth 64, verdict := takesIf 0xFF9FFFFF#64 (fun _ => true),
     put := fun v m => { m with evntSel1 := v.setWidth 32 } },
   { addr := 0x1D9, get := fun m => m.debugCtl.setWidth 64, verdict := takesIf 0x7F#64 (fun _ => true),
     put := fun v m => { m with debugCtl := v.setWidth 32 } },
   { addr := 0x1DB, get := fun m => m.lastBranchFrom.setWidth 64 },
   { addr := 0x1DC, get := fun m => m.lastBranchTo.setWidth 64 },
   { addr := 0x1DD, get := fun m => m.lastExcFrom.setWidth 64 },
   { addr := 0x1DE, get := fun m => m.lastExcTo.setWidth 64 },
   { addr := 0x1E0, get := fun m => m.robCr, unfixed := fun _ => 3#64, verdict := takesIf (~~~3#64) (fun _ => true),
     put := fun v m => { m with robCr := v } },
   { addr := 0x2FF, get := fun m => m.mtrrDef, unfixed := fun _ => ~~~0xCFF#64, verdict := takesIf 0xCFF#64 (fun v => isTypeAt v 0),
     put := fun v m => { m with mtrrDef := v }, isMtrr := true }]

/-- The pairs of a base and a mask register of the variable ranges (20_memory.md R259). -/
def msrVariable : List MsrRow :=
  (List.finRange Config.vcnt).flatMap fun (i : Fin Config.vcnt) =>
    [{ addr := 0x200 + 2 * i.val, get := fun m => m.mtrrBase[i], unfixed := fun _ => ~~~0xFFFFFF0FF#64,
       verdict := takesIf 0xFFFFFF0FF#64 (fun v => isTypeAt v 0),
       put := fun v m => { m with mtrrBase := m.mtrrBase.set i v }, isMtrr := true },
     { addr := 0x201 + 2 * i.val, get := fun m => m.mtrrMask[i], unfixed := fun _ => ~~~0xFFFFFF800#64,
       verdict := takesIf 0xFFFFFF800#64 (fun _ => true),
       put := fun v m => { m with mtrrMask := m.mtrrMask.set i v }, isMtrr := true }]

/-- The addresses of the fixed-range registers (20_memory.md R258). -/
def fixedAddrs : List Nat := [0x250, 0x258, 0x259, 0x268, 0x269, 0x26A, 0x26B, 0x26C, 0x26D, 0x26E, 0x26F]

/-- The fixed-range registers (20_memory.md R258). -/
def msrFixed : List MsrRow :=
  (List.finRange Config.fixedMtrrs).map fun (i : Fin Config.fixedMtrrs) =>
    { addr := fixedAddrs[i.val]?.getD 0, get := fun m => m.mtrrFix[i],
      verdict := takesIf (~~~0) (fun v => (List.range 8).all (isTypeAt v)),
      put := fun v m => { m with mtrrFix := m.mtrrFix.set i v }, isMtrr := true }

/-- The registers of the machine-check bank `b` at an address: MCi_CTL, MCi_STATUS and, but for the bank named MC4,
MCi_ADDR; MC0_CTL is not to be written, and reads as the processor makes it (66_machine_check.md R1185 to R1188). -/
def msrBank (a : Nat) (b : Fin Config.mcBanks) : List MsrRow :=
  [{ addr := a, get := fun m => (m.mc[b]).ctl, unfixed := fun _ => if b = 0 then ~~~0 else 0,
     verdict := fun v => if b = 0 then .stops .mcCtlWrite else takesEnds v,
     put := fun v m =>
       { m with mc := m.mc.set b { m.mc[b] with ctl := if v = 0 then 0 else Config.mcCtlMask b.val } } },
   { addr := a + 1, get := fun m => (m.mc[b]).status, verdict := takesIf 0 (fun _ => true),
     put := fun _ m => { m with mc := m.mc.set b { m.mc[b] with status := 0 } } }] ++
  if b = 4 then []
  else [{ addr := a + 2, get := fun m => if bit (m.mc[b]).status 58 then (m.mc[b]).addr else 0,
          unfixed := fun m => if bit (m.mc[b]).status 58 then 0 else 0xFFFFFFFFF#64 }]

/-- The model-specific registers of the list in 11_state_msr.md R135; the bank named MC4 lies before the one named MC3. -/
def msrTable : List MsrRow :=
  msrSingles ++ msrVariable ++ msrFixed ++ msrBank 0x400 0 ++ msrBank 0x404 1 ++ msrBank 0x408 2 ++ msrBank 0x40C 4 ++
    msrBank 0x410 3

/-- The value in EDX:EAX. -/
def State.edxEax (s : State) : QWord := (s.r32 .edx ++ s.r32 .eax : BitVec 64)

/-- The registers with other last-branch registers: undefined while trace messages are on (65_debug_perfmon.md R1130). -/
def Msrs.withBranches (m : Msrs) (a b c d : Word) : Msrs :=
  { m with lastBranchFrom := a, lastBranchTo := b, lastExcFrom := c, lastExcTo := d }

/-- A slot of the SMM save map (64_smm.md R1066). -/
def State.slot (s : State) (off n : Nat) : Nat := s.num (s.smm.smbase.toNat + 0x8000 + off) n

/-- A doubleword slot. -/
def State.slot32 (s : State) (off : Nat) : Word := BitVec.ofNat 32 (s.slot off 4)

/-- A selector slot. -/
def State.slotSel (s : State) (off : Nat) : Half := BitVec.ofNat 16 (s.slot off 4)

/-- The slots that must not be changed, as RSM finds them, against which it compares what the SMI has written
(64_smm.md R1090). -/
def State.smmReadOnly (s : State) : List Word :=
  [0x7FFC, 0x7FF8, 0x7FCC, 0x7FC8, 0x7F94, 0x7F88, 0x7EFC].map s.slot32 ++
    [0x7FC4, 0x7FC0, 0x7FBC, 0x7FB8, 0x7FB4, 0x7FB0, 0x7FAC, 0x7FA8].map (fun k => (s.slotSel k).setWidth 32) ++
    [s.slot32 0x7FF4 &&& 0x20000#32]

end Sys2Proof.Machine

/-- The privileged instructions raise #GP(0) at another privilege level than 0 and in virtual-8086 mode, whatever their
operand; RDTSC does so at another level where CR4.TSD is set and RDPMC where CR4.PCE is clear, and else they complete;
the instructions of protected mode raise #UD outside it
(23_protection.md R430, R431, R432). -/
def Obligations.Privilege : Prop :=
  (∀ (i : Instr) (s : State), IsPrivileged i → s.lockOk false = true → s.privileged = false →
    Raises i s 13 (some 0)) ∧
  (∀ (rm : Rm) (s : State), s.lockOk false = true → s.protMode = true → s.cpl ≠ 0 →
    Raises (.lldtEw rm) s 13 (some 0) ∧ Raises (.ltrEw rm) s 13 (some 0)) ∧
  (∀ s : State, s.lockOk false = true → s.prot = true → s.cpl ≠ 0 →
    (bit s.sys.cr4 2 = true → Raises .rdtsc s 13 (some 0)) ∧ (bit s.sys.cr4 8 = false → Raises .rdpmc s 13 (some 0))) ∧
  (∀ s : State, s.ready → s.lockOk false = true →
    (bit s.sys.cr4 2 = false ∨ s.privileged = true → ∃ t, exec .rdtsc s = .next t) ∧
      (bit s.sys.cr4 8 = true ∨ s.privileged = true → s.r32 .ecx = 0 ∨ s.r32 .ecx = 1 →
        ∃ t, exec .rdpmc s = .next t)) ∧
  (∀ (i : Instr) (s : State), IsProtOnly i → s.protMode = false → Raises i s 6 none)

/-- UD2 and the reserved opcodes complete by entering the handler of #UD from the instruction itself, with nothing else
changed, LOCK prefix or not: UD2 by 43_general_instructions.md R815, 0FA6 and 0FA7 by 31_opcode_map.md R548, 0F24 and 0F26
by R548 and 10_state.md R77, since there are no test registers, and 82H by the spec's own decision D26 in R548. -/
def Sys2Proof.Machine.OpcodesUndefined : Prop :=
  (∀ (i : Instr) (s : State), IsUndefined i → s.ready → s.prot = false → s.noLbr = true →
    s.realVectorOk 6 = true → Completes i s fun t => RealEntry s t 6) ∧
  (∀ (i : Instr) (g : Desc) (a : Nat) (d : Desc) (s : State), IsUndefined i → s.ready → s.prot = true →
    s.flag fVM = false → s.noLbr = true → s.gateOk 6 false = some g → s.handlerSame g = some (a, d) →
    canPushAll (bytes (gateWide g)) 3 s = true →
    Completes i s fun t => SameEntry s t g a d (setBit s.eflags 16 true) none) ∧
  (∀ (i : Instr) (s : State), IsUndefined i → Raises i s 6 none)

/-- The opcodes D6 and F1 complete: they raise no exception and change at most the general registers and the status
flags, which are undefined after them (30_encoding.md R494; that nothing else changes is log 17). -/
def Sys2Proof.Machine.OpcodesUnspecified : Prop :=
  ∀ (i : Instr) (s : State), i = .reservedD6 ∨ i = .reservedF1 → s.ready → s.lockOk false = true →
    Completes i s fun t => ∃ f : Word, MemSame s t ∧ t.eflags = flagsAfter s arithMask f ∧ Falls s t

/-- LGDT and LIDT load limit and base, 24 bits of it with a 16-bit operand; SGDT and SIDT store them, with a 16-bit
operand the highest byte undefined. All complete (40_system_instructions.md R571 to R574). -/
def Sys2Proof.Machine.MovesTables : Prop :=
  (∀ (idt : Bool) (m : Ea) (s : State), s.ready → s.lockOk false = true → s.privileged = true →
    s.reaches (eaSeg s m) (eaPlus s m 0) 2 1 .read = true → eaFits s m 2 = true →
    s.reaches (eaSeg s m) (eaPlus s m 2) 4 1 .read = true →
    let b := BitVec.ofNat 32 (s.num (s.lin (eaSeg s m) (eaPlus s m 2)) 4)
    let r : TableReg := { base := if s.o32 then b else b &&& 0xFFFFFF#32,
                          limit := BitVec.ofNat 16 (s.num (s.lin (eaSeg s m) (eaPlus s m 0)) 2) }
    Completes (if idt then .lidtMs m else .lgdtMs m) s fun t =>
      Untouched s t ∧ FlagsSame s t ∧
        Falls { s with sys := if idt then { s.sys with idtr := r } else { s.sys with gdtr := r } } t) ∧
  (∀ (idt : Bool) (m : Ea) (s : State), s.ready → s.lockOk false = true →
    s.reaches (eaSeg s m) (eaPlus s m 0) 2 4 .write = true → eaFits s m 2 = true →
    s.reaches (eaSeg s m) (eaPlus s m 2) 4 1 .write = true →
    let r := if idt then s.sys.idtr else s.sys.gdtr
    Completes (if idt then .sidtMs m else .sgdtMs m) s fun t => ∃ (f : Word) (u : State),
      (s.o32 = true → f = r.base) ∧ f &&& 0xFFFFFF#32 = r.base &&& 0xFFFFFF#32 ∧
        Stored s u (s.lin (eaSeg s m) (eaPlus s m 0)) 2 r.limit.toNat ∧
        Stored u t (s.lin (eaSeg s m) (eaPlus s m 2)) 4 f.toNat ∧ t.gpr = s.gpr ∧ FlagsSame s t ∧ Falls s t)

/-- LLDT with a null selector or an LDT descriptor, LTR with an available TSS, SLDT and STR complete: LTR marks the TSS
busy in memory and in TR; the upper half of a 32-bit register is undefined after SLDT and STR
(40_system_instructions.md R575 to R578). -/
def Sys2Proof.Machine.MovesTaskRegisters : Prop :=
  (∀ (rm : Rm) (s : State), s.ready → s.lockOk false = true → s.protMode = true → s.cpl = 0 → s.can rm 2 .read = true →
    let sel := s.val 16 rm
    (isNull sel = true →
      Completes (.lldtEw rm) s fun t =>
        Untouched s t ∧ FlagsSame s t ∧
          Falls { s with sys := { s.sys with ldtr := { s.sys.ldtr with sel := sel, valid := false } } } t) ∧
    (∀ (a : Nat) (d : Desc), isNull sel = false → bit sel 2 = false → s.descriptor sel = some (a, d) →
      descS d = false → descType d = 2 → descP d = true →
      Completes (.lldtEw rm) s fun t =>
        Untouched s t ∧ FlagsSame s t ∧ Falls { s with sys := { s.sys with ldtr := Seg.ofDesc sel d } } t) ∧
    (∀ (a : Nat) (d : Desc), isNull sel = false → bit sel 2 = false → s.descriptor sel = some (a, d) →
      descS d = false → descType d = 1 ∨ descType d = 9 → descP d = true →
      Completes (.ltrEw rm) s fun t =>
        t.gpr = s.gpr ∧ Stored s t (a + 5) 1 (s.num (a + 5) 1 ||| 2) ∧ FlagsSame s t ∧
          Falls { s with sys := { s.sys with
            tr := { Seg.ofDesc sel d with type := descType d ||| 2 } } } t)) ∧
  (∀ (i : Instr) (sel : Half) (rm : Rm) (s : State),
    i = .sldtEw rm ∧ sel = s.sys.ldtr.sel ∨ i = .strEw rm ∧ sel = s.sys.tr.sel → s.ready → s.lockOk false = true →
    s.protMode = true → s.can rm 2 .write = true →
    Completes i s fun t =>
      (match rm with
        | .mem m => t.gpr = s.gpr ∧ Stored s t (s.ea m) 2 sel.toNat
        | .reg r => ∃ x : Word, x.setWidth 16 = sel ∧
            Wrote s t (bits s.o32) (.reg r) (x.setWidth _)) ∧ FlagsSame s t ∧ Falls s t)

/-- SMSW, LMSW and CLTS complete: LMSW writes PE, MP, EM and TS but cannot clear PE, and removes the translations held
when it sets PE; CLTS clears TS (40_system_instructions.md R581 to R583, 22_paging.md R372). -/
def Sys2Proof.Machine.MovesStatusWord : Prop :=
  (∀ (rm : Rm) (s : State), s.ready → s.lockOk false = true → s.can rm 2 .write = true →
    Completes (.smswEw rm) s fun t =>
      (match rm with
        | .mem m => t.gpr = s.gpr ∧ Stored s t (s.ea m) 2 (s.sys.cr0.setWidth 16).toNat
        | .reg r => ∃ x : Word, x.setWidth 16 = s.sys.cr0.setWidth 16 ∧
            Wrote s t (bits s.o32) (.reg r) (x.setWidth _)) ∧ FlagsSame s t ∧ Falls s t) ∧
  (∀ (rm : Rm) (s : State), s.ready → s.lockOk false = true → s.privileged = true → s.can rm 2 .read = true →
    let v : Word := (s.val 16 rm).setWidth 32
    let new := (s.sys.cr0 &&& 0xFFFFFFF1#32) ||| (v &&& 0xF#32)
    Completes (.lmswEw rm) s fun t =>
      Untouched s t ∧ FlagsSame s t ∧
        Falls { s with sys := { s.sys with cr0 := new },
                       tlb := if s.prot = bit new 0 then s.tlb else [] } t) ∧
  (∀ s : State, s.ready → s.lockOk false = true → s.privileged = true →
    Completes .clts s fun t =>
      Untouched s t ∧ FlagsSame s t ∧
        Falls { s with sys := { s.sys with cr0 := s.sys.cr0 &&& 0xFFFFFFF7#32 } } t)

/-- MOV to and from the control registers completes, with the status flags undefined. MOV to CR0 writes the defined bits and
sets bit 4, and the translations held go when PE or PG changes; that the reserved bits of CR0 and CR3 are cleared, whatever
is written, is the spec's decision D4 as the model reads it (log 23); CR3 removes the translations that are not global; CR4 those held when
PSE, PAE or PGE changes. Which of the writes read the page-directory-pointer table again is the spec's own decision D20
(22_paging.md R360, log 45): one of CR3 with 36-bit addresses on, and one of CR0 or CR4 that changes what removes the
translations and leaves 36-bit addresses on; there no other agent writes between the reads of the four entries
(40_system_instructions.md R579, 22_paging.md R372). That bits 11:5 of CR3 stay when PAE is cleared, and read as they were
loaded, is the model's choice (log 23). -/
def Sys2Proof.Machine.MovControl : Prop :=
  (∀ (r : Reg) (n : Fin 8) (s : State), s.ready → s.lockOk false = true → s.privileged = true → isCr n = true →
    Completes (.movRdCd r n) s fun t => ∃ f : Word,
      Wrote s t 32 (.reg r) (s.sys.cr n) ∧ t.eflags = flagsAfter s arithMask f ∧ Falls s t) ∧
  (∀ (r : Reg) (s : State), s.ready → s.lockOk false = true → s.privileged = true →
    let v := s.r32 r
    let new := (v &&& 0xE005002F#32) ||| 0x10#32
    let turned := bit s.sys.cr0 31 != bit v 31
    let table := turned && bit v 31 && s.pae
    let y : Sys := { s.sys with cr0 := new }
    (bit v 31 && !bit v 0) = false → (bit v 29 && !bit v 30) = false →
    (table = true → s.others = [] ∧ (s.pdpt s.sys.cr3).isSome = true) →
    Completes (.movCdRd 0 r) s fun t => ∃ f : Word,
      Untouched s t ∧ t.eflags = flagsAfter s arithMask f ∧
        Falls { s with sys := if table then y.withPdpt ((s.pdpt s.sys.cr3).getD (0, 0, 0, 0)) else y,
                       tlb := if turned || (bit s.sys.cr0 0 != bit v 0) then [] else s.tlb } t) ∧
  (∀ (r : Reg) (s : State), s.ready → s.lockOk false = true → s.privileged = true →
    Completes (.movCdRd 2 r) s fun t => ∃ f : Word,
      Untouched s t ∧ t.eflags = flagsAfter s arithMask f ∧ Falls { s with sys := { s.sys with cr2 := s.r32 r } } t) ∧
  (∀ (r : Reg) (s : State), s.ready → s.lockOk false = true → s.privileged = true →
    let v := s.r32 r &&& (if s.pae then 0xFFFFFFF8#32 else 0xFFFFF018#32)
    let table := s.paging && s.pae
    let y : Sys := { s.sys with cr3 := v }
    (table = true → s.others = [] ∧ (s.pdpt v).isSome = true) →
    Completes (.movCdRd 3 r) s fun t => ∃ f : Word,
      Untouched s t ∧ t.eflags = flagsAfter s arithMask f ∧
        Falls { s with sys := if table then y.withPdpt ((s.pdpt v).getD (0, 0, 0, 0)) else y,
                       tlb := s.tlb.filter fun e => e.global && bit s.sys.cr4 7 } t) ∧
  (∀ (r : Reg) (s : State), s.ready → s.lockOk false = true → s.privileged = true →
    let v := s.r32 r
    let changed := decide ((s.sys.cr4 ^^^ v) &&& 0xB0#32 ≠ 0)
    let table := changed && s.paging && bit v 5
    let y : Sys := { s.sys with cr4 := v }
    v &&& 0xFFFFFE00#32 = 0 → (table = true → s.others = [] ∧ (s.pdpt s.sys.cr3).isSome = true) →
    Completes (.movCdRd 4 r) s fun t => ∃ f : Word,
      Untouched s t ∧ t.eflags = flagsAfter s arithMask f ∧
        Falls { s with sys := if table then y.withPdpt ((s.pdpt s.sys.cr3).getD (0, 0, 0, 0)) else y,
                       tlb := if changed then [] else s.tlb } t)

/-- A control register is protected against bad values: PG without PE, NW without CD and a reserved bit of CR4 raise
#GP(0) (40_system_instructions.md R579); a control register that does not exist raises #UD, by the spec's decision D3
(31_opcode_map.md R548). -/
def Sys2Proof.Machine.MovControlFaults : Prop :=
  (∀ (r : Reg) (s : State), s.lockOk false = true → s.privileged = true →
    ((bit (s.r32 r) 31 && !bit (s.r32 r) 0) = true ∨ (bit (s.r32 r) 29 && !bit (s.r32 r) 30) = true) →
    Raises (.movCdRd 0 r) s 13 (some 0)) ∧
  (∀ (r : Reg) (s : State), s.lockOk false = true → s.privileged = true → s.r32 r &&& 0xFFFFFE00#32 ≠ 0 →
    Raises (.movCdRd 4 r) s 13 (some 0)) ∧
  (∀ (r : Reg) (n : Fin 8) (s : State), s.lockOk false = true → s.privileged = true → isCr n = false →
    Raises (.movCdRd n r) s 6 none ∧ Raises (.movRdCd r n) s 6 none)

/-- MOV to and from the debug registers completes, with the status flags undefined; the fixed bits of DR6 and DR7 stay;
DR4 and DR5 are DR6 and DR7, or raise #UD with CR4.DE set; with DR7.GD set the access raises #DB with BD
(40_system_instructions.md R580, 10_state.md R74 to R76). That the reserved bits of DR6 that are 1, and bit 10 of DR7, stay 1
whatever is written is the spec's own decision D5, as R75 says (log 45). -/
def Obligations.DebugRegisters : Prop :=
  (∀ (r : Reg) (n : Fin 8) (s : State), s.ready → s.lockOk false = true → s.privileged = true → s.drOk n = true →
    Completes (.movRdDd r n) s fun t => ∃ f : Word,
      Wrote s t 32 (.reg r) (s.dbg.dr (drAlias n)) ∧ t.eflags = flagsAfter s arithMask f ∧ Falls s t) ∧
  (∀ (r : Reg) (n : Fin 8) (s : State), s.ready → s.lockOk false = true → s.privileged = true → s.drOk n = true →
    let k := drAlias n
    let v := s.r32 r
    Completes (.movDdRd n r) s fun t => ∃ f : Word,
      t.dbg.dr k = (if k = 6 then (v &&& 0xE00F#32) ||| 0xFFFF0FF0#32
        else if k = 7 then (v &&& 0xFFFF27FF#32) ||| 0x400#32 else v) ∧
      (∀ j ∈ [0, 1, 2, 3, 6, 7], j ≠ k → t.dbg.dr j = s.dbg.dr j) ∧
        Untouched s t ∧ t.eflags = flagsAfter s arithMask f ∧ Falls { s with dbg := t.dbg } t) ∧
  (∀ (r : Reg) (n : Fin 8) (s : State), s.lockOk false = true → s.privileged = true → n = 4 ∨ n = 5 →
    bit s.sys.cr4 3 = true → Raises (.movDdRd n r) s 6 none ∧ Raises (.movRdDd r n) s 6 none) ∧
  (∀ (i : Instr) (r : Reg) (n : Fin 8) (s : State), i = .movDdRd n r ∨ i = .movRdDd r n → s.lockOk false = true →
    s.privileged = true → (n = 4 ∨ n = 5 → bit s.sys.cr4 3 = false) → bit s.dbg.dr7 13 = true →
    ∃ u : State, exec i s = takeException s u { vec := 1, code := none, cr2 := none, dr6 := 0x2000#32, keep := false } ∧
      u.mem = s.mem ∧ u.tlb = s.tlb ∧ u.bus = s.bus ∧ u.dbg.dr6 = s.dbg.dr6)

/-- RDMSR, WRMSR, RDTSC, RDPMC and CPUID complete. RDMSR and WRMSR move EDX:EAX from or to the register that ECX names,
each register with its own bits; a write of a reserved bit, of an illegal value or of a register that is read-only raises
#GP(0), and so do both for an address without a register (11_state_msr.md R132, R133, R135;
40_system_instructions.md R600, R601). RDTSC and RDPMC read the time-stamp counter and a performance counter where CR4 and
CPL allow it (65_debug_perfmon.md R1140, R1152); CPUID reports the processor (40_system_instructions.md R604). A write of
MCG_CAP is refused (mcgCapWrite), and so is one of MC0_CTL, or of MCG_CTL or MCi_CTL with anything but all zeros or all ones
(mcCtlWrite), for which no effect is given. What a reserved or undefined bit reads as, and what MCi_CTL holds after all
ones, are free values (logs 4 and 43). That software changes neither the BSP bit of APICBASE nor a cleared E bit is the
model's choice (log 29, DEDUCED), and so are the bits of EBL_CR_POWERON and ROB_CR_BKUPTMPDR6 that are stored (log 30,
DESIGN CHOICE), and what P5_MC_ADDR reads as where its bank is 4 (log 57, DESIGN CHOICE). The spec's own decisions are #GP(0)
for an address without a register (D6, R133) and for a write of P5_MC_ADDR and P5_MC_TYPE (D8), of MCi_ADDR and MCi_MISC and
of the last-branch registers (D53), that the other bits of APICBASE read as last written (D9, R138), and that a write of
BIOS_UPDT_TRIG or BIOS_SIGN has no effect and a read of one gives any value (D11, R140) (log 45). CPUID reports an FPU, which
this processor always has (70_reset_and_hazards.md R1299). -/
def Obligations.ModelRegisters : Prop :=
  (∀ (r : MsrRow) (s : State), r ∈ msrTable → s.ready → s.lockOk false = true → s.privileged = true →
    (s.r32 .ecx).toNat = r.addr →
    Completes .rdmsr s fun t => ∃ v : QWord, v &&& ~~~r.unfixed s.msr = r.get s.msr &&& ~~~r.unfixed s.msr ∧
      t.gpr = ((s.setR32 .edx (field v 32 32)).setR32 .eax (field v 0 32)).gpr ∧ MemSame s t ∧ FlagsSame s t ∧
        Falls s t) ∧
  (∀ (r : MsrRow) (s : State), r ∈ msrTable → s.ready → s.lockOk false = true → s.privileged = true →
    (s.r32 .ecx).toNat = r.addr → r.verdict s.edxEax = .takes →
    Completes .wrmsr s fun t => ∃ a b c d : Word,
      let m := r.put s.edxEax s.msr
      Untouched s t ∧ FlagsSame s t ∧
        Falls { s with msr := if r.addr = 0x1D9 ∧ s.edxEax.getLsbD 6 = true then m.withBranches a b c d else m,
                       tlb := if r.isMtrr then [] else s.tlb } t) ∧
  (∀ (r : MsrRow) (s : State), r ∈ msrTable → s.lockOk false = true → s.privileged = true →
    (s.r32 .ecx).toNat = r.addr → r.verdict s.edxEax = .gp → Raises .wrmsr s 13 (some 0)) ∧
  (∀ (r : MsrRow) (k : Refusal) (s : State), r ∈ msrTable → s.lockOk false = true → s.privileged = true →
    (s.r32 .ecx).toNat = r.addr → r.verdict s.edxEax = .stops k → exec .wrmsr s = .refused k) ∧
  (∀ s : State, s.lockOk false = true → s.privileged = true → (∀ r ∈ msrTable, (s.r32 .ecx).toNat ≠ r.addr) →
    Raises .rdmsr s 13 (some 0) ∧ Raises .wrmsr s 13 (some 0)) ∧
  (∀ s : State, s.ready → s.lockOk false = true → (bit s.sys.cr4 2 = false ∨ s.prot = false ∨ s.cpl = 0) →
    Completes .rdtsc s fun t =>
      t.gpr = ((s.setR32 .edx (field s.msr.tsc 32 32)).setR32 .eax (field s.msr.tsc 0 32)).gpr ∧ MemSame s t ∧
        FlagsSame s t ∧ Falls s t) ∧
  (∀ (c : BitVec 40) (s : State), s.ready → s.lockOk false = true →
    (bit s.sys.cr4 8 = true ∨ s.prot = false ∨ s.cpl = 0) →
    (s.r32 .ecx = 0 ∧ c = s.msr.perfCtr0 ∨ s.r32 .ecx = 1 ∧ c = s.msr.perfCtr1) →
    Completes .rdpmc s fun t =>
      t.gpr = ((s.setR32 .edx (field (c.setWidth 64) 32 32)).setR32 .eax (field c 0 32)).gpr ∧ MemSame s t ∧
        FlagsSame s t ∧ Falls s t) ∧
  (∀ s : State, s.lockOk false = true → s.r32 .ecx ≠ 0 → s.r32 .ecx ≠ 1 → Raises .rdpmc s 13 (some 0)) ∧
  (∀ s : State, s.ready → s.lockOk false = true →
    Completes .cpuid s fun t =>
      (∃ a b c d : Word, t.gpr = { s.gpr with eax := a, ebx := b, ecx := c, edx := d } ∧
        (s.r32 .eax = 0 → a = 2 ∧ b = 0x756E6547#32 ∧ c = 0x6C65746E#32 ∧ d = 0x49656E69#32) ∧
        (s.r32 .eax = 1 → a = State.reset.r32 .edx ∧ b = 0 ∧ c = 0 ∧ ∀ k ∈ [0, 1, 4, 5, 7, 8, 12, 14], bit d k = true)) ∧
      MemSame s t ∧ FlagsSame s t ∧ Falls s t)

/-- INVD, WBINVD, INVLPG and HLT complete. INVD leaves each byte as it is or, where it has not been written back, as
memory holds it (20_memory.md R254); WBINVD leaves every byte as it is, but one: that it may lose what was written in the
mode CD = NW = 1 to a line that memory does not agree with is the model's choice (log 14, DEDUCED). Both remove the
translations held and send their special cycle, INVD a SYNC cycle and WBINVD a FLUSH cycle (R254). INVLPG removes the
translations of one page; HLT halts (40_system_instructions.md R589, R591, R592). -/
def Obligations.CachesAndHalt : Prop :=
  (∀ s : State, s.ready → s.lockOk false = true → s.privileged = true →
    Completes .invd s fun t =>
      t.gpr = s.gpr ∧
        (∀ k, memRead t.mem k = memRead s.mem k ∨ ∃ c ∈ s.stale, c.addr = k ∧ c.old = memRead t.mem k) ∧
        t.stale = [] ∧ FlagsSame s t ∧ Falls { s with tlb := [], cached := false, bus := .sync :: s.bus } t) ∧
  (∀ s : State, s.ready → s.lockOk false = true → s.privileged = true →
    Completes .wbinvd s fun t =>
      t.gpr = s.gpr ∧
        (∀ k, memRead t.mem k = memRead s.mem k ∨
          ∃ c ∈ s.stale, c.split = true ∧ c.addr = k ∧ c.old = memRead t.mem k) ∧
        t.stale = [] ∧ FlagsSame s t ∧ Falls { s with tlb := [], cached := false, bus := .flush :: s.bus } t) ∧
  (∀ (m : Ea) (s : State), s.ready → s.lockOk false = true → s.privileged = true →
    Completes (.invlpgM m) s fun t =>
      Untouched s t ∧ FlagsSame s t ∧
        Falls { s with tlb := s.tlb.filter fun e => !decide (s.ea m / e.size * e.size = e.page) } t) ∧
  (∀ s : State, s.ready → s.lockOk false = true → s.privileged = true →
    Completes .hlt s fun t =>
      Untouched s t ∧ FlagsSame s t ∧
        Falls { s with bus := .halt :: s.bus, lat := { s.lat with activity := .halted } } t)

/-- ARPL, LAR, LSL, VERR and VERW complete in protected mode: ARPL raises the RPL of its operand to that of the
register, the others look at a descriptor without loading it and say by ZF whether it may be used at CPL and RPL
(40_system_instructions.md R584 to R588). That LAR clears bits 19:16 of its result is the spec's own decision D27, as R585
says (log 45). The operand of ARPL is checked as a write, adjusted or not: a segment that cannot be written raises #GP(0)
(23_protection.md R410, 43_general_instructions.md R771). -/
def Obligations.SelectorTests : Prop :=
  (∀ (rm : Rm) (r : Reg) (s : State), s.ready → s.lockOk false = true → s.protMode = true → s.can rm 2 .write = true →
    Completes (.arplEwGw rm r) s fun t =>
      let d := s.val 16 rm
      let up := decide (d.toNat % 4 < (s.r32 r).toNat % 4)
      (if up then Wrote s t 16 rm (BitVec.ofNat 16 (d.toNat - d.toNat % 4 + (s.r32 r).toNat % 4)) else Untouched s t) ∧
        t.eflags = flagsAfter s 0x40#32 (if up then 0x40#32 else 0) ∧ Falls s t) ∧
  (∀ (m : Ea) (r : Reg) (s : State), s.lockOk false = true → s.protMode = true →
    (s.seg.get (eaSeg s m)).allows (eaSeg s m) .write s.prot = false → Raises (.arplEwGw (.mem m) r) s 13 (some 0)) ∧
  (∀ (i : Instr) (rm : Rm) (s : State), i = .verrEw rm ∨ i = .verwEw rm ∨ (∃ r, i = .larGvEw r rm ∨ i = .lslGvEw r rm) →
    s.ready → s.lockOk false = true → s.protMode = true → s.can rm 2 .read = true →
    isNull (s.val 16 rm) = true ∨ s.descAddr (s.val 16 rm) = none →
    Completes i s fun t => Untouched s t ∧ t.eflags = flagsAfter s 0x40#32 0 ∧ Falls s t) ∧
  (∀ (i : Instr) (rm : Rm) (r : Reg) (a : Nat) (d : Desc) (ok : Bool) (v : Option Word) (s : State), s.ready →
    s.lockOk false = true → s.protMode = true → s.can rm 2 .read = true →
    let sel := s.val 16 rm
    let seen := decide (s.cpl ≤ descDpl d) && decide (rpl sel ≤ descDpl d)
    let ty := (descType d).toNat
    isNull sel = false → s.descriptor sel = some (a, d) →
    (i = .verrEw rm ∧ ok = (isReadable (descS d) (descType d) && (descConforming d || seen)) ∧ v = none ∨
      i = .verwEw rm ∧ ok = (isWritable (descS d) (descType d) && seen) ∧ v = none ∨
      i = .larGvEw r rm ∧ ok = ((descS d || [1, 2, 3, 4, 5, 9, 11, 12].contains ty) && (descConforming d || seen)) ∧
        v = some (field d 32 32 &&& 0xF0FF00#32) ∨
      i = .lslGvEw r rm ∧ ok = ((descS d || [1, 2, 3, 9, 11].contains ty) && (descConforming d || seen)) ∧
        v = some (descLimit d)) →
    Completes i s fun t =>
      (match v with
        | some x => if ok then Wrote s t (bits s.o32) (.reg r) (x.setWidth _) else Untouched s t
        | none => Untouched s t) ∧
      t.eflags = flagsAfter s 0x40#32 (if ok then 0x40#32 else 0) ∧ Falls s t)

/-- RSM completes where the slots that must not change are as the SMI wrote them and asks for no restart: the general
registers, EIP, EFLAGS and the selectors come from the save map, the hidden parts, CR4, the limits and CPL from the
record of the SMI, SMBASE from its slot, and system-management mode is left; outside that mode RSM raises #UD
(64_smm.md R1090). That RF stays as the image has it is the model's choice (log 28, DEDUCED: 60_exceptions.md R845 does not
list RSM), and so is the comparison of the reserved areas with what the SMI left there (log 41). No other agent writes
between its accesses. A debug trap that waited at the SMI waits again (D41), the hidden record is D42, and all translations go
(D45); DR0 to DR3, CR2, the FPU, the model-specific registers and the local APIC stay as the handler left them (R1067). An
illegal CR0 in the save map shuts the processor down with every register as the handler had it, outside the mode (D49)
(log 45). -/
def Sys2Proof.Machine.LeavesSmm : Prop :=
  (∀ s : State, s.ready → s.lockOk false = true → s.noLbr = true → s.smm.inSmm = true →
    s.smm.smbase.toNat + 0x10000 ≤ 2 ^ 32 → s.ramAt (s.smm.smbase.toNat + 0xFE00) 0x200 = true → cr0Bad (s.slot32 0x7FFC) = false →
    (bit (s.slot32 0x7FFC) 31 && bit s.smm.saved.cr4 5) = false → s.smmReadOnly = s.smm.saved.image →
    s.others = [] → s.reservedBytes s.smm.smbase = s.smm.saved.reserved →
    s.slot 0x7F02 2 % 2 = 0 → s.slot 0x7F00 2 = 0 →
    let r := s.smm.saved
    Completes .rsm s fun t =>
      t.gpr = { eax := s.slot32 0x7FD0, ecx := s.slot32 0x7FD4, edx := s.slot32 0x7FD8, ebx := s.slot32 0x7FDC,
                esp := s.slot32 0x7FE0, ebp := s.slot32 0x7FE4, esi := s.slot32 0x7FE8, edi := s.slot32 0x7FEC } ∧
      t.eip = s.slot32 0x7FF0 ∧ t.eflags = (s.slot32 0x7FF4 &&& 0x3F7FD5#32) ||| 2#32 ∧ t.cpl = r.cpl ∧
      t.seg.cs = { r.segs.cs with sel := s.slotSel 0x7FAC } ∧ t.seg.ss = { r.segs.ss with sel := s.slotSel 0x7FB0 } ∧
      t.seg.ds = { r.segs.ds with sel := s.slotSel 0x7FB4 } ∧ t.seg.es = { r.segs.es with sel := s.slotSel 0x7FA8 } ∧
      t.seg.fs = { r.segs.fs with sel := s.slotSel 0x7FB8 } ∧ t.seg.gs = { r.segs.gs with sel := s.slotSel 0x7FBC } ∧
      t.sys = { s.sys with
        cr0 := (s.slot32 0x7FFC &&& 0xE005002F#32) ||| 0x10#32, cr3 := s.slot32 0x7FF8, cr4 := r.cr4,
        tr := { r.tr with sel := s.slotSel 0x7FC4 }, ldtr := { r.ldtr with sel := s.slotSel 0x7FC0 },
        gdtr := ⟨s.slot32 0x7F88, r.gdtLimit⟩, idtr := ⟨s.slot32 0x7F94, r.idtLimit⟩ } ∧
      t.dbg = { s.dbg with dr6 := s.slot32 0x7FCC, dr7 := s.slot32 0x7FC8, pendB := r.pendB, pendS := r.pendS,
                           pendT := r.pendT, late := r.late } ∧
      Latches.same { s.lat with nmiBlocked := r.nmiBlocked } t.lat ∧ t.smm.inSmm = false ∧ t.smm.smbase = s.slot32 0x7EF8 ∧
      MemSame s t ∧ t.tlb = [] ∧ t.msr = s.msr ∧ t.fpu = s.fpu ∧ t.apic = s.apic ∧ t.bus = s.bus) ∧
  (∀ s : State, s.ready → s.lockOk false = true → s.smm.inSmm = true → s.smm.smbase.toNat + 0x10000 ≤ 2 ^ 32 →
    s.ramAt (s.smm.smbase.toNat + 0xFE00) 0x200 = true → s.others = [] → cr0Bad (s.slot32 0x7FFC) = true →
    Completes .rsm s fun t =>
      Untouched s t ∧ t.eip = s.eip ∧ t.eflags = s.eflags ∧ t.cpl = s.cpl ∧ t.seg = s.seg ∧ t.sys = s.sys ∧ t.dbg = s.dbg ∧
        t.smm.inSmm = false ∧ t.smm.smbase = s.smm.smbase ∧ t.msr = s.msr ∧ t.fpu = s.fpu ∧ t.apic = s.apic ∧
        t.tlb = s.tlb ∧ t.bus = .shutdown :: s.bus ∧ Latches.same { s.lat with activity := .shutdown } t.lat) ∧
  (∀ s : State, s.smm.inSmm = false → Raises .rsm s 6 none)



namespace Sys2Proof.Machine

/-- A floating-point instruction that reads memory: its opcode number, the size of its operand and the alignment
that the operand is checked for. -/
inductive IsFpuLoad (m : Ea) : Instr → Nat → Nat → Nat → Prop where
  | faddM32 : IsFpuLoad m (.faddM32 m) 328 4 4
  | fmulM32 : IsFpuLoad m (.fmulM32 m) 329 4 4
  | fcomM32 : IsFpuLoad m (.fcomM32 m) 330 4 4
  | fcompM32 : IsFpuLoad m (.fcompM32 m) 331 4 4
  | fsubM32 : IsFpuLoad m (.fsubM32 m) 332 4 4
  | fsubrM32 : IsFpuLoad m (.fsubrM32 m) 333 4 4
  | fdivM32 : IsFpuLoad m (.fdivM32 m) 334 4 4
  | fdivrM32 : IsFpuLoad m (.fdivrM32 m) 335 4 4
  | fldM32 : IsFpuLoad m (.fldM32 m) 336 4 4
  | fiaddI32 : IsFpuLoad m (.fiaddI32 m) 343 4 4
  | fimulI32 : IsFpuLoad m (.fimulI32 m) 344 4 4
  | ficomI32 : IsFpuLoad m (.ficomI32 m) 345 4 4
  | ficompI32 : IsFpuLoad m (.ficompI32 m) 346 4 4
  | fisubI32 : IsFpuLoad m (.fisubI32 m) 347 4 4
  | fisubrI32 : IsFpuLoad m (.fisubrI32 m) 348 4 4
  | fidivI32 : IsFpuLoad m (.fidivI32 m) 349 4 4
  | fidivrI32 : IsFpuLoad m (.fidivrI32 m) 350 4 4
  | fildI32 : IsFpuLoad m (.fildI32 m) 351 4 4
  | fldM80 : IsFpuLoad m (.fldM80 m) 354 10 8
  | fbld : IsFpuLoad m (.fbld m) 381 10 8
  | faddM64 : IsFpuLoad m (.faddM64 m) 356 8 8
  | fmulM64 : IsFpuLoad m (.fmulM64 m) 357 8 8
  | fcomM64 : IsFpuLoad m (.fcomM64 m) 358 8 8
  | fcompM64 : IsFpuLoad m (.fcompM64 m) 359 8 8
  | fsubM64 : IsFpuLoad m (.fsubM64 m) 360 8 8
  | fsubrM64 : IsFpuLoad m (.fsubrM64 m) 361 8 8
  | fdivM64 : IsFpuLoad m (.fdivM64 m) 362 8 8
  | fdivrM64 : IsFpuLoad m (.fdivrM64 m) 363 8 8
  | fldM64 : IsFpuLoad m (.fldM64 m) 364 8 8
  | fildI64 : IsFpuLoad m (.fildI64 m) 382 8 8
  | fiaddI16 : IsFpuLoad m (.fiaddI16 m) 370 2 2
  | fimulI16 : IsFpuLoad m (.fimulI16 m) 371 2 2
  | ficomI16 : IsFpuLoad m (.ficomI16 m) 372 2 2
  | ficompI16 : IsFpuLoad m (.ficompI16 m) 373 2 2
  | fisubI16 : IsFpuLoad m (.fisubI16 m) 374 2 2
  | fisubrI16 : IsFpuLoad m (.fisubrI16 m) 375 2 2
  | fidivI16 : IsFpuLoad m (.fidivI16 m) 376 2 2
  | fidivrI16 : IsFpuLoad m (.fidivrI16 m) 377 2 2
  | fildI16 : IsFpuLoad m (.fildI16 m) 378 2 2

/-- A floating-point instruction that writes memory. -/
inductive IsFpuStore (m : Ea) : Instr → Nat → Nat → Nat → Prop where
  | fstM32 : IsFpuStore m (.fstM32 m) 337 4 4
  | fstpM32 : IsFpuStore m (.fstpM32 m) 338 4 4
  | fistI32 : IsFpuStore m (.fistI32 m) 352 4 4
  | fistpI32 : IsFpuStore m (.fistpI32 m) 353 4 4
  | fstpM80 : IsFpuStore m (.fstpM80 m) 355 10 8
  | fbstp : IsFpuStore m (.fbstp m) 383 10 8
  | fstM64 : IsFpuStore m (.fstM64 m) 365 8 8
  | fstpM64 : IsFpuStore m (.fstpM64 m) 366 8 8
  | fistpI64 : IsFpuStore m (.fistpI64 m) 384 8 8
  | fistI16 : IsFpuStore m (.fistI16 m) 379 2 2
  | fistpI16 : IsFpuStore m (.fistpI16 m) 380 2 2

/-- A floating-point instruction without a memory operand: its opcode number and, for FCMOVcc, its condition. -/
inductive IsFpuReg : Instr → Nat → Option Cond → Prop where
  | fnop : IsFpuReg .fnop 395 none
  | fchs : IsFpuReg .fchs 396 none
  | fabs : IsFpuReg .fabs 397 none
  | ftst : IsFpuReg .ftst 398 none
  | fxam : IsFpuReg .fxam 399 none
  | fld1 : IsFpuReg .fld1 400 none
  | fldl2t : IsFpuReg .fldl2t 401 none
  | fldl2e : IsFpuReg .fldl2e 402 none
  | fldpi : IsFpuReg .fldpi 403 none
  | fldlg2 : IsFpuReg .fldlg2 404 none
  | fldln2 : IsFpuReg .fldln2 405 none
  | fldz : IsFpuReg .fldz 406 none
  | f2xm1 : IsFpuReg .f2xm1 407 none
  | fyl2x : IsFpuReg .fyl2x 408 none
  | fptan : IsFpuReg .fptan 409 none
  | fpatan : IsFpuReg .fpatan 410 none
  | fxtract : IsFpuReg .fxtract 411 none
  | fprem1 : IsFpuReg .fprem1 412 none
  | fdecstp : IsFpuReg .fdecstp 413 none
  | fincstp : IsFpuReg .fincstp 414 none
  | fprem : IsFpuReg .fprem 415 none
  | fyl2xp1 : IsFpuReg .fyl2xp1 416 none
  | fsqrt : IsFpuReg .fsqrt 417 none
  | fsincos : IsFpuReg .fsincos 418 none
  | frndint : IsFpuReg .frndint 419 none
  | fscale : IsFpuReg .fscale 420 none
  | fsin : IsFpuReg .fsin 421 none
  | fcos : IsFpuReg .fcos 422 none
  | fucompp : IsFpuReg .fucompp 423 none
  | fcompp : IsFpuReg .fcompp 443 none
  | faddSTSTi (n : Fin 8) : IsFpuReg (.faddSTSTi n) (385 + 512 * n.val) none
  | fmulSTSTi (n : Fin 8) : IsFpuReg (.fmulSTSTi n) (386 + 512 * n.val) none
  | fcomSTSTi (n : Fin 8) : IsFpuReg (.fcomSTSTi n) (387 + 512 * n.val) none
  | fcompSTSTi (n : Fin 8) : IsFpuReg (.fcompSTSTi n) (388 + 512 * n.val) none
  | fsubSTSTi (n : Fin 8) : IsFpuReg (.fsubSTSTi n) (389 + 512 * n.val) none
  | fsubrSTSTi (n : Fin 8) : IsFpuReg (.fsubrSTSTi n) (390 + 512 * n.val) none
  | fdivSTSTi (n : Fin 8) : IsFpuReg (.fdivSTSTi n) (391 + 512 * n.val) none
  | fdivrSTSTi (n : Fin 8) : IsFpuReg (.fdivrSTSTi n) (392 + 512 * n.val) none
  | fldSTSTi (n : Fin 8) : IsFpuReg (.fldSTSTi n) (393 + 512 * n.val) none
  | fxchSTSTi (n : Fin 8) : IsFpuReg (.fxchSTSTi n) (394 + 512 * n.val) none
  | faddSTiST (n : Fin 8) : IsFpuReg (.faddSTiST n) (426 + 512 * n.val) none
  | fmulSTiST (n : Fin 8) : IsFpuReg (.fmulSTiST n) (427 + 512 * n.val) none
  | fsubrSTiST (n : Fin 8) : IsFpuReg (.fsubrSTiST n) (428 + 512 * n.val) none
  | fsubSTiST (n : Fin 8) : IsFpuReg (.fsubSTiST n) (429 + 512 * n.val) none
  | fdivrSTiST (n : Fin 8) : IsFpuReg (.fdivrSTiST n) (430 + 512 * n.val) none
  | fdivSTiST (n : Fin 8) : IsFpuReg (.fdivSTiST n) (431 + 512 * n.val) none
  | ffreeSTi (n : Fin 8) : IsFpuReg (.ffreeSTi n) (432 + 512 * n.val) none
  | fstSTi (n : Fin 8) : IsFpuReg (.fstSTi n) (433 + 512 * n.val) none
  | fstpSTi (n : Fin 8) : IsFpuReg (.fstpSTi n) (434 + 512 * n.val) none
  | fucomSTiST (n : Fin 8) : IsFpuReg (.fucomSTiST n) (435 + 512 * n.val) none
  | fucompSTi (n : Fin 8) : IsFpuReg (.fucompSTi n) (436 + 512 * n.val) none
  | faddpSTiST (n : Fin 8) : IsFpuReg (.faddpSTiST n) (437 + 512 * n.val) none
  | fmulpSTiST (n : Fin 8) : IsFpuReg (.fmulpSTiST n) (438 + 512 * n.val) none
  | fsubrpSTiST (n : Fin 8) : IsFpuReg (.fsubrpSTiST n) (439 + 512 * n.val) none
  | fsubpSTiST (n : Fin 8) : IsFpuReg (.fsubpSTiST n) (440 + 512 * n.val) none
  | fdivrpSTiST (n : Fin 8) : IsFpuReg (.fdivrpSTiST n) (441 + 512 * n.val) none
  | fdivpSTiST (n : Fin 8) : IsFpuReg (.fdivpSTiST n) (442 + 512 * n.val) none
  | fcmovbSTSTi (n : Fin 8) : IsFpuReg (.fcmovbSTSTi n) (445 + 512 * n.val) (some .b)
  | fcmoveSTSTi (n : Fin 8) : IsFpuReg (.fcmoveSTSTi n) (446 + 512 * n.val) (some .e)
  | fcmovbeSTSTi (n : Fin 8) : IsFpuReg (.fcmovbeSTSTi n) (447 + 512 * n.val) (some .be)
  | fcmovuSTSTi (n : Fin 8) : IsFpuReg (.fcmovuSTSTi n) (448 + 512 * n.val) (some .p)
  | fcmovnbSTSTi (n : Fin 8) : IsFpuReg (.fcmovnbSTSTi n) (449 + 512 * n.val) (some .ae)
  | fcmovneSTSTi (n : Fin 8) : IsFpuReg (.fcmovneSTSTi n) (450 + 512 * n.val) (some .ne)
  | fcmovnbeSTSTi (n : Fin 8) : IsFpuReg (.fcmovnbeSTSTi n) (451 + 512 * n.val) (some .a)
  | fcmovnuSTSTi (n : Fin 8) : IsFpuReg (.fcmovnuSTSTi n) (452 + 512 * n.val) (some .np)

/-- A floating-point comparison that sets ZF, PF and CF. -/
inductive IsFpuFlags : Instr → Nat → Prop where
  | fucomiSTSTi (n : Fin 8) : IsFpuFlags (.fucomiSTSTi n) (453 + 512 * n.val)
  | fcomiSTSTi (n : Fin 8) : IsFpuFlags (.fcomiSTSTi n) (454 + 512 * n.val)
  | fucomipSTSTi (n : Fin 8) : IsFpuFlags (.fucomipSTSTi n) (455 + 512 * n.val)
  | fcomipSTSTi (n : Fin 8) : IsFpuFlags (.fcomipSTSTi n) (456 + 512 * n.val)

/-- A floating-point instruction that waits for a pending error (43_general_instructions.md R811). -/
inductive IsWaiting : Instr → Prop where
  | load {m i op n a} : IsFpuLoad m i op n a → IsWaiting i
  | store {m i op n a} : IsFpuStore m i op n a → IsWaiting i
  | reg {i op c} : IsFpuReg i op c → IsWaiting i
  | flags {i op} : IsFpuFlags i op → IsWaiting i
  | fldenv (m : Ea) : IsWaiting (.fldenv m)
  | frstor (m : Ea) : IsWaiting (.frstor m)
  | fldcw (m : Ea) : IsWaiting (.fldcw m)

/-- An ESC instruction (43_general_instructions.md R810). -/
inductive IsEsc : Instr → Prop where
  | waits {i} : IsWaiting i → IsEsc i
  | fstenv (m : Ea) : IsEsc (.fstenvFnstenv m)
  | fsave (m : Ea) : IsEsc (.fsaveFnsave m)
  | fstcw (m : Ea) : IsEsc (.fstcwFnstcw m)
  | fstsw (m : Ea) : IsEsc (.fstswFnstsw m)
  | fstswAx : IsEsc .fstswAxFnstswAx
  | finit : IsEsc .finitFninit
  | fclex : IsEsc .fclexFnclex

/-- An ESC instruction executes: CR0.EM and CR0.TS are clear (43_general_instructions.md R810). -/
def State.fpuOn (s : State) : Bool := s.lockOk false && !bit s.sys.cr0 2 && !bit s.sys.cr0 3

/-- A waiting instruction goes on: no unmasked error is pending, or it is ignored (43_general_instructions.md R811). -/
def State.fpuGoes (s : State) : Bool :=
  s.fpuOn && (!bit s.fpu.sw 7 || (!bit s.sys.cr0 5 && s.lat.ignne))

/-- The state with another FPU state; FERR# is released with the error. -/
def State.fpuAs (s : State) (f : Fpu) : State :=
  { s with fpu := f, lat := { s.lat with ferr := s.lat.ferr && bit f.sw 7 } }

/-- The FPU state after an instruction without a memory operand: the instruction pointer at it. -/
def State.fpuAt (s : State) (f : Fpu) : Fpu :=
  { f with ipSel := s.seg.cs.sel, ip := s.eip, dpSel := s.fpu.dpSel, dp := s.fpu.dp }

/-- The FPU state after an instruction with a memory operand: both pointers. -/
def State.fpuAtMem (s : State) (m : Ea) (f : Fpu) : Fpu :=
  { f with ipSel := s.seg.cs.sel, ip := s.eip, dpSel := (s.seg.get (eaSeg s m)).sel, dp := eaOffset s m }

/-- The linear address of an operand at its first byte, as a multi-byte access finds it. -/
def State.eaAt (s : State) (m : Ea) : Nat := s.lin (eaSeg s m) (eaPlus s m 0)

/-- `n` bytes at an operand can be accessed. -/
def State.fpuCan (s : State) (m : Ea) (n align : Nat) (k : Access) : Bool :=
  s.reaches (eaSeg s m) (eaPlus s m 0) n align k

end Sys2Proof.Machine

/-- Floating-point instructions on the register stack and those that read or write memory complete: the FPU state is
what FPU_MODEL makes of the state before, the operand and the condition, with the instruction and data pointers at the
instruction; a store writes the bytes of its operand; nothing else changes (43_general_instructions.md R810 to R812; pointers:
log 8). That FCMOVcc, FCOMI, FCOMIP, FUCOMI and FUCOMIP run at all is the model's choice (log 22, DESIGN CHOICE), and so is
the alignment to 8 bytes for which the operand of FBLD and FBSTP is checked (log 31, DESIGN CHOICE). -/
def Obligations.FloatingPoint : Prop :=
  (∀ (i : Instr) (op : Nat) (c : Option Cond) (s : State), IsFpuReg i op c → s.ready → s.fpuGoes = true →
    let x := match c with | some k => if s.cond k then 1 else 0 | none => 0
    Completes i s fun t =>
      Untouched s t ∧ FlagsSame s t ∧ Falls (s.fpuAs (s.fpuAt (Config.fpuRun op s.o32 x s.fpu))) t) ∧
  (∀ (m : Ea) (i : Instr) (op n align : Nat) (s : State), IsFpuLoad m i op n align → s.ready → s.fpuGoes = true →
    s.fpuCan m n align .read = true →
    Completes i s fun t =>
      Untouched s t ∧ FlagsSame s t ∧
        Falls (s.fpuAs (s.fpuAtMem m (Config.fpuRun op s.o32 (s.num (s.eaAt m) n) s.fpu))) t) ∧
  (∀ (i : Instr) (op : Nat) (s : State), IsFpuFlags i op → s.ready → s.fpuGoes = true →
    Completes i s fun t => ∃ f : Word,
      let c := Config.fpuCompare op s.fpu
      Untouched s t ∧
        t.eflags = flagsAfter s arithMask (setBit (setBit (setBit f fZF (bit c 2)) fPF (bit c 1)) fCF (bit c 0)) ∧
        Falls (s.fpuAs (s.fpuAt (Config.fpuRun op s.o32 0 s.fpu))) t) ∧
  (∀ (m : Ea) (i : Instr) (op n align : Nat) (s : State), IsFpuStore m i op n align → s.ready → s.fpuGoes = true →
    s.fpuCan m n align .write = true →
    Completes i s fun t =>
      t.gpr = s.gpr ∧ Stored s t (s.eaAt m) n (Config.fpuStore op s.o32 s.fpu) ∧ FlagsSame s t ∧
        Falls (s.fpuAs (s.fpuAtMem m (Config.fpuRun op s.o32 0 s.fpu))) t)

/-- The FPU control instructions and WAIT complete. FINIT leaves control word 037FH, status word 0, all tags empty and
the pointers 0; the control and status words are stored and loaded whole; environments and save images move at 14 or
28 and 94 or 108 bytes by operand size, without a test of a pending error where they are stored
(10_state.md R79, 43_general_instructions.md R811, R812; sizes and ES: logs 8 and 24). -/
def Obligations.FpuControl : Prop :=
  (∀ s : State, s.ready → s.fpuOn = true →
    Completes .finitFninit s fun t =>
      Untouched s t ∧ FlagsSame s t ∧
        Falls (s.fpuAs { s.fpu with cw := 0x37F#16, sw := 0, tw := 0xFFFF#16, ipSel := 0, ip := 0, dpSel := 0,
                                    dp := 0 }) t) ∧
  (∀ s : State, s.ready → s.fpuOn = true →
    Completes .fclexFnclex s fun t =>
      Untouched s t ∧ FlagsSame s t ∧ Falls (s.fpuAs (Config.fpuRun 424 s.o32 0 s.fpu)) t) ∧
  (∀ s : State, s.ready → s.fpuOn = true →
    Completes .fstswAxFnstswAx s fun t =>
      Wrote s t 16 (.reg .eax) s.fpu.sw ∧ FlagsSame s t ∧ Falls s t) ∧
  (∀ (i : Instr) (m : Ea) (v : Half) (s : State),
    i = .fstcwFnstcw m ∧ v = s.fpu.cw ∨ i = .fstswFnstsw m ∧ v = s.fpu.sw →
    s.ready → s.fpuOn = true → s.fpuCan m 2 2 .write = true →
    Completes i s fun t => t.gpr = s.gpr ∧ Stored s t (s.eaAt m) 2 v.toNat ∧ FlagsSame s t ∧ Falls s t) ∧
  (∀ (m : Ea) (s : State), s.ready → s.fpuGoes = true → s.fpuCan m 2 2 .read = true →
    let cw : Half := BitVec.ofNat 16 (s.num (s.eaAt m) 2)
    let e := decide (field s.fpu.sw 0 6 &&& ~~~(field cw 0 6) ≠ (0 : BitVec 6))
    Completes (.fldcw m) s fun t =>
      Untouched s t ∧ FlagsSame s t ∧
        Falls (s.fpuAs { s.fpu with cw := cw, sw := setBit (setBit s.fpu.sw 7 e) 15 e }) t) ∧
  (∀ (i : Instr) (m : Ea) (op k : Nat) (s : State),
    i = .fldenv m ∧ op = 339 ∧ k = (if s.o32 then 28 else 14) ∨ i = .frstor m ∧ op = 367 ∧ k = (if s.o32 then 108 else 94) →
    s.ready → s.fpuGoes = true → s.fpuCan m k (bytes s.o32) .read = true →
    Completes i s fun t =>
      Untouched s t ∧ FlagsSame s t ∧ Falls (s.fpuAs (Config.fpuRun op s.o32 (s.num (s.eaAt m) k) s.fpu)) t) ∧
  (∀ (i : Instr) (m : Ea) (op k : Nat) (s : State),
    i = .fstenvFnstenv m ∧ op = 341 ∧ k = (if s.o32 then 28 else 14) ∨
      i = .fsaveFnsave m ∧ op = 368 ∧ k = (if s.o32 then 108 else 94) →
    s.ready → s.fpuOn = true → s.fpuCan m k (bytes s.o32) .write = true →
    Completes i s fun t =>
      t.gpr = s.gpr ∧ Stored s t (s.eaAt m) k (Config.fpuStore op s.o32 s.fpu) ∧ FlagsSame s t ∧
        Falls (s.fpuAs (Config.fpuRun op s.o32 0 s.fpu)) t) ∧
  (∀ s : State, s.ready → s.lockOk false = true → (bit s.sys.cr0 1 && bit s.sys.cr0 3) = false →
    (bit s.fpu.sw 7 = false ∨ (bit s.sys.cr0 5 = false ∧ s.lat.ignne = true)) →
    Completes .waitFwait s fun t => Untouched s t ∧ FlagsSame s t ∧ Falls s t)

/-- An ESC instruction raises #NM where CR0.EM or CR0.TS is set, WAIT where CR0.MP and CR0.TS are set, whatever the
operand and the pending error (43_general_instructions.md R810). -/
def Sys2Proof.Machine.NotAvailable : Prop :=
  (∀ (i : Instr) (s : State), IsEsc i → s.lockOk false = true → (bit s.sys.cr0 2 || bit s.sys.cr0 3) = true →
    Raises i s 7 none) ∧
  (∀ s : State, s.lockOk false = true → (bit s.sys.cr0 1 && bit s.sys.cr0 3) = true → Raises .waitFwait s 7 none)

/-- A pending unmasked FPU error is reported by the next waiting instruction: #MF with CR0.NE set; with NE clear and
IGNNE# not asserted the processor stops before the instruction with FERR# asserted (43_general_instructions.md R811). That the
pending error is bit 7 of the status word is the family's layout (log 8, PRESUMED, unsafe); that the stop is a step that
leaves EIP at the instruction, which is then tried again, is the model's choice (log 38, DEDUCED). -/
def Sys2Proof.Machine.PendingError : Prop :=
  ∀ (i : Instr) (s : State),
    (IsWaiting i ∧ (bit s.sys.cr0 2 || bit s.sys.cr0 3) = false ∨
      i = .waitFwait ∧ (bit s.sys.cr0 1 && bit s.sys.cr0 3) = false) →
    s.lockOk false = true → bit s.fpu.sw 7 = true →
    (bit s.sys.cr0 5 = true → Raises i s 16 none) ∧
    (bit s.sys.cr0 5 = false → s.lat.ignne = false → s.ready →
      Completes i s fun t =>
        t.eip = s.eip ∧ Untouched s t ∧ t.eflags = s.eflags ∧ Quiet { s with lat := { s.lat with ferr := true } } t)

namespace Sys2Proof.Machine

/-- A level-triggered entry of a local interrupt pin requests: unmasked, of fixed mode, its pin active (62_apic.md R955).
Without an I/O APIC every entry of fixed mode is level-triggered (R953, log 61). -/
def levelActive (entry : Word) (pin : Bool) : Bool :=
  !bit entry 16 && decide (field entry 8 3 = (0 : BitVec 3)) && (bit entry 15 || !Config.ioApic) && (pin != bit entry 13)

/-- The local APIC does nothing by itself: it is disabled, or no message of it and no local request is pending and no
level-triggered pin requests (62_apic.md R954, R955, R960). -/
def State.apicIdle (s : State) : Bool :=
  let a := s.apic
  !s.apicOn || (a.outgoing.isNone && !levelActive a.lvtLint0 a.lint0 && !levelActive a.lvtLint1 a.lint1 &&
    [a.lvtTimer, a.lvtPerf, a.lvtLint0, a.lvtLint1, a.lvtError].all fun e => !bit e 12)

/-- Nothing is pending at the boundary but, perhaps, an interrupt: no event arrives, the local APIC does nothing by itself,
no debug trap, SMI or INIT waits and STPCLK# is not asserted. -/
def State.onlyInterrupts (s : State) : Bool :=
  s.events.isEmpty && s.apicIdle && !s.dbg.pendT && !s.dbg.pendS && decide (s.dbg.pendB = 0) && !s.lat.stopClock &&
    !s.lat.smiPending && !s.lat.initPending

/-- The next instruction is fetched at the boundary: the processor runs, nothing is pending, and no breakpoint is
enabled. -/
def State.undisturbed (s : State) : Bool :=
  s.onlyInterrupts && decide (s.lat.activity = .running) && !s.lat.nmiPending &&
    (!s.flag fIF || (s.lat.intr.isNone && (!s.apicOn || !s.apic.wants))) && decide (field s.dbg.dr7 0 8 = 0)

/-- The state in which the fetched element of `n` bytes executes: what goes on before every step has gone on, at the first
element of an instruction the record of the last I/O instruction is gone, and the bytes are counted. -/
def State.fetched (s : State) (n : Nat) : State :=
  let t := s.prelude
  let u := if s.ins.len = 0 then { t with smm := { t.smm with ioRec := none } } else t
  { u with ins := { u.ins with len := u.ins.len + n } }

/-- A memory operand that is read or written by a MOV of a register. -/
noncomputable def movAt (write : Bool) (m : Ea) (r : Reg) : Instr := if write then .movEvGv (.mem m) r else .movGvEv r (.mem m)

end Sys2Proof.Machine

/-- A boot message of the processor with this APIC ID, 4 the generation of a BIPI and 1 that of an FIPI; `arb` is its
arbitration ID (63_multiprocessor.md R1035). -/
def bootIpi (generation id arb : BitVec 4) : ApicMsg :=
  { mode := 0, vector := (generation ++ id : BitVec 8), levelTrigger := false, assert := false, logical := false,
    dest := 0x0F, arb := arb }

/-- After a power-up or hardware reset the registers hold their values, memory lists nothing, and the invariant holds
(10_state.md R58, R80, R94, R95; 70_reset_and_hazards.md R1291, R1295); the first instruction will be fetched at FFFFFFF0H
(R1294, R1310), but before it the boot protocol runs (63_multiprocessor.md R1033 to R1037): a processor whose BIPI is the
first is elected, sends its FIPI after the other BIPIs, has its BSP flag set and runs; one that another's BIPI precedes
sends its own, and with the FIPI waits for a start-up message with its flag clear. What an interrupt pin brings meanwhile
is left out here, and so is a processor whose STPCLK# is asserted, for which the protocol stands still (log 10). Three of the values are the model's choices and not the manual's: bits 31:22 of EFLAGS (log 5), EAX = 0,
the self test not having failed, and the boot protocol still to run (log 2), and memory with nothing listed (log 3). -/
def Obligations.ResetState : Prop :=
  let s := State.reset
  Inv s ∧ s.mem = [] ∧ s.eflags = 2#32 ∧ s.eip = 0xFFF0#32 ∧ s.sys.cr0 = 0x60000010#32 ∧ s.sys.cr2 = 0 ∧ s.sys.cr3 = 0 ∧ s.sys.cr4 = 0 ∧
    s.seg.cs.sel = 0xF000#16 ∧ s.seg.cs.base = 0xFFFF0000#32 ∧ s.seg.cs.limit = 0xFFFF#32 ∧
    (∀ r : SegReg, r ≠ .cs → (s.seg.get r).sel = 0 ∧ (s.seg.get r).base = 0 ∧ (s.seg.get r).limit = 0xFFFF#32) ∧
    (∀ r : SegReg, (s.seg.get r).p = true ∧ isWritable (s.seg.get r).s (s.seg.get r).type = true) ∧
    s.r32 .eax = 0 ∧ s.r32 .ebx = 0 ∧ s.r32 .ecx = 0 ∧ s.r32 .esi = 0 ∧ s.r32 .edi = 0 ∧ s.r32 .ebp = 0 ∧
    s.r32 .esp = 0 ∧ field (s.r32 .edx) 8 4 = 6#4 ∧ field (s.r32 .edx) 16 16 = 0#16 ∧
    s.sys.gdtr = ⟨0, 0xFFFF#16⟩ ∧ s.sys.idtr = ⟨0, 0xFFFF#16⟩ ∧ s.dbg.dr6 = 0xFFFF0FF0#32 ∧ s.dbg.dr7 = 0x400#32 ∧
    s.dbg.dr0 = 0 ∧ s.dbg.dr1 = 0 ∧ s.dbg.dr2 = 0 ∧ s.dbg.dr3 = 0 ∧ s.msr.tsc = 0 ∧ s.smm.inSmm = false ∧
    (s.seg.cs.base + s.eip).toNat = 0xFFFFFFF0 ∧ s.lat.activity = .boot ∧ bit s.msr.apicBase 8 = false ∧
    bit s.msr.apicBase 11 = true ∧
    (∀ b : State, b.lat.activity = .boot → b.ins.len = 0 → b.lat.stopClock = false → b.events = [] →
      ∃ t, step b = .next t ∧ t.lat.activity = .elected ∧ t.gpr = b.gpr ∧ t.eip = b.eip ∧ t.seg = b.seg ∧
        t.eflags = b.eflags ∧ t.apic.arbId = 0 ∧ t.bus = .apic (bootIpi 4 b.apic.id b.apic.arbId) 2 :: b.bus) ∧
    (∀ b : State, b.lat.activity = .elected → b.ins.len = 0 → b.lat.stopClock = false → b.events = [] →
      ∃ t, step b = .next t ∧ t.lat.activity = .running ∧ bit t.msr.apicBase 8 = true ∧ t.gpr = b.gpr ∧ t.eip = b.eip ∧
        t.seg = b.seg ∧ t.eflags = b.eflags ∧ t.bus = .apic (bootIpi 1 b.apic.id b.apic.arbId) 2 :: b.bus) ∧
    (∀ (b : State) (other arb : BitVec 4) (rest : List Event), b.lat.activity = .boot → b.ins.len = 0 →
      b.lat.stopClock = false → b.events = .apic (bootIpi 4 other arb) :: rest → other ≠ b.apic.id →
      ∃ t, step b = .next t ∧ t.lat.activity = .passedOver ∧ t.msr.apicBase = b.msr.apicBase ∧ t.gpr = b.gpr ∧
        t.eip = b.eip ∧ t.seg = b.seg ∧ t.eflags = b.eflags ∧
        ∃ own, t.bus = .apic (bootIpi 4 b.apic.id own) 2 :: b.bus) ∧
    (∀ (b : State) (winner arb : BitVec 4) (rest : List Event), b.lat.activity = .passedOver → b.ins.len = 0 →
      b.lat.stopClock = false → b.events = .apic (bootIpi 1 winner arb) :: rest →
      ∃ t, step b = .next t ∧ t.lat.activity = .waitSipi ∧ t.msr.apicBase = b.msr.apicBase ∧ t.gpr = b.gpr ∧
        t.eip = b.eip ∧ t.seg = b.seg ∧ t.eflags = b.eflags ∧ t.bus = b.bus)

/-- Every step keeps the invariant: memory stays in canonical form, no instruction is left half done, and the reserved
bits of EFLAGS, CR0 and CR4 stay fixed (10_state.md R41, R64, R65, R71). That the reserved bits of CR0 read 0 is the spec's
decision D4 as the model reads it (log 23), that bits 31:22 of EFLAGS are 0 after INIT is log 5, and log 47 names the
fixed bits: these are the model's choices. -/
def Obligations.InvariantKept : Prop := ∀ s t : State, Inv s → step s = .next t → Inv t

/-- Decoding the encoding of a well-formed instruction gives that instruction and leaves the bytes that follow; what
the decoder answers is well-formed and takes at least one byte from the front (30_encoding.md R480 to R492). -/
def Obligations.DecodeEncode : Prop :=
  (∀ (z : Sizes) (i : Instr) (rest : List Byte), i.wf z = true → decode z (encode z i ++ rest) = .ok (i, rest)) ∧
  (∀ (z : Sizes) (i : Instr) (bs rest : List Byte), decode z bs = .ok (i, rest) →
    i.wf z = true ∧ ∃ b front, bs = b :: front ++ rest)

/-- Words written out bit by bit from the opcode map decode to the instructions they stand for. -/
def Obligations.DecodeWords : Prop :=
  decode ⟨false, false⟩ [0b00000000#8, 0b11011000#8] = .ok (.addEbGb (.reg .al) .bl, []) ∧
  decode ⟨true, true⟩ [0b10001011#8, 0b01000100#8, 0b10001010#8, 0b00010000#8] =
    .ok (.movGvEv .eax (.mem (.sib 2 .ecx .edx (.d8 0x10#8))), []) ∧
  decode ⟨false, false⟩ [0b10001001#8, 0b01000010#8, 0b11111110#8] =
    .ok (.movEvGv (.mem (.base16 .bpSi (.d8 0xFE#8))) .eax, []) ∧
  decode ⟨true, true⟩ [0b11101000#8, 0x78#8, 0x56#8, 0x34#8, 0x12#8] = .ok (.callJv 0x12345678#32, []) ∧
  decode ⟨true, true⟩ [0b11001101#8, 0x80#8] = .ok (.intIb 0x80#8, []) ∧
  decode ⟨true, true⟩ [0b00001111#8, 0b10101100#8, 0b11001011#8, 0x04#8] = .ok (.shrdEvGvIb (.reg .ebx) .ecx 4#8, []) ∧
  decode ⟨true, true⟩ [0b11011000#8, 0b11001010#8] = .ok (.fmulSTSTi 2, []) ∧
  decode ⟨true, true⟩ [0b11110011#8, 0b10100100#8] = .ok (.prefixRepRepeRepz, [0xA4#8]) ∧
  decode ⟨true, true⟩ [0b00001111#8, 0b00001011#8] = .ok (.ud2, []) ∧
  decode ⟨true, true⟩ [0b11000110#8, 0b11001000#8, 0x00#8] = .error .undefined

/-- A step runs the decoded instruction. Where nothing is pending and the bytes at CS:EIP, after the prefixes already
seen, lie in plain memory inside the limit and decode to `i`, the step is `exec i` in the state in which what goes on
before every step has gone on and the bytes are counted; bytes beyond the page are used only if the instruction needs
them (60_exceptions.md R845, 30_encoding.md R496). -/
def Obligations.StepRunsDecoded : Prop :=
  ∀ (s : State) (i : Instr) (k : Nat) (rest : List Byte),
    let la := s.seg.cs.base + s.fetchOff
    let mem := s.prelude.mem
    let m := insideCode s.seg.cs s.fetchOff (15 - s.ins.len)
    let first := min m (0x1000 - la.toNat % 0x1000)
    s.plain = true → la.toNat + m ≤ 0xFEE00000 → s.ins.len ≠ 0 ∨ s.undisturbed = true → 0 < m →
    k = first ∨ (k = m ∧ decode s.sizes (memBytes mem la.toNat first) = .error .short) →
    i.wf s.sizes = true → decode s.sizes (memBytes mem la.toNat k) = .ok (i, rest) →
    step s = exec i (s.fetched (k - rest.length))

/-- Every prefix completes: it sets its mark on the instruction that follows and changes nothing else
(30_encoding.md R481, R482, R483, R485). That a prefix is a step of its own (log 1), and that the last of F2H and F3H
counts where both stand (log 52), are the model's choices (DESIGN CHOICE). -/
def Obligations.Prefixes : Prop :=
  ∀ s : State,
    (∀ (i : Instr) (r : SegReg), (i = .prefixSegEs ∧ r = .es ∨ i = .prefixSegCs ∧ r = .cs ∨ i = .prefixSegSs ∧ r = .ss ∨
        i = .prefixSegDs ∧ r = .ds ∨ i = .prefixSegFs ∧ r = .fs ∨ i = .prefixSegGs ∧ r = .gs) →
      exec i s = .next { s with ins := { s.ins with seg := some r } }) ∧
    exec .prefixOperandSize s = .next { s with ins := { s.ins with op66 := true } } ∧
    exec .prefixAddressSize s = .next { s with ins := { s.ins with ad67 := true } } ∧
    exec .prefixLock s = .next { s with ins := { s.ins with lock := true } } ∧
    exec .prefixRepneRepnz s = .next { s with ins := { s.ins with rep := some .ne } } ∧
    exec .prefixRepRepeRepz s = .next { s with ins := { s.ins with rep := some .e } }

/-- The flags of addition and subtraction say what they are for: CF the unsigned carry or borrow, OF that the exact
signed result does not fit, AF the carry or borrow out of bit 3, ZF, SF and PF the result; and the shifts and rotates
are those of the word, CF the last bit shifted out, or the bit that a rotate has moved last; RCL and RCR rotate the word
with CF as one word, in which CF is the highest bit for RCL and for RCR alike (44_integer_reference.md R1381 to R1387,
general knowledge in the spec). -/
def Obligations.FlagRules : Prop :=
  (∀ (w : Nat) (a b : BitVec w) (c : Bool), 8 ≤ w →
    let k : Nat := if c then 1 else 0
    let p := addFlags a b c
    p.1.toNat = (a.toNat + b.toNat + k) % 2 ^ w ∧ p.2.cf = decide (2 ^ w ≤ a.toNat + b.toNat + k) ∧
      p.2.of = decide (p.1.toInt ≠ a.toInt + b.toInt + k) ∧ p.2.af = (a ^^^ b ^^^ p.1).getLsbD 4 ∧
      p.2.zf = decide (p.1.toNat = 0) ∧ p.2.sf = decide (p.1.toInt < 0) ∧
      p.2.pf = decide (((List.range 8).filter p.1.getLsbD).length % 2 = 0)) ∧
  (∀ (w : Nat) (a b : BitVec w) (c : Bool), 8 ≤ w →
    let k : Nat := if c then 1 else 0
    let p := subFlags a b c
    (p.1.toNat : Int) = (a.toNat - b.toNat - k : Int) % 2 ^ w ∧ p.2.cf = decide ((a.toNat : Int) - b.toNat - k < 0) ∧
      p.2.of = decide (p.1.toInt ≠ a.toInt - b.toInt - k) ∧ p.2.af = (a ^^^ b ^^^ p.1).getLsbD 4 ∧
      p.2.zf = decide (p.1.toNat = 0) ∧ p.2.sf = decide (p.1.toInt < 0) ∧
      p.2.pf = decide (((List.range 8).filter p.1.getLsbD).length % 2 = 0)) ∧
  (∀ (w : Nat) (a : BitVec w) (c : Bool) (n : Nat), 8 ≤ w → 0 < n →
    shiftValue .shl a c n = (a <<< n, a.getLsbD (w - n) && decide (n ≤ w)) ∧
      shiftValue .shr a c n = (a >>> n, a.getLsbD (n - 1)) ∧
      shiftValue .sar a c n = (a.sshiftRight n, (a.sshiftRight (n - 1)).getLsbD 0) ∧
      shiftValue .rol a c n = (a.rotateLeft n, (a.rotateLeft n).getLsbD 0) ∧
      shiftValue .ror a c n = (a.rotateRight n, (a.rotateRight n).getLsbD (w - 1)) ∧
      (let x : BitVec (w + 1) := (BitVec.cons c a).rotateLeft n
       shiftValue .rcl a c n = (x.setWidth w, x.getLsbD w)) ∧
      (let x : BitVec (w + 1) := (BitVec.cons c a).rotateRight n
       shiftValue .rcr a c n = (x.setWidth w, x.getLsbD w)))

/-- The checks of an access: first an unusable segment or a wrong type raises #GP(0), then an offset beyond the limit #SS(0)
through SS and #GP(0) otherwise; a misaligned address under alignment checking raises #AC(0), and a page whose directory entry
is not present #PF with the address in CR2 (23_protection.md R410, 20_memory.md R211, 22_paging.md R341,
43_general_instructions.md R771). Which of the two a misaligned access to such a page raises is the model's free choice, since
R410 and R771 put #AC first and 61_exception_reference.md R908 #PF (log 59, DESIGN CHOICE). That the type and the validity of
the segment are tested in real-address mode too, where 67_8086_emulation.md R1222 has every segment so loaded readable and
writable, is the model's reading (log 56, DEDUCED). -/
def Obligations.AccessFaults : Prop :=
  ∀ (write : Bool) (m : Ea) (r : Reg) (s : State), s.lockOk false = true →
    let n := bytes s.o32
    let q := eaSeg s m
    let off := eaOffset s m
    let g := s.seg.get q
    let k : Access := if write then .write else .read
    let la := s.ea m
    let typed := g.allows q k s.prot
    let da := (s.sys.cr3.toNat &&& 0xFFFFF000) + la / 0x400000 * 4
    (typed = false → Raises (movAt write m r) s 13 (some 0)) ∧
    (typed = true → g.inLimit off n = false → Raises (movAt write m r) s (if q = .ss then 12 else 13) (some 0)) ∧
    let misaligned := s.alignOn && decide (la % n ≠ 0)
    (typed = true → g.inLimit off n = true → misaligned = true → s.paging = false →
      Raises (movAt write m r) s 17 (some 0)) ∧
    (typed = true → g.inLimit off n = true → s.paging = true → s.pae = false → s.tlb = [] → s.ramAt da 4 = true →
      (s.num da 4).testBit 0 = false →
      (misaligned = true ∧ Raises (movAt write m r) s 17 (some 0)) ∨
      ∃ u : State, u.mem = s.mem ∧ exec (movAt write m r) s = takeException s u
        { vec := 14, code := some (BitVec.ofNat 16 ((if write then 2 else 0) + if s.cpl = 3 then 4 else 0)),
          cr2 := some (BitVec.ofNat 32 la), dr6 := 0, keep := false })

/-- A linear address in a 4-KByte page translates, through a page directory and a page table, to the frame of the
page; the accessed flags are set, and the dirty flag by a write; an access that the rights of both entries refuse
raises #PF (22_paging.md R341, R350, R353). -/
def Obligations.Paging : Prop :=
  ∀ (la : Word) (write user : Bool) (s : State), Memory.wf s.mem = true → s.paging = true → s.pae = false → s.tlb = [] →
    let da := (s.sys.cr3.toNat &&& 0xFFFFF000) + la.toNat / 0x400000 * 4
    let pde := s.num da 4
    let ta := (pde &&& 0xFFFFF000) + la.toNat / 0x1000 % 0x400 * 4
    let pte := s.num ta 4
    let us := pde.testBit 2 && pte.testBit 2
    let rw := pde.testBit 1 && pte.testBit 1
    let refused := (user && !us) || (write && !rw && (user || bit s.sys.cr0 16))
    s.ramAt da 4 = true → s.ramAt ta 4 = true → da ≠ ta → pde.testBit 0 = true → (s.pse && pde.testBit 7) = false → pte.testBit 0 = true →
    (refused = false → ∃ p u, translate la write user s = .ok p u ∧
      p.pa = (pte &&& 0xFFFFF000) + la.toNat % 0x1000 ∧
      u.num da 4 = pde ||| 0x20 ∧ u.num ta 4 = pte ||| (if write then 0x60 else 0x20) ∧
      (∀ k, (k < da ∨ da + 4 ≤ k) → (k < ta ∨ ta + 4 ≤ k) → memRead u.mem k = memRead s.mem k) ∧
      u = { s with mem := u.mem, stale := u.stale, free := u.free, tlb := u.tlb }) ∧
    (refused = true → ∃ x u, translate la write user s = .error (.exc x) u ∧ x.vec = 14 ∧ x.cr2 = some la ∧
      x.code = some (BitVec.ofNat 16 (1 + (if write then 2 else 0) + if user then 4 else 0)) ∧ x.keep = false)

/-- In real-address mode a maskable interrupt that is requested while IF is set, and an NMI that is not blocked, outside
SMM, are taken at the boundary: the handler is entered through the vector table, the request is acknowledged, a halted processor
runs again, and an NMI blocks further ones (60_exceptions.md R835 to R837, R845; 67_8086_emulation.md R1230). That the request
of INTR is gone with its acknowledge cycle is the model's choice (log 53, DESIGN CHOICE, unsafe). -/
def Obligations.Interrupts : Prop :=
  ∀ s : State, s.ready → s.ins = Ins.clear → s.noLbr = true → s.prot = false → s.onlyInterrupts = true →
    s.lat.inhibit = false →
    let p := s.prelude
    (∀ v : Byte, (s.lat.nmiPending = false ∨ s.lat.nmiBlocked = true ∨ s.smm.inSmm = true) → s.lat.intr = some v →
      s.flag fIF = true → s.lat.stiShadow = false → s.lat.activity = .running ∨ s.lat.activity = .halted →
      p.realVectorOk v.toNat = true →
      ∃ t, step s = .next t ∧
        RealEntry { p with lat := { s.lat with intr := none, activity := .running } } t v.toNat) ∧
    (s.lat.nmiPending = true → s.lat.nmiBlocked = false → s.smm.inSmm = false →
      s.lat.activity = .running ∨ s.lat.activity = .halted ∨ s.lat.activity = .shutdown → p.realVectorOk 2 = true →
      ∃ t, step s = .next t ∧
        RealEntry { p with lat := { s.lat with nmiPending := false, nmiBlocked := true, activity := .running } } t 2)

namespace Sys2Proof.Machine

/-- The save map as an SMI writes it: offset, number of bytes and value of each slot; the DR6 image has the bits of a debug
trap that waits (64_smm.md R1062, R1066, R1069). -/
def State.saveMap (s : State) : List (Nat × Nat × Nat) :=
  [(0x7FFC, 4, s.sys.cr0.toNat), (0x7FF8, 4, s.sys.cr3.toNat), (0x7FF4, 4, s.eflags.toNat), (0x7FF0, 4, s.eip.toNat),
   (0x7FEC, 4, s.gpr.edi.toNat), (0x7FE8, 4, s.gpr.esi.toNat), (0x7FE4, 4, s.gpr.ebp.toNat), (0x7FE0, 4, s.gpr.esp.toNat),
   (0x7FDC, 4, s.gpr.ebx.toNat), (0x7FD8, 4, s.gpr.edx.toNat), (0x7FD4, 4, s.gpr.ecx.toNat), (0x7FD0, 4, s.gpr.eax.toNat),
   (0x7FCC, 4, (s.dbg.dr6 ||| s.dbg.heldBits).toNat), (0x7FC8, 4, s.dbg.dr7.toNat), (0x7FC4, 4, s.sys.tr.sel.toNat),
   (0x7FC0, 4, s.sys.ldtr.sel.toNat), (0x7FBC, 4, s.seg.gs.sel.toNat), (0x7FB8, 4, s.seg.fs.sel.toNat),
   (0x7FB4, 4, s.seg.ds.sel.toNat), (0x7FB0, 4, s.seg.ss.sel.toNat), (0x7FAC, 4, s.seg.cs.sel.toNat),
   (0x7FA8, 4, s.seg.es.sel.toNat), (0x7F94, 4, s.sys.idtr.base.toNat), (0x7F88, 4, s.sys.gdtr.base.toNat),
   (0x7F02, 2, if s.lat.activity = .halted then 1 else 0), (0x7F00, 2, 0), (0x7EFC, 4, smmRevision.toNat),
   (0x7EF8, 4, s.smm.smbase.toNat)]

/-- The registers that an SMI saves outside the slots stand in the record of the SMI (64_smm.md R1067). -/
def SmmRecorded (s : State) (r : SmmSaved) : Prop :=
  r.cr4 = s.sys.cr4 ∧ r.segs = s.seg ∧ r.ldtr = s.sys.ldtr ∧ r.tr = s.sys.tr ∧ r.gdtLimit = s.sys.gdtr.limit ∧
    r.idtLimit = s.sys.idtr.limit ∧ r.cpl = s.cpl ∧ r.nmiBlocked = s.lat.nmiBlocked ∧ r.pendB = s.dbg.pendB ∧
    r.pendS = s.dbg.pendS ∧ r.pendT = s.dbg.pendT ∧ r.ioRestart = s.smm.ioRec ∧
    r.halted = decide (s.lat.activity = .halted)

/-- A segment register on entry to SMM: present, writable data, of 16 bits, no limit below 4 GBytes (64_smm.md R1070). -/
def smmSeg (sel : Half) (base : Word) : Seg :=
  { sel := sel, base := base, limit := 0xFFFFFFFF#32, type := 3, s := true, dpl := 0, p := true, db := false, g := false,
    avl := false, valid := true }

/-- An SMI is recognized at this boundary: it is pending outside SMM, no SS load holds it, the processor runs or is halted,
and nothing comes before it. Other interrupts and debug traps of the instruction before may be pending (64_smm.md R1062). -/
def State.smiDue (s : State) : Bool :=
  s.events.isEmpty && s.apicIdle && !s.dbg.pendT && !s.lat.stopClock && s.lat.smiPending && !s.smm.inSmm &&
    !s.lat.inhibit && (decide (s.lat.activity = .running) || decide (s.lat.activity = .halted))

/-- An SMI at a boundary is taken by a step: the SMI acknowledge goes out, the state is written to the save map and to the
record behind it, nothing outside the 512 bytes of the map changes in memory, and the registers hold the values of
Table 9-2, while those that it does not name stay (64_smm.md R1062, R1066, R1067, R1069, R1070, R1072, R1073, R1084). The
area lies in RAM and no other agent writes meanwhile. The spec's own decisions are that CR4 becomes 0 (D43) and IDTR base 0
and limit FFFFH (D44), that a debug trap that waits is recorded (D41), that what the slots do not hold stands in a hidden
record and slot 7FC0H holds the selector of LDTR (D42), that all translations go (D45), and the revision identifier (D47)
(log 45). -/
def EntersSmm : Prop :=
  ∀ s : State, s.ready → s.ins = Ins.clear → s.smiDue = true → s.others = [] →
    let p := s.prelude
    let b := s.smm.smbase
    b.toNat + 0x10000 ≤ 2 ^ 32 → s.ramAt (b.toNat + 0xFE00) 0x200 = true →
    ∃ t, step s = .next t ∧
      (∀ x ∈ p.saveMap, t.num (b.toNat + 0x8000 + x.1) x.2.1 = x.2.2) ∧
      (∀ k, k < b.toNat + 0xFE00 ∨ b.toNat + 0x10000 ≤ k → memRead t.mem k = memRead p.mem k) ∧
      SmmRecorded p t.smm.saved ∧ t.smm.inSmm = true ∧ t.smm.smbase = b ∧
      t.eflags = 2#32 ∧ t.eip = 0x8000#32 ∧ t.cpl = 0 ∧ t.seg.cs = smmSeg (field b 4 16) b ∧
      (∀ r : SegReg, r ≠ .cs → t.seg.get r = smmSeg 0 0) ∧
      t.sys = { p.sys with cr0 := p.sys.cr0 &&& 0x7FFFFFF2#32, cr4 := 0, idtr := ⟨0, 0xFFFF#16⟩ } ∧
      t.dbg.dr7 = 0x400#32 ∧ t.dbg.dr0 = p.dbg.dr0 ∧ t.dbg.dr1 = p.dbg.dr1 ∧ t.dbg.dr2 = p.dbg.dr2 ∧
      t.dbg.dr3 = p.dbg.dr3 ∧ t.fpu = p.fpu ∧ t.msr = p.msr ∧ t.apic = p.apic ∧ t.tlb = [] ∧
      t.bus = .smiAck :: p.bus ∧
      t.lat = { p.lat with activity := .running, inhibit := false, stiShadow := false, midRep := false, smiPending := false }

/-- The offset in the APIC page of a doubleword operand whose checks pass and that the local APIC answers: paging and MTRRs
off, A20M# not asserted (62_apic.md R944). -/
def State.apicAt (s : State) (m : Ea) (k : Access) : Option Nat :=
  let r := eaSeg s m
  let off := eaOffset s m
  let g := s.seg.get r
  let la := s.ea m
  if s.o32 && !s.paging && !bit s.msr.mtrrDef 11 && !s.lat.a20m && s.apicOn && g.allows r k s.prot && g.inLimit off 4 &&
      decide (la % 4 = 0) && decide (Config.apicPage ≤ la) && decide (la < Config.apicPage + 0x1000)
  then some (la - Config.apicPage) else none

/-- The highest vector whose bit is set, 0 if none is (62_apic.md R961). -/
def IsTop (x : BitVec 256) (v : Nat) : Prop :=
  x = 0 ∧ v = 0 ∨ v < 256 ∧ bit x v = true ∧ ∀ j, v < j → bit x j = false

/-- Register `k` of a group of 256 bits. -/
def vectorWord (x : BitVec 256) (k : Nat) : Word := (x >>> (32 * k)).setWidth 32

/-- The registers of the local APIC and what a load of each returns (62_apic.md R945). -/
def Apic.table (a : Apic) : List (Nat × Word) :=
  [(0x20, (a.id.setWidth 32) <<< 24), (0x30, 0x00040010#32 ||| Config.apicVersionLow.setWidth 32),
   (0x80, a.tpr.setWidth 32), (0x90, a.apr.setWidth 32), (0xA0, a.ppr.setWidth 32), (0xB0, 0),
   (0xD0, (a.ldr.setWidth 32) <<< 24), (0xE0, ((a.dfr.setWidth 32) <<< 28) ||| 0x0FFFFFFF#32), (0xF0, a.svr.setWidth 32),
   (0x280, a.esr.setWidth 32), (0x300, setBit a.icrLow 12 a.outgoing.isSome), (0x310, a.icrHigh), (0x320, a.lvtTimer),
   (0x340, a.lvtPerf), (0x350, a.lvtLint0), (0x360, a.lvtLint1), (0x370, a.lvtError), (0x380, a.initCount),
   (0x390, a.curCount), (0x3E0, a.divide)] ++
  (List.range 8).map (fun k => (0x100 + 16 * k, vectorWord a.isr k)) ++
  (List.range 8).map (fun k => (0x180 + 16 * k, vectorWord a.tmr k)) ++
  (List.range 8).map (fun k => (0x200 + 16 * k, vectorWord a.irr k))

/-- The bits of a register that are undefined: remote IRR of an edge-triggered LINT entry (62_apic.md R954), which is one of
delivery mode NMI, or one whose trigger mode is edge and whose delivery mode is not ExtINT (R953). -/
def apicUnfixed (off : Nat) (v : Word) : Word :=
  if (off = 0x350 ∨ off = 0x360) ∧ (field v 8 3 = 4 ∨ field v 8 3 ≠ 7 ∧ bit v 15 = false) then 0x4000#32 else 0

/-- A local-vector-table entry with the bits of `mask` written; a disabled APIC keeps it masked (62_apic.md R952, R970). -/
def lvtPut (mask old v : Word) (on : Bool) : Word :=
  ((old &&& ~~~mask) ||| (v &&& mask)) ||| (if on then 0 else 0x10000#32)

/-- The spurious-vector register written: bits 9:4; without bit 8 the APIC is disabled, which masks the local vector table
(62_apic.md R969, R970). -/
def Apic.withSvr (a : Apic) (v : Word) : Apic :=
  let b := { a with svr := (v.setWidth 10 &&& 0x3F0#10) ||| 0xF#10 }
  if bit v 8 then b
  else
    { b with lvtTimer := a.lvtTimer ||| 0x10000#32, lvtPerf := a.lvtPerf ||| 0x10000#32,
             lvtLint0 := a.lvtLint0 ||| 0x10000#32, lvtLint1 := a.lvtLint1 ||| 0x10000#32,
             lvtError := a.lvtError ||| 0x10000#32 }

/-- What a store of `v` at an offset leaves of the registers, where it does nothing else: EOI and the interrupt command
register are not listed, nor a delivery mode that an entry does not allow, nor a change of the ID while a message of the APIC
is still to be delivered. A read-only register is as before (62_apic.md R945 to R948, R952, R953, R963, R974 to R976). -/
def Apic.stores (a : Apic) (v : Word) : List (Nat × Apic) :=
  let on := bit a.svr 8
  let mode := field v 8 3
  let pin := mode = (0 : BitVec 3) ∨ mode = (4 : BitVec 3) ∨ mode = (7 : BitVec 3)
  (if a.outgoing.isNone ∨ field v 24 4 = a.id then [(0x20, { a with id := field v 24 4 })] else []) ++
  [(0x80, { a with tpr := v.setWidth 8 }), (0xD0, { a with ldr := field v 24 8 }),
   (0xE0, { a with dfr := field v 28 4 }), (0xF0, a.withSvr v), (0x280, { a with esr := a.esrPending, esrPending := 0 }),
   (0x320, { a with lvtTimer := lvtPut 0x300FF#32 a.lvtTimer v on }),
   (0x370, { a with lvtError := lvtPut 0x100FF#32 a.lvtError v on }), (0x380, { a with initCount := v, curCount := v }),
   (0x3E0, { a with divide := v &&& 0xB#32 })] ++
  (if mode = (0 : BitVec 3) ∨ mode = (4 : BitVec 3) then [(0x340, { a with lvtPerf := lvtPut 0x107FF#32 a.lvtPerf v on })] else []) ++
  (if pin then [(0x350, { a with lvtLint0 := lvtPut 0x1A7FF#32 a.lvtLint0 v on }),
                (0x360, { a with lvtLint1 := lvtPut 0x1A7FF#32 a.lvtLint1 v on })] else []) ++
  (if a.outgoing.isNone then [(0x310, { a with icrHigh := v &&& 0xFF000000#32 })] else []) ++
  ([0x30, 0x90, 0xA0, 0x390].map fun k => (k, a)) ++ (List.range 24).map fun k => (0x100 + 16 * k, a)

/-- An entry after the end of the interrupt with this vector: remote IRR of a pin entry with the vector is clear
(62_apic.md R968). -/
def lvtEnded (entry : Word) (v : Nat) : Word :=
  if (entry &&& 0xFF#32).toNat = v then entry &&& ~~~0x4000#32 else entry

/-- A message of this APIC that nobody took: the send accept error is pending and, unless its entry is masked, the error
interrupt may have been requested (62_apic.md R960, R974). -/
def SendFailed (a b : Apic) : Prop :=
  bit b.esrPending 2 = true ∧ b = { a with esrPending := b.esrPending, irr := b.irr, tmr := b.tmr, lvtError := b.lvtError } ∧
    (bit a.lvtError 16 = true → b = { a with esrPending := a.esrPending ||| 4#8 })

/-- The APIC with vector `v` requested by an edge (62_apic.md R962). -/
def Apic.requested (a : Apic) (v : Nat) : Apic :=
  { a with irr := a.irr ||| BitVec.twoPow 256 v, tmr := a.tmr &&& ~~~BitVec.twoPow 256 v }

end Sys2Proof.Machine

/-- The local APIC. A MOV of an aligned doubleword in its page loads or stores a register: the loads return the registers, a
store writes the writable bits, an offset without a register reads as 0 and sets the illegal-register error (log 48 has the
offsets inside a register). EOI ends the highest interrupt in service and, if it is level triggered, tells the I/O APICs; a
store to ICR sends a fixed message to another APIC, which is delivered or stays pending, with a send accept error if nobody
took it. A fixed edge message to an enabled APIC sets the request bit, a fixed one of either level with an illegal vector the
error. At the boundary the highest request above the processor priority is moved to in-service and its handler is entered
(62_apic.md R942, R944, R945, R953, R954, R958, R960, R962, R964 to R966, R968, R970, R974). That a reserved offset reads as 0,
that stores to it and to read-only registers are dropped, and that reserved bits ignore writes is the spec's own decision
D35, that a vector has one slot D36, and that a store to ESR makes the errors noted so far readable and clears their record D37
(log 45). That a message from others changes the arbitration ID as it does, and that a message nobody took stays pending, is log
46 (DESIGN CHOICE). While a message is still to be delivered a change of the ID and a store to ICR stop, as
93_implementation_defined.md section 2.2 has it (R946, R960); that this is what 'interrupts in flight' are, and that the ID FH is
stored, is log 48 (DESIGN CHOICE). -/
def Obligations.LocalApic : Prop :=
  (∀ (r : Reg) (m : Ea) (off : Nat) (x : Word) (s : State), s.ready → s.lockOk false = true →
    s.apicAt m .read = some off → (off, x) ∈ s.apic.table →
    Completes (.movGvEv r (.mem m)) s fun t => ∃ v : Word,
      v &&& ~~~apicUnfixed off x = x &&& ~~~apicUnfixed off x ∧ t.gpr = (s.setR32 r v).gpr ∧ MemSame s t ∧
        FlagsSame s t ∧ Falls s t) ∧
  (∀ (a : Apic) (i r : Nat), IsTop a.isr i → IsTop a.irr r →
    let p := a.tpr.toNat / 16
    a.ppr.toNat = (if i / 16 ≤ p then a.tpr.toNat else i / 16 * 16) ∧
      a.apr.toNat = (if r / 16 ≤ p ∧ i / 16 < p then a.tpr.toNat else max p (max (i / 16) (r / 16)) * 16)) ∧
  (∀ (r : Reg) (m : Ea) (off : Nat) (s : State), s.ready → s.lockOk false = true →
    (∀ x ∈ s.apic.table, x.1 ≠ off) → bit s.apic.lvtError 16 = true →
    let a := { s.apic with esrPending := s.apic.esrPending ||| 0x80#8 }
    (s.apicAt m .read = some off →
      Completes (.movGvEv r (.mem m)) s fun t =>
        t.gpr = (s.setR32 r 0).gpr ∧ MemSame s t ∧ FlagsSame s t ∧ Falls { s with apic := a } t) ∧
    (s.apicAt m .write = some off →
      Completes (.movEvGv (.mem m) r) s fun t => Untouched s t ∧ FlagsSame s t ∧ Falls { s with apic := a } t)) ∧
  (∀ (r : Reg) (m : Ea) (off : Nat) (a : Apic) (s : State), s.ready → s.lockOk false = true →
    s.apicAt m .write = some off → (off, a) ∈ s.apic.stores (s.r32 r) →
    Completes (.movEvGv (.mem m) r) s fun t => Untouched s t ∧ FlagsSame s t ∧ Falls { s with apic := a } t) ∧
  (∀ (r : Reg) (m : Ea) (s : State), s.lockOk false = true → s.apic.outgoing.isSome = true →
    (s.apicAt m .write = some 0x20 → field (s.r32 r) 24 4 ≠ s.apic.id →
      exec (.movEvGv (.mem m) r) s = .fault .apicIdChange) ∧
    (s.apicAt m .write = some 0x300 ∨ s.apicAt m .write = some 0x310 →
      exec (.movEvGv (.mem m) r) s = .fault .apicPending)) ∧
  (∀ (r : Reg) (m : Ea) (v : Nat) (s : State), s.ready → s.lockOk false = true → s.apicAt m .write = some 0xB0 →
    IsTop s.apic.isr v →
    let a := { s.apic with isr := s.apic.isr &&& ~~~BitVec.twoPow 256 v }
    Completes (.movEvGv (.mem m) r) s fun t => Untouched s t ∧ FlagsSame s t ∧
      (if v = 0 then Falls s t
        else if bit s.apic.tmr v then
          Falls { s with bus := .eoi (BitVec.ofNat 8 v) :: s.bus,
                         apic := { a with lvtLint0 := lvtEnded a.lvtLint0 v, lvtLint1 := lvtEnded a.lvtLint1 v,
                                          arbId := 0 } } t
        else Falls { s with apic := a } t)) ∧
  (∀ (r : Reg) (m : Ea) (s : State), s.ready → s.lockOk false = true → s.apicAt m .write = some 0x300 →
    s.apic.outgoing = none →
    let v := s.r32 r
    let dest : BitVec 4 := field s.apic.icrHigh 24 4
    v &&& 0xCCF00#32 = 0x4000#32 → 16 ≤ v.toNat % 256 → dest ≠ 15 → dest ≠ s.apic.id →
    let sent : ApicMsg := { mode := 0, vector := v.setWidth 8, levelTrigger := false, assert := true, logical := false,
                            dest := field s.apic.icrHigh 24 8, arb := s.apic.arbId }
    let a := { s.apic with icrLow := v &&& 0xCCFFF#32, arbId := 0 }
    let waiting := { a with outgoing := some { msg := sent, selfInt := false, toSelf := false, toOthers := true } }
    Completes (.movEvGv (.mem m) r) s fun t => Untouched s t ∧ FlagsSame s t ∧
      Falls { s with bus := .apic sent 0 :: s.bus, apic := t.apic } t ∧
        (t.apic = { a with outgoing := none } ∨ t.apic = waiting ∨ SendFailed waiting t.apic)) ∧
  (∀ (m : ApicMsg) (s : State), s.apicOn = true → bit s.apic.svr 8 = true → m.mode = 0 →
    m.logical = false → (field m.dest 0 4 = (15 : BitVec 4) ∨ field m.dest 0 4 = s.apic.id) →
    (m.levelTrigger = false → 16 ≤ m.vector.toNat → bit s.apic.irr m.vector.toNat = false → field s.apic.tpr 4 4 ≠ (15 : BitVec 4) →
      busMessage m s = .ok () { s with apic := (s.apic.requested m.vector.toNat).rotate m.arb }) ∧
    (m.vector.toNat < 16 → ∃ t, busMessage m s = .ok () t ∧ bit t.apic.esrPending 6 = true ∧
      bit t.apic.esrPending 3 = true ∧ (bit s.apic.lvtError 16 = true → t.apic.irr = s.apic.irr))) ∧
  (∀ (v i : Nat) (s : State), s.ready → s.ins = Ins.clear → s.noLbr = true → s.prot = false → s.onlyInterrupts = true →
    s.lat.inhibit = false → s.lat.stiShadow = false → s.lat.nmiPending = false → s.lat.intr = none → s.flag fIF = true →
    s.lat.activity = .running ∨ s.lat.activity = .halted → s.apicOn = true → IsTop s.apic.irr v → IsTop s.apic.isr i →
    s.apic.tpr.toNat / 16 < v / 16 → i / 16 < v / 16 →
    let p := s.prelude
    p.realVectorOk v = true →
    ∃ t, step s = .next t ∧
      RealEntry { p with lat := { s.lat with activity := .running },
                         apic := { s.apic with irr := s.apic.irr &&& ~~~BitVec.twoPow 256 v,
                                               isr := s.apic.isr ||| BitVec.twoPow 256 v } } t v)

namespace Sys2Proof.Machine

/-- Memory after stores one after another: address, number of bytes, and the value, which may depend on what memory holds
by then. -/
def StoredSeq : List (Nat × Nat × (State → Nat)) → State → State → Prop
  | [], s, t => MemSame s t
  | (a, n, f) :: rest, s, t => ∃ m, Stored s { s with mem := m } a n (f s) ∧ StoredSeq rest { s with mem := m } t

/-- Memory after the accessed flags of descriptors have been set, those that had to be. -/
def AccessedSeq : List (Option Nat) → State → State → Prop
  | [], s, t => MemSame s t
  | a :: rest, s, t => ∃ m, Accessed s { s with mem := m } a ∧ AccessedSeq rest { s with mem := m } t

/-- The fields of a 32-bit TSS from byte 32 on that a task switch saves, as one number of 64 bytes
(42_task_management.md R722). -/
def State.savedTask (s : State) (image : Word) : Nat :=
  leNat ([s.eip, image, s.gpr.eax, s.gpr.ecx, s.gpr.edx, s.gpr.ebx, s.gpr.esp, s.gpr.ebp, s.gpr.esi, s.gpr.edi,
    s.seg.es.sel.setWidth 32, s.seg.cs.sel.setWidth 32, s.seg.ss.sel.setWidth 32, s.seg.ds.sel.setWidth 32,
    s.seg.fs.sel.setWidth 32, s.seg.gs.sel.setWidth 32].flatMap fun x => leBytes 4 x.toNat)

/-- What a 32-bit TSS at an address holds (42_task_management.md R722). -/
def State.taskAt (s : State) (b : Nat) : TaskImage :=
  let w := fun k => BitVec.ofNat 32 (s.num (b + k) 4)
  let h := fun k => BitVec.ofNat 16 (s.num (b + k) 2)
  { eip := w 32, eflags := w 36, gpr := ⟨w 40, w 44, w 48, w 52, w 56, w 60, w 64, w 68⟩, es := h 72, cs := h 76, ss := h 80,
    ds := h 84, fs := h 88, gs := h 92, ldt := h 96, trap := s.num (b + 100) 2 % 2 = 1 }

/-- The stores of a task switch from `s` before its commit point: all save the registers, JMP and IRET clear the busy flag of
the old TSS (42_task_management.md R730 step 4, R735). -/
def State.taskSaves (s : State) (k : Switch) (image : Word) : List (Nat × Nat × (State → Nat)) :=
  let tr := s.sys.tr
  let old := (s.sys.gdtr.base + (tr.sel &&& 0xFFF8#16).setWidth 32).toNat
  [((tr.base + 32).toNat, 64, fun _ => s.savedTask image)] ++
  (if (k = .jmp ∨ k = .iret) ∧ isNull tr.sel = false then [(old + 4, 4, fun u => u.num (old + 4) 4 &&& 0xFFFFFDFF)] else [])

/-- The stores of a task switch from `s` to the TSS at `base`, whose descriptor is at `a`, behind its commit point: JMP, CALL and
interrupts set the busy flag of the new TSS, CALL and interrupts store the link (42_task_management.md R730 step 5, R735). -/
def State.taskEnters (s : State) (k : Switch) (a base : Nat) : List (Nat × Nat × (State → Nat)) :=
  (if k = .iret then [] else [(a + 4, 4, fun u => u.num (a + 4) 4 ||| 0x200)]) ++
  (if k = .call ∨ k = .int then [(base, 2, fun _ => s.sys.tr.sel.toNat)] else [])

/-- A 32-bit TSS descriptor in plain memory to which a task switch can go: present, long enough, and available, or busy for
IRET (42_task_management.md R728). -/
def State.taskTarget (s : State) (k : Switch) (tsel : Half) : Option (Nat × Desc) :=
  if bit tsel 2 || isNull tsel then none
  else
    match s.descriptor tsel with
    | none => none
    | some (a, d) =>
      if !descS d && decide (descType d = if k = .iret then 11 else 9) && descP d && decide (0x67 ≤ (descLimit d).toNat) &&
          s.plainAt (descBase d) 104
      then some (a, d) else none

/-- The TSS selector that a JMP or CALL with this selector leads to: itself, or that of a present task gate; the
descriptor named is not more privileged than CPL and RPL (42_task_management.md R728). -/
def State.taskSelector (s : State) (sel : Half) : Option Half :=
  if isNull sel then none
  else
    match s.descriptor sel with
    | none => none
    | some (_, d) =>
      if descS d || decide (descDpl d < s.cpl) || decide (descDpl d < rpl sel) then none
      else if descType d = 5 then (if descP d then some (gateSel d) else none)
      else if descType d = 9 then some sel
      else none

/-- The current TSS has 32 bits and can be written, and the descriptor of the current task, if TR names one, can be
updated. -/
def State.canLeaveTask (s : State) : Bool :=
  let tr := s.sys.tr
  bit tr.type 3 && decide (95 ≤ tr.limit.toNat) && s.plainAt (tr.base + 32) 64 &&
    (isNull tr.sel || (decide ((tr.sel &&& 0xFFF8#16).toNat + 7 ≤ s.sys.gdtr.limit.toNat) &&
      s.plainAt (s.sys.gdtr.base + (tr.sel &&& 0xFFF8#16).setWidth 32) 8))

/-- The LDTR of a task with this selector, if it can be loaded (42_task_management.md R731). -/
def State.taskLdtr (s : State) (sel : Half) : Option Seg :=
  if isNull sel then some { s.sys.ldtr with sel := sel, valid := false }
  else if bit sel 2 then none
  else
    match s.descriptor sel with
    | none => none
    | some (_, d) => if !descS d && decide (descType d = 2) && descP d then some (Seg.ofDesc sel d) else none

/-- A data segment register of a task: null, or a readable segment that its level may use (42_task_management.md R731). -/
def State.taskData (s : State) (cpl : BitVec 2) (r : Seg) (sel : Half) : Option (Seg × Option Nat) :=
  if isNull sel then some ({ r with sel := sel, valid := false }, none)
  else
    match s.descriptor sel with
    | none => none
    | some (a, d) =>
      if isReadable (descS d) (descType d) && descP d && (descConforming d || decide (cpl ≤ descDpl d))
      then some (Seg.ofDesc sel d, accessedByte a d) else none

/-- The code segment of a task (42_task_management.md R731). -/
def taskCodeOk (sel : Half) (d : Desc) : Bool :=
  descCode d && (if descConforming d then decide (descDpl d ≤ rpl sel) else decide (descDpl d = rpl sel)) && descP d

/-- The stack segment of a task at level `cpl` (42_task_management.md R731). -/
def taskStackOk (sel : Half) (d : Desc) (cpl : BitVec 2) : Bool :=
  isWritable (descS d) (descType d) && descP d && decide (descDpl d = cpl) && decide (rpl sel = cpl)

/-- What the switch to a 32-bit TSS at `base` leaves, where the new task passes its checks. `v`: memory after the stores of
the switch; `w`: with the accessed flags of CS and SS set as well. The image is read from `v`; the flags of DS, ES, FS and GS
are set in that order. `eflags` is the image's with NT set for a nested task (42_task_management.md R730 to R732). -/
def TaskEntered (s v w t : State) (k : Switch) (tsel : Half) (d : Desc) : Prop :=
  let i := v.taskAt (descBase d).toNat
  let cpl := rpl i.cs
  let f := setBit ((i.eflags &&& 0x3F7FD5#32) ||| 2#32) 14 (decide (k = .call ∨ k = .int) || bit i.eflags 14)
  ∃ (cd sd : Nat × Desc) (l : Seg) (ds es fs gs : Seg × Option Nat),
    v.taskLdtr i.ldt = some l ∧
    (let u : State := { v with sys := { s.sys with ldtr := l } }
     u.descriptor i.cs = some cd ∧ u.descriptor i.ss = some sd) ∧
    (let x : State := { w with sys := { s.sys with ldtr := l } }
     x.taskData cpl s.seg.ds i.ds = some ds ∧ x.taskData cpl s.seg.es i.es = some es ∧
       x.taskData cpl s.seg.fs i.fs = some fs ∧ x.taskData cpl s.seg.gs i.gs = some gs) ∧
    AccessedSeq [ds.2, es.2, fs.2, gs.2] w t ∧
    t.gpr = i.gpr ∧ t.eip = i.eip ∧ t.eflags = f ∧ t.dbg.pendT = (s.dbg.pendT || i.trap) ∧
    t.seg = { es := es.1, cs := Seg.ofDesc i.cs cd.2, ss := Seg.ofDesc i.ss sd.2, ds := ds.1, fs := fs.1, gs := gs.1 } ∧
    QuietButSeg { s with cpl := cpl, dbg := { s.dbg with dr7 := s.dbg.dr7 &&& 0xFFFFFFAA#32 },
                         sys := { s.sys with tr := { Seg.ofDesc tsel d with type := 11 }, ldtr := l,
                                             cr0 := s.sys.cr0 ||| 8#32 } } t

/-- The new task in a 32-bit TSS at `base` passes its checks, in memory `v` as the stores of the switch leave it and `w` with
the accessed flags of CS and SS set: it does not start in virtual-8086 mode, and CS, SS, LDTR and the data segment
registers can be loaded (42_task_management.md R731). -/
def TaskStarts (s v w : State) (base : Nat) : Prop :=
  let i := v.taskAt base
  ∃ (cd sd : Nat × Desc) (l : Seg),
    v.taskLdtr i.ldt = some l ∧ bit i.eflags 17 = false ∧ isNull i.cs = false ∧ isNull i.ss = false ∧
    (let u : State := { v with sys := { s.sys with ldtr := l } }
     u.descriptor i.cs = some cd ∧ u.descriptor i.ss = some sd) ∧
    taskCodeOk i.cs cd.2 = true ∧ taskStackOk i.ss sd.2 (rpl i.cs) = true ∧
    i.eip.toNat ≤ (descLimit cd.2).toNat ∧
    AccessedSeq [accessedByte cd.1 cd.2, accessedByte sd.1 sd.2] v w ∧
    (let x : State := { w with sys := { s.sys with ldtr := l } }
     ∀ r ∈ [(s.seg.ds, i.ds), (s.seg.es, i.es), (s.seg.fs, i.fs), (s.seg.gs, i.gs)],
       (x.taskData (rpl i.cs) r.1 r.2).isSome = true)

/-- A switch to a task that passes its checks: the stores are those of the switch, made in the state `s` from which the task
is left, and the new task is entered. Between those before and those behind the commit point the descriptor of the new TSS
still is one that is not busy, or busy for IRET: saving the old task has not reached it. -/
def Switches (s : State) (k : Switch) (a : Nat) (d : Desc) (image : Word) (v w : State) : Prop :=
  v = { s with mem := v.mem } ∧ w = { s with mem := w.mem } ∧
    (∃ m, StoredSeq (s.taskSaves k image) s { s with mem := m } ∧
      (k ≠ .iret → (({ s with mem := m } : State).num (a + 4) 4).testBit 9 = false) ∧
      StoredSeq (s.taskEnters k a (descBase d).toNat) { s with mem := m } v) ∧
    TaskStarts s v w (descBase d).toNat

end Sys2Proof.Machine

/-- Task switches between 32-bit TSSs complete: JMP and CALL to a TSS or through a task gate, and IRET with NT set. The
registers are saved in the old TSS, JMP and IRET clear its busy flag, then all but IRET set that of the new one, the link is
written, and the new task's registers, segments with their accessed flags, and LDTR are loaded; TS is set, the local
breakpoints go, EFLAGS has NT in a task that was called, and the T flag of the new TSS makes a debug trap wait
(42_task_management.md R728, R730 to R735; the tasks are not in virtual-8086 mode and paging is off). An event without an error code that is delivered through a task gate makes the same switch. -/
def Obligations.TaskSwitches : Prop :=
  (∀ (call : Bool) (g : FarForm) (tsel : Half) (a : Nat) (d : Desc) (s v w : State), s.ready → s.lockOk false = true →
    s.noLbr = true → s.mode8086 = false → g.ok s = true → s.taskSelector (g.sel s) = some tsel →
    let k : Switch := if call then .call else .jmp
    s.taskTarget k tsel = some (a, d) → s.canLeaveTask = true → Switches s.after k a d s.eflags v w →
    Completes (g.instr call) s fun t => TaskEntered s v w t k tsel d) ∧
  (∀ (a : Nat) (d : Desc) (s v w : State), s.ready → s.lockOk false = true → s.noLbr = true → s.protMode = true →
    s.flag fNT = true → s.noReturn = [] → 1 ≤ s.sys.tr.limit.toNat → s.plainAt s.sys.tr.base 2 = true →
    let tsel : Half := BitVec.ofNat 16 (s.num s.sys.tr.base.toNat 2)
    s.taskTarget .iret tsel = some (a, d) → s.canLeaveTask = true →
    Switches s.after .iret a d (setBit s.eflags 14 false) v w →
    Completes .iretIretd s fun t =>
      TaskEntered { s with lat := { s.lat with nmiBlocked := false } } v w t .iret tsel d) ∧
  (∀ (a : Nat) (d : Desc) (e : Entry) (s v w : State), s.ready → s.noLbr = true → s.prot = true →
    e.code = none → e.vec ≠ 18 → e.src ≠ .nmi → e.isDebug = false →
    let g : Desc := BitVec.ofNat 64 (s.num (s.sys.idtr.base + BitVec.ofNat 32 (8 * e.vec)).toNat 8)
    8 * e.vec + 7 ≤ s.sys.idtr.limit.toNat → s.plainAt (s.sys.idtr.base + BitVec.ofNat 32 (8 * e.vec)) 8 = true →
    descS g = false → descType g = 5 → descP g = true → (e.src = .soft → s.cpl ≤ descDpl g) →
    s.taskTarget .int (gateSel g) = some (a, d) → s.canLeaveTask = true →
    Switches s .int a d (e.image s) v w →
    ∃ t, deliver e s = .ok () t ∧
      TaskEntered { s with ins := Ins.clear, noReturn := s.marksElsewhere } v w { t with ins := Ins.clear } .int (gateSel g) d)

namespace Sys2Proof.Machine

/-- Items of `n` bytes stored one below the other under the offset `p` of a stack segment. -/
def StoredBelow (g : Seg) (n : Nat) : Word → List Nat → State → State → Prop
  | _, [], s, t => MemSame s t
  | p, v :: vs, s, t =>
    let q := g.cutSp (p - BitVec.ofNat 32 n)
    ∃ m, Stored s { s with mem := m } (g.base + q).toNat n v ∧ StoredBelow g n q vs { s with mem := m } t

/-- There is room for `k` items of `n` bytes under the offset `p` of a stack segment, below the APIC page. -/
def roomBelow (g : Seg) (n : Nat) : Word → Nat → Bool
  | _, 0 => true
  | p, k + 1 =>
    let q := g.cutSp (p - BitVec.ofNat 32 n)
    g.inLimit q n && decide ((g.base + q).toNat + n ≤ 0xFEE00000) && roomBelow g n q k

/-- A stack of an inner privilege level: selector, place of its descriptor, descriptor and stack pointer. -/
structure InnerStack where
  sel : Half
  addr : Nat
  desc : Desc
  esp : Word

/-- The segment register that the stack is loaded into. -/
def InnerStack.seg (k : InnerStack) : Seg := Seg.ofDesc k.sel k.desc

/-- The stack of level `n` in the current TSS, in plain memory, with a selector and a descriptor that can be used
(41_control_transfer.md R669). -/
def State.stackOf (s : State) (n : BitVec 2) : Option InnerStack :=
  let tr := s.sys.tr
  let wide := bit tr.type 3
  let at_ := if wide then 4 + 8 * n.toNat else 2 + 4 * n.toNat
  let size := if wide then 4 else 2
  let esp := tr.base + BitVec.ofNat 32 at_
  let ss := tr.base + BitVec.ofNat 32 (at_ + size)
  let sel : Half := BitVec.ofNat 16 (s.num ss.toNat 2)
  if decide (at_ + size + 1 ≤ tr.limit.toNat) && s.plainAt esp size && s.plainAt ss 2 && !isNull sel then
    match s.descriptor sel with
    | none => none
    | some (a, d) =>
      if decide (rpl sel = n) && decide (descDpl d = n) && isWritable (descS d) (descType d) && descP d then
        some ⟨sel, a, d, BitVec.ofNat 32 (s.num esp.toNat size)⟩
      else none
  else none

/-- The stack pointer register after `k` items of `n` bytes are pushed on a new stack: on a 16-bit stack the upper half is
that of `old`. -/
def InnerStack.espAfter (k : InnerStack) (old : Word) (n count : Nat) : Word :=
  let top := k.seg.cutSp (k.seg.cutSp k.esp - BitVec.ofNat 32 (n * count))
  if bit k.desc 54 then top else (old &&& 0xFFFF0000#32) ||| top

/-- Memory after a transfer to an inner level: the accessed flag of the stack segment, the frame, the accessed flag of the
code segment at `a` (41_control_transfer.md R669, 60_exceptions.md R850). -/
def InnerFrame (s t : State) (k : InnerStack) (n : Nat) (items : List Nat) (a : Nat) (d : Desc) : Prop :=
  ∃ m1 m2,
    Accessed s { s with mem := m1 } (accessedByte k.addr k.desc) ∧
    StoredBelow k.seg n (k.seg.cutSp k.esp) items { s with mem := m1 } { s with mem := m2 } ∧
    Accessed { s with mem := m2 } t (accessedByte a d)

/-- A call gate in plain memory that CPL and RPL may use, and the code segment it leads to: present, not beyond CPL, and
the offset inside it. `inner`: at a more privileged level (41_control_transfer.md R667). -/
def State.callGate (s : State) (sel : Half) (inner : Bool) : Option (Desc × Nat × Desc) :=
  if isNull sel then none
  else
    match s.descriptor sel with
    | none => none
    | some (_, g) =>
      if descS g || !(decide (descType g = 4) || decide (descType g = 12)) || decide (descDpl g < s.cpl) ||
          decide (descDpl g < rpl sel) || !descP g || isNull (gateSel g) then none
      else
        match s.descriptor (gateSel g) with
        | none => none
        | some (a, d) =>
          if descCode d && descP d && decide ((gateOff g).toNat ≤ (descLimit d).toNat) &&
              (if inner then !descConforming d && decide (descDpl d < s.cpl)
                else if descConforming d then decide (descDpl d ≤ s.cpl) else decide (descDpl d = s.cpl))
          then some (g, a, d) else none

/-- The code segment that an interrupt or trap gate leads to at an inner level, in plain memory, from a task whose CS and
SS are usable; from virtual-8086 mode it is level 0, through a 32-bit gate (60_exceptions.md R850, 42_task_management.md R732,
67_8086_emulation.md R1250). -/
def State.handlerInner (s : State) (g : Desc) : Option (Nat × Desc) :=
  if isNull (gateSel g) || !s.seg.cs.valid || !s.seg.ss.valid then none
  else
    match s.descriptor (gateSel g) with
    | none => none
    | some (a, d) =>
      if descCode d && !descConforming d && descP d && decide ((gateOff g).toNat ≤ (descLimit d).toNat) &&
          (if s.flag fVM then decide (descDpl d = 0) && gateWide g else decide (descDpl d < s.cpl))
      then some (a, d) else none

/-- The frame of a delivery to an inner level; from virtual-8086 mode the data segment selectors come first
(60_exceptions.md R850, 67_8086_emulation.md R1250). -/
def State.innerFrame (s : State) (image : Word) (code : Option Half) : List Nat :=
  (if s.flag fVM then [s.seg.gs.sel.toNat, s.seg.fs.sel.toNat, s.seg.ds.sel.toNat, s.seg.es.sel.toNat] else []) ++
    [s.seg.ss.sel.toNat, s.gpr.esp.toNat, image.toNat, s.seg.cs.sel.toNat, s.eip.toNat] ++
    (code.map BitVec.toNat).toList

/-- The handler has been entered through gate `g` at an inner level from `s` on the stack `k`. From virtual-8086 mode the data
segment registers are unusable and hold null selectors, and all of ESP is loaded (60_exceptions.md R850, R852, R853;
67_8086_emulation.md R1250). The debug registers stay: no processor-detected debug exception enters here. -/
def InnerEntry (s t : State) (g : Desc) (k : InnerStack) (a : Nat) (d : Desc) (image : Word) (code : Option Half) : Prop :=
  let items := s.innerFrame image code
  let gone := fun (r : Seg) => if s.flag fVM then { r with sel := 0, valid := false } else r
  InnerFrame s t k (bytes (gateWide g)) items a d ∧
    t.gpr = { s.gpr with
      esp := k.espAfter (if s.flag fVM then k.esp else s.gpr.esp) (bytes (gateWide g)) items.length } ∧
    t.eip = gateOff g ∧ t.eflags = entryFlags s.eflags g ∧
    t.seg = { es := gone s.seg.es, cs := Seg.code (gateSel g) d (descDpl d), ss := k.seg, ds := gone s.seg.ds,
              fs := gone s.seg.fs, gs := gone s.seg.gs } ∧
    QuietButSeg { s with cpl := descDpl d, noReturn := s.marksElsewhere } t

/-- A data segment register on a return to an outer level: one whose segment that level may not use becomes null
(41_control_transfer.md R672). -/
def leftBehind (r : Seg) (cpl : BitVec 2) : Seg :=
  if r.valid && r.s && !isConforming r.s r.type && decide (r.dpl < cpl) then { r with sel := 0, valid := false } else r

/-- The descriptor of the code segment of a return to an outer level, in plain memory (41_control_transfer.md R670). -/
def State.outerCode (s : State) (sel : Half) (off : Word) : Option (Nat × Desc) :=
  if isNull sel then none
  else
    match s.descriptor sel with
    | none => none
    | some (a, d) =>
      if descCode d && decide (s.cpl < rpl sel) &&
          (if descConforming d then decide (descDpl d ≤ rpl sel) else decide (descDpl d = rpl sel)) && descP d &&
          decide (off.toNat ≤ (descLimit d).toNat)
      then some (a, d) else none

/-- The descriptor of the stack segment of a return to level `n`, in plain memory (41_control_transfer.md R671). -/
def State.outerStack (s : State) (sel : Half) (n : BitVec 2) : Option (Nat × Desc) :=
  if isNull sel then none
  else
    match s.descriptor sel with
    | none => none
    | some (a, d) =>
      if decide (rpl sel = n) && decide (descDpl d = n) && isWritable (descS d) (descType d) && descP d then some (a, d)
      else none

/-- A return to an outer level has loaded CS and SS, with their accessed flags, the stack pointer, and the data segment
registers (41_control_transfer.md R671, R672). -/
def OuterEntry (s t : State) (sel ssel : Half) (c k : Nat × Desc) (esp : Word) : Prop :=
  let n := rpl sel
  AccessedSeq [accessedByte c.1 c.2, accessedByte k.1 k.2] s t ∧
    t.gpr = { s.gpr with
      esp := if bit k.2 54 then esp else (s.gpr.esp &&& 0xFFFF0000#32) ||| (esp &&& 0xFFFF#32) } ∧
    t.seg = { es := leftBehind s.seg.es n, cs := Seg.ofDesc sel c.2, ss := Seg.ofDesc ssel k.2, ds := leftBehind s.seg.ds n,
              fs := leftBehind s.seg.fs n, gs := leftBehind s.seg.gs n } ∧
    QuietButSeg { s with cpl := n } t

end Sys2Proof.Machine

/-- CALL through a call gate completes at an inner level, on the stack that the TSS has for it, with the old stack, the
parameters and the return address pushed; CALL and JMP through one complete at the same level. The gate, not the operand
size, says how wide the frame is. An exception and a software interrupt whose gate leads to an inner level, also from
virtual-8086 mode, enter their handler on the stack of that level, with the old stack, the flags, the return address and
the error code pushed; an INT n in virtual-8086 mode with IOPL 3, and CR4.VME clear or its redirection flag set
(41_control_transfer.md R667 to R669; 60_exceptions.md R850, R852, R853; 67_8086_emulation.md R1246, R1250, R1260). With CR4.VME
set and a 16-bit TSS, which has no map, it enters its handler so or raises #GP(0): R1245 and decision D56 differ, and the model
leaves the choice free (log 50, DESIGN CHOICE). That INT 1 from virtual-8086 mode leaves DR7.GD as it is, as
65_debug_perfmon.md R1121 and R850 have it, is the model's reading of the pseudocode of R1250 (log 57, DEDUCED). An RF
that is set stands in the image of a software interrupt or is 0 there, by a free choice (log 62, DESIGN CHOICE). -/
def Obligations.InnerTransfers : Prop :=
  (∀ (f : FarForm) (g : Desc) (a : Nat) (d : Desc) (k : InnerStack) (s : State), s.ready → s.lockOk false = true →
    s.noLbr = true → s.mode8086 = false → f.ok s = true → s.callGate (f.sel s) true = some (g, a, d) →
    s.stackOf (descDpl d) = some k →
    let w := bytes (gateWide g)
    let count := (field g 32 5 : BitVec 5).toNat
    (∀ j < count, s.canPop (w * j) w = true) → roomBelow k.seg w (k.seg.cutSp k.esp) (4 + count) = true →
    let params := ((List.range count).map fun j => s.item (w * j) w).reverse
    let items := [s.seg.ss.sel.toNat, s.gpr.esp.toNat] ++ params ++ [s.seg.cs.sel.toNat, s.nextEip.toNat]
    Completes (f.instr true) s fun t =>
      InnerFrame s t k w items a d ∧ t.gpr = { s.gpr with esp := k.espAfter s.gpr.esp w (4 + count) } ∧
        t.eip = gateOff g ∧ FlagsSame s t ∧
        t.seg = { s.seg with cs := Seg.code (gateSel g) d (descDpl d), ss := k.seg } ∧
        QuietButSeg { s with cpl := descDpl d } t) ∧
  (∀ (call : Bool) (f : FarForm) (g : Desc) (a : Nat) (d : Desc) (s : State), s.ready → s.lockOk false = true →
    s.noLbr = true → s.mode8086 = false → f.ok s = true → s.callGate (f.sel s) false = some (g, a, d) →
    (call = true → canPushAll (bytes (gateWide g)) 2 s = true) →
    Completes (f.instr call) s fun t =>
      (∃ u, (if call then FarFrame (bytes (gateWide g)) s u else Untouched s u) ∧ t.gpr = u.gpr ∧
        Accessed u t (accessedByte a d)) ∧
        Jumps { s with seg := { s.seg with cs := Seg.code (gateSel g) d s.cpl } } t (gateOff g)) ∧
  (∀ (i : Instr) (v : Nat) (g : Desc) (a : Nat) (d : Desc) (k : InnerStack) (s : State), IsSoftInt i v s → s.ready →
    s.lockOk false = true → s.noLbr = true → s.prot = true → s.gateOk v true = some g →
    s.throughIdt i v → s.handlerInner g = some (a, d) → s.stackOf (descDpl d) = some k →
    roomBelow k.seg (bytes (gateWide g)) (k.seg.cutSp k.esp) (s.innerFrame 0 none).length = true →
    Completes i s fun t => ∃ image, SoftImage s image ∧ InnerEntry s.after t g k a d image none) ∧
  (∀ (n : Byte) (g : Desc) (a : Nat) (d : Desc) (k : InnerStack) (s : State), s.ready → s.lockOk false = true →
    s.noLbr = true → s.prot = true → s.gateOk n.toNat true = some g → s.mapless → s.handlerInner g = some (a, d) →
    s.stackOf (descDpl d) = some k →
    roomBelow k.seg (bytes (gateWide g)) (k.seg.cutSp k.esp) (s.innerFrame 0 none).length = true →
    Raises (.intIb n) s 13 (some 0) ∨
      Completes (.intIb n) s fun t => ∃ image, SoftImage s image ∧ InnerEntry s.after t g k a d image none) ∧
  (∀ (s u : State) (x : Exc) (g : Desc) (a : Nat) (d : Desc) (k : InnerStack), x.keep = false → x.vec ≠ 1 →
    Memory.wf u.mem = true →
    let b := rollback s u x
    b.prot = true → b.noLbr = true → b.gateOk x.vec false = some g → b.handlerInner g = some (a, d) →
    b.stackOf (descDpl d) = some k →
    roomBelow k.seg (bytes (gateWide g)) (k.seg.cutSp k.esp) (b.innerFrame 0 x.code).length = true →
    ∃ t, takeException s u x = .next t ∧ InnerEntry b t g k a d (setBit s.eflags 16 true) x.code)

/-- Far RET and IRET complete where the return address is at an outer level: CS, EIP, SS and the stack pointer come from the
stack, RET releases the bytes it names on both stacks, IRET loads the flags its level may write, and the data segment
registers that the outer level may not use become null. IRETD at level 0 to an image with VM set enters
virtual-8086 mode with the nine items of its frame (41_control_transfer.md R670 to R672; 60_exceptions.md R862 to R866;
67_8086_emulation.md R1251). That IRET stops where a machine check gave no restart address is log 42. -/
def Obligations.OuterReturns : Prop :=
  (∀ (i : Instr) (imm : Half) (c k : Nat × Desc) (s : State), i = .retFar ∧ imm = 0 ∨ i = .retFarIw imm → s.ready →
    s.lockOk false = true → s.noLbr = true → s.mode8086 = false →
    let n := bytes s.o32
    let off := s.cutTarget (BitVec.ofNat 32 (s.item 0 n))
    let sel : Half := BitVec.ofNat 16 (s.item n n)
    let esp : Word := BitVec.ofNat 32 (s.item (2 * n + imm.toNat) n)
    let ssel : Half := BitVec.ofNat 16 (s.item (3 * n + imm.toNat) n)
    s.canPop 0 n = true → s.canPop n n = true → s.canPop (2 * n + imm.toNat) n = true →
    s.canPop (3 * n + imm.toNat) n = true → s.outerCode sel off = some c → s.outerStack ssel (rpl sel) = some k →
    Completes i s fun t => OuterEntry s t sel ssel c k (esp + imm.setWidth 32) ∧ t.eip = off ∧ FlagsSame s t) ∧
  (∀ (c k : Nat × Desc) (s : State), s.ready → s.lockOk false = true → s.noLbr = true → s.mode8086 = false →
    s.flag fNT = false →
    let n := bytes s.o32
    let off := s.cutTarget (BitVec.ofNat 32 (s.item 0 n))
    let sel : Half := BitVec.ofNat 16 (s.item n n)
    let f := BitVec.ofNat 32 (s.item (2 * n) n)
    let esp : Word := BitVec.ofNat 32 (s.item (3 * n) n)
    let ssel : Half := BitVec.ofNat 16 (s.item (4 * n) n)
    s.noReturn = [] → (∀ j < 5, s.canPop (j * n) n = true) → (s.o32 = true → s.cpl = 0 → bit f fVM = false) →
    s.outerCode sel off = some c → s.outerStack ssel (rpl sel) = some k →
    Completes .iretIretd s fun t =>
      OuterEntry { s with lat := { s.lat with nmiBlocked := false } } t sel ssel c k esp ∧ t.eip = off ∧
        t.eflags = blend (iretWrites s) s.eflags f) ∧
  (∀ s : State, s.ready → s.lockOk false = true → s.noLbr = true → s.mode8086 = false → s.flag fNT = false →
    s.o32 = true → s.cpl = 0 → s.noReturn = [] →
    let off : Word := BitVec.ofNat 32 (s.item 0 4)
    let f := BitVec.ofNat 32 (s.item 8 4)
    let v := fun k : Nat => s.num (s.lin .ss (s.sp + BitVec.ofNat 32 k)) 4
    let h := fun k : Nat => Seg.v86 (BitVec.ofNat 16 (v k))
    (∀ j < 3, s.canPop (j * 4) 4 = true) → bit f fVM = true → s.sp.toNat + 12 < 2 ^ 32 →
    s.seg.ss.inLimit (s.sp + 12) 24 = true →
    (∀ j < 6, s.reaches .ss (s.sp + BitVec.ofNat 32 (12 + 4 * j)) 4 4 .read = true) → off.toNat ≤ 0xFFFF →
    Completes .iretIretd s fun t =>
      t.gpr = { s.gpr with esp := BitVec.ofNat 32 (v 12) } ∧ MemSame s t ∧ t.eip = off ∧
        t.eflags = (f &&& 0x3F7FD5#32) ||| 2#32 ∧
        t.seg = { es := h 20, cs := Seg.v86 (BitVec.ofNat 16 (s.item 4 4)), ss := h 16, ds := h 24, fs := h 28, gs := h 32 } ∧
        QuietButSeg { s with cpl := 3, lat := { s.lat with nmiBlocked := false } } t)

/-- The control registers: what MOV does to them, the values and numbers it rejects, and the machine status word. -/
def Obligations.ControlRegisters : Prop := MovControl ∧ MovControlFaults ∧ MovesStatusWord

/-- The descriptor-table registers, LDTR and TR. -/
def Obligations.DescriptorTables : Prop := MovesTables ∧ MovesTaskRegisters

/-- The opcodes that raise #UD, and the two that do not. -/
def Obligations.UndefinedOpcodes : Prop := OpcodesUndefined ∧ OpcodesUnspecified

/-- Software interrupts, the gates they may not use, and INT n in virtual-8086 mode. -/
def Obligations.SoftwareInterrupts : Prop := EntersSoftly ∧ GateRefuses ∧ InterruptsV86

/-- IRET and IRETD, in real-address mode and at the same level of protected mode, and in virtual-8086 mode. -/
def Obligations.InterruptReturns : Prop := ReturnsFromHandler ∧ ReturnsInV86

/-- Near branches complete, and a near transfer beyond the limit raises #GP(0). -/
def Obligations.NearBranches : Prop := BranchesNear ∧ BranchLimit

/-- Loading a segment register: what it loads, and what it refuses. -/
def Obligations.SegmentLoads : Prop := LoadsSegment ∧ LoadsSegmentFaults

/-- The exceptions that come before any floating-point instruction: #NM, then a pending error. -/
def Obligations.FpuExceptions : Prop := NotAvailable ∧ PendingError

/-- Multiplication, into a register pair and into a register. -/
def Obligations.Multiply : Prop := MultipliesPair ∧ MultipliesTo

/-- Bit tests and bit scans. -/
def Obligations.BitTests : Prop := TestsBits ∧ ScansBits

/-- The instructions that move or set flags. -/
def Obligations.FlagMoves : Prop := MovesFlags ∧ SetsInterruptFlag

/-- Shifts and rotates, of one operand and of two. -/
def Obligations.Shifts : Prop := ShiftsOne ∧ ShiftsTwo


/-- System-management mode: how an SMI enters it, and how RSM leaves it. -/
def Obligations.ResumeFromSmm : Prop := EntersSmm ∧ LeavesSmm
end

