-- ==== Sys2Proof/Laws/Monad.lean ====
section
/-! SUPPORT. How the computations run: one equation per combinator. -/
namespace Sys2Proof.Machine

@[simp] theorem run_pure {α : Type} (a : α) (s : State) : (pure a : M α) s = .ok a s := rfl
@[simp] theorem run_get (s : State) : (get : M State) s = .ok s s := rfl
@[simp] theorem run_set (t s : State) : (set t : M PUnit) s = .ok ⟨⟩ t := rfl
@[simp] theorem run_modify (f : State → State) (s : State) : (modify f : M PUnit) s = .ok ⟨⟩ (f s) := rfl
@[simp] theorem run_throw {α : Type} (e : Abort) (s : State) : (throw e : M α) s = .error e s := rfl
@[simp] theorem run_stop {α : Type} (f : Fault) (s : State) : (stop f : M α) s = .error (.fault f) s := rfl
@[simp] theorem run_refuse {α : Type} (r : Refusal) (s : State) : (refuse r : M α) s = .error (.refused r) s := rfl

/-- A sequence goes on from the state its first part leaves, or ends as that part ends. -/
@[simp] theorem run_bind {α β : Type} (x : M α) (f : α → M β) (s : State) :
    (x >>= f) s = match x s with | .ok a t => f a t | .error e t => .error e t := by
  show EStateM.bind x f s = _
  unfold EStateM.bind
  cases x s <;> rfl

@[simp] theorem run_map {α β : Type} (f : α → β) (x : M α) (s : State) :
    (f <$> x) s = match x s with | .ok a t => .ok (f a) t | .error e t => .error e t := by
  show EStateM.map f x s = _
  unfold EStateM.map
  cases x s <;> rfl

@[simp] theorem run_whenM (c : Bool) (f : M Unit) (s : State) :
    whenM c f s = if c then f s else .ok () s := by cases c <;> rfl

@[simp] theorem run_unlessM (c : Bool) (f : M Unit) (s : State) :
    unlessM c f s = if c then .ok () s else f s := by cases c <;> rfl

@[simp] theorem run_drawNat (s : State) :
    drawNat s = .ok (Config.freeBits s.free) { s with free := s.free + 1 } := rfl

@[simp] theorem run_draw (w : Nat) (s : State) :
    draw w s = .ok (BitVec.ofNat w (Config.freeBits s.free)) { s with free := s.free + 1 } := rfl

@[simp] theorem run_drawBool (s : State) :
    drawBool s = .ok (decide (Config.freeBits s.free % 2 = 1)) { s with free := s.free + 1 } := rfl

@[simp] theorem run_emit (b : BusMsg) (s : State) : emit b s = .ok () { s with bus := b :: s.bus } := rfl

/-- A choice of computations runs the chosen one. -/
theorem run_ite {α : Type} (c : Prop) [Decidable c] (x y : M α) (s : State) :
    (if c then x else y) s = if c then x s else y s := by split <;> rfl

/-- Every state a computation ends in, normally or not, keeps a property the first state has. -/
def Keeps {α : Type} (P : State → Prop) (x : M α) : Prop :=
  ∀ s, P s → match x s with | .ok _ t => P t | .error _ t => P t

theorem keeps_pure {α : Type} (P : State → Prop) (a : α) : Keeps P (pure a : M α) := fun _ h => h
theorem keeps_get (P : State → Prop) : Keeps P (get : M State) := fun _ h => h
theorem keeps_throw {α : Type} (P : State → Prop) (e : Abort) : Keeps P (throw e : M α) := fun _ h => h

theorem keeps_modify (P : State → Prop) (f : State → State) (h : ∀ s, P s → P (f s)) :
    Keeps P (modify f : M PUnit) := h

/-- A sequence keeps what both its parts keep. -/
theorem keeps_bind {α β : Type} (P : State → Prop) (x : M α) (f : α → M β) (hx : Keeps P x)
    (hf : ∀ a, Keeps P (f a)) : Keeps P (x >>= f) := by
  intro s hs
  have := hx s hs
  simp only [run_bind]
  cases h : x s with
  | ok a t => rw [h] at this; exact hf a t this
  | error e t => rw [h] at this; exact this

/-- A sequence that reads the state keeps `P` if each run from a state with `P` does. -/
theorem keeps_get_bind {β : Type} (P : State → Prop) (f : State → M β)
    (hf : ∀ s, P s → match f s s with | .ok _ t => P t | .error _ t => P t) : Keeps P (get >>= f) := hf

theorem keeps_ite {α : Type} (P : State → Prop) (c : Prop) [Decidable c] (x y : M α) (hx : Keeps P x)
    (hy : Keeps P y) : Keeps P (if c then x else y) := by
  split
  · exact hx
  · exact hy

theorem keeps_draw (P : State → Prop) (w : Nat) (h : ∀ s, P s → P { s with free := s.free + 1 }) :
    Keeps P (draw w) := fun s hs => by simpa using h s hs

theorem keeps_drawBool (P : State → Prop) (h : ∀ s, P s → P { s with free := s.free + 1 }) :
    Keeps P drawBool := fun s hs => by simpa using h s hs

end Sys2Proof.Machine
end

