-- ==== Sys2Proof/Laws/Memory.lean ====
section
/-! SUPPORT. The laws of memory: canonical form, and read after write. -/
namespace Sys2Proof.Machine
open Host

theorem memWfFrom_mono {lo hi : Nat} {m : List Cell} (h : memWfFrom hi m = true) (l : lo ≤ hi) :
    memWfFrom lo m = true := by
  cases m with
  | nil => rfl
  | cons c m =>
    obtain ⟨a, b⟩ := c
    simp only [memWfFrom, Bool.and_eq_true, decide_eq_true_eq] at h ⊢
    exact ⟨⟨by omega, h.1.2⟩, h.2⟩

/-- Below its first address a memory lists nothing. -/
theorem memRead_below {lo k : Nat} {m : List Cell} (h : memWfFrom lo m = true) (l : k < lo) :
    memRead m k = unlisted := by
  cases m with
  | nil => rfl
  | cons c m =>
    obtain ⟨a, b⟩ := c
    simp only [memWfFrom, Bool.and_eq_true, decide_eq_true_eq] at h
    simp only [memRead]
    rw [if_pos (by omega)]

theorem memWfFrom_consCell {lo a : Nat} {b : Byte} {m : List Cell} (l : lo ≤ a)
    (h : memWfFrom (a + 1) m = true) : memWfFrom lo (consCell a b m) = true := by
  unfold consCell
  split
  · exact memWfFrom_mono h (by omega)
  · next hb => simp [memWfFrom, l, h, hb]

theorem memWfFrom_memWrite {lo k : Nat} {b : Byte} {m : List Cell} (l : lo ≤ k)
    (h : memWfFrom lo m = true) : memWfFrom lo (memWrite m k b) = true := by
  induction m generalizing lo with
  | nil => exact memWfFrom_consCell l rfl
  | cons c m ih =>
    obtain ⟨a, c⟩ := c
    simp only [memWfFrom, Bool.and_eq_true, decide_eq_true_eq] at h
    simp only [memWrite]
    split
    · exact memWfFrom_consCell l (by simp only [memWfFrom, Bool.and_eq_true, decide_eq_true_eq]
                                     exact ⟨⟨by omega, h.1.2⟩, h.2⟩)
    · split
      · next hk => subst hk; exact memWfFrom_consCell l h.2
      · simp only [memWfFrom, Bool.and_eq_true, decide_eq_true_eq]
        exact ⟨h.1, ih (by omega) h.2⟩

/-- A write keeps the canonical form. -/
theorem wf_memWrite {k : Nat} {b : Byte} {m : List Cell} (h : Memory.wf m = true) :
    Memory.wf (memWrite m k b) = true := memWfFrom_memWrite (Nat.zero_le k) h

theorem memRead_consCell_self {lo k : Nat} {b : Byte} {m : List Cell} (h : memWfFrom lo m = true) (l : k < lo) :
    memRead (consCell k b m) k = b := by
  unfold consCell
  split
  · next hb => rw [memRead_below h l, hb]
  · simp [memRead]

theorem memRead_consCell_ne {lo k j : Nat} {b : Byte} {m : List Cell} (h : memWfFrom lo m = true) (l : k < lo)
    (hj : j ≠ k) : memRead (consCell k b m) j = memRead m j := by
  unfold consCell
  split
  · rfl
  · simp only [memRead]
    split
    · next hlt => rw [memRead_below h (by omega)]
    · rfl

theorem memRead_memWrite_from {lo k j : Nat} {b : Byte} {m : List Cell} (h : memWfFrom lo m = true) :
    memRead (memWrite m k b) j = if j = k then b else memRead m j := by
  induction m generalizing lo with
  | nil =>
    split
    · next e => subst e; exact memRead_consCell_self (lo := j + 1) rfl (by omega)
    · next e => exact memRead_consCell_ne (lo := k + 1) rfl (by omega) e
  | cons c m ih =>
    obtain ⟨a, c⟩ := c
    have h0 := h
    simp only [memWfFrom, Bool.and_eq_true, decide_eq_true_eq] at h
    have hw : memWfFrom a ((a, c) :: m) = true := by
      simp only [memWfFrom, Bool.and_eq_true, decide_eq_true_eq]; exact ⟨⟨Nat.le_refl a, h.1.2⟩, h.2⟩
    simp only [memWrite]
    split
    · next hk =>
      split
      · next e => subst e; exact memRead_consCell_self hw hk
      · next e => exact memRead_consCell_ne hw hk e
    · split
      · next hk =>
        subst hk
        split
        · next e => subst e; exact memRead_consCell_self h.2 (by omega)
        · next e =>
          rw [memRead_consCell_ne h.2 (by omega) e]
          simp only [memRead]
          split
          · exact memRead_below h.2 (by omega)
          · rfl
      · next h1 h2 =>
        simp only [memRead]
        split
        · rw [if_neg (by omega)]
        · split
          · rw [if_neg (by omega)]
          · exact ih h.2

/-- Read after write: the byte written is the byte read, every other byte is as before. -/
theorem memRead_memWrite {k j : Nat} {b : Byte} {m : List Cell} (h : Memory.wf m = true) :
    memRead (memWrite m k b) j = if j = k then b else memRead m j := memRead_memWrite_from h

/-- Memory with bytes written one after another. -/
def memWriteList (m : List Cell) : Nat → List Byte → List Cell
  | _, [] => m
  | a, b :: bs => memWriteList (memWrite m a b) (a + 1) bs

theorem wf_memWriteList {m : List Cell} {a : Nat} {bs : List Byte} (h : Memory.wf m = true) :
    Memory.wf (memWriteList m a bs) = true := by
  induction bs generalizing m a with
  | nil => exact h
  | cons b bs ih => exact ih (wf_memWrite h)

/-- A byte outside the bytes written is as before. -/
theorem memRead_memWriteList_out {m : List Cell} {a k : Nat} {bs : List Byte} (h : Memory.wf m = true)
    (hk : k < a ∨ a + bs.length ≤ k) : memRead (memWriteList m a bs) k = memRead m k := by
  induction bs generalizing m a with
  | nil => rfl
  | cons b bs ih =>
    simp only [List.length_cons] at hk
    rw [memWriteList, ih (wf_memWrite h) (by omega), memRead_memWrite h, if_neg (by omega)]

/-- The bytes written are the bytes read. -/
theorem memBytes_memWriteList {m : List Cell} {a : Nat} {bs : List Byte} (h : Memory.wf m = true) :
    memBytes (memWriteList m a bs) a bs.length = bs := by
  induction bs generalizing m a with
  | nil => rfl
  | cons b bs ih =>
    simp only [List.length_cons, memBytes, memWriteList]
    rw [ih (wf_memWrite h), memRead_memWriteList_out (wf_memWrite h) (by omega), memRead_memWrite h, if_pos rfl]

theorem memWriteList_append {m : List Cell} {a : Nat} {bs cs : List Byte} :
    memWriteList m a (bs ++ cs) = memWriteList (memWriteList m a bs) (a + bs.length) cs := by
  induction bs generalizing m a with
  | nil => simp [memWriteList]
  | cons b bs ih => simp only [List.cons_append, memWriteList, ih, List.length_cons]; congr 1; omega

theorem memBytes_add {m : List Cell} {a i j : Nat} :
    memBytes m a (i + j) = memBytes m a i ++ memBytes m (a + i) j := by
  induction i generalizing a with
  | zero => simp [memBytes]
  | succ i ih =>
    rw [show i + 1 + j = (i + j) + 1 by omega]
    simp only [memBytes, ih, List.cons_append]
    rw [show a + 1 + i = a + (i + 1) by omega]

@[simp] theorem memBytes_length {m : List Cell} {a n : Nat} : (memBytes m a n).length = n := by
  induction n generalizing a with
  | zero => rfl
  | succ n ih => simp [memBytes, ih]

@[simp] theorem leBytes_length (n v : Nat) : (leBytes n v).length = n := by
  induction n generalizing v with
  | zero => rfl
  | succ n ih => simp [leBytes, ih]

/-- The number that the little-endian bytes of a number stand for. -/
theorem leNat_leBytes (n v : Nat) : leNat (leBytes n v) = v % 256 ^ n := by
  induction n generalizing v with
  | zero => simp [leBytes, leNat, Nat.mod_one]
  | succ n ih =>
    simp only [leBytes, leNat, ih, BitVec.toNat_ofNat]
    rw [show 256 ^ (n + 1) = 256 * 256 ^ n by rw [Nat.pow_succ, Nat.mul_comm], Nat.mod_mul]

theorem leNat_lt (bs : List Byte) : leNat bs < 256 ^ bs.length := by
  induction bs with
  | nil => simp [leNat]
  | cons b bs ih =>
    have := b.isLt
    simp only [leNat, List.length_cons, Nat.pow_succ]
    omega

/-- A number stored is the number read, and every other byte is as before. -/
theorem stored_memWriteList {s t : State} {a n v : Nat} (h : Memory.wf s.mem = true)
    (ht : t.mem = memWriteList s.mem a (leBytes n v)) : Stored s t a n v := by
  refine ⟨?_, fun k hk => ?_⟩
  · have := memBytes_memWriteList (a := a) (bs := leBytes n v) h
    rw [leBytes_length] at this
    rw [State.num, ht, this, leNat_leBytes]
  · rw [ht]; exact memRead_memWriteList_out h (by simpa using hk)

end Sys2Proof.Machine
end

