-- ==== Sys2Proof/Laws/Access.lean ====
section
/-! SUPPORT. What an access does where linear addresses are physical addresses of RAM: which bytes it reads or
writes, and that it changes nothing else but the record of breakpoint hits. -/
namespace Sys2Proof.Machine
open Host

/-- The state with the breakpoint hits of the instruction set. -/
def State.withHit (s : State) (h : BitVec 4) : State := { s with tr := { s.tr with hit := h } }

/-- The state with memory bytes written: `st` is what remains to be written back, `fr` the draws made for it. -/
def State.withBytes (s : State) (a n v : Nat) (st : List StaleByte) (fr : Nat) : State :=
  { s with mem := memWriteList s.mem a (leBytes n v), stale := st, free := fr }

theorem withHit_self (s : State) : s.withHit s.tr.hit = s := rfl
@[simp] theorem withHit_withHit (s : State) (h k : BitVec 4) : (s.withHit h).withHit k = s.withHit k := rfl
@[simp] theorem withHit_gpr (s : State) (h : BitVec 4) : (s.withHit h).gpr = s.gpr := rfl
@[simp] theorem withHit_eip (s : State) (h : BitVec 4) : (s.withHit h).eip = s.eip := rfl
@[simp] theorem withHit_eflags (s : State) (h : BitVec 4) : (s.withHit h).eflags = s.eflags := rfl
@[simp] theorem withHit_cpl (s : State) (h : BitVec 4) : (s.withHit h).cpl = s.cpl := rfl
@[simp] theorem withHit_seg (s : State) (h : BitVec 4) : (s.withHit h).seg = s.seg := rfl
@[simp] theorem withHit_sys (s : State) (h : BitVec 4) : (s.withHit h).sys = s.sys := rfl
@[simp] theorem withHit_dbg (s : State) (h : BitVec 4) : (s.withHit h).dbg = s.dbg := rfl
@[simp] theorem withHit_fpu (s : State) (h : BitVec 4) : (s.withHit h).fpu = s.fpu := rfl
@[simp] theorem withHit_msr (s : State) (h : BitVec 4) : (s.withHit h).msr = s.msr := rfl
@[simp] theorem withHit_apic (s : State) (h : BitVec 4) : (s.withHit h).apic = s.apic := rfl
@[simp] theorem withHit_smm (s : State) (h : BitVec 4) : (s.withHit h).smm = s.smm := rfl
@[simp] theorem withHit_lat (s : State) (h : BitVec 4) : (s.withHit h).lat = s.lat := rfl
@[simp] theorem withHit_ins (s : State) (h : BitVec 4) : (s.withHit h).ins = s.ins := rfl
@[simp] theorem withHit_tlb (s : State) (h : BitVec 4) : (s.withHit h).tlb = s.tlb := rfl
@[simp] theorem withHit_mem (s : State) (h : BitVec 4) : (s.withHit h).mem = s.mem := rfl
@[simp] theorem withHit_map (s : State) (h : BitVec 4) : (s.withHit h).map = s.map := rfl
@[simp] theorem withHit_free (s : State) (h : BitVec 4) : (s.withHit h).free = s.free := rfl
@[simp] theorem withHit_events (s : State) (h : BitVec 4) : (s.withHit h).events = s.events := rfl
@[simp] theorem withHit_bus (s : State) (h : BitVec 4) : (s.withHit h).bus = s.bus := rfl
@[simp] theorem withHit_stale (s : State) (h : BitVec 4) : (s.withHit h).stale = s.stale := rfl
@[simp] theorem withHit_cached (s : State) (h : BitVec 4) : (s.withHit h).cached = s.cached := rfl
@[simp] theorem withHit_others (s : State) (h : BitVec 4) : (s.withHit h).others = s.others := rfl
@[simp] theorem withHit_noReturn (s : State) (h : BitVec 4) : (s.withHit h).noReturn = s.noReturn := rfl
@[simp] theorem withHit_hit (s : State) (h : BitVec 4) : (s.withHit h).tr.hit = h := rfl
@[simp] theorem withHit_branched (s : State) (h : BitVec 4) : (s.withHit h).tr.branched = s.tr.branched := rfl
@[simp] theorem withHit_keepRf (s : State) (h : BitVec 4) : (s.withHit h).tr.keepRf = s.tr.keepRf := rfl
@[simp] theorem withHit_repeats (s : State) (h : BitVec 4) : (s.withHit h).tr.repeats = s.tr.repeats := rfl
@[simp] theorem withHit_plain (s : State) (h : BitVec 4) : (s.withHit h).plain = s.plain := rfl
@[simp] theorem withHit_num (s : State) (h : BitVec 4) (a n : Nat) : (s.withHit h).num a n = s.num a n := rfl
@[simp] theorem withHit_r32 (s : State) (h : BitVec 4) (r : Reg) : (s.withHit h).r32 r = s.r32 r := rfl
@[simp] theorem withHit_r8 (s : State) (h : BitVec 4) (r : Reg8) : (s.withHit h).r8 r = s.r8 r := rfl
@[simp] theorem withHit_flag (s : State) (h : BitVec 4) (i : Nat) : (s.withHit h).flag i = s.flag i := rfl
@[simp] theorem withHit_o32 (s : State) (h : BitVec 4) : (s.withHit h).o32 = s.o32 := rfl
@[simp] theorem withHit_a32 (s : State) (h : BitVec 4) : (s.withHit h).a32 = s.a32 := rfl

/-- What `State.plain` says. -/
theorem plain_iff (s : State) :
    s.plain = true ↔ s.paging = false ∧ bit s.msr.mtrrDef 11 = false ∧ s.lat.a20m = false ∧ s.map = [] ∧
      s.others = [] := by
  simp [State.plain, and_assoc]

theorem busAddr_plain {s : State} (h : s.plain = true) (a : Nat) : busAddr s a = a := by
  simp [busAddr, ((plain_iff s).1 h).2.2.1]

theorem placeOf_plain {s : State} (h : s.plain = true) (a : Nat) : placeOf s.map s.smm.inSmm a = .ram a := by
  simp [placeOf, ((plain_iff s).1 h).2.2.2.1, regionOf]

/-- No other agent writes between the accesses of an instruction. -/
theorem gap_plain {s : State} (h : s.plain = true) : gap s = .ok () s := by
  simp [gap, State.othersWrite, ((plain_iff s).1 h).2.2.2.2, State.speculate, ((plain_iff s).1 h).1]

theorem accessGap_plain {s : State} (h : s.plain = true) : accessGap s = .ok () s := by
  simp [accessGap, gap_plain h]

theorem whole_plain {s : State} (h : s.plain = true) (ps : List Span) : whole ps s = true := by
  simp [whole, ((plain_iff s).1 h).2.2.2.2]

theorem translate_plain {s : State} (h : s.plain = true) (la : Word) (w u : Bool) :
    translate la w u s = .ok ⟨la.toNat, false, false⟩ s := by
  simp [translate, ((plain_iff s).1 h).1]

theorem spanOf_plain {s : State} (h : s.plain = true) {a : Nat} (n : Nat) (l : a < 0xFEE00000) :
    spanOf ⟨a, false, false⟩ n s = .ok ⟨a, n, false, false, false⟩ s := by
  have hp := (plain_iff s).1 h
  have hx : inApicPage s a = false := by simp [inApicPage, Config.apicPage]; omega
  simp [spanOf, State.typeOf, mtrrType, hp.2.1, busAddr_plain h, hx, effType]

/-- The runs of bytes of an operand where linear addresses are physical. -/
def spansAt (la n : Nat) : List Span :=
  if n ≤ 0x1000 - la % 0x1000 then [⟨la, n, false, false, false⟩]
  else [⟨la, 0x1000 - la % 0x1000, false, false, false⟩,
        ⟨la + (0x1000 - la % 0x1000), n - (0x1000 - la % 0x1000), false, false, false⟩]

theorem linearSpans_plain {s : State} (h : s.plain = true) (la : Word) (n : Nat) (w u : Bool) (hn : 0 < n)
    (l : la.toNat + n ≤ 0xFEE00000) : linearSpans la n w u s = .ok (spansAt la.toNat n) s := by
  simp only [linearSpans, spansAt]
  split
  · simp [pageSpan, translate_plain h, spanOf_plain h n (a := la.toNat) (by omega)]
  · next hn =>
    have hk : 4096 - la.toNat % 4096 < 2 ^ 32 := by omega
    have ha : (la + BitVec.ofNat 32 (4096 - la.toNat % 4096)).toNat = la.toNat + (4096 - la.toNat % 4096) := by
      rw [BitVec.toNat_add, BitVec.toNat_ofNat]; omega
    simp [pageSpan, translate_plain h, ha, spanOf_plain h _ (a := la.toNat) (by omega),
      spanOf_plain h _ (a := la.toNat + (4096 - la.toNat % 4096)) (by omega)]

theorem loadByte_plain {s : State} (h : s.plain = true) (a : Nat) : loadByte a s = .ok (memRead s.mem a) s := by
  simp [loadByte, busAddr_plain h, placeOf_plain h]

theorem loadBytes_plain {s : State} (h : s.plain = true) (a n : Nat) :
    loadBytes a n s = .ok (memBytes s.mem a n) s := by
  induction n generalizing a with
  | zero => rfl
  | succ n ih => simp [loadBytes, loadByte_plain h, ih, memBytes]

theorem storeByte_plain {s : State} (h : s.plain = true) (a : Nat) (b : Byte) (wb : Bool) :
    ∃ st fr, s.storeByte a b wb = { s with mem := memWrite s.mem a b, stale := st, free := fr } := by
  simp [State.storeByte, busAddr_plain h, placeOf_plain h]

theorem storeBytes_plain {s : State} (h : s.plain = true) (a : Nat) (bs : List Byte) (wb : Bool) :
    ∃ st fr, storeBytes a bs wb s = .ok () { s with mem := memWriteList s.mem a bs, stale := st, free := fr } := by
  induction bs generalizing a s with
  | nil => exact ⟨s.stale, s.free, rfl⟩
  | cons b bs ih =>
    obtain ⟨st, fr, hb⟩ := storeByte_plain h a b wb
    obtain ⟨st', fr', hr⟩ := ih (s := s.storeByte a b wb) (by rw [hb]; exact h) (a + 1)
    refine ⟨st', fr', ?_⟩
    simp only [storeBytes, run_bind, storeByte, run_modify, hr, memWriteList]
    rw [hb]

theorem anyApic_spansAt (la n : Nat) : anyApic (spansAt la n) = false := by
  unfold spansAt; split <;> rfl

theorem loadSpans_plain {s : State} (h : s.plain = true) (la n : Nat) :
    loadSpans (spansAt la n) s = .ok (memBytes s.mem la n) s := by
  unfold spansAt
  split
  · simp [loadSpans, loadBytes_plain h]
  · next hn =>
    simp only [loadSpans, run_bind, loadBytes_plain h, run_pure, List.append_nil]
    rw [← memBytes_add]
    congr 2
    omega

theorem readSpans_plain {s : State} (h : s.plain = true) (la n : Nat) :
    readSpans (spansAt la n) s = .ok (s.num la n) s := by
  unfold readSpans readVia
  rw [anyApic_spansAt, if_neg Bool.false_ne_true]
  simp [loadRuns, run_bind, run_get, accessGap_plain h, whole_plain h, loadSpans_plain h, State.num]

theorem writeSpans_plain {s : State} (h : s.plain = true) (la n v : Nat) :
    ∃ st fr, writeSpans (spansAt la n) n v s = .ok () (s.withBytes la n v st fr) := by
  unfold writeSpans writeVia
  rw [anyApic_spansAt, if_neg Bool.false_ne_true]
  simp only [storeRuns, run_bind, run_get, accessGap_plain h, whole_plain h, if_true]
  unfold spansAt State.withBytes
  split
  · obtain ⟨st, fr, hb⟩ := storeBytes_plain h la (leBytes n v) false
    exact ⟨st, fr, by simp [storeSpans, hb, List.take_of_length_le]⟩
  · next hn =>
    simp only [storeSpans, run_bind, run_pure]
    generalize hk : 4096 - la % 4096 = k at *
    have e : leBytes n v = (leBytes n v).take k ++ (leBytes n v).drop k := (List.take_append_drop _ _).symm
    obtain ⟨st, fr, hb⟩ := storeBytes_plain h la ((leBytes n v).take k) false
    obtain ⟨st', fr', hc⟩ := storeBytes_plain
      (s := { s with mem := memWriteList s.mem la ((leBytes n v).take k), stale := st, free := fr }) h (la + k)
      (((leBytes n v).drop k).take (n - k)) false
    refine ⟨st', fr', ?_⟩
    rw [hb]
    dsimp only
    rw [hc]
    dsimp only
    have hd : ((leBytes n v).drop k).take (n - k) = (leBytes n v).drop k := by
      apply List.take_of_length_le; simp
    have hl : ((leBytes n v).take k).length = k := by simp; omega
    rw [hd]
    conv_rhs => rw [e, memWriteList_append, hl]

theorem noteHits_run (f : Dbg → BitVec 4) (s : State) : ∃ h, noteHits f s = .ok () (s.withHit h) := by
  exact ⟨_, rfl⟩

/-- The kind of an access. -/
def kindOf (write : Bool) : Access := if write then .write else .read

/-- An operand that alignment checking does not refuse is found where linear addresses are physical. -/
theorem alignedSpans_plain {s : State} (h : s.plain = true) {aligned : Bool} {la : Word} {n align : Nat} {w u : Bool}
    (ha : (aligned && decide (la.toNat % align ≠ 0)) = false) (hn : 0 < n) (l : la.toNat + n ≤ 0xFEE00000) :
    alignedSpans aligned la n align w u s = .ok (spansAt la.toNat n) s := by
  simp only [alignedSpans, ha, Bool.false_eq_true, if_false]
  exact linearSpans_plain h _ _ _ _ hn l

/-- The checks of an access that pass give its linear address and the bytes from there up, and change nothing. -/
theorem checkedAccess_reaches {s : State} {r : SegReg} {off : Word} {n align : Nat} {write : Bool}
    (h : s.reaches r off n align (kindOf write) = true) (hn : 0 < n) :
    checkedAccess r off n align write s = .ok ((s.seg.get r).base + off, spansAt (s.lin r off) n) s := by
  simp only [State.reaches, Bool.and_eq_true, Bool.or_eq_true, Bool.not_eq_true', decide_eq_true_eq] at h
  obtain ⟨⟨⟨⟨hp, ht⟩, hl⟩, ha⟩, hb⟩ := h
  have hseg : segLinear r (s.seg.get r) off n (if write then .write else .read) s
      = .ok ((s.seg.get r).base + off) s := by
    simp only [kindOf] at ht
    simp [segLinear, ht, hl]
  have hal : (s.alignOn && decide (((s.seg.get r).base + off).toNat % align ≠ 0)) = false := by
    simp only [State.lin] at ha
    rcases ha with ha | ha
    · simp [ha]
    · simp only [ha]; simp
  simp only [checkedAccess, run_bind, run_get, hseg, run_pure,
    alignedSpans_plain hp hal hn (by simpa [State.lin] using hb)]
  rfl

/-- An access whose checks pass names the bytes from its linear address up, and changes nothing but the hits. -/
theorem access_reaches {s : State} {r : SegReg} {off : Word} {n align : Nat} {write : Bool}
    (h : s.reaches r off n align (kindOf write) = true) (hn : 0 < n) :
    s.plain = true ∧ ∃ k, access r off n align write s = .ok (spansAt (s.lin r off) n) (s.withHit k) := by
  have hp : s.plain = true := by simp only [State.reaches, Bool.and_eq_true] at h; exact h.1.1.1.1
  obtain ⟨k, hk⟩ := noteHits_run (fun d => d.dataHits ((s.seg.get r).base + off).toNat n write) s
  exact ⟨hp, k, by simp only [access, run_bind, checkedAccess_reaches h hn, hk, run_pure]⟩

theorem segRead_reaches {s : State} {r : SegReg} {off : Word} {n align : Nat}
    (h : s.reaches r off n align .read = true) (hn : 0 < n) :
    ∃ k, segRead r off n align s = .ok (s.num (s.lin r off) n) (s.withHit k) := by
  obtain ⟨hp, k, hk⟩ := access_reaches (write := false) h hn
  exact ⟨k, by simp only [segRead, run_bind, hk]; exact readSpans_plain (s := s.withHit k) hp _ _⟩

theorem segWrite_reaches {s : State} {r : SegReg} {off : Word} {n align : Nat} (v : Nat)
    (h : s.reaches r off n align .write = true) (hn : 0 < n) :
    ∃ k st fr, segWrite r off n align v s = .ok () ((s.withHit k).withBytes (s.lin r off) n v st fr) := by
  obtain ⟨hp, k, hk⟩ := access_reaches (write := true) h hn
  obtain ⟨st, fr, hw⟩ := writeSpans_plain (s := s.withHit k) hp (s.lin r off) n v
  exact ⟨k, st, fr, by simp only [segWrite, run_bind, hk]; exact hw⟩

end Sys2Proof.Machine
end

