-- ==== Sys2Proof/Laws/Ops.lean ====
section
/-! SUPPORT. What a located operand, a push, a pop and the frame of an instruction do. -/
namespace Sys2Proof.Machine
open Host

theorem run_putFlags (f : Word) (s : State) : putFlags f s = .ok () { s with eflags := f } := rfl
theorem run_putFlagsMasked (m f : Word) (s : State) :
    putFlagsMasked m f s = .ok () { s with eflags := blend m s.eflags f } := rfl
theorem run_putArith (a : Arith) (s : State) :
    putArith a s = .ok () { s with eflags := blend arithMask s.eflags a.word } := rfl
theorem run_putArithKeepCf (a : Arith) (s : State) :
    putArithKeepCf a s = .ok () { s with eflags := blend 0x8D4#32 s.eflags a.word } := rfl
theorem run_putCfOf (a : Arith) (s : State) :
    putCfOf a s = .ok () { s with eflags := blend 0x801#32 s.eflags a.word } := rfl
theorem run_putR8 (r : Reg8) (v : Byte) (s : State) : putR8 r v s = .ok () (s.setR8 r v) := rfl
theorem run_putR16 (r : Reg) (v : Half) (s : State) : putR16 r v s = .ok () (s.setR16 r v) := rfl
theorem run_putR32 (r : Reg) (v : Word) (s : State) : putR32 r v s = .ok () (s.setR32 r v) := rfl

/-- The state at which an instruction's body starts. -/
def State.start (s : State) : State := { s with eip := s.nextEip }

/-- An instruction whose body ends normally completes; the last-branch registers stay if DebugCtl says so. -/
theorem instr_next {lockOk : Bool} {body : M Unit} {s u : State} (hl : s.lockOk lockOk = true)
    (hb : body s.start = .ok () u) (hbr : u.tr.branched = true → u.noLbr = true) :
    instr lockOk body s = .next (u.completed s) := by
  have hl' : (s.ins.lock && !lockOk) = false := by
    simp only [State.lockOk] at hl
    cases h1 : s.ins.lock <;> cases lockOk <;> simp_all
  unfold instr
  rw [hl', if_neg Bool.false_ne_true]
  unfold State.start at hb
  simp only [run_bind, hb, finish, run_get, run_whenM]
  cases hc : u.tr.branched
  · simp
  · have := hbr hc
    simp only [State.noLbr, Bool.and_eq_true, Bool.not_eq_true'] at this
    simp [recordBranch, this.1, this.2]

theorem completed_gpr (u s : State) : (u.completed s).gpr = u.gpr := rfl
theorem completed_mem (u s : State) : (u.completed s).mem = u.mem := rfl
theorem completed_eip (u s : State) : (u.completed s).eip = u.eip := rfl

theorem completed_eflags {u s : State} (h1 : u.tr.keepRf = false) (h2 : u.tr.repeats = false) :
    (u.completed s).eflags = setBit u.eflags fRF false := by simp [State.completed, h1, h2]

/-- An instruction that has touched nothing but registers, flags and memory has touched nothing else when it is
complete. -/
theorem completed_apart {u s : State} (hcpl : u.cpl = s.cpl) (hmsr : u.msr = s.msr) (hapic : u.apic = s.apic)
    (hmap : u.map = s.map) (hev : u.events = s.events) (hbus : u.bus = s.bus) (hsmm : u.smm = s.smm)
    (hlat : u.lat = s.lat) (hca : u.cached = s.cached) (hot : u.others = s.others)
    (hnr : u.noReturn = s.noReturn) : Apart s (u.completed s) := by
  simp [Apart, State.completed, hcpl, hmsr, hapic, hmap, hev, hbus, hsmm, hlat, hca, hot, hnr, Latches.same]

theorem completed_dbg {u s : State} (h : u.dbg = s.dbg) : Dbg.same s.dbg (u.completed s).dbg := by
  simp [Dbg.same, State.completed, h]

/-- What a body has left alone; it may have locked the bus. -/
structure Calm (s u : State) : Prop where
  cpl : u.cpl = s.cpl
  seg : u.seg = s.seg
  sys : u.sys = s.sys
  dbg : u.dbg = s.dbg
  fpu : u.fpu = s.fpu
  msr : u.msr = s.msr
  apic : u.apic = s.apic
  smm : u.smm = s.smm
  lat : u.lat = s.lat
  ins : u.ins = { s.ins with lock := u.ins.lock }
  tlb : u.tlb = s.tlb
  map : u.map = s.map
  events : u.events = s.events
  bus : u.bus = s.bus
  cached : u.cached = s.cached
  others : u.others = s.others
  noReturn : u.noReturn = s.noReturn
  branched : u.tr.branched = s.tr.branched
  keepRf : u.tr.keepRf = s.tr.keepRf
  repeats : u.tr.repeats = s.tr.repeats

theorem Calm.insSeg {s u : State} (h : Calm s u) : u.ins.seg = s.ins.seg := by rw [h.ins]
theorem Calm.op66 {s u : State} (h : Calm s u) : u.ins.op66 = s.ins.op66 := by rw [h.ins]
theorem Calm.ad67 {s u : State} (h : Calm s u) : u.ins.ad67 = s.ins.ad67 := by rw [h.ins]
theorem Calm.rep {s u : State} (h : Calm s u) : u.ins.rep = s.ins.rep := by rw [h.ins]
theorem Calm.len {s u : State} (h : Calm s u) : u.ins.len = s.ins.len := by rw [h.ins]

theorem Calm.refl (s : State) : Calm s s := by constructor <;> rfl

theorem Calm.trans {s t u : State} (h : Calm s t) (k : Calm t u) : Calm s u :=
  ⟨k.cpl.trans h.cpl, k.seg.trans h.seg, k.sys.trans h.sys, k.dbg.trans h.dbg, k.fpu.trans h.fpu,
   k.msr.trans h.msr, k.apic.trans h.apic, k.smm.trans h.smm, k.lat.trans h.lat,
   by rw [k.ins, h.ins], k.tlb.trans h.tlb, k.map.trans h.map, k.events.trans h.events, k.bus.trans h.bus,
   k.cached.trans h.cached, k.others.trans h.others, k.noReturn.trans h.noReturn,
   k.branched.trans h.branched, k.keepRf.trans h.keepRf, k.repeats.trans h.repeats⟩

theorem Calm.quiet {s u : State} (h : Calm s u) : Quiet s (u.completed s) :=
  ⟨⟨completed_apart h.cpl h.msr h.apic h.map h.events h.bus h.smm h.lat h.cached h.others h.noReturn, h.sys, h.fpu, h.tlb,
   completed_dbg h.dbg⟩, h.seg⟩

/-- A body that leaves EIP and the rest alone makes an instruction that completes and falls through. -/
theorem instr_falls {lockOk : Bool} {body : M Unit} {s u : State} (hs : s.ready) (hl : s.lockOk lockOk = true)
    (hb : body s.start = .ok () u) (hc : Calm s u) (he : u.eip = s.nextEip) :
    ∃ t, instr lockOk body s = .next t ∧ t.gpr = u.gpr ∧ t.mem = u.mem ∧ t.eflags = setBit u.eflags fRF false ∧
      Falls s t := by
  have hb0 : u.tr.branched = false := by rw [hc.branched, hs.2]; rfl
  refine ⟨u.completed s, instr_next hl hb (by simp [hb0]), rfl, rfl, ?_, he, hc.quiet⟩
  exact completed_eflags (by rw [hc.keepRf, hs.2]; rfl) (by rw [hc.repeats, hs.2]; rfl)

theorem calm_start (s : State) : Calm s s.start := by constructor <;> rfl
theorem calm_withHit (s : State) (k : BitVec 4) : Calm s (s.withHit k) := by constructor <;> rfl
theorem calm_withBytes (s : State) (a n v : Nat) (st : List StaleByte) (fr : Nat) :
    Calm s (s.withBytes a n v st fr) := by constructor <;> rfl
theorem calm_gpr (s : State) (g : Gprs) : Calm s { s with gpr := g } := by constructor <;> rfl
theorem calm_eflags (s : State) (f : Word) : Calm s { s with eflags := f } := by constructor <;> rfl
theorem calm_free (s : State) (n : Nat) : Calm s { s with free := n } := by constructor <;> rfl

theorem setR8_eq (s : State) (r : Reg8) (v : Byte) : s.setR8 r v = { s with gpr := (s.setR8 r v).gpr } := by
  cases r <;> rfl
theorem setR16_eq (s : State) (r : Reg) (v : Half) : s.setR16 r v = { s with gpr := (s.setR16 r v).gpr } := rfl
theorem setR32_eq (s : State) (r : Reg) (v : Word) : s.setR32 r v = { s with gpr := (s.setR32 r v).gpr } := rfl
theorem setRw_eq (s : State) (w : Nat) (r : Reg) (v : BitVec w) :
    s.setRw w r v = { s with gpr := (s.setRw w r v).gpr } := by unfold State.setRw; split <;> rfl
theorem setSp_eq (s : State) (x : Word) : s.setSp x = { s with gpr := (s.setSp x).gpr } := by
  unfold State.setSp; split <;> rfl

/-- A located operand and the value it holds. -/
def Holds (s : State) (l : Loc) (w : Nat) (v : BitVec w) : Prop := readLoc w l s = .ok v s

/-- An operand that can be accessed is located without effect, is then readable and writable, in every state that
differs in registers, flags, hits and draws only. -/
theorem locMem_can {s : State} {m : Ea} {n : Nat} {write : Bool}
    (h : s.reaches (eaSeg s m) (eaOffset s m) n n (kindOf write) = true) (hn : 0 < n) :
    s.plain = true ∧ ∃ k, locMem m n write s = .ok (.mem (spansAt (s.ea m) n)) (s.withHit k) := by
  obtain ⟨hp, k, hk⟩ := access_reaches h hn
  exact ⟨hp, k, by simp only [locMem, run_bind, run_get, hk, run_pure]; rfl⟩

/-- What RF may be in the image of a debug trap or a software interrupt; only the count of draws changes. -/
theorem trapRf_cases (between : Bool) (s : State) : ∃ r n, trapRf between s = .ok r { s with free := n } ∧
    (r = none ∨ r = some false ∨ between = true ∧ r = some true) := by
  unfold trapRf
  simp only [run_bind, run_get]
  split
  · refine ⟨_, s.free + 1, rfl, ?_⟩
    split
    · exact .inr (.inl rfl)
    · split
      · next h => exact .inr (.inr ⟨by simp_all, rfl⟩)
      · exact .inl rfl
  · exact ⟨none, s.free, rfl, .inl rfl⟩

end Sys2Proof.Machine
end

