-- ==== Sys2Proof/Laws/Operands.lean ====
section
/-! SUPPORT. What reading and writing an E operand does. -/
namespace Sys2Proof.Machine
open Host

/-- The registers after a byte operand is written. -/
def gprAfter8 (s : State) : Rm8 → Byte → Gprs
  | .reg r, v => (s.setR8 r v).gpr
  | .mem _, _ => s.gpr

/-- Memory after a byte operand is written. -/
def memAfter8 (s : State) : Rm8 → Byte → List Cell
  | .reg _, _ => s.mem
  | .mem m, v => memWriteList s.mem (s.ea m) (leBytes 1 v.toNat)

/-- The registers after an operand of `w` bits is written. -/
def gprAfter (s : State) (w : Nat) : Rm → BitVec w → Gprs
  | .reg r, v => (s.setRw w r v).gpr
  | .mem _, _ => s.gpr

/-- Memory after an operand of `w` bits is written. -/
def memAfter (s : State) (w : Nat) : Rm → BitVec w → List Cell
  | .reg _, _ => s.mem
  | .mem m, v => memWriteList s.mem (s.ea m) (leBytes (w / 8) v.toNat)

theorem wrote8_of {s t : State} {rm : Rm8} {v : Byte} (hs : Memory.wf s.mem = true)
    (hg : t.gpr = gprAfter8 s rm v) (hm : t.mem = memAfter8 s rm v) : Wrote8 s t rm v := by
  cases rm with
  | reg r => exact ⟨hg, fun k => by rw [hm]; rfl⟩
  | mem m => exact ⟨hg, stored_memWriteList hs hm⟩

theorem wrote_of {s t : State} {w : Nat} {rm : Rm} {v : BitVec w} (hs : Memory.wf s.mem = true)
    (hg : t.gpr = gprAfter s w rm v) (hm : t.mem = memAfter s w rm v) : Wrote s t w rm v := by
  cases rm with
  | reg r => exact ⟨hg, fun k => by rw [hm]; rfl⟩
  | mem m => exact ⟨hg, stored_memWriteList hs hm⟩

theorem memSame_of {s t : State} (hm : t.mem = s.mem) : MemSame s t := fun k => by rw [hm]

/-- The located operand reads as `v` now and later, as long as registers and memory stand, and a write to it ends
normally with exactly the given registers and memory. -/
structure Located (s : State) (w : Nat) (l : Loc) (v : BitVec w) (g : BitVec w → Gprs) (m : BitVec w → List Cell) :
    Prop where
  read : ∀ t : State, Calm s t → t.gpr = s.gpr → t.mem = s.mem → readLoc w l t = .ok v t
  write : ∀ (t : State) (x : BitVec w), Calm s t → t.gpr = s.gpr → t.mem = s.mem →
    ∃ st fr, writeLoc w l x t = .ok () { t with gpr := g x, mem := m x, stale := st, free := fr }

theorem Calm.plain {s t : State} (h : Calm s t) : t.plain = s.plain := by
  simp [State.plain, State.paging, h.sys, h.msr, h.lat, h.map, h.others]

theorem num_congr {s t : State} (h : t.mem = s.mem) (a n : Nat) : t.num a n = s.num a n := by
  simp [State.num, h]

theorem writeLoc_mem {t : State} (h : t.plain = true) (a n w : Nat) (v : BitVec w) (hw : w / 8 = n) :
    ∃ st fr, writeLoc w (.mem (spansAt a n)) v t = .ok () (t.withBytes a n v.toNat st fr) := by
  subst hw; exact writeSpans_plain h a _ _

theorem r8_congr {s t : State} (h : t.gpr = s.gpr) (r : Reg8) : t.r8 r = s.r8 r := by cases r <;> simp [State.r8, h]
theorem r32_congr {s t : State} (h : t.gpr = s.gpr) (r : Reg) : t.r32 r = s.r32 r := by simp [State.r32, h]
theorem setR8_congr {s t : State} (h : t.gpr = s.gpr) (r : Reg8) (v : Byte) :
    (t.setR8 r v) = { t with gpr := (s.setR8 r v).gpr } := by
  cases r <;> simp [State.setR8, State.setR32, reg8Parent, h]
theorem setRw_congr {s t : State} (h : t.gpr = s.gpr) (w : Nat) (r : Reg) (v : BitVec w) :
    (t.setRw w r v) = { t with gpr := (s.setRw w r v).gpr } := by
  unfold State.setRw; split <;> simp [State.setR16, State.setR32, h]

/-- Locating a byte operand. -/
theorem locRm8_can {s : State} {rm : Rm8} {write : Bool} (h : s.can rm 1 (kindOf write) = true) :
    ∃ l k, locRm8 rm write s = .ok l (s.withHit k) ∧
      Located s 8 l (s.val8 rm) (gprAfter8 s rm) (memAfter8 s rm) := by
  cases rm with
  | reg r =>
    refine ⟨.reg8 r, s.tr.hit, rfl, ?_, ?_⟩
    · intro t _ hg _
      simp [readLoc, r8_congr hg, State.val8]
    · intro t x _ hg hm
      exact ⟨t.stale, t.free, by
        simp only [writeLoc, run_putR8, gprAfter8, memAfter8, setR8_congr hg, ← hm, BitVec.setWidth_eq]⟩
  | mem m =>
    obtain ⟨hp, k, hk⟩ := locMem_can (m := m) (n := 1) h (by omega)
    refine ⟨_, k, hk, ?_, ?_⟩
    · intro t hc _ hm
      have hp' : t.plain = true := by rw [hc.plain, hp]
      simp [readLoc, readSpans_plain hp', State.val8, num_congr hm]
    · intro t x hc hg hm
      have hp' : t.plain = true := by rw [hc.plain, hp]
      obtain ⟨st, fr, hw⟩ := writeLoc_mem hp' (s.ea m) _ _ x rfl
      refine ⟨st, fr, hw.trans ?_⟩
      simp [State.withBytes, gprAfter8, memAfter8, hm, ← hg]

/-- Locating an operand of 2 or 4 bytes. -/
theorem locRm_can {s : State} {rm : Rm} {w : Nat} {write : Bool} (hw : 0 < w / 8)
    (h : s.can rm (w / 8) (kindOf write) = true) :
    ∃ l k, locRm rm (w / 8) write s = .ok l (s.withHit k) ∧
      Located s w l (s.val w rm) (gprAfter s w rm) (memAfter s w rm) := by
  cases rm with
  | reg r =>
    refine ⟨.reg r, s.tr.hit, rfl, ?_, ?_⟩
    · intro t _ hg _
      simp [readLoc, r32_congr hg, State.val]
    · intro t x _ hg hm
      exact ⟨t.stale, t.free, by simp only [writeLoc, run_modify, gprAfter, memAfter, setRw_congr hg, ← hm]⟩
  | mem m =>
    obtain ⟨hp, k, hk⟩ := locMem_can (m := m) (n := w / 8) h hw
    refine ⟨_, k, hk, ?_, ?_⟩
    · intro t hc _ hm
      have hp' : t.plain = true := by rw [hc.plain, hp]
      simp [readLoc, readSpans_plain hp', State.val, num_congr hm]
    · intro t x hc hg hm
      have hp' : t.plain = true := by rw [hc.plain, hp]
      obtain ⟨st, fr, hw⟩ := writeLoc_mem hp' (s.ea m) _ _ x rfl
      refine ⟨st, fr, hw.trans ?_⟩
      simp [State.withBytes, gprAfter, memAfter, hm, ← hg]

/-- The accumulator, a byte register or a general register as a located operand. -/
theorem located_reg8 (s : State) (r : Reg8) :
    Located s 8 (.reg8 r) (s.r8 r) (gprAfter8 s (.reg r)) (memAfter8 s (.reg r)) := by
  obtain ⟨l, k, hk, h⟩ := locRm8_can (s := s) (rm := .reg r) (write := true) rfl
  have : l = .reg8 r := by
    have := hk; simp only [locRm8, run_pure, EStateM.Result.ok.injEq] at this; exact this.1.symm
  exact this ▸ h

theorem located_reg (s : State) (w : Nat) (r : Reg) :
    Located s w (.reg r) ((s.r32 r).setWidth w) (gprAfter s w (.reg r)) (memAfter s w (.reg r)) := by
  refine ⟨?_, ?_⟩
  · intro t _ hg _
    simp [readLoc, r32_congr hg]
  · intro t x _ hg hm
    exact ⟨t.stale, t.free, by simp only [writeLoc, run_modify, gprAfter, memAfter, setRw_congr hg, ← hm]⟩

/-- Reading a byte operand. -/
theorem readRm8_can {s : State} {rm : Rm8} (h : s.can rm 1 .read = true) :
    ∃ k, readRm8 rm s = .ok (s.val8 rm) (s.withHit k) := by
  obtain ⟨l, k, hk, hl⟩ := locRm8_can (write := false) h
  exact ⟨k, by simp only [readRm8, run_bind, hk]; exact hl.read _ (calm_withHit s k) rfl rfl⟩

theorem readRm_can {s : State} {w : Nat} {rm : Rm} (hw : 0 < w / 8) (h : s.can rm (w / 8) .read = true) :
    ∃ k, readRm w rm s = .ok (s.val w rm) (s.withHit k) := by
  obtain ⟨l, k, hk, hl⟩ := locRm_can (write := false) hw h
  exact ⟨k, by simp only [readRm, run_bind, hk]; exact hl.read _ (calm_withHit s k) rfl rfl⟩

/-- Writing a byte operand. -/
theorem writeRm8_can {s : State} {rm : Rm8} (v : Byte) (h : s.can rm 1 .write = true) :
    ∃ k st fr, writeRm8 rm v s = .ok ()
      { s.withHit k with gpr := gprAfter8 s rm v, mem := memAfter8 s rm v, stale := st, free := fr } := by
  obtain ⟨l, k, hk, hl⟩ := locRm8_can (write := true) h
  obtain ⟨st, fr, hw⟩ := hl.write _ v (calm_withHit s k) rfl rfl
  exact ⟨k, st, fr, by simp only [writeRm8, run_bind, hk]; exact hw⟩

theorem writeRm_can {s : State} {w : Nat} {rm : Rm} (v : BitVec w) (hw : 0 < w / 8)
    (h : s.can rm (w / 8) .write = true) :
    ∃ k st fr, writeRm w rm v s = .ok ()
      { s.withHit k with gpr := gprAfter s w rm v, mem := memAfter s w rm v, stale := st, free := fr } := by
  obtain ⟨l, k, hk, hl⟩ := locRm_can (write := true) hw h
  obtain ⟨st, fr, hw⟩ := hl.write _ v (calm_withHit s k) rfl rfl
  exact ⟨k, st, fr, by simp only [writeRm, run_bind, hk]; exact hw⟩

theorem can_start {ρ : Type} (s : State) (rm : RegMem ρ) (n : Nat) (k : Access) : s.start.can rm n k = s.can rm n k :=
  rfl
theorem can_withHit {ρ : Type} (s : State) (h : BitVec 4) (rm : RegMem ρ) (n : Nat) (k : Access) :
    (s.withHit h).can rm n k = s.can rm n k := rfl

end Sys2Proof.Machine
end

