-- ==== Sys2Proof/Laws/Run.lean ====
section
/-! SUPPORT. A calculus for the bodies of instructions: a computation that ends normally, and what it leaves. -/
namespace Sys2Proof.Machine
open Host

/-- The computation ends normally, with a value and a state of which `q` holds. -/
def Runs {α : Type} (x : M α) (s : State) (q : α → State → Prop) : Prop := ∃ a u, x s = .ok a u ∧ q a u

theorem runs_bind {α β : Type} {x : M α} {f : α → M β} {s : State} {q : α → State → Prop} {r : β → State → Prop}
    (hx : Runs x s q) (hf : ∀ a u, q a u → Runs (f a) u r) : Runs (x >>= f) s r := by
  obtain ⟨a, u, h, hq⟩ := hx
  obtain ⟨b, v, hv, hr⟩ := hf a u hq
  exact ⟨b, v, by simp only [run_bind, h, hv], hr⟩

theorem runs_pure {α : Type} {a : α} {s : State} {q : α → State → Prop} (h : q a s) : Runs (pure a : M α) s q :=
  ⟨a, s, rfl, h⟩

theorem runs_get {s : State} {q : State → State → Prop} (h : q s s) : Runs (get : M State) s q := ⟨s, s, rfl, h⟩

theorem runs_modify {f : State → State} {s : State} {q : Unit → State → Prop} (h : q () (f s)) :
    Runs (modify f : M Unit) s q := ⟨(), f s, rfl, h⟩

theorem runs_mono {α : Type} {x : M α} {s : State} {q r : α → State → Prop} (h : Runs x s q)
    (hqr : ∀ a u, q a u → r a u) : Runs x s r := by
  obtain ⟨a, u, hx, hq⟩ := h
  exact ⟨a, u, hx, hqr a u hq⟩

theorem runs_get_bind {β : Type} {f : State → M β} {s : State} {r : β → State → Prop} (h : Runs (f s) s r) :
    Runs (get >>= f) s r := runs_bind (q := fun a u => a = s ∧ u = s) ⟨s, s, rfl, rfl, rfl⟩
      (fun _ _ h' => by obtain ⟨rfl, rfl⟩ := h'; exact h)

/-- The state is `s` but for the given EIP, registers, memory and flags, and for hits and draws. -/
structure At (s : State) (e : Word) (g : Gprs) (m : List Cell) (f : Word) (u : State) : Prop where
  calm : Calm s u
  eip : u.eip = e
  gpr : u.gpr = g
  mem : u.mem = m
  eflags : u.eflags = f

/-- The state at which a body starts. -/
theorem at_start (s : State) : At s s.nextEip s.gpr s.mem s.eflags s.start := ⟨calm_start s, rfl, rfl, rfl, rfl⟩

theorem at_self (s : State) : At s s.eip s.gpr s.mem s.eflags s := ⟨Calm.refl s, rfl, rfl, rfl, rfl⟩

theorem At.withHit {s u : State} {e : Word} {g : Gprs} {m : List Cell} {f : Word} (h : At s e g m f u) (k : BitVec 4) :
    At s e g m f (u.withHit k) := ⟨h.calm.trans (calm_withHit u k), h.eip, h.gpr, h.mem, h.eflags⟩

theorem At.drawn {s u : State} {e : Word} {g : Gprs} {m : List Cell} {f : Word} (h : At s e g m f u) (n : Nat) :
    At s e g m f { u with free := n } := ⟨h.calm.trans (calm_free u n), h.eip, h.gpr, h.mem, h.eflags⟩

theorem At.withGpr {s u : State} {e : Word} {g : Gprs} {m : List Cell} {f : Word} (h : At s e g m f u) (k : Gprs) :
    At s e k m f { u with gpr := k } := ⟨h.calm.trans (calm_gpr u k), h.eip, rfl, h.mem, h.eflags⟩

theorem At.withFlags {s u : State} {e : Word} {g : Gprs} {m : List Cell} {f : Word} (h : At s e g m f u) (k : Word) :
    At s e g m k { u with eflags := k } := ⟨h.calm.trans (calm_eflags u k), h.eip, h.gpr, h.mem, rfl⟩

theorem At.withMem {s u : State} {e : Word} {g : Gprs} {m : List Cell} {f : Word} (h : At s e g m f u) (k : List Cell) :
    At s e g k f { u with mem := k } := ⟨h.calm.trans (by constructor <;> rfl), h.eip, h.gpr, rfl, h.eflags⟩

/-- The same with the bus locked. -/
theorem At.locked {s u : State} {e : Word} {g : Gprs} {m : List Cell} {f : Word} (h : At s e g m f u) (b : Bool) :
    At s e g m f { u with ins := { u.ins with lock := b } } :=
  ⟨h.calm.trans (by constructor <;> rfl), h.eip, h.gpr, h.mem, h.eflags⟩

theorem At.wrote {s u : State} {e : Word} {g : Gprs} {m : List Cell} {f : Word} (h : At s e g m f u) (k : Gprs)
    (l : List Cell) (st : List StaleByte) (fr : Nat) :
    At s e k l f { u with gpr := k, mem := l, stale := st, free := fr } :=
  ⟨h.calm.trans (by constructor <;> rfl), h.eip, rfl, rfl, h.eflags⟩

theorem At.flag {s u : State} {e : Word} {g : Gprs} {m : List Cell} (h : At s e g m s.eflags u) (i : Nat) : u.flag i = s.flag i := by
  simp [State.flag, h.eflags]

theorem At.r8 {s u : State} {e : Word} {m : List Cell} {f : Word} (h : At s e s.gpr m f u) (r : Reg8) : u.r8 r = s.r8 r :=
  r8_congr h.gpr r

theorem At.r32 {s u : State} {e : Word} {m : List Cell} {f : Word} (h : At s e s.gpr m f u) (r : Reg) : u.r32 r = s.r32 r :=
  r32_congr h.gpr r

/-- A step that leaves everything as it is. -/
theorem runs_at {α : Type} {x : M α} {s u : State} {e : Word} {g : Gprs} {m : List Cell} {f : Word} {a : α} {v : State}
    (h : x u = .ok a v) (hv : At s e g m f v) : Runs x u fun b w => b = a ∧ At s e g m f w := ⟨a, v, h, rfl, hv⟩

theorem runs_getW {s u : State} {e : Word} {g : Gprs} {m : List Cell} {f : Word} (h : At s e g m f u) :
    Runs getW u fun w v => w = bits s.o32 ∧ At s e g m f v :=
  runs_at (a := bits s.o32) (by simp [getW, getO32, State.o32, h.calm.seg, h.calm.op66]) h

theorem runs_readG {s u : State} {e : Word} {m : List Cell} {f : Word} (h : At s e s.gpr m f u) (w : Nat) (r : Reg) :
    Runs (readG w r) u fun x v => x = (s.r32 r).setWidth w ∧ At s e s.gpr m f v :=
  runs_at (by simp [readG, readLoc, h.r32]) h

theorem runs_readG8 {s u : State} {e : Word} {m : List Cell} {f : Word} (h : At s e s.gpr m f u) (r : Reg8) :
    Runs (readG8 r) u fun x v => x = s.r8 r ∧ At s e s.gpr m f v := runs_at (by simp [readG8, h.r8]) h

theorem runs_readLoc {s u : State} {e : Word} {f : Word} {w : Nat} {l : Loc} {x : BitVec w} {g' m'}
    (hl : Located s w l x g' m') (h : At s e s.gpr s.mem f u) :
    Runs (readLoc w l) u fun y v => y = x ∧ At s e s.gpr s.mem f v := runs_at (hl.read u h.calm h.gpr h.mem) h

theorem runs_writeLoc {s u : State} {e : Word} {f : Word} {w : Nat} {l : Loc} {x : BitVec w} {g' m'} (y : BitVec w)
    (hl : Located s w l x g' m') (h : At s e s.gpr s.mem f u) :
    Runs (writeLoc w l y) u fun _ v => At s e (g' y) (m' y) f v := by
  obtain ⟨st, fr, hw⟩ := hl.write u y h.calm h.gpr h.mem
  exact ⟨(), _, hw, h.wrote _ _ _ _⟩

/-- What runs with the bus locked runs from the same registers, memory and flags. -/
theorem runs_locked {α : Type} {x : M α} {s u : State} {e : Word} {g g' : Gprs} {m m' : List Cell} {f f' : Word}
    {q : α → Prop} (h : At s e g m f u)
    (hx : ∀ v, At s e g m f v → Runs x v fun a w => q a ∧ At s e g' m' f' w) :
    Runs (Sys2Proof.Machine.locked x) u fun a v => q a ∧ At s e g' m' f' v := by
  refine runs_get_bind (runs_bind (q := fun _ v => At s e g m f v) (runs_modify (h.locked true)) fun _ v hv => ?_)
  refine runs_bind (hx v hv) fun a w hw => ?_
  exact runs_bind (q := fun _ y => At s e g' m' f' y) (runs_modify (hw.2.locked _)) fun _ y hy => runs_pure ⟨hw.1, hy⟩

theorem runs_drawBool {s u : State} {e : Word} {g : Gprs} {m : List Cell} {f : Word} (h : At s e g m f u) :
    Runs drawBool u fun _ v => At s e g m f v := ⟨_, _, run_drawBool u, h.drawn _⟩

theorem runs_draw {s u : State} {e : Word} {g : Gprs} {m : List Cell} {f : Word} (w : Nat) (h : At s e g m f u) :
    Runs (draw w) u fun _ v => At s e g m f v := ⟨_, _, run_draw w u, h.drawn _⟩

theorem runs_putFlagsMasked {s u : State} {e : Word} {g : Gprs} {m : List Cell} {f : Word} (k x : Word) (h : At s e g m f u) :
    Runs (putFlagsMasked k x) u fun _ v => At s e g m (blend k f x) v :=
  ⟨(), _, rfl, by rw [← h.eflags]; exact h.withFlags _⟩

theorem runs_putArith {s u : State} {e : Word} {g : Gprs} {m : List Cell} {f : Word} (a : Arith) (h : At s e g m f u) :
    Runs (putArith a) u fun _ v => At s e g m (blend arithMask f a.word) v := runs_putFlagsMasked _ _ h

/-- The conditions of an access are those of the state it starts from. -/
theorem At.can {s u : State} {e : Word} {m : List Cell} {f : Word} (h : At s e s.gpr m f u) (hf : f = s.eflags) {ρ : Type}
    (rm : RegMem ρ) (n : Nat) (k : Access) : u.can rm n k = s.can rm n k := by
  have e1 : u.alignOn = s.alignOn := by simp [State.alignOn, State.flag, h.calm.sys, h.eflags, hf, h.calm.cpl]
  cases rm with
  | reg r => rfl
  | mem a =>
    have e2 : eaSeg u a = eaSeg s a := by simp [eaSeg, State.segOr, h.calm.insSeg]
    have e3 : eaOffset u a = eaOffset s a := by
      cases a <;> simp [eaOffset, base16Value, State.r16, State.r32, indexValue, h.gpr]
    simp only [State.can, State.reaches, State.lin, State.prot, e1, e2, e3, h.calm.plain, h.calm.seg, h.calm.sys]
    congr

theorem At.ea {s u : State} {e : Word} {m : List Cell} {f : Word} (h : At s e s.gpr m f u) (a : Ea) : u.ea a = s.ea a := by
  have e2 : eaSeg u a = eaSeg s a := by simp [eaSeg, State.segOr, h.calm.insSeg]
  have e3 : eaOffset u a = eaOffset s a := by
    cases a <;> simp [eaOffset, base16Value, State.r16, State.r32, indexValue, h.gpr]
  simp [State.ea, State.lin, e2, e3, h.calm.seg]

theorem At.val8 {s u : State} {e : Word} {f : Word} (h : At s e s.gpr s.mem f u) (rm : Rm8) : u.val8 rm = s.val8 rm := by
  cases rm with
  | reg r => exact h.r8 r
  | mem a => simp [State.val8, h.ea, num_congr h.mem]

theorem At.val {s u : State} {e : Word} {f : Word} (h : At s e s.gpr s.mem f u) (w : Nat) (rm : Rm) : u.val w rm = s.val w rm := by
  cases rm with
  | reg r => simp [State.val, h.r32]
  | mem a => simp [State.val, h.ea, num_congr h.mem]

theorem At.gprAfter8 {s u : State} {e : Word} {f : Word} (h : At s e s.gpr s.mem f u) (rm : Rm8) (v : Byte) :
    gprAfter8 u rm v = gprAfter8 s rm v := by
  cases rm with
  | reg r => simp [Sys2Proof.Machine.gprAfter8, setR8_congr h.gpr]
  | mem a => exact h.gpr

theorem At.gprAfter {s u : State} {e : Word} {f : Word} (h : At s e s.gpr s.mem f u) (w : Nat) (rm : Rm) (v : BitVec w) :
    gprAfter u w rm v = gprAfter s w rm v := by
  cases rm with
  | reg r => simp [Sys2Proof.Machine.gprAfter, setRw_congr h.gpr]
  | mem a => exact h.gpr

theorem At.memAfter8 {s u : State} {e : Word} {f : Word} (h : At s e s.gpr s.mem f u) (rm : Rm8) (v : Byte) :
    memAfter8 u rm v = memAfter8 s rm v := by
  cases rm with
  | reg r => exact h.mem
  | mem a => simp [Sys2Proof.Machine.memAfter8, h.ea, h.mem]

theorem At.memAfter {s u : State} {e : Word} {f : Word} (h : At s e s.gpr s.mem f u) (w : Nat) (rm : Rm) (v : BitVec w) :
    memAfter u w rm v = memAfter s w rm v := by
  cases rm with
  | reg r => exact h.mem
  | mem a => simp [Sys2Proof.Machine.memAfter, h.ea, h.mem]

/-- A located operand of a state is one of any state with the same registers and memory. -/
theorem Located.of {s u : State} {e : Word} {w : Nat} {l : Loc} {x : BitVec w} {g g' m m'} (hl : Located u w l x g m)
    (h : At s e s.gpr s.mem s.eflags u) (hg : ∀ y, g y = g' y) (hm : ∀ y, m y = m' y)
    (hc : Calm u s) : Located s w l x g' m' :=
  ⟨fun t ht h1 h2 => hl.read t (hc.trans ht) (h1.trans h.gpr.symm) (h2.trans h.mem.symm),
   fun t y ht h1 h2 => by
     rw [← hg, ← hm]; exact hl.write t y (hc.trans ht) (h1.trans h.gpr.symm) (h2.trans h.mem.symm)⟩

theorem Calm.symm {s t : State} (h : Calm s t) : Calm t s :=
  ⟨h.cpl.symm, h.seg.symm, h.sys.symm, h.dbg.symm, h.fpu.symm, h.msr.symm, h.apic.symm, h.smm.symm, h.lat.symm,
   by rw [h.ins], h.tlb.symm, h.map.symm, h.events.symm, h.bus.symm, h.cached.symm, h.others.symm, h.noReturn.symm,
   h.branched.symm, h.keepRf.symm, h.repeats.symm⟩

theorem runs_locRm8 {s u : State} {e : Word} {rm : Rm8} {write : Bool} (h : At s e s.gpr s.mem s.eflags u)
    (hc : s.can rm 1 (kindOf write) = true) :
    Runs (locRm8 rm write) u fun l v => Located s 8 l (s.val8 rm) (gprAfter8 s rm) (memAfter8 s rm) ∧
      At s e s.gpr s.mem s.eflags v := by
  obtain ⟨l, k, hk, hl⟩ := locRm8_can (s := u) (by rw [h.can rfl]; exact hc)
  refine ⟨l, _, hk, ?_, h.withHit k⟩
  rw [h.val8] at hl
  exact hl.of h (h.gprAfter8 rm) (h.memAfter8 rm) h.calm.symm

theorem runs_locRm {s u : State} {e : Word} {rm : Rm} {w : Nat} {write : Bool} (h : At s e s.gpr s.mem s.eflags u)
    (hw : 0 < w / 8) (hc : s.can rm (w / 8) (kindOf write) = true) :
    Runs (locRm rm (w / 8) write) u fun l v => Located s w l (s.val w rm) (gprAfter s w rm) (memAfter s w rm) ∧
      At s e s.gpr s.mem s.eflags v := by
  obtain ⟨l, k, hk, hl⟩ := locRm_can (s := u) hw (by rw [h.can rfl]; exact hc)
  refine ⟨l, _, hk, ?_, h.withHit k⟩
  rw [h.val] at hl
  exact hl.of h (h.gprAfter w rm) (h.memAfter w rm) h.calm.symm

theorem runs_readRm8 {s u : State} {e : Word} {rm : Rm8} (h : At s e s.gpr s.mem s.eflags u) (hc : s.can rm 1 .read = true) :
    Runs (readRm8 rm) u fun x v => x = s.val8 rm ∧ At s e s.gpr s.mem s.eflags v := by
  obtain ⟨k, hk⟩ := readRm8_can (s := u) (rm := rm) (by rw [h.can rfl]; exact hc)
  exact ⟨_, _, hk, h.val8 rm, h.withHit k⟩

theorem runs_readRm {s u : State} {e : Word} {w : Nat} {rm : Rm} (h : At s e s.gpr s.mem s.eflags u) (hw : 0 < w / 8)
    (hc : s.can rm (w / 8) .read = true) :
    Runs (readRm w rm) u fun x v => x = s.val w rm ∧ At s e s.gpr s.mem s.eflags v := by
  obtain ⟨k, hk⟩ := readRm_can (s := u) (w := w) (rm := rm) hw (by rw [h.can rfl]; exact hc)
  exact ⟨_, _, hk, h.val w rm, h.withHit k⟩

theorem runs_writeRm8 {s u : State} {e : Word} {rm : Rm8} (y : Byte) (h : At s e s.gpr s.mem s.eflags u)
    (hc : s.can rm 1 .write = true) :
    Runs (writeRm8 rm y) u fun _ v => At s e (gprAfter8 s rm y) (memAfter8 s rm y) s.eflags v :=
  runs_bind (runs_locRm8 (write := true) h hc) fun _ _ h' => runs_writeLoc y h'.1 h'.2

theorem runs_writeRm {s u : State} {e : Word} {w : Nat} {rm : Rm} (y : BitVec w) (h : At s e s.gpr s.mem s.eflags u)
    (hw : 0 < w / 8) (hc : s.can rm (w / 8) .write = true) :
    Runs (writeRm w rm y) u fun _ v => At s e (gprAfter s w rm y) (memAfter s w rm y) s.eflags v :=
  runs_bind (runs_locRm (write := true) h hw hc) fun _ _ h' => runs_writeLoc y h'.1 h'.2

theorem runs_whenM {c : Bool} {x : M Unit} {s : State} {q : Unit → State → Prop} (h1 : c = true → Runs x s q)
    (h2 : c = false → q () s) : Runs (whenM c x) s q := by
  cases c
  · exact ⟨(), s, rfl, h2 rfl⟩
  · exact h1 rfl

theorem blend_zero (x y : Word) : blend 0#32 x y = x := by
  have h : x &&& ~~~0#32 = x := BitVec.and_allOnes
  have h2 : y &&& 0#32 = 0#32 := BitVec.and_zero
  have h3 : x ||| 0#32 = x := BitVec.or_zero
  simp only [blend, h, h2, h3]

theorem State.can_bytes {ρ : Type} {s : State} {rm : RegMem ρ} {k : Access}
    (h : s.can rm (bytes s.o32) k = true) : s.can rm (bits s.o32 / 8) k = true := by
  cases ho : s.o32 <;> simpa [ho, bytes, bits] using h

/-- The bytes of an operand size. -/
theorem bits_div (o : Bool) : bits o / 8 = bytes o := by cases o <;> rfl
theorem bits_div_pos (o : Bool) : 0 < bits o / 8 := by cases o <;> decide

/-- A body that only touches registers, memory and flags makes an instruction that completes and falls through. -/
theorem completes_at {lockOk : Bool} {body : M Unit} {s : State} {q : Gprs → List Cell → Word → Prop} (hs : s.ready)
    (hl : s.lockOk lockOk = true)
    (hb : Runs body s.start fun _ u => ∃ g m f, At s s.nextEip g m f u ∧ q g m f) :
    ∃ t f, instr lockOk body s = .next t ∧ q t.gpr t.mem f ∧ t.eflags = setBit f fRF false ∧ Falls s t := by
  obtain ⟨_, u, hx, g, m, f, h, hq⟩ := hb
  obtain ⟨t, ht, h1, h2, h3, h4⟩ := instr_falls hs hl hx h.calm h.eip
  exact ⟨t, f, ht, by rw [h1, h2, h.gpr, h.mem]; exact hq, by rw [h3, h.eflags], h4⟩

end Sys2Proof.Machine
end

