-- ==== Sys2Proof/Laws/Alu.lean ====
section
/-! SUPPORT. What the shared operations of arithmetic, logic and shifts leave. -/
namespace Sys2Proof.Machine
open Host

/-- A two-operand instruction on a located operand writes the result if it has one, and the six flags. -/
theorem runs_aluLoc {op : Alu} {w : Nat} {l : Loc} {a b : BitVec w} {s u : State} {e : Word} {g m}
    (h : Located s w l a g m) (hu : At s e s.gpr s.mem s.eflags u) :
    Runs (aluLoc op w l b) u fun _ v => ∃ af : Bool,
      let p := op.result a b (s.flag fCF) af
      At s e (if op.writes then g p.1 else s.gpr) (if op.writes then m p.1 else s.mem)
        (blend arithMask s.eflags p.2.word) v := by
  unfold aluLoc
  refine runs_bind (runs_readLoc h hu) fun y v hv => ?_
  obtain ⟨rfl, hv⟩ := hv
  refine runs_get_bind ?_
  suffices hk : ∀ (af : Bool) (w : State), At s e s.gpr s.mem s.eflags w →
      Runs (whenM op.writes (writeLoc _ l (op.result y b (v.flag fCF) af).1) >>= fun _ =>
        putArith (op.result y b (v.flag fCF) af).2) w _ by
    split
    · exact runs_bind (runs_drawBool hv) fun af w hw => hk af w hw
    · exact hk false v hv
  intro af x hx
  rw [hv.flag]
  refine runs_mono (runs_bind (q := fun _ x => At s e (if op.writes then g (op.result y b (s.flag fCF) af).1
    else s.gpr) (if op.writes then m (op.result y b (s.flag fCF) af).1 else s.mem) s.eflags x) ?_
    fun _ x hx => runs_putArith _ hx) fun _ x hx => ⟨af, hx⟩
  refine runs_whenM (fun hc => ?_) (fun hc => ?_)
  · rw [if_pos hc, if_pos hc]
    exact runs_writeLoc _ h hx
  · simpa [hc] using hx

/-- A one-operand instruction on a located operand. -/
theorem runs_alu1Loc {op : Alu1} {w : Nat} {l : Loc} {a : BitVec w} {s u : State} {e : Word} {g m}
    (h : Located s w l a g m) (hu : At s e s.gpr s.mem s.eflags u) :
    Runs (alu1Loc op w l) u fun _ v =>
      match op with
      | .inc => At s e (g (addFlags a 1 false).1) (m (addFlags a 1 false).1)
          (blend 0x8D4#32 s.eflags (addFlags a 1 false).2.word) v
      | .dec => At s e (g (subFlags a 1 false).1) (m (subFlags a 1 false).1)
          (blend 0x8D4#32 s.eflags (subFlags a 1 false).2.word) v
      | .neg => At s e (g (subFlags 0 a false).1) (m (subFlags 0 a false).1)
          (blend arithMask s.eflags (subFlags 0 a false).2.word) v
      | .not => At s e (g (~~~a)) (m (~~~a)) s.eflags v := by
  unfold alu1Loc
  refine runs_bind (runs_readLoc h hu) fun y v hv => ?_
  obtain ⟨rfl, hv⟩ := hv
  cases op with
  | inc => exact runs_bind (runs_writeLoc _ h hv) fun _ x hx => runs_putFlagsMasked _ _ hx
  | dec => exact runs_bind (runs_writeLoc _ h hv) fun _ x hx => runs_putFlagsMasked _ _ hx
  | neg => exact runs_bind (runs_writeLoc _ h hv) fun _ x hx => runs_putFlagsMasked _ _ hx
  | not => exact runs_writeLoc _ h hv

end Sys2Proof.Machine
end

