-- ==== Sys2Proof/Laws/State.lean ====
section
/-! SUPPORT. What each update of the state leaves in each of its fields. -/
namespace Sys2Proof.Machine
open Host

/-! `setR32` -/
@[simp] theorem State.setR32_gpr (s : State) (r : Reg) (v : Word) : (s.setR32 r v).gpr = s.gpr.set r v := rfl
@[simp] theorem State.setR32_eip (s : State) (r : Reg) (v : Word) : (s.setR32 r v).eip = s.eip := rfl
@[simp] theorem State.setR32_eflags (s : State) (r : Reg) (v : Word) : (s.setR32 r v).eflags = s.eflags := rfl
@[simp] theorem State.setR32_cpl (s : State) (r : Reg) (v : Word) : (s.setR32 r v).cpl = s.cpl := rfl
@[simp] theorem State.setR32_seg (s : State) (r : Reg) (v : Word) : (s.setR32 r v).seg = s.seg := rfl
@[simp] theorem State.setR32_sys (s : State) (r : Reg) (v : Word) : (s.setR32 r v).sys = s.sys := rfl
@[simp] theorem State.setR32_dbg (s : State) (r : Reg) (v : Word) : (s.setR32 r v).dbg = s.dbg := rfl
@[simp] theorem State.setR32_fpu (s : State) (r : Reg) (v : Word) : (s.setR32 r v).fpu = s.fpu := rfl
@[simp] theorem State.setR32_msr (s : State) (r : Reg) (v : Word) : (s.setR32 r v).msr = s.msr := rfl
@[simp] theorem State.setR32_apic (s : State) (r : Reg) (v : Word) : (s.setR32 r v).apic = s.apic := rfl
@[simp] theorem State.setR32_smm (s : State) (r : Reg) (v : Word) : (s.setR32 r v).smm = s.smm := rfl
@[simp] theorem State.setR32_lat (s : State) (r : Reg) (v : Word) : (s.setR32 r v).lat = s.lat := rfl
@[simp] theorem State.setR32_ins (s : State) (r : Reg) (v : Word) : (s.setR32 r v).ins = s.ins := rfl
@[simp] theorem State.setR32_tr (s : State) (r : Reg) (v : Word) : (s.setR32 r v).tr = s.tr := rfl
@[simp] theorem State.setR32_tlb (s : State) (r : Reg) (v : Word) : (s.setR32 r v).tlb = s.tlb := rfl
@[simp] theorem State.setR32_mem (s : State) (r : Reg) (v : Word) : (s.setR32 r v).mem = s.mem := rfl
@[simp] theorem State.setR32_stale (s : State) (r : Reg) (v : Word) : (s.setR32 r v).stale = s.stale := rfl
@[simp] theorem State.setR32_map (s : State) (r : Reg) (v : Word) : (s.setR32 r v).map = s.map := rfl
@[simp] theorem State.setR32_free (s : State) (r : Reg) (v : Word) : (s.setR32 r v).free = s.free := rfl
@[simp] theorem State.setR32_events (s : State) (r : Reg) (v : Word) : (s.setR32 r v).events = s.events := rfl
@[simp] theorem State.setR32_cached (s : State) (r : Reg) (v : Word) : (s.setR32 r v).cached = s.cached := rfl
@[simp] theorem State.setR32_others (s : State) (r : Reg) (v : Word) : (s.setR32 r v).others = s.others := rfl
@[simp] theorem State.setR32_noReturn (s : State) (r : Reg) (v : Word) : (s.setR32 r v).noReturn = s.noReturn := rfl
@[simp] theorem State.setR32_bus (s : State) (r : Reg) (v : Word) : (s.setR32 r v).bus = s.bus := rfl

/-! `setR16` -/
@[simp] theorem State.setR16_gpr (s : State) (r : Reg) (v : Half) : (s.setR16 r v).gpr = s.gpr.set r (blend 0x0000FFFF#32 (s.gpr.get r) (zx32 v)) := rfl
@[simp] theorem State.setR16_eip (s : State) (r : Reg) (v : Half) : (s.setR16 r v).eip = s.eip := rfl
@[simp] theorem State.setR16_eflags (s : State) (r : Reg) (v : Half) : (s.setR16 r v).eflags = s.eflags := rfl
@[simp] theorem State.setR16_cpl (s : State) (r : Reg) (v : Half) : (s.setR16 r v).cpl = s.cpl := rfl
@[simp] theorem State.setR16_seg (s : State) (r : Reg) (v : Half) : (s.setR16 r v).seg = s.seg := rfl
@[simp] theorem State.setR16_sys (s : State) (r : Reg) (v : Half) : (s.setR16 r v).sys = s.sys := rfl
@[simp] theorem State.setR16_dbg (s : State) (r : Reg) (v : Half) : (s.setR16 r v).dbg = s.dbg := rfl
@[simp] theorem State.setR16_fpu (s : State) (r : Reg) (v : Half) : (s.setR16 r v).fpu = s.fpu := rfl
@[simp] theorem State.setR16_msr (s : State) (r : Reg) (v : Half) : (s.setR16 r v).msr = s.msr := rfl
@[simp] theorem State.setR16_apic (s : State) (r : Reg) (v : Half) : (s.setR16 r v).apic = s.apic := rfl
@[simp] theorem State.setR16_smm (s : State) (r : Reg) (v : Half) : (s.setR16 r v).smm = s.smm := rfl
@[simp] theorem State.setR16_lat (s : State) (r : Reg) (v : Half) : (s.setR16 r v).lat = s.lat := rfl
@[simp] theorem State.setR16_ins (s : State) (r : Reg) (v : Half) : (s.setR16 r v).ins = s.ins := rfl
@[simp] theorem State.setR16_tr (s : State) (r : Reg) (v : Half) : (s.setR16 r v).tr = s.tr := rfl
@[simp] theorem State.setR16_tlb (s : State) (r : Reg) (v : Half) : (s.setR16 r v).tlb = s.tlb := rfl
@[simp] theorem State.setR16_mem (s : State) (r : Reg) (v : Half) : (s.setR16 r v).mem = s.mem := rfl
@[simp] theorem State.setR16_stale (s : State) (r : Reg) (v : Half) : (s.setR16 r v).stale = s.stale := rfl
@[simp] theorem State.setR16_map (s : State) (r : Reg) (v : Half) : (s.setR16 r v).map = s.map := rfl
@[simp] theorem State.setR16_free (s : State) (r : Reg) (v : Half) : (s.setR16 r v).free = s.free := rfl
@[simp] theorem State.setR16_events (s : State) (r : Reg) (v : Half) : (s.setR16 r v).events = s.events := rfl
@[simp] theorem State.setR16_cached (s : State) (r : Reg) (v : Half) : (s.setR16 r v).cached = s.cached := rfl
@[simp] theorem State.setR16_others (s : State) (r : Reg) (v : Half) : (s.setR16 r v).others = s.others := rfl
@[simp] theorem State.setR16_noReturn (s : State) (r : Reg) (v : Half) : (s.setR16 r v).noReturn = s.noReturn := rfl
@[simp] theorem State.setR16_bus (s : State) (r : Reg) (v : Half) : (s.setR16 r v).bus = s.bus := rfl

/-! `setR8` -/
@[simp] theorem State.setR8_eip (s : State) (r : Reg8) (v : Byte) : (s.setR8 r v).eip = s.eip := by cases r <;> rfl
@[simp] theorem State.setR8_eflags (s : State) (r : Reg8) (v : Byte) : (s.setR8 r v).eflags = s.eflags := by cases r <;> rfl
@[simp] theorem State.setR8_cpl (s : State) (r : Reg8) (v : Byte) : (s.setR8 r v).cpl = s.cpl := by cases r <;> rfl
@[simp] theorem State.setR8_seg (s : State) (r : Reg8) (v : Byte) : (s.setR8 r v).seg = s.seg := by cases r <;> rfl
@[simp] theorem State.setR8_sys (s : State) (r : Reg8) (v : Byte) : (s.setR8 r v).sys = s.sys := by cases r <;> rfl
@[simp] theorem State.setR8_dbg (s : State) (r : Reg8) (v : Byte) : (s.setR8 r v).dbg = s.dbg := by cases r <;> rfl
@[simp] theorem State.setR8_fpu (s : State) (r : Reg8) (v : Byte) : (s.setR8 r v).fpu = s.fpu := by cases r <;> rfl
@[simp] theorem State.setR8_msr (s : State) (r : Reg8) (v : Byte) : (s.setR8 r v).msr = s.msr := by cases r <;> rfl
@[simp] theorem State.setR8_apic (s : State) (r : Reg8) (v : Byte) : (s.setR8 r v).apic = s.apic := by cases r <;> rfl
@[simp] theorem State.setR8_smm (s : State) (r : Reg8) (v : Byte) : (s.setR8 r v).smm = s.smm := by cases r <;> rfl
@[simp] theorem State.setR8_lat (s : State) (r : Reg8) (v : Byte) : (s.setR8 r v).lat = s.lat := by cases r <;> rfl
@[simp] theorem State.setR8_ins (s : State) (r : Reg8) (v : Byte) : (s.setR8 r v).ins = s.ins := by cases r <;> rfl
@[simp] theorem State.setR8_tr (s : State) (r : Reg8) (v : Byte) : (s.setR8 r v).tr = s.tr := by cases r <;> rfl
@[simp] theorem State.setR8_tlb (s : State) (r : Reg8) (v : Byte) : (s.setR8 r v).tlb = s.tlb := by cases r <;> rfl
@[simp] theorem State.setR8_mem (s : State) (r : Reg8) (v : Byte) : (s.setR8 r v).mem = s.mem := by cases r <;> rfl
@[simp] theorem State.setR8_stale (s : State) (r : Reg8) (v : Byte) : (s.setR8 r v).stale = s.stale := by cases r <;> rfl
@[simp] theorem State.setR8_map (s : State) (r : Reg8) (v : Byte) : (s.setR8 r v).map = s.map := by cases r <;> rfl
@[simp] theorem State.setR8_free (s : State) (r : Reg8) (v : Byte) : (s.setR8 r v).free = s.free := by cases r <;> rfl
@[simp] theorem State.setR8_events (s : State) (r : Reg8) (v : Byte) : (s.setR8 r v).events = s.events := by cases r <;> rfl
@[simp] theorem State.setR8_cached (s : State) (r : Reg8) (v : Byte) : (s.setR8 r v).cached = s.cached := by cases r <;> rfl
@[simp] theorem State.setR8_others (s : State) (r : Reg8) (v : Byte) : (s.setR8 r v).others = s.others := by cases r <;> rfl
@[simp] theorem State.setR8_noReturn (s : State) (r : Reg8) (v : Byte) : (s.setR8 r v).noReturn = s.noReturn := by cases r <;> rfl
@[simp] theorem State.setR8_bus (s : State) (r : Reg8) (v : Byte) : (s.setR8 r v).bus = s.bus := by cases r <;> rfl

/-! `setFlag` -/
@[simp] theorem State.setFlag_gpr (s : State) (i : Nat) (b : Bool) : (s.setFlag i b).gpr = s.gpr := rfl
@[simp] theorem State.setFlag_eip (s : State) (i : Nat) (b : Bool) : (s.setFlag i b).eip = s.eip := rfl
@[simp] theorem State.setFlag_eflags (s : State) (i : Nat) (b : Bool) : (s.setFlag i b).eflags = setBit s.eflags i b := rfl
@[simp] theorem State.setFlag_cpl (s : State) (i : Nat) (b : Bool) : (s.setFlag i b).cpl = s.cpl := rfl
@[simp] theorem State.setFlag_seg (s : State) (i : Nat) (b : Bool) : (s.setFlag i b).seg = s.seg := rfl
@[simp] theorem State.setFlag_sys (s : State) (i : Nat) (b : Bool) : (s.setFlag i b).sys = s.sys := rfl
@[simp] theorem State.setFlag_dbg (s : State) (i : Nat) (b : Bool) : (s.setFlag i b).dbg = s.dbg := rfl
@[simp] theorem State.setFlag_fpu (s : State) (i : Nat) (b : Bool) : (s.setFlag i b).fpu = s.fpu := rfl
@[simp] theorem State.setFlag_msr (s : State) (i : Nat) (b : Bool) : (s.setFlag i b).msr = s.msr := rfl
@[simp] theorem State.setFlag_apic (s : State) (i : Nat) (b : Bool) : (s.setFlag i b).apic = s.apic := rfl
@[simp] theorem State.setFlag_smm (s : State) (i : Nat) (b : Bool) : (s.setFlag i b).smm = s.smm := rfl
@[simp] theorem State.setFlag_lat (s : State) (i : Nat) (b : Bool) : (s.setFlag i b).lat = s.lat := rfl
@[simp] theorem State.setFlag_ins (s : State) (i : Nat) (b : Bool) : (s.setFlag i b).ins = s.ins := rfl
@[simp] theorem State.setFlag_tr (s : State) (i : Nat) (b : Bool) : (s.setFlag i b).tr = s.tr := rfl
@[simp] theorem State.setFlag_tlb (s : State) (i : Nat) (b : Bool) : (s.setFlag i b).tlb = s.tlb := rfl
@[simp] theorem State.setFlag_mem (s : State) (i : Nat) (b : Bool) : (s.setFlag i b).mem = s.mem := rfl
@[simp] theorem State.setFlag_stale (s : State) (i : Nat) (b : Bool) : (s.setFlag i b).stale = s.stale := rfl
@[simp] theorem State.setFlag_map (s : State) (i : Nat) (b : Bool) : (s.setFlag i b).map = s.map := rfl
@[simp] theorem State.setFlag_free (s : State) (i : Nat) (b : Bool) : (s.setFlag i b).free = s.free := rfl
@[simp] theorem State.setFlag_events (s : State) (i : Nat) (b : Bool) : (s.setFlag i b).events = s.events := rfl
@[simp] theorem State.setFlag_cached (s : State) (i : Nat) (b : Bool) : (s.setFlag i b).cached = s.cached := rfl
@[simp] theorem State.setFlag_others (s : State) (i : Nat) (b : Bool) : (s.setFlag i b).others = s.others := rfl
@[simp] theorem State.setFlag_noReturn (s : State) (i : Nat) (b : Bool) : (s.setFlag i b).noReturn = s.noReturn := rfl
@[simp] theorem State.setFlag_bus (s : State) (i : Nat) (b : Bool) : (s.setFlag i b).bus = s.bus := rfl

/-! `decoded` -/
@[simp] theorem State.decoded_gpr (s : State) (n : Nat) : (s.decoded n).gpr = s.gpr := rfl
@[simp] theorem State.decoded_eip (s : State) (n : Nat) : (s.decoded n).eip = s.eip := rfl
@[simp] theorem State.decoded_eflags (s : State) (n : Nat) : (s.decoded n).eflags = s.eflags := rfl
@[simp] theorem State.decoded_cpl (s : State) (n : Nat) : (s.decoded n).cpl = s.cpl := rfl
@[simp] theorem State.decoded_seg (s : State) (n : Nat) : (s.decoded n).seg = s.seg := rfl
@[simp] theorem State.decoded_sys (s : State) (n : Nat) : (s.decoded n).sys = s.sys := rfl
@[simp] theorem State.decoded_dbg (s : State) (n : Nat) : (s.decoded n).dbg = s.dbg := rfl
@[simp] theorem State.decoded_fpu (s : State) (n : Nat) : (s.decoded n).fpu = s.fpu := rfl
@[simp] theorem State.decoded_msr (s : State) (n : Nat) : (s.decoded n).msr = s.msr := rfl
@[simp] theorem State.decoded_apic (s : State) (n : Nat) : (s.decoded n).apic = s.apic := rfl
@[simp] theorem State.decoded_smm (s : State) (n : Nat) : (s.decoded n).smm = s.smm := rfl
@[simp] theorem State.decoded_lat (s : State) (n : Nat) : (s.decoded n).lat = s.lat := rfl
@[simp] theorem State.decoded_ins (s : State) (n : Nat) : (s.decoded n).ins = { s.ins with len := s.ins.len + n } := rfl
@[simp] theorem State.decoded_tr (s : State) (n : Nat) : (s.decoded n).tr = s.tr := rfl
@[simp] theorem State.decoded_tlb (s : State) (n : Nat) : (s.decoded n).tlb = s.tlb := rfl
@[simp] theorem State.decoded_mem (s : State) (n : Nat) : (s.decoded n).mem = s.mem := rfl
@[simp] theorem State.decoded_stale (s : State) (n : Nat) : (s.decoded n).stale = s.stale := rfl
@[simp] theorem State.decoded_map (s : State) (n : Nat) : (s.decoded n).map = s.map := rfl
@[simp] theorem State.decoded_free (s : State) (n : Nat) : (s.decoded n).free = s.free := rfl
@[simp] theorem State.decoded_events (s : State) (n : Nat) : (s.decoded n).events = s.events := rfl
@[simp] theorem State.decoded_cached (s : State) (n : Nat) : (s.decoded n).cached = s.cached := rfl
@[simp] theorem State.decoded_others (s : State) (n : Nat) : (s.decoded n).others = s.others := rfl
@[simp] theorem State.decoded_noReturn (s : State) (n : Nat) : (s.decoded n).noReturn = s.noReturn := rfl
@[simp] theorem State.decoded_bus (s : State) (n : Nat) : (s.decoded n).bus = s.bus := rfl

/-! `prefixed` -/
@[simp] theorem State.prefixed_gpr (s : State) (f : Ins → Ins) : (s.prefixed f).gpr = s.gpr := rfl
@[simp] theorem State.prefixed_eip (s : State) (f : Ins → Ins) : (s.prefixed f).eip = s.eip := rfl
@[simp] theorem State.prefixed_eflags (s : State) (f : Ins → Ins) : (s.prefixed f).eflags = s.eflags := rfl
@[simp] theorem State.prefixed_cpl (s : State) (f : Ins → Ins) : (s.prefixed f).cpl = s.cpl := rfl
@[simp] theorem State.prefixed_seg (s : State) (f : Ins → Ins) : (s.prefixed f).seg = s.seg := rfl
@[simp] theorem State.prefixed_sys (s : State) (f : Ins → Ins) : (s.prefixed f).sys = s.sys := rfl
@[simp] theorem State.prefixed_dbg (s : State) (f : Ins → Ins) : (s.prefixed f).dbg = s.dbg := rfl
@[simp] theorem State.prefixed_fpu (s : State) (f : Ins → Ins) : (s.prefixed f).fpu = s.fpu := rfl
@[simp] theorem State.prefixed_msr (s : State) (f : Ins → Ins) : (s.prefixed f).msr = s.msr := rfl
@[simp] theorem State.prefixed_apic (s : State) (f : Ins → Ins) : (s.prefixed f).apic = s.apic := rfl
@[simp] theorem State.prefixed_smm (s : State) (f : Ins → Ins) : (s.prefixed f).smm = s.smm := rfl
@[simp] theorem State.prefixed_lat (s : State) (f : Ins → Ins) : (s.prefixed f).lat = s.lat := rfl
@[simp] theorem State.prefixed_ins (s : State) (f : Ins → Ins) : (s.prefixed f).ins = f s.ins := rfl
@[simp] theorem State.prefixed_tr (s : State) (f : Ins → Ins) : (s.prefixed f).tr = s.tr := rfl
@[simp] theorem State.prefixed_tlb (s : State) (f : Ins → Ins) : (s.prefixed f).tlb = s.tlb := rfl
@[simp] theorem State.prefixed_mem (s : State) (f : Ins → Ins) : (s.prefixed f).mem = s.mem := rfl
@[simp] theorem State.prefixed_stale (s : State) (f : Ins → Ins) : (s.prefixed f).stale = s.stale := rfl
@[simp] theorem State.prefixed_map (s : State) (f : Ins → Ins) : (s.prefixed f).map = s.map := rfl
@[simp] theorem State.prefixed_free (s : State) (f : Ins → Ins) : (s.prefixed f).free = s.free := rfl
@[simp] theorem State.prefixed_events (s : State) (f : Ins → Ins) : (s.prefixed f).events = s.events := rfl
@[simp] theorem State.prefixed_cached (s : State) (f : Ins → Ins) : (s.prefixed f).cached = s.cached := rfl
@[simp] theorem State.prefixed_others (s : State) (f : Ins → Ins) : (s.prefixed f).others = s.others := rfl
@[simp] theorem State.prefixed_noReturn (s : State) (f : Ins → Ins) : (s.prefixed f).noReturn = s.noReturn := rfl
@[simp] theorem State.prefixed_bus (s : State) (f : Ins → Ins) : (s.prefixed f).bus = s.bus := rfl

/-! `start` -/
@[simp] theorem State.start_gpr (s : State) : (s.start).gpr = s.gpr := rfl
@[simp] theorem State.start_eip (s : State) : (s.start).eip = s.nextEip := rfl
@[simp] theorem State.start_eflags (s : State) : (s.start).eflags = s.eflags := rfl
@[simp] theorem State.start_cpl (s : State) : (s.start).cpl = s.cpl := rfl
@[simp] theorem State.start_seg (s : State) : (s.start).seg = s.seg := rfl
@[simp] theorem State.start_sys (s : State) : (s.start).sys = s.sys := rfl
@[simp] theorem State.start_dbg (s : State) : (s.start).dbg = s.dbg := rfl
@[simp] theorem State.start_fpu (s : State) : (s.start).fpu = s.fpu := rfl
@[simp] theorem State.start_msr (s : State) : (s.start).msr = s.msr := rfl
@[simp] theorem State.start_apic (s : State) : (s.start).apic = s.apic := rfl
@[simp] theorem State.start_smm (s : State) : (s.start).smm = s.smm := rfl
@[simp] theorem State.start_lat (s : State) : (s.start).lat = s.lat := rfl
@[simp] theorem State.start_ins (s : State) : (s.start).ins = s.ins := rfl
@[simp] theorem State.start_tr (s : State) : (s.start).tr = s.tr := rfl
@[simp] theorem State.start_tlb (s : State) : (s.start).tlb = s.tlb := rfl
@[simp] theorem State.start_mem (s : State) : (s.start).mem = s.mem := rfl
@[simp] theorem State.start_stale (s : State) : (s.start).stale = s.stale := rfl
@[simp] theorem State.start_map (s : State) : (s.start).map = s.map := rfl
@[simp] theorem State.start_free (s : State) : (s.start).free = s.free := rfl
@[simp] theorem State.start_events (s : State) : (s.start).events = s.events := rfl
@[simp] theorem State.start_cached (s : State) : (s.start).cached = s.cached := rfl
@[simp] theorem State.start_others (s : State) : (s.start).others = s.others := rfl
@[simp] theorem State.start_noReturn (s : State) : (s.start).noReturn = s.noReturn := rfl
@[simp] theorem State.start_bus (s : State) : (s.start).bus = s.bus := rfl

/-! `tick` -/
@[simp] theorem State.tick_gpr (s : State) : (s.tick).gpr = s.gpr := rfl
@[simp] theorem State.tick_eip (s : State) : (s.tick).eip = s.eip := rfl
@[simp] theorem State.tick_eflags (s : State) : (s.tick).eflags = s.eflags := rfl
@[simp] theorem State.tick_cpl (s : State) : (s.tick).cpl = s.cpl := rfl
@[simp] theorem State.tick_seg (s : State) : (s.tick).seg = s.seg := rfl
@[simp] theorem State.tick_sys (s : State) : (s.tick).sys = s.sys := rfl
@[simp] theorem State.tick_dbg (s : State) : (s.tick).dbg = s.dbg := rfl
@[simp] theorem State.tick_fpu (s : State) : (s.tick).fpu = s.fpu := rfl
@[simp] theorem State.tick_msr (s : State) : (s.tick).msr = { s.msr with tsc := s.msr.tsc + 1 + (Config.tscExtra s.free).setWidth 64 } := rfl
@[simp] theorem State.tick_apic (s : State) : (s.tick).apic = s.apic := rfl
@[simp] theorem State.tick_smm (s : State) : (s.tick).smm = s.smm := rfl
@[simp] theorem State.tick_lat (s : State) : (s.tick).lat = s.lat := rfl
@[simp] theorem State.tick_ins (s : State) : (s.tick).ins = s.ins := rfl
@[simp] theorem State.tick_tr (s : State) : (s.tick).tr = s.tr := rfl
@[simp] theorem State.tick_tlb (s : State) : (s.tick).tlb = s.tlb := rfl
@[simp] theorem State.tick_mem (s : State) : (s.tick).mem = s.mem := rfl
@[simp] theorem State.tick_stale (s : State) : (s.tick).stale = s.stale := rfl
@[simp] theorem State.tick_map (s : State) : (s.tick).map = s.map := rfl
@[simp] theorem State.tick_free (s : State) : (s.tick).free = s.free + 1 := rfl
@[simp] theorem State.tick_events (s : State) : (s.tick).events = s.events := rfl
@[simp] theorem State.tick_cached (s : State) : (s.tick).cached = s.cached := rfl
@[simp] theorem State.tick_others (s : State) : (s.tick).others = s.others := rfl
@[simp] theorem State.tick_noReturn (s : State) : (s.tick).noReturn = s.noReturn := rfl
@[simp] theorem State.tick_bus (s : State) : (s.tick).bus = s.bus := rfl

/-! `completed` -/
@[simp] theorem State.completed_gpr (s : State) (s0 : State) : (s.completed s0).gpr = s.gpr := rfl
@[simp] theorem State.completed_eip (s : State) (s0 : State) : (s.completed s0).eip = s.eip := rfl
@[simp] theorem State.completed_cpl (s : State) (s0 : State) : (s.completed s0).cpl = s.cpl := rfl
@[simp] theorem State.completed_seg (s : State) (s0 : State) : (s.completed s0).seg = s.seg := rfl
@[simp] theorem State.completed_sys (s : State) (s0 : State) : (s.completed s0).sys = s.sys := rfl
@[simp] theorem State.completed_fpu (s : State) (s0 : State) : (s.completed s0).fpu = s.fpu := rfl
@[simp] theorem State.completed_msr (s : State) (s0 : State) : (s.completed s0).msr = s.msr := rfl
@[simp] theorem State.completed_apic (s : State) (s0 : State) : (s.completed s0).apic = s.apic := rfl
@[simp] theorem State.completed_smm (s : State) (s0 : State) : (s.completed s0).smm = { s.smm with ioRec := s.tr.io } := rfl
@[simp] theorem State.completed_ins (s : State) (s0 : State) : (s.completed s0).ins = Ins.clear := rfl
@[simp] theorem State.completed_tr (s : State) (s0 : State) : (s.completed s0).tr = Trans.clear := rfl
@[simp] theorem State.completed_tlb (s : State) (s0 : State) : (s.completed s0).tlb = s.tlb := rfl
@[simp] theorem State.completed_mem (s : State) (s0 : State) : (s.completed s0).mem = s.mem := rfl
@[simp] theorem State.completed_stale (s : State) (s0 : State) : (s.completed s0).stale = s.stale := rfl
@[simp] theorem State.completed_map (s : State) (s0 : State) : (s.completed s0).map = s.map := rfl
@[simp] theorem State.completed_free (s : State) (s0 : State) : (s.completed s0).free = s.free := rfl
@[simp] theorem State.completed_events (s : State) (s0 : State) : (s.completed s0).events = s.events := rfl
@[simp] theorem State.completed_cached (s : State) (s0 : State) : (s.completed s0).cached = s.cached := rfl
@[simp] theorem State.completed_others (s : State) (s0 : State) : (s.completed s0).others = s.others := rfl
@[simp] theorem State.completed_noReturn (s : State) (s0 : State) : (s.completed s0).noReturn = s.noReturn := rfl
@[simp] theorem State.completed_bus (s : State) (s0 : State) : (s.completed s0).bus = s.bus := rfl

/-! `storeByte` -/
@[simp] theorem State.storeByte_gpr (s : State) (pa : Nat) (b : Byte) (wb : Bool) : (s.storeByte pa b wb).gpr = s.gpr := by
  dsimp only [State.storeByte]; cases placeOf s.map s.smm.inSmm (busAddr s pa) <;> rfl
@[simp] theorem State.storeByte_eip (s : State) (pa : Nat) (b : Byte) (wb : Bool) : (s.storeByte pa b wb).eip = s.eip := by
  dsimp only [State.storeByte]; cases placeOf s.map s.smm.inSmm (busAddr s pa) <;> rfl
@[simp] theorem State.storeByte_eflags (s : State) (pa : Nat) (b : Byte) (wb : Bool) : (s.storeByte pa b wb).eflags = s.eflags := by
  dsimp only [State.storeByte]; cases placeOf s.map s.smm.inSmm (busAddr s pa) <;> rfl
@[simp] theorem State.storeByte_cpl (s : State) (pa : Nat) (b : Byte) (wb : Bool) : (s.storeByte pa b wb).cpl = s.cpl := by
  dsimp only [State.storeByte]; cases placeOf s.map s.smm.inSmm (busAddr s pa) <;> rfl
@[simp] theorem State.storeByte_seg (s : State) (pa : Nat) (b : Byte) (wb : Bool) : (s.storeByte pa b wb).seg = s.seg := by
  dsimp only [State.storeByte]; cases placeOf s.map s.smm.inSmm (busAddr s pa) <;> rfl
@[simp] theorem State.storeByte_sys (s : State) (pa : Nat) (b : Byte) (wb : Bool) : (s.storeByte pa b wb).sys = s.sys := by
  dsimp only [State.storeByte]; cases placeOf s.map s.smm.inSmm (busAddr s pa) <;> rfl
@[simp] theorem State.storeByte_dbg (s : State) (pa : Nat) (b : Byte) (wb : Bool) : (s.storeByte pa b wb).dbg = s.dbg := by
  dsimp only [State.storeByte]; cases placeOf s.map s.smm.inSmm (busAddr s pa) <;> rfl
@[simp] theorem State.storeByte_fpu (s : State) (pa : Nat) (b : Byte) (wb : Bool) : (s.storeByte pa b wb).fpu = s.fpu := by
  dsimp only [State.storeByte]; cases placeOf s.map s.smm.inSmm (busAddr s pa) <;> rfl
@[simp] theorem State.storeByte_msr (s : State) (pa : Nat) (b : Byte) (wb : Bool) : (s.storeByte pa b wb).msr = s.msr := by
  dsimp only [State.storeByte]; cases placeOf s.map s.smm.inSmm (busAddr s pa) <;> rfl
@[simp] theorem State.storeByte_apic (s : State) (pa : Nat) (b : Byte) (wb : Bool) : (s.storeByte pa b wb).apic = s.apic := by
  dsimp only [State.storeByte]; cases placeOf s.map s.smm.inSmm (busAddr s pa) <;> rfl
@[simp] theorem State.storeByte_smm (s : State) (pa : Nat) (b : Byte) (wb : Bool) : (s.storeByte pa b wb).smm = s.smm := by
  dsimp only [State.storeByte]; cases placeOf s.map s.smm.inSmm (busAddr s pa) <;> rfl
@[simp] theorem State.storeByte_lat (s : State) (pa : Nat) (b : Byte) (wb : Bool) : (s.storeByte pa b wb).lat = s.lat := by
  dsimp only [State.storeByte]; cases placeOf s.map s.smm.inSmm (busAddr s pa) <;> rfl
@[simp] theorem State.storeByte_ins (s : State) (pa : Nat) (b : Byte) (wb : Bool) : (s.storeByte pa b wb).ins = s.ins := by
  dsimp only [State.storeByte]; cases placeOf s.map s.smm.inSmm (busAddr s pa) <;> rfl
@[simp] theorem State.storeByte_tr (s : State) (pa : Nat) (b : Byte) (wb : Bool) : (s.storeByte pa b wb).tr = s.tr := by
  dsimp only [State.storeByte]; cases placeOf s.map s.smm.inSmm (busAddr s pa) <;> rfl
@[simp] theorem State.storeByte_tlb (s : State) (pa : Nat) (b : Byte) (wb : Bool) : (s.storeByte pa b wb).tlb = s.tlb := by
  dsimp only [State.storeByte]; cases placeOf s.map s.smm.inSmm (busAddr s pa) <;> rfl
@[simp] theorem State.storeByte_map (s : State) (pa : Nat) (b : Byte) (wb : Bool) : (s.storeByte pa b wb).map = s.map := by
  dsimp only [State.storeByte]; cases placeOf s.map s.smm.inSmm (busAddr s pa) <;> rfl
@[simp] theorem State.storeByte_events (s : State) (pa : Nat) (b : Byte) (wb : Bool) : (s.storeByte pa b wb).events = s.events := by
  dsimp only [State.storeByte]; cases placeOf s.map s.smm.inSmm (busAddr s pa) <;> rfl
@[simp] theorem State.storeByte_cached (s : State) (pa : Nat) (b : Byte) (wb : Bool) : (s.storeByte pa b wb).cached = s.cached := by
  dsimp only [State.storeByte]; cases placeOf s.map s.smm.inSmm (busAddr s pa) <;> rfl
@[simp] theorem State.storeByte_others (s : State) (pa : Nat) (b : Byte) (wb : Bool) : (s.storeByte pa b wb).others = s.others := by
  dsimp only [State.storeByte]; cases placeOf s.map s.smm.inSmm (busAddr s pa) <;> rfl
@[simp] theorem State.storeByte_noReturn (s : State) (pa : Nat) (b : Byte) (wb : Bool) : (s.storeByte pa b wb).noReturn = s.noReturn := by
  dsimp only [State.storeByte]; cases placeOf s.map s.smm.inSmm (busAddr s pa) <;> rfl

/-! `setPdptes` -/
@[simp] theorem State.setPdptes_gpr (s : State) (e : Nat → QWord) : (s.setPdptes e).gpr = s.gpr := rfl
@[simp] theorem State.setPdptes_eip (s : State) (e : Nat → QWord) : (s.setPdptes e).eip = s.eip := rfl
@[simp] theorem State.setPdptes_eflags (s : State) (e : Nat → QWord) : (s.setPdptes e).eflags = s.eflags := rfl
@[simp] theorem State.setPdptes_cpl (s : State) (e : Nat → QWord) : (s.setPdptes e).cpl = s.cpl := rfl
@[simp] theorem State.setPdptes_seg (s : State) (e : Nat → QWord) : (s.setPdptes e).seg = s.seg := rfl
@[simp] theorem State.setPdptes_dbg (s : State) (e : Nat → QWord) : (s.setPdptes e).dbg = s.dbg := rfl
@[simp] theorem State.setPdptes_fpu (s : State) (e : Nat → QWord) : (s.setPdptes e).fpu = s.fpu := rfl
@[simp] theorem State.setPdptes_msr (s : State) (e : Nat → QWord) : (s.setPdptes e).msr = s.msr := rfl
@[simp] theorem State.setPdptes_apic (s : State) (e : Nat → QWord) : (s.setPdptes e).apic = s.apic := rfl
@[simp] theorem State.setPdptes_smm (s : State) (e : Nat → QWord) : (s.setPdptes e).smm = s.smm := rfl
@[simp] theorem State.setPdptes_lat (s : State) (e : Nat → QWord) : (s.setPdptes e).lat = s.lat := rfl
@[simp] theorem State.setPdptes_ins (s : State) (e : Nat → QWord) : (s.setPdptes e).ins = s.ins := rfl
@[simp] theorem State.setPdptes_tr (s : State) (e : Nat → QWord) : (s.setPdptes e).tr = s.tr := rfl
@[simp] theorem State.setPdptes_tlb (s : State) (e : Nat → QWord) : (s.setPdptes e).tlb = s.tlb := rfl
@[simp] theorem State.setPdptes_mem (s : State) (e : Nat → QWord) : (s.setPdptes e).mem = s.mem := rfl
@[simp] theorem State.setPdptes_stale (s : State) (e : Nat → QWord) : (s.setPdptes e).stale = s.stale := rfl
@[simp] theorem State.setPdptes_map (s : State) (e : Nat → QWord) : (s.setPdptes e).map = s.map := rfl
@[simp] theorem State.setPdptes_free (s : State) (e : Nat → QWord) : (s.setPdptes e).free = s.free := rfl
@[simp] theorem State.setPdptes_events (s : State) (e : Nat → QWord) : (s.setPdptes e).events = s.events := rfl
@[simp] theorem State.setPdptes_cached (s : State) (e : Nat → QWord) : (s.setPdptes e).cached = s.cached := rfl
@[simp] theorem State.setPdptes_others (s : State) (e : Nat → QWord) : (s.setPdptes e).others = s.others := rfl
@[simp] theorem State.setPdptes_noReturn (s : State) (e : Nat → QWord) : (s.setPdptes e).noReturn = s.noReturn := rfl
@[simp] theorem State.setPdptes_bus (s : State) (e : Nat → QWord) : (s.setPdptes e).bus = s.bus := rfl
@[simp] theorem State.setPdptes_sys (s : State) (e : Nat → QWord) :
    (s.setPdptes e).sys = { s.sys with pdpte0 := e 0, pdpte1 := e 1, pdpte2 := e 2, pdpte3 := e 3 } := rfl

/-! A register written reads as written, the others as before. -/
@[simp] theorem Gprs.get_set (g : Gprs) (r q : Reg) (v : Word) : (g.set r v).get q = if q = r then v else g.get q := by
  cases r <;> cases q <;> rfl

@[simp] theorem Segs.get_set (g : Segs) (r q : SegReg) (v : Seg) : (g.set r v).get q = if q = r then v else g.get q := by
  cases r <;> cases q <;> rfl

@[simp] theorem r32_setR32 (s : State) (r q : Reg) (v : Word) :
    (s.setR32 r v).r32 q = if q = r then v else s.r32 q := Gprs.get_set _ _ _ _

end Sys2Proof.Machine
end

