-- ==== Sys2Proof/Laws/Boundary.lean ====
section
/-! SUPPORT. What the boundary takes from the list of external events: the ticks and increments in front, and one event. -/
namespace Sys2Proof.Machine
open Host

@[simp] theorem upcoming_nil (s : State) : State.upcoming [] s = (.idle, { s with events := [] }) := rfl

@[simp] theorem upcoming_tick (s : State) (es : List Event) :
    State.upcoming (.timerTick :: es) s =
      State.upcoming es (if s.apicOn then { s with apic := s.apic.tick } else s) := rfl

@[simp] theorem upcoming_perf0 (s : State) (n : Nat) (es : List Event) :
    State.upcoming (.perf0 n :: es) s = State.upcoming es (advance0 n s) := rfl

@[simp] theorem upcoming_perf1 (s : State) (n : Nat) (es : List Event) :
    State.upcoming (.perf1 n :: es) s = State.upcoming es (advance1 n s) := rfl

/-- An event that is no tick and no increment is taken, and nothing but the list changes. -/
theorem upcoming_taken {s : State} {e : Event} (h : s.count e = none) (es : List Event) :
    State.upcoming (e :: es) s = (e, { s with events := es }) := by
  simp only [State.upcoming, h]

/-- A list without events is an idle environment. -/
theorem nextEvent_idle {s : State} (h : s.events = []) : nextEvent s = .ok .idle s := by
  obtain ⟨⟩ := s
  subst h
  rfl

/-- What is taken is never a tick or an increment: those have had their effect. -/
theorem upcoming_uncounted (es : List Event) (s t : State) : t.count (State.upcoming es s).1 = none := by
  induction es generalizing s with
  | nil => rfl
  | cons e es ih =>
    cases h : s.count e with
    | some u => simpa only [State.upcoming, h] using ih u
    | none =>
      simp only [State.upcoming, h]
      cases e <;> first | rfl | cases h

end Sys2Proof.Machine
end

