-- ==== Sys2Proof/Laws/Fields.lean ====
section
/-! SUPPORT. The fields of an operand whose places have been found: what reading and writing them does where linear
addresses are physical addresses of RAM. -/
namespace Sys2Proof.Machine
open Host

/-- The runs cover the `n` bytes from `a` up, one after another, and the APIC answers none of them. -/
def Covers : List Span → Nat → Nat → Prop
  | [], _, n => n = 0
  | p :: ps, a, n => p.pa = a ∧ p.apic = false ∧ p.len ≤ n ∧ Covers ps (a + p.len) (n - p.len)

theorem covers_spansAt (a n : Nat) : Covers (spansAt a n) a n := by
  unfold spansAt
  split
  · simp [Covers]
  · exact ⟨rfl, rfl, by simp only; omega, rfl, rfl, Nat.le_refl _, Nat.sub_self _⟩

theorem covers_anyApic {ps : List Span} {a n : Nat} (h : Covers ps a n) : anyApic ps = false := by
  induction ps generalizing a n with
  | nil => rfl
  | cons p ps ih =>
    obtain ⟨-, hp, -, hr⟩ := h
    simpa [anyApic, hp] using ih hr

/-- The places of a field inside a covered operand. -/
theorem covers_runsFrom {ps : List Span} {a n k m : Nat} (h : Covers ps a n) (l : k + m ≤ n) :
    Covers (runsFrom ps k m) (a + k) m := by
  induction ps generalizing a n k m with
  | nil =>
    have hn : n = 0 := h
    simp only [runsFrom, Covers]
    omega
  | cons p ps ih =>
    obtain ⟨ha, hp, hl, hr⟩ := h
    simp only [runsFrom]
    split
    · next h0 => exact h0
    · split
      · next h0 hk =>
        have := ih hr (k := k - p.len) (m := m) (by omega)
        rwa [show a + p.len + (k - p.len) = a + k by omega] at this
      · next h0 hk =>
        refine ⟨by simp only; omega, hp, by simp only; omega, ?_⟩
        simp only
        by_cases hm : m ≤ p.len - k
        · rw [Nat.min_eq_left hm, Nat.sub_self]
          cases ps <;> simp [runsFrom, Covers]
        · have := ih hr (k := 0) (m := m - (p.len - k)) (by omega)
          rw [Nat.min_eq_right (by omega)]
          rwa [show a + p.len + 0 = a + k + (p.len - k) by omega] at this

theorem loadSpans_covers {s : State} (hs : s.plain = true) {ps : List Span} {a n : Nat} (h : Covers ps a n) :
    loadSpans ps s = .ok (memBytes s.mem a n) s := by
  induction ps generalizing a n with
  | nil =>
    have hn : n = 0 := h
    subst hn
    rfl
  | cons p ps ih =>
    obtain ⟨rfl, -, hl, hr⟩ := h
    simp only [loadSpans, run_bind, loadBytes_plain hs, ih hr, run_pure]
    rw [← memBytes_add, Nat.add_sub_cancel' hl]

/-- A field read at its place is the number that memory holds there. -/
theorem readSpans_covers {s : State} (hs : s.plain = true) {ps : List Span} {a n : Nat} (h : Covers ps a n) :
    readSpans ps s = .ok (s.num a n) s := by
  unfold readSpans readVia
  rw [covers_anyApic h, if_neg Bool.false_ne_true]
  simp [loadRuns, run_bind, run_get, accessGap_plain hs, whole_plain hs, loadSpans_covers hs h, State.num]

theorem storeSpans_covers {s : State} (hs : s.plain = true) {ps : List Span} {a : Nat} {bs : List Byte}
    (h : Covers ps a bs.length) :
    ∃ st fr, storeSpans ps bs s = .ok () { s with mem := memWriteList s.mem a bs, stale := st, free := fr } := by
  induction ps generalizing a bs s with
  | nil =>
    have hn : bs.length = 0 := h
    rw [List.length_eq_zero_iff] at hn
    subst hn
    exact ⟨s.stale, s.free, rfl⟩
  | cons p ps ih =>
    obtain ⟨rfl, -, hl, hr⟩ := h
    obtain ⟨st, fr, hb⟩ := storeBytes_plain hs p.pa (bs.take p.len) p.wb
    obtain ⟨st', fr', hc⟩ := ih
      (s := { s with mem := memWriteList s.mem p.pa (bs.take p.len), stale := st, free := fr }) hs
      (bs := bs.drop p.len) (by rw [List.length_drop]; exact hr)
    refine ⟨st', fr', ?_⟩
    simp only [storeSpans, run_bind, hb, hc]
    conv_rhs => rw [← List.take_append_drop p.len bs, memWriteList_append, List.length_take, Nat.min_eq_left hl]

/-- A field written at its place changes its bytes in memory and nothing else. -/
theorem writeSpans_covers {s : State} (hs : s.plain = true) {ps : List Span} {a n : Nat} (v : Nat) (h : Covers ps a n) :
    ∃ st fr, writeSpans ps n v s = .ok () (s.withBytes a n v st fr) := by
  unfold writeSpans writeVia
  rw [covers_anyApic h, if_neg Bool.false_ne_true]
  simp only [storeRuns, run_bind, run_get, accessGap_plain hs, whole_plain hs, if_true]
  exact storeSpans_covers hs (by rwa [leBytes_length])

/-- Consecutive fields read at their places. -/
theorem readFields_covers {s : State} (hs : s.plain = true) {ps : List Span} {a n m k c : Nat} (h : Covers ps a n)
    (l : k + m * c ≤ n) :
    readFields ps m k c s = .ok ((List.range c).map fun i => s.num (a + k + m * i) m) s := by
  induction c generalizing k with
  | zero => rfl
  | succ c ih =>
    rw [Nat.mul_succ] at l
    simp only [readFields, run_bind, readSpans_covers hs (covers_runsFrom h (k := k) (m := m) (by omega)),
      ih (k := k + m) (by omega), run_pure]
    rw [List.range_succ_eq_map]
    simp only [List.map_cons, List.map_map, Nat.mul_zero, Nat.add_zero]
    congr 2
    apply List.map_congr_left
    intro i _
    simp only [Function.comp_apply]
    congr 1
    rw [Nat.mul_succ]
    omega

/-- Consecutive fields written at their places change their bytes in memory and nothing else. -/
theorem writeFields_covers {s : State} (hs : s.plain = true) {ps : List Span} {a n m k : Nat} (vs : List Nat)
    (h : Covers ps a n) (l : k + m * vs.length ≤ n) :
    ∃ st fr, writeFields ps m k vs s =
      .ok () { s with mem := memWriteList s.mem (a + k) (vs.flatMap (leBytes m)), stale := st, free := fr } := by
  induction vs generalizing s k with
  | nil => exact ⟨s.stale, s.free, rfl⟩
  | cons v vs ih =>
    rw [List.length_cons, Nat.mul_succ] at l
    obtain ⟨st, fr, hb⟩ := writeSpans_covers hs v (covers_runsFrom h (k := k) (m := m) (by omega))
    obtain ⟨st', fr', hc⟩ := ih (s := s.withBytes (a + k) m v st fr) hs (k := k + m) (by omega)
    refine ⟨st', fr', ?_⟩
    simp only [writeFields, run_bind, hb, hc]
    simp only [State.withBytes, List.flatMap_cons, memWriteList_append, leBytes_length, Nat.add_assoc]

end Sys2Proof.Machine
end

