-- ==== Sys2Proof/Laws/Stores.lean ====
section
/-! SUPPORT. Every operation on memory keeps its canonical form. -/
namespace Sys2Proof.Machine
open Host

/-- The memory of a state is in canonical form. -/
abbrev State.wf (s : State) : Prop := Memory.wf s.mem = true

theorem wf_reset : State.reset.wf := rfl

theorem wf_storeByte {s : State} (pa : Nat) (b : Byte) (wb : Bool) (h : s.wf) : (s.storeByte pa b wb).wf := by
  show Memory.wf (s.storeByte pa b wb).mem = true
  dsimp only [State.storeByte]
  cases placeOf s.map s.smm.inSmm (busAddr s pa)
  · exact wf_memWrite h
  · exact h
  · exact h
  · exact h

theorem keeps_wf_storeByte (pa : Nat) (b : Byte) (wb : Bool) : Keeps State.wf (storeByte pa b wb) :=
  keeps_modify _ _ fun _ h => wf_storeByte pa b wb h

theorem keeps_wf_storeBytes (pa : Nat) (bs : List Byte) (wb : Bool) : Keeps State.wf (storeBytes pa bs wb) := by
  induction bs generalizing pa with
  | nil => exact keeps_pure _ _
  | cons b bs ih => exact keeps_bind _ _ _ (keeps_wf_storeByte pa b wb) fun _ => ih (pa + 1)

theorem keeps_wf_loadByte (pa : Nat) : Keeps State.wf (loadByte pa) := by
  refine keeps_get_bind _ _ fun s h => ?_
  cases placeOf s.map s.smm.inSmm (busAddr s pa) <;> exact h

theorem keeps_wf_loadBytes (pa n : Nat) : Keeps State.wf (loadBytes pa n) := by
  induction n generalizing pa with
  | zero => exact keeps_pure _ _
  | succ n ih =>
    exact keeps_bind _ _ _ (keeps_wf_loadByte pa) fun _ => keeps_bind _ _ _ (ih (pa + 1)) fun _ => keeps_pure _ _

/-- A step that leaves memory alone. -/
theorem keeps_wf_modify (f : State → State) (h : ∀ s, (f s).mem = s.mem) : Keeps State.wf (modify f) :=
  keeps_modify _ _ fun s hs => by rw [State.wf, h s]; exact hs

theorem keeps_wf_throw {α : Type} (e : Abort) : Keeps State.wf (throw e : M α) := fun _ h => h
theorem keeps_wf_stop {α : Type} (f : Fault) : Keeps State.wf (stop f : M α) := fun _ h => h
theorem keeps_wf_drawNat : Keeps State.wf drawNat := fun _ h => h
theorem keeps_wf_drawBool : Keeps State.wf drawBool := fun _ h => h
theorem keeps_wf_draw (w : Nat) : Keeps State.wf (draw w) := fun _ h => h
theorem keeps_wf_emit (b : BusMsg) : Keeps State.wf (emit b) := fun _ h => h

/-- A sequence that begins with the state. -/
theorem keeps_wf_get {β : Type} (f : State → M β) (h : ∀ s, Keeps State.wf (f s)) : Keeps State.wf (get >>= f) :=
  keeps_bind _ _ _ (keeps_get _) h

theorem keeps_wf_whenM (c : Bool) {x : M Unit} (h : Keeps State.wf x) : Keeps State.wf (whenM c x) := by
  cases c
  · exact keeps_pure _ _
  · exact h

theorem keeps_wf_unlessM (c : Bool) {x : M Unit} (h : Keeps State.wf x) : Keeps State.wf (unlessM c x) := by
  cases c
  · exact h
  · exact keeps_pure _ _

theorem wf_endSplit {s : State} (c : StaleByte) (h : s.wf) : (s.endSplit c).wf := by
  show Memory.wf (s.endSplit c).mem = true
  dsimp only [State.endSplit]
  split
  · exact wf_memWrite h
  · exact h

theorem wf_snoopLine {s : State} (k : Nat) (h : s.wf) : (s.snoopLine k).wf := by
  unfold State.snoopLine
  suffices hs : ∀ (l : List StaleByte) (t : State), t.wf → (l.foldl State.endSplit t).wf from hs _ _ h
  intro l
  induction l with
  | nil => exact fun _ ht => ht
  | cons c l ih => exact fun t ht => ih _ (wf_endSplit c ht)

/-- Another agent's write. -/
theorem wf_agentByte {s : State} (smm : Bool) (a : Nat) (b : Byte) (h : s.wf) : (s.agentByte smm a b).wf := by
  unfold State.agentByte
  split
  · split
    · split
      · exact h
      · exact wf_memWrite (m := s.mem) h
    · exact wf_memWrite (wf_snoopLine _ h)
  · exact h

theorem wf_agentWrite {s : State} (w : AgentWrite) (h : s.wf) : (s.agentWrite w).wf := by
  unfold State.agentWrite
  suffices hs : ∀ (bs : List Byte) (p : State × Nat), p.1.wf →
      (bs.foldl (fun (p : State × Nat) b => (p.1.agentByte w.smm p.2 b, p.2 + 1)) p).1.wf from hs _ _ h
  intro bs
  induction bs with
  | nil => exact fun _ hp => hp
  | cons b bs ih => exact fun p hp => ih _ (wf_agentByte _ _ _ hp)

theorem wf_othersWrite {s : State} (h : s.wf) : s.othersWrite.wf := by
  unfold State.othersWrite
  split
  · exact h
  · next ws rest _ =>
    suffices hs : ∀ (l : List AgentWrite) (t : State), t.wf → (l.foldl State.agentWrite t).wf from
      hs ws { s with others := rest } h
    intro l
    induction l with
    | nil => exact fun _ ht => ht
    | cons w l ih => exact fun t ht => ih _ (wf_agentWrite w ht)

theorem keeps_wf_othersGap : Keeps State.wf othersGap := keeps_modify _ _ fun _ h => wf_othersWrite h

theorem keeps_wf_modifyApic (f : Apic → Apic) : Keeps State.wf (modifyApic f) := keeps_wf_modify _ fun _ => rfl

theorem signal_mem (s : State) (mode : BitVec 3) : (s.signal mode).mem = s.mem := by
  unfold State.signal; split <;> (try split) <;> (try split) <;> rfl

theorem startUp_mem (s : State) (v : Byte) : (s.startUp v).mem = s.mem := by
  unfold State.startUp; split <;> rfl

theorem keeps_wf_takeFixed (m : ApicMsg) : Keeps State.wf (takeFixed m) := by
  refine keeps_wf_get _ fun s => ?_
  dsimp only
  split
  · exact keeps_bind _ _ _ (keeps_wf_modify _ fun _ => rfl) fun _ => keeps_pure _ _
  · split
    · exact keeps_bind _ _ _ (keeps_wf_modify _ fun _ => rfl) fun _ => keeps_pure _ _
    · exact keeps_bind _ _ _ (keeps_wf_modify _ fun _ => rfl) fun _ => keeps_pure _ _

theorem keeps_wf_takeLowest (m : ApicMsg) (only : Bool) : Keeps State.wf (takeLowest m only) := by
  refine keeps_wf_get _ fun s => ?_
  dsimp only
  refine keeps_ite _ _ _ _ (keeps_wf_takeFixed m) (keeps_ite _ _ _ _ ?_ (keeps_ite _ _ _ _ (keeps_wf_takeFixed m) ?_))
  · exact keeps_bind _ _ _ keeps_wf_drawBool fun _ => keeps_pure _ _
  · exact keeps_bind _ _ _ keeps_wf_drawBool fun _ => keeps_ite _ _ _ _ (keeps_wf_takeFixed m) (keeps_pure _ _)

theorem keeps_wf_takeMessage (m : ApicMsg) (selfInt only : Bool) : Keeps State.wf (takeMessage m selfInt only) := by
  refine keeps_wf_get _ fun s => ?_
  dsimp only
  split
  · exact keeps_ite _ _ _ _ (keeps_pure _ _) (keeps_ite _ _ _ _ (keeps_wf_takeLowest _ _) (keeps_wf_takeFixed _))
  · split
    · exact keeps_bind _ _ _ (keeps_wf_modify _ fun _ => startUp_mem _ _) fun _ => keeps_pure _ _
    · split
      · exact keeps_bind _ _ _ (keeps_wf_modify _ fun _ => rfl) fun _ => keeps_pure _ _
      · exact keeps_bind _ _ _ (keeps_wf_modify _ fun _ => signal_mem _ _) fun _ => keeps_pure _ _

theorem keeps_wf_askOthers (m : ApicMsg) : Keeps State.wf (askOthers m) :=
  keeps_bind _ _ _ keeps_wf_drawNat fun _ => keeps_pure _ _

theorem keeps_wf_attempt (o : Outgoing) : Keeps State.wf (attempt o) := by
  unfold attempt
  dsimp only
  repeat' split
  all_goals first
    | exact keeps_bind _ _ _ (keeps_wf_askOthers _) fun _ => keeps_wf_modifyApic _
    | exact keeps_bind _ _ _ (keeps_pure _ _) fun _ => keeps_wf_modifyApic _
    | refine keeps_bind _ _ _ (keeps_wf_takeMessage _ _ _) fun own => ?_
    | refine keeps_bind _ _ _ (keeps_pure _ _) fun own => ?_
  all_goals split
  all_goals first
    | exact keeps_bind _ _ _ (keeps_wf_askOthers _) fun _ => keeps_wf_modifyApic _
    | exact keeps_bind _ _ _ (keeps_pure _ _) fun _ => keeps_wf_modifyApic _

theorem keeps_wf_sendIcr : Keeps State.wf sendIcr := by
  refine keeps_wf_get _ fun s => ?_
  dsimp only
  split
  · exact keeps_wf_stop _
  · exact keeps_pure _ _
  · exact keeps_bind _ _ _ (keeps_wf_emit _) fun _ => keeps_wf_modifyApic _
  · exact keeps_ite _ _ _ _ (keeps_wf_modifyApic _)
      (keeps_bind _ _ _ (keeps_wf_whenM _ (keeps_wf_emit _)) fun _ => keeps_wf_attempt _)

theorem keeps_wf_writeLvt (l : Lvt) (v : Word) : Keeps State.wf (writeLvt l v) :=
  keeps_ite _ _ _ _ (keeps_wf_modifyApic _) (keeps_wf_stop _)

theorem keeps_wf_apicLoad (off : Nat) : Keeps State.wf (apicLoad off) := by
  refine keeps_wf_get _ fun s => ?_
  split
  · exact keeps_pure _ _
  · exact keeps_bind _ _ _ (keeps_wf_modifyApic _) fun _ => keeps_pure _ _

theorem keeps_wf_writeId (v : Word) : Keeps State.wf (writeId v) :=
  keeps_wf_get _ fun _ => keeps_ite _ _ _ _ (keeps_wf_stop _) (keeps_wf_modifyApic _)

theorem keeps_wf_apicStore (off : Nat) (v : Word) : Keeps State.wf (apicStore off v) := by
  refine keeps_wf_get _ fun s => ?_
  split
  · exact keeps_wf_modifyApic _
  · dsimp only
    refine keeps_ite _ _ _ _ (keeps_wf_writeId _) ?_
    refine keeps_ite _ _ _ _ (keeps_wf_modifyApic _) ?_
    refine keeps_ite _ _ _ _ (keeps_bind _ _ _ (keeps_wf_modifyApic _) fun _ => ?_) ?_
    · split
      · exact keeps_bind _ _ _ (keeps_wf_emit _) fun _ => keeps_wf_modifyApic _
      · exact keeps_pure _ _
    refine keeps_ite _ _ _ _ (keeps_wf_modifyApic _) ?_
    refine keeps_ite _ _ _ _ (keeps_wf_modifyApic _) ?_
    refine keeps_ite _ _ _ _ (keeps_wf_modifyApic _) ?_
    refine keeps_ite _ _ _ _ (keeps_wf_modifyApic _) ?_
    refine keeps_ite _ _ _ _ (keeps_ite _ _ _ _ (keeps_wf_stop _) (keeps_bind _ _ _ (keeps_wf_modifyApic _) fun _ => keeps_wf_sendIcr)) ?_
    refine keeps_ite _ _ _ _ (keeps_ite _ _ _ _ (keeps_wf_stop _) (keeps_wf_modifyApic _)) ?_
    refine keeps_ite _ _ _ _ (keeps_wf_writeLvt _ _) ?_
    refine keeps_ite _ _ _ _ (keeps_wf_writeLvt _ _) ?_
    refine keeps_ite _ _ _ _ (keeps_wf_writeLvt _ _) ?_
    refine keeps_ite _ _ _ _ (keeps_wf_writeLvt _ _) ?_
    refine keeps_ite _ _ _ _ (keeps_wf_writeLvt _ _) ?_
    refine keeps_ite _ _ _ _ (keeps_wf_modifyApic _) ?_
    exact keeps_ite _ _ _ _ (keeps_wf_modifyApic _) (keeps_pure _ _)

theorem keeps_wf_physCheck (s : State) (a n : Nat) (lk : Bool) : Keeps State.wf (physCheck s a n lk) := by
  unfold physCheck
  split
  · exact keeps_wf_stop _
  · split
    · exact keeps_pure _ _
    · split
      · exact keeps_pure _ _
      · exact keeps_wf_stop _

theorem keeps_wf_physRead (pa n : Nat) : Keeps State.wf (physRead pa n) := by
  unfold physRead
  refine keeps_wf_get _ fun s => ?_
  refine keeps_bind _ _ _ (keeps_wf_physCheck _ _ _ _) fun c => ?_
  cases c
  · rw [if_neg Bool.false_ne_true]
    exact keeps_bind _ _ _ (keeps_wf_loadBytes _ _) fun _ => keeps_pure _ _
  · rw [if_pos rfl]
    generalize busAddr s pa - Config.apicPage = off
    exact keeps_bind _ _ _ (keeps_wf_apicLoad off) fun _ => keeps_pure _ _

theorem keeps_wf_physWrite (pa n v : Nat) (pcd pwt lk : Bool) : Keeps State.wf (physWrite pa n v pcd pwt lk) := by
  unfold physWrite
  refine keeps_wf_get _ fun s => ?_
  refine keeps_bind _ _ _ (keeps_wf_physCheck _ _ _ _) fun c => ?_
  cases c
  · rw [if_neg Bool.false_ne_true]
    exact keeps_wf_storeBytes _ _ _
  · rw [if_pos rfl]
    exact keeps_wf_apicStore _ _

theorem keeps_wf_setAccessed {a n e : Nat} {pcd pwt : Bool} : Keeps State.wf (setAccessed a n e pcd pwt) :=
  keeps_ite _ _ _ _ (keeps_pure _ _) (keeps_wf_physWrite _ _ _ _ _ _)

theorem keeps_wf_setAccessedDirty {a n e : Nat} {w pcd pwt : Bool} : Keeps State.wf (setAccessedDirty a n e w pcd pwt) :=
  keeps_ite _ _ _ _ (keeps_pure _ _) (keeps_wf_physWrite _ _ _ _ _ _)

theorem keeps_wf_addTlb (t : TlbEntry) : Keeps State.wf (addTlb t) :=
  keeps_wf_modify _ fun s => by split <;> rfl

theorem keeps_wf_raisePF {α : Type} {la : Word} {p w u r : Bool} : Keeps State.wf (raisePF la p w u r : M α) :=
  keeps_wf_throw _

theorem keeps_wf_useLarge {la : Word} {w u : Bool} {a n e size frame rsvd : Nat} {pcd pwt : Bool} :
    Keeps State.wf (useLarge la w u a n e size frame rsvd pcd pwt) :=
  keeps_wf_get _ fun _ => keeps_ite _ _ _ _ (keeps_wf_raisePF) (keeps_ite _ _ _ _ (keeps_wf_raisePF)
    (keeps_bind _ _ _ (keeps_wf_setAccessedDirty) fun _ => keeps_bind _ _ _ (keeps_wf_addTlb _) fun _ => keeps_pure _ _))

theorem keeps_wf_useTable {la : Word} {w u : Bool} {da n pde ta rsvd : Nat} {pcd pwt : Bool} :
    Keeps State.wf (useTable la w u da n pde ta rsvd pcd pwt) := by
  refine keeps_bind _ _ _ (keeps_wf_physRead _ _) fun pte => keeps_wf_get _ fun s => ?_
  have hd : Keeps State.wf (setAccessed da n pde pcd pwt) := keeps_wf_setAccessed
  dsimp only
  refine keeps_ite _ _ _ _ (keeps_bind _ _ _ hd fun _ => keeps_wf_raisePF) (keeps_ite _ _ _ _
    (keeps_bind _ _ _ hd fun _ => keeps_wf_raisePF) (keeps_ite _ _ _ _ (keeps_bind _ _ _ hd fun _ =>
      keeps_bind _ _ _ (keeps_wf_whenM _ (keeps_wf_setAccessed)) fun _ => keeps_wf_raisePF) ?_))
  exact keeps_bind _ _ _ hd fun _ => keeps_bind _ _ _ (keeps_wf_setAccessedDirty) fun _ =>
    keeps_bind _ _ _ (keeps_wf_addTlb _) fun _ => keeps_pure _ _

theorem keeps_wf_walk32 {la : Word} {w u : Bool} : Keeps State.wf (walk32 la w u) :=
  keeps_wf_get _ fun _ => keeps_bind _ _ _ (keeps_wf_physRead _ _) fun _ => keeps_ite _ _ _ _ (keeps_wf_raisePF)
    (keeps_ite _ _ _ _ (keeps_wf_useLarge) (keeps_wf_useTable))

theorem keeps_wf_walk64 {la : Word} {w u : Bool} : Keeps State.wf (walk64 la w u) :=
  keeps_wf_get _ fun _ => keeps_ite _ _ _ _ (keeps_wf_raisePF) (keeps_bind _ _ _ (keeps_wf_physRead _ _) fun _ =>
    keeps_ite _ _ _ _ (keeps_wf_raisePF) (keeps_ite _ _ _ _ (keeps_wf_raisePF)
      (keeps_ite _ _ _ _ (keeps_wf_useLarge) (keeps_wf_useTable))))

theorem keeps_wf_walk {la : Word} {w u : Bool} : Keeps State.wf (walk la w u) :=
  keeps_wf_get _ fun _ => keeps_ite _ _ _ _ (keeps_wf_walk64) (keeps_wf_walk32)

theorem keeps_wf_chooseTlb (la : Word) (l : List TlbEntry) : Keeps State.wf (chooseTlb la l) := by
  induction l with
  | nil => exact keeps_pure _ _
  | cons t l ih =>
    refine keeps_ite _ _ _ _ (keeps_get_bind _ _ fun s h => ?_) ih
    simp only [run_bind, run_set]
    exact keeps_ite _ _ _ _ (keeps_pure _ _) ih _ h

theorem keeps_wf_useHeld {t : TlbEntry} {la : Word} {w u : Bool} : Keeps State.wf (useHeld t la w u) :=
  keeps_ite _ _ _ _ (keeps_bind _ _ _ (keeps_wf_physRead _ _) fun _ => keeps_ite _ _ _ _
    (keeps_bind _ _ _ (keeps_wf_setAccessedDirty) fun _ => keeps_bind _ _ _ (keeps_wf_modify _ fun _ => rfl)
      fun _ => keeps_pure _ _) (keeps_wf_walk)) (keeps_pure _ _)

/-- A translation sets flags in the tables and keeps memory canonical. -/
theorem keeps_wf_translate (la : Word) (w u : Bool) : Keeps State.wf (translate la w u) := by
  refine keeps_wf_get _ fun s => keeps_ite _ _ _ _ (keeps_pure _ _)
    (keeps_bind _ _ _ (keeps_wf_chooseTlb _ _) fun c => ?_)
  cases c with
  | none => exact keeps_bind _ _ _ (keeps_wf_walk) fun _ => keeps_pure _ _
  | some t =>
    exact keeps_ite _ _ _ _ (keeps_wf_raisePF)
      (keeps_bind _ _ _ (keeps_wf_useHeld) fun _ => keeps_pure _ _)

theorem wf_speculateAt {s : State} (la : Word) (h : s.wf) : (s.speculateAt la).wf := by
  unfold State.speculateAt
  split
  · have hw := keeps_wf_walk (la := la) (w := false) (u := false) s h
    split
    · next e t he =>
      rw [he] at hw
      split
      · exact hw
      · exact h
    · exact h
  · exact h

theorem wf_speculate {s : State} (h : s.wf) : s.speculate.wf := by
  unfold State.speculate
  split
  · suffices hs : ∀ (l : List Word) (t : State), t.wf → (l.foldl State.speculateAt t).wf from hs _ _ h
    intro l
    induction l with
    | nil => exact fun _ ht => ht
    | cons a l ih => exact fun t ht => ih _ (wf_speculateAt a ht)
  · exact h

theorem keeps_wf_gap : Keeps State.wf gap := keeps_modify _ _ fun _ h => wf_speculate (wf_othersWrite h)

theorem keeps_wf_loseLines (keep : Bool) (old : List StaleByte) : Keeps State.wf (loseLines keep old) := by
  induction old with
  | nil => exact keeps_pure _ _
  | cons c old ih =>
    rw [loseLines]
    by_cases hk : (keep && !c.split) = true
    · rw [if_pos hk]; exact ih
    · rw [if_neg hk]
      refine keeps_bind _ _ _ (keeps_drawBool _ fun _ h => h) fun lost => keeps_bind _ _ _ ?_ fun _ => ih
      cases lost
      · exact keeps_pure _ _
      · exact keeps_modify _ _ fun _ h => wf_memWrite h

theorem keeps_wf_emptyCaches (keep : Bool) : Keeps State.wf (emptyCaches keep) :=
  keeps_get_bind _ _ fun s h =>
    keeps_bind State.wf _ _ (keeps_wf_loseLines keep s.stale)
      (fun _ => keeps_modify _ (fun t => { t with stale := [], cached := false }) fun _ h => h) s h

theorem keeps_wf_dropCaches : Keeps State.wf dropCaches := keeps_wf_emptyCaches false
theorem keeps_wf_writeBackCaches : Keeps State.wf writeBackCaches := keeps_wf_emptyCaches true

theorem wf_settleByte {s : State} (c : StaleByte) (h : s.wf) : (s.settleByte c).wf := by
  show Memory.wf (s.settleByte c).mem = true
  unfold State.settleByte
  split
  · exact wf_memWrite h
  · exact h

theorem wf_settleLines {s : State} (h : s.wf) : s.settleLines.wf := by
  unfold State.settleLines
  split
  · exact h
  · suffices hs : ∀ (l : List StaleByte) (t : State), t.wf → (l.foldl State.settleByte t).wf from hs _ _ h
    intro l
    induction l with
    | nil => exact fun _ ht => ht
    | cons c l ih => exact fun t ht => ih _ (wf_settleByte c ht)

theorem wf_background {s : State} (h : s.wf) : s.background.wf := wf_speculate (wf_settleLines h)

theorem wf_prelude {s : State} (h : s.wf) : s.prelude.wf := by
  unfold State.prelude
  split
  · exact h
  · exact wf_background (s := s.tick) h

theorem keeps_wf_shuffle {α : Type} (n : Nat) (l : List α) : Keeps State.wf (shuffle n l) := by
  induction n generalizing l with
  | zero => exact keeps_pure _ _
  | succ n ih =>
    exact keeps_bind _ _ _ (fun _ h => h) fun _ => keeps_bind _ _ _ (ih _) fun _ => keeps_pure _ _

theorem keeps_wf_loadParted {between : M Unit} (hb : Keeps State.wf between) (l : List (Nat × Nat)) :
    Keeps State.wf (loadParted between l) := by
  induction l with
  | nil => exact keeps_pure _ _
  | cons c l ih =>
    exact keeps_bind _ _ _ hb fun _ => keeps_bind _ _ _ (keeps_wf_loadByte _) fun _ =>
      keeps_bind _ _ _ ih fun _ => keeps_pure _ _

/-- Reading bytes in a free order keeps memory canonical. -/
theorem keeps_wf_loadFree {between : M Unit} (hb : Keeps State.wf between) (ps : List Span) :
    Keeps State.wf (loadFree between ps) :=
  keeps_bind _ _ _ (keeps_wf_shuffle _ _) fun _ => keeps_bind _ _ _ (keeps_wf_loadParted hb _) fun _ => keeps_pure _ _

theorem keeps_wf_storeParted {between : M Unit} (hb : Keeps State.wf between) (l : List ((Nat × Bool) × Byte)) :
    Keeps State.wf (storeParted between l) := by
  induction l with
  | nil => exact keeps_pure _ _
  | cons c l ih =>
    exact keeps_bind _ _ _ hb fun _ => keeps_bind _ _ _ (keeps_wf_storeByte _ _ _) fun _ => ih

/-- Writing bytes in a free order keeps memory canonical. -/
theorem keeps_wf_storeFree {between : M Unit} (hb : Keeps State.wf between) (ps : List Span) (bs : List Byte) :
    Keeps State.wf (storeFree between ps bs) :=
  keeps_bind _ _ _ (keeps_wf_shuffle _ _) fun _ => keeps_wf_storeParted hb _

theorem keeps_wf_readPdpteList (base : Nat) (l : List Nat) : Keeps State.wf (readPdpteList base l) := by
  induction l with
  | nil => exact keeps_pure _ _
  | cons k l ih =>
    exact keeps_bind _ _ _ keeps_wf_othersGap fun _ => keeps_bind _ _ _ (keeps_wf_physRead _ _) fun _ =>
      keeps_bind _ _ _ ih fun _ => keeps_pure _ _

/-- Reading the page-directory-pointer table keeps memory canonical. -/
theorem keeps_wf_readPdptes : Keeps State.wf readPdptes :=
  keeps_bind _ _ _ (keeps_wf_get _ fun _ => keeps_ite _ _ _ _ (keeps_pure _ _) (keeps_wf_shuffle _ _)) fun _ =>
    keeps_wf_get _ fun _ => keeps_bind _ _ _ (keeps_wf_readPdpteList _ _) fun _ => keeps_pure _ _

theorem keeps_wf_loadPdptes : Keeps State.wf loadPdptes :=
  keeps_bind _ _ _ keeps_wf_readPdptes fun _ => keeps_ite _ _ _ _ (keeps_wf_throw _) (keeps_wf_modify _ fun _ => rfl)

theorem wf_placeBytes {s : State} (la : Word) (bs : List Byte) (h : s.wf) : (s.placeBytes la bs).wf := by
  induction bs generalizing s la with
  | nil => exact h
  | cons b bs ih => exact ih _ (wf_memWrite h)

theorem wf_rollback {s0 s1 : State} (e : Exc) (h : s1.wf) : (rollback s0 s1 e).wf := by
  show Memory.wf (rollback s0 s1 e).mem = true
  unfold rollback
  cases e.keep <;> exact h

end Sys2Proof.Machine
end

