-- ==== Sys2Proof/Tests/Slice0.lean ====
section
/-! SUPPORT. Tests: what WellFormed refuses, words decoded, single steps, and a witness of the hypotheses of each
statement. Expected results are worked by hand from the spec's encodings and rules. -/
namespace Sys2Proof.Tests
open Sys2Proof Sys2Proof.Machine Host
set_option maxRecDepth 20000
set_option Elab.async false

/-- The bootstrap processor after the boot protocol, with a stack and small numbers in the registers. -/
def real : State :=
  { State.reset.bootWon with gpr := ⟨0x105#32, 1#32, 0x60#32, 0x200#32, 0x8000#32, 0x300#32, 0x400#32, 0x500#32⟩ }

/-- A flat 32-bit segment. -/
def flat (sel : Half) (ty : BitVec 4) (dpl : BitVec 2) : Seg :=
  { sel := sel, base := 0, limit := 0xFFFFFFFF#32, type := ty, s := true, dpl := dpl, p := true, db := true, g := true,
    avl := false, valid := true }

/-- A GDT at 1000H (8: code, 10H: data, 18H: LDT, 20H: available TSS, 28H: data not present, 30H: data not accessed,
38H: code not readable), IDT gates at 2000H (3, 6 and 21H of DPL 3, 0DH of DPL 0), a pointer at 500H. -/
def tables : List Cell :=
  let put := fun (m : List Cell) (x : Nat × Nat) => memWriteList m x.1 (leBytes 8 x.2)
  [(0x1008, 0x00CF9B000000FFFF), (0x1010, 0x00CF93000000FFFF), (0x1018, 0x0000820030000067),
   (0x1020, 0x0000890031000067), (0x1028, 0x00CF13000000FFFF), (0x1030, 0x00CF92000000FFFF),
   (0x1038, 0x00CF98000000FFFF), (0x2018, 0x0000EE0000081234), (0x2030, 0x0000EF0000081234),
   (0x2068, 0x00008E0000081234), (0x2108, 0x0000EE0000081234), (0x500, 0x0000000800001234)].foldl put []

/-- Protected mode at level 0, flat 32-bit segments. -/
def prot : State :=
  { real with
    mem := tables
    sys := { real.sys with cr0 := 0x11#32, gdtr := ⟨0x1000#32, 0xFF#16⟩, idtr := ⟨0x2000#32, 0x7FF#16⟩ }
    seg := ⟨flat 0x10#16 3 0, flat 8#16 0xB 0, flat 0x10#16 3 0, flat 0x10#16 3 0, flat 0x10#16 3 0, flat 0x10#16 3 0⟩ }

/-- Protected mode at level 3. -/
def user : State :=
  { prot with
    cpl := 3
    seg := ⟨flat 0x13#16 3 3, flat 0xB#16 0xB 3, flat 0x13#16 3 3, flat 0x13#16 3 3, flat 0x13#16 3 3, flat 0x13#16 3 3⟩ }

/-- Virtual-8086 mode with IOPL 0. -/
def v86 : State :=
  { prot with
    cpl := 3, eflags := 0x20002#32
    seg := ⟨Seg.v86 0, Seg.v86 0, Seg.v86 0, Seg.v86 0, Seg.v86 0, Seg.v86 0⟩ }

/-- An operand at 500H. -/
def m16 : Ea := .abs16 0x500#16
/-- The same in 32-bit code. -/
def m32 : Ea := .abs32 0x500#32

theorem real_ready : real.ready := ⟨by decide, rfl⟩
theorem prot_ready : prot.ready := ⟨by decide +kernel, rfl⟩
theorem user_ready : user.ready := ⟨prot_ready.1, rfl⟩
theorem v86_ready : v86.ready := ⟨prot_ready.1, rfl⟩

/-! Witnesses: concrete states and operands that meet the hypotheses of the statements, clause by clause. -/

theorem witness_AluBytes : aluIns8 .add (.ebIb (.mem m16) 0xFF#8) = some (.addEbIb (.mem m16) 0xFF#8) ∧ real.ready ∧
    real.lockOk true = true ∧ real.can (.mem m16 : Rm8) 1 .write = true ∧
    (Form8.ebIb (.mem m16) 0xFF#8).srcOk real = true := ⟨rfl, real_ready, by decide +kernel⟩

theorem witness_AluWords : aluInsV .cmp (.gvEv .eax (.mem m32)) = some (.cmpGvEv .eax (.mem m32)) ∧ prot.ready ∧
    prot.lockOk false = true ∧ prot.can (.reg .eax : Rm) (bytes prot.o32) .read = true ∧
    (FormV.gvEv .eax (.mem m32)).srcOk prot (bits prot.o32) = true := ⟨rfl, prot_ready, by decide +kernel⟩

theorem witness_Unary : real.ready ∧ real.lockOk true = true ∧ real.can (.mem m16 : Rm8) 1 .write = true ∧
    real.can (.mem m16 : Rm) (bytes real.o32) .write = true ∧ real.lockOk false = true :=
  ⟨real_ready, by decide +kernel⟩

theorem witness_Unary_short : (Instr.incRv .edi = .incRv .edi ∧ Alu1.inc = .inc ∨ Instr.incRv .edi = .decRv .edi ∧ Alu1.inc = .dec) ∧
    real.ready ∧ real.lockOk false = true := ⟨.inl ⟨rfl, rfl⟩, real_ready, rfl⟩

theorem witness_Shifts : real.ready ∧ real.lockOk false = true ∧ real.can (.mem m16 : Rm8) 1 .write = true ∧
    real.can (.mem m16 : Rm) (bytes real.o32) .write = true ∧
    doubleIns true (.ib 31#8) (.mem m16) .ecx = some (.shldEvGvIb (.mem m16) .ecx 31#8) :=
  ⟨real_ready, by decide +kernel, by decide +kernel, by decide +kernel, rfl⟩

theorem witness_Multiply : real.ready ∧ real.lockOk false = true ∧ real.can (.mem m16 : Rm8) 1 .read = true ∧
    real.can (.mem m16 : Rm) (bytes real.o32) .read = true := ⟨real_ready, by decide +kernel⟩

theorem witness_Multiply_to : (Instr.imulGvEvIb .eax (.mem m16) 0x80#8 = .imulGvEvIb .eax (.mem m16) 0x80#8 ∧
    (0x80#8).signExtend (bits real.o32) = (0x80#8).signExtend (bits real.o32)) ∧ real.ready ∧ real.lockOk false = true ∧
    real.can (.mem m16 : Rm) (bytes real.o32) .read = true := ⟨⟨rfl, rfl⟩, real_ready, by decide +kernel⟩

/-- 105H by 2 is 82H, rest 1; the most negative quotient of a byte, -80H, is allowed. -/
theorem witness_Divide : real.ready ∧ real.lockOk false = true ∧ real.can (.reg .bh : Rm8) 1 .read = true ∧
    real.val8 (.reg .bh) ≠ 0 ∧ tooWide false 8 (quotient false (real.dividend 8) (real.val8 (.reg .bh))).1 = false ∧
    tooWide true 8 (-128) = false ∧ tooWide true 8 128 = true :=
  ⟨real_ready, by decide +kernel⟩

theorem witness_Divide_words : real.ready ∧ real.lockOk false = true ∧
    real.can (.reg .ebx : Rm) (bytes real.o32) .read = true ∧ real.val (bits real.o32) (.reg .ebx) ≠ 0 ∧
    tooWide true (bits real.o32)
      (quotient true (real.dividend (bits real.o32)) (real.val (bits real.o32) (.reg .ebx))).1 = false :=
  ⟨real_ready, by decide +kernel⟩

theorem witness_DivideError : real.lockOk false = true ∧ real.can (.reg .bl : Rm8) 1 .read = true ∧
    real.val8 (.reg .bl) = 0 ∧ real.can (.reg .ecx : Rm) (bytes real.o32) .read = true ∧
    tooWide false (bits real.o32)
      (quotient false (real.dividend (bits real.o32)) (real.val (bits real.o32) (.reg .ecx))).1 = true := by
  decide +kernel

theorem witness_Decimal : real.ready ∧ real.lockOk false = true ∧ (1#8) ≠ 0 := ⟨real_ready, by decide⟩

theorem witness_Moves : real.ready ∧ real.lockOk false = true ∧ (Mov8.ebGb (.mem m16) .ah).srcOk real = true ∧
    real.can ((Mov8.ebGb (.mem m16) .ah).dst real) 1 .write = true ∧
    (MovV.gvEv .esp (.mem m16)).srcOk real (bytes real.o32) = true ∧
    real.can ((MovV.gvEv .esp (.mem m16)).dst real) (bytes real.o32) .write = true := ⟨real_ready, by decide +kernel⟩

theorem witness_Conversions : real.ready ∧ real.lockOk false = true ∧ real.can (.mem m16 : Rm8) 1 .read = true ∧
    real.can (.mem m16 : Rm) 2 .read = true ∧
    real.reaches (real.segOr .ds) (cutAddr real.a32 (real.r32 .ebx + zx32 (real.r8 .al))) 1 1 .read = true :=
  ⟨real_ready, by decide +kernel⟩

theorem witness_Exchanges : real.ready ∧ real.lockOk true = true ∧ real.lockOk false = true ∧
    real.can (.mem m16 : Rm8) 1 .write = true ∧ real.can (.mem m16 : Rm) (bytes real.o32) .write = true :=
  ⟨real_ready, by decide +kernel⟩

theorem witness_CompareExchange : real.ready ∧ real.lockOk true = true ∧ real.can (.mem m16 : Rm8) 1 .write = true ∧
    real.can (.mem m16 : Rm) (bytes real.o32) .write = true ∧ real.can (.mem m16 : Rm) 8 .write = true :=
  ⟨real_ready, by decide +kernel⟩

theorem witness_Conditional : real.ready ∧ real.lockOk false = true ∧ real.can (.mem m16 : Rm8) 1 .write = true ∧
    real.can (.mem m16 : Rm) (bytes real.o32) .read = true := ⟨real_ready, by decide +kernel⟩

/-- The index FFFFH selects a bit of the word below the operand. -/
theorem witness_BitTests : real.ready ∧ real.lockOk true = true ∧ real.lockOk false = true ∧
    real.can (.mem m16 : Rm) (bytes real.o32) .write = true ∧ real.can (.mem m16 : Rm) (bytes real.o32) .read = true ∧
    real.reaches (eaSeg real m16) (eaPlus real m16 (BitVec.ofInt 32 (-1))) 2 2 .write = true :=
  ⟨real_ready, by decide +kernel⟩

theorem witness_FlagMoves : real.ready ∧ real.lockOk false = true ∧ iflagTarget real = some 9 ∧
    iflagTarget { v86 with sys := { v86.sys with cr4 := 1#32 } } = some 19 ∧
    iflagTarget { v86 with sys := { v86.sys with cr4 := 1#32 }, eflags := 0x120002#32 } = some 19 ∧
    State.flag { v86 with sys := { v86.sys with cr4 := 1#32 }, eflags := 0x120002#32 } fVIP = true ∧
    iflagTarget user = none ∧ v86.flag fVIP = false ∧ user.lockOk false = true :=
  ⟨real_ready, by decide +kernel⟩

theorem witness_Pushes : real.ready ∧ real.lockOk false = true ∧ real.canPush (bytes real.o32) = true ∧
    real.can (.mem m16 : Rm) (bytes real.o32) .read = true := ⟨real_ready, by decide +kernel⟩

theorem witness_Pops : real.ready ∧ real.lockOk false = true ∧ real.canPop 0 (bytes real.o32) = true ∧
    (real.setSp (real.popOff (bytes real.o32))).can (.mem m16 : Rm) (bytes real.o32) .write = true :=
  ⟨real_ready, by decide +kernel⟩

theorem witness_PushPopAll : real.ready ∧ real.lockOk false = true ∧ canPushAll (bytes real.o32) 8 real = true ∧
    ∀ k < 8, real.canPop (bytes real.o32 * k) (bytes real.o32) = true := ⟨real_ready, by decide +kernel⟩

theorem witness_Frames : real.ready ∧ real.lockOk false = true ∧ canPushAll 2 (2 + 1) real = true ∧
    canReadFrames real 2 (2 - 1) = true ∧
    real.reaches .ss (real.seg.ss.cutSp (real.sp - BitVec.ofNat 32 (2 * (2 + 1)) - zx32 (0x10#16))) 2 1 .write = true ∧
    bytes real.o32 = 2 ∧ (real.setSp (real.r32 .ebp)).canPop 0 (bytes real.o32) = true :=
  ⟨real_ready, by decide +kernel⟩

theorem witness_FlagStack : real.ready ∧ real.lockOk false = true ∧ pushfValue real = some 2 ∧
    real.canPush (bytes real.o32) = true ∧ pushfValue v86 = none ∧ v86.lockOk false = true ∧
    real.canPop 0 (bytes real.o32) = true ∧ (real.prot && real.flag fVM && decide (real.iopl ≠ 3)) = false :=
  ⟨real_ready, by decide +kernel⟩

/-- Virtual-8086 mode with CR4.VME. -/
def vme : State := { v86 with sys := { v86.sys with cr4 := 1#32 } }

theorem witness_FlagStack_vme : vme.ready ∧ vme.lockOk false = true ∧ vme.canPop 0 2 = true ∧
    (vme.prot && vme.flag fVM && decide (vme.iopl ≠ 3)) = true ∧ bit vme.sys.cr4 0 = true ∧ vme.o32 = false ∧
    bit (BitVec.ofNat 32 (vme.item 0 2)) fTF = false ∧ (bit (BitVec.ofNat 32 (vme.item 0 2)) fIF && vme.flag fVIP) = false :=
  ⟨⟨prot_ready.1, rfl⟩, by decide +kernel⟩

/-- The state with another EAX. -/
def eax (s : State) (v : Word) : State := s.setR32 .eax v

theorem eax_ready {s : State} {v : Word} (h : s.ready) : (eax s v).ready := h

theorem witness_SegmentLoads : (eax prot 0x30#32).ready ∧ (eax prot 0x30#32).lockOk false = true ∧ SegReg.ds ≠ .cs ∧
    (eax prot 0x30#32).can (.reg .eax : Rm) 2 .read = true ∧
    (eax prot 0x30#32).segLoad .ds ((eax prot 0x30#32).val 16 (.reg .eax)) =
      some (Seg.ofDesc 0x30#16 0x00CF92000000FFFF#64, some 0x1035) := ⟨eax_ready prot_ready, by decide +kernel⟩

theorem witness_SegmentLoads_pop : real.ready ∧ real.lockOk false = true ∧ popSegIns .ss = some .popSs ∧
    real.canPop 0 (bytes real.o32) = true ∧
    real.segLoad .ss (BitVec.ofNat 16 (real.item 0 (bytes real.o32))) = some (real.seg.ss.real 0, none) :=
  ⟨real_ready, rfl, rfl, by decide +kernel⟩

theorem witness_SegmentLoads_far : prot.ready ∧ prot.lockOk false = true ∧
    farLoadIns .ebx m32 .es = some (.lesGvMp .ebx m32) ∧ prot.reaches (eaSeg prot m32) (eaPlus prot m32 0) 4 4 .read = true ∧
    eaFits prot m32 4 = true ∧
    prot.reaches (eaSeg prot m32) (eaPlus prot m32 4) 2 2 .read = true ∧
    prot.segLoad .es (BitVec.ofNat 16 (prot.num (prot.lin (eaSeg prot m32) (eaPlus prot m32 4)) 2)) =
      some (Seg.ofDesc 8#16 0x00CF9B000000FFFF#64, none) := ⟨prot_ready, rfl, rfl, by decide +kernel⟩

/-- A null selector, one outside its table, a wrong RPL, and not present segments. -/
theorem witness_SegmentLoads_faults : prot.lockOk false = true ∧ SegReg.ss ≠ .cs ∧
    (eax prot 3#32).can (.reg .eax : Rm) 2 .read = true ∧ prot.prot = true ∧ prot.flag fVM = false ∧
    isNull ((eax prot 3#32).val 16 (.reg .eax)) = true ∧ (eax prot 0x100#32).descAddr 0x100#16 = none ∧
    isNull 0x100#16 = false ∧ prot.descriptor 0x13#16 = some (0x1010, 0x00CF93000000FFFF#64) ∧
    rpl 0x13#16 ≠ prot.cpl ∧ prot.descriptor 0x28#16 = some (0x1028, 0x00CF13000000FFFF#64) ∧
    stackLoadable 0x28#16 (0x00CF13000000FFFF#64 ||| 0x800000000000#64) prot.cpl = true ∧
    dataLoadable 0x28#16 (0x00CF13000000FFFF#64 ||| 0x800000000000#64) prot.cpl = true ∧
    descP 0x00CF13000000FFFF#64 = false ∧ prot.descriptor 0x38#16 = some (0x1038, 0x00CF98000000FFFF#64) ∧
    dataLoadable 0x38#16 (0x00CF98000000FFFF#64 ||| 0x800000000000#64) prot.cpl = false := by decide +kernel

theorem witness_SegmentStores : real.ready ∧ real.lockOk false = true ∧ real.can (.mem m16 : Rm) 2 .write = true :=
  ⟨real_ready, by decide +kernel⟩

theorem witness_Strings : real.ready ∧ real.lockOk false = true ∧ real.ins.rep = none ∧
    strOk .movs (real.strBits false) real = true ∧ strOk .ins (real.strBits true) real = true ∧
    strOk .cmps (real.strBits true) real = true := ⟨real_ready, by decide +kernel⟩

/-- The last iteration of a repetition: eCX is 1. -/
def rep1 : State := { real with ins := { Ins.clear with rep := some .ne } }

theorem witness_RepeatedStrings : rep1.ready ∧ rep1.lockOk false = true ∧ rep1.ins.rep = some .ne ∧ rep1.aReg .ecx ≠ 0 ∧
    strOk .scas (rep1.strBits true) rep1 = true ∧ State.aReg (rep1.setR32 .ecx 0x10000#32) .ecx = 0 :=
  ⟨real_ready, by decide +kernel⟩

theorem witness_PortAccess : real.ready ∧ real.lockOk false = true ∧
    real.ioAllowed 0xFF (real.strBits true / 8) = true ∧ real.ioAllowed (real.r16 .edx).toNat (real.strBits false / 8) = true ∧
    user.ioAllowed 0x60 1 = true ∧ user.lockOk false = true ∧
    State.ioDenied { user with sys := { user.sys with tr := { user.sys.tr with limit := 102 } } } 0x60 1 = true :=
  ⟨real_ready, by decide +kernel⟩

/-- A jump to the last byte of the segment, FFFFH. -/
theorem witness_NearBranches : real.ready ∧ real.lockOk false = true ∧ real.noLbr = true ∧
    ((BranchForm.jb 0x0F#8).branch real).taken = true ∧ real.nearOk ((BranchForm.jb 0x0F#8).branch real).target = true ∧
    real.can (.mem m16 : Rm) (bytes real.o32) .read = true ∧
    real.nearOk ((real.val (bits real.o32) (.mem m16)).setWidth 32) = true := ⟨real_ready, by decide +kernel⟩

/-- A segment that ends before the first byte of the instructions there. -/
def short : State := { real with seg := { real.seg with cs := { real.seg.cs with limit := 0x1FF#32 } } }

theorem witness_NearBranches_limit : short.lockOk false = true ∧ ((BranchForm.jb 0#8).branch short).taken = true ∧
    short.nearOk ((BranchForm.jb 0#8).branch short).target = false ∧ short.nearOk (short.nextEip + 0#32) = false ∧
    short.can (.reg .ebx : Rm) (bytes short.o32) .read = true ∧
    short.nearOk ((short.val (bits short.o32) (.reg .ebx)).setWidth 32) = false := by decide +kernel

theorem witness_NearCalls : real.ready ∧ real.lockOk false = true ∧ real.noLbr = true ∧
    real.canPush (bytes real.o32) = true ∧ real.nearOk (real.nextEip + 0xF#32) = true ∧
    real.can (.mem m16 : Rm) (bytes real.o32) .read = true ∧
    real.nearOk ((real.val (bits real.o32) (.mem m16)).setWidth 32) = true ∧ real.canPop 0 (bytes real.o32) = true ∧
    real.nearOk (BitVec.ofNat 32 (real.item 0 (bytes real.o32))) = true := ⟨real_ready, by decide +kernel⟩

theorem witness_FarTransfers : real.ready ∧ real.lockOk false = true ∧ real.noLbr = true ∧ real.mode8086 = true ∧
    (FarForm.ep m16).ok real = true ∧ real.nearOk ((FarForm.ep m16).off real) = true ∧
    canPushAll (bytes real.o32) 2 real = true := ⟨real_ready, by decide +kernel⟩

theorem witness_FarTransfers_prot : prot.ready ∧ prot.lockOk false = true ∧ prot.noLbr = true ∧ prot.mode8086 = false ∧
    (FarForm.ep m32).ok prot = true ∧
    prot.codeTarget ((FarForm.ep m32).sel prot) ((FarForm.ep m32).off prot) = some (0x1008, 0x00CF9B000000FFFF#64) ∧
    canPushAll (bytes prot.o32) 2 prot = true := ⟨prot_ready, by decide +kernel⟩

/-- The stack holds the offset 1234H, the selector 8 and zeros. -/
def back : State := prot.setR32 .esp 0x500#32

theorem witness_FarReturns : real.ready ∧ real.lockOk false = true ∧ real.noLbr = true ∧ real.canPop 0 2 = true ∧
    real.canPop 2 2 = true ∧ real.mode8086 = true ∧ real.nearOk (real.cutTarget (BitVec.ofNat 32 (real.item 0 2))) = true :=
  ⟨real_ready, by decide +kernel⟩

theorem witness_FarReturns_prot : back.ready ∧ back.lockOk false = true ∧ back.noLbr = true ∧ back.canPop 0 4 = true ∧
    back.canPop 4 4 = true ∧ back.mode8086 = false ∧ isNull (BitVec.ofNat 16 (back.item 4 4)) = false ∧
    back.descriptor (BitVec.ofNat 16 (back.item 4 4)) = some (0x1008, 0x00CF9B000000FFFF#64) ∧
    descCode 0x00CF9B000000FFFF#64 = true ∧ rpl (BitVec.ofNat 16 (back.item 4 4)) = back.cpl ∧
    descConforming 0x00CF9B000000FFFF#64 = false ∧ descDpl 0x00CF9B000000FFFF#64 = rpl (BitVec.ofNat 16 (back.item 4 4)) ∧
    descP 0x00CF9B000000FFFF#64 = true ∧
    (back.cutTarget (BitVec.ofNat 32 (back.item 0 4))).toNat ≤ (descLimit 0x00CF9B000000FFFF#64).toNat :=
  ⟨prot_ready, by decide +kernel⟩

theorem witness_InterruptReturns : real.ready ∧ real.lockOk false = true ∧ real.noLbr = true ∧ real.canPop 0 2 = true ∧
    real.canPop 2 2 = true ∧ real.canPop (2 * 2) 2 = true ∧ real.prot = false ∧
    (real.cutTarget (BitVec.ofNat 32 (real.item 0 2))).toNat ≤ real.seg.cs.limit.toNat ∧
    real.barred (BitVec.ofNat 16 (real.item 2 2)) (real.cutTarget (BitVec.ofNat 32 (real.item 0 2))) = false := ⟨real_ready, by decide +kernel⟩

/-- A machine check without a valid restart address has left its frame at the top of the stack. -/
def checked8000 : State := { real with noReturn := [{ esp := 0x8000#32, cs := 0#16, eip := 0#32, cr3 := 0#32 }] }

theorem witness_InterruptReturns_stop : checked8000.ready ∧ checked8000.lockOk false = true ∧ checked8000.noLbr = true ∧
    checked8000.canPop 0 2 = true ∧ checked8000.canPop 2 2 = true ∧ checked8000.canPop (2 * 2) 2 = true ∧
    checked8000.prot = false ∧ checked8000.barred (BitVec.ofNat 16 (checked8000.item 2 2))
      (checked8000.cutTarget (BitVec.ofNat 32 (checked8000.item 0 2))) = true := ⟨real_ready, by decide +kernel⟩

theorem witness_InterruptReturns_prot : back.ready ∧ back.lockOk false = true ∧ back.noLbr = true ∧
    back.canPop 0 4 = true ∧ back.canPop 4 4 = true ∧ back.canPop (2 * 4) 4 = true ∧ back.prot = true ∧
    back.flag fVM = false ∧ back.flag fNT = false ∧ bit (BitVec.ofNat 32 (back.item 8 4)) fVM = false ∧
    back.descriptor (BitVec.ofNat 16 (back.item 4 4)) = some (0x1008, 0x00CF9B000000FFFF#64) :=
  ⟨prot_ready, by decide +kernel⟩

/-- #UD as an instruction raises it. -/
def ud : Exc := { vec := 6, code := none, cr2 := none, dr6 := 0, keep := false }

theorem witness_RealExceptions : ud.keep = false ∧ ud.vec ≠ 1 ∧ Memory.wf real.mem = true ∧
    (rollback real real ud).prot = false ∧ (rollback real real ud).noLbr = true ∧
    (rollback real real ud).realVectorOk ud.vec = true := by decide +kernel

theorem witness_ProtectedExceptions : ud.keep = false ∧ ud.vec ≠ 1 ∧ Memory.wf prot.mem = true ∧
    (rollback prot prot ud).prot = true ∧ (rollback prot prot ud).flag fVM = false ∧
    (rollback prot prot ud).noLbr = true ∧ (rollback prot prot ud).gateOk ud.vec false = some 0x0000EF0000081234#64 ∧
    (rollback prot prot ud).handlerSame 0x0000EF0000081234#64 = some (0x1008, 0x00CF9B000000FFFF#64) ∧
    canPushAll (bytes (gateWide 0x0000EF0000081234#64)) 3 (rollback prot prot ud) = true := by decide +kernel

theorem soft21 (s : State) : IsSoftInt (.intIb 0x21#8) 0x21 s := .inl ⟨_, rfl, rfl⟩
theorem softD (s : State) : IsSoftInt (.intIb 0x0D#8) 0x0D s := .inl ⟨_, rfl, rfl⟩

theorem witness_SoftwareInterrupts : IsSoftInt (.intIb 0x21#8) 0x21 real ∧ real.ready ∧ real.lockOk false = true ∧
    real.noLbr = true ∧ real.prot = false ∧ real.after.realVectorOk 0x21 = true ∧ real.flag fOF = false :=
  ⟨soft21 _, real_ready, by decide +kernel⟩

theorem witness_SoftwareInterrupts_prot : IsSoftInt (.intIb 0x21#8) 0x21 prot ∧ prot.ready ∧ prot.lockOk false = true ∧
    prot.noLbr = true ∧ prot.prot = true ∧ prot.flag fVM = false ∧ prot.gateOk 0x21 true = some 0x0000EE0000081234#64 ∧
    prot.handlerSame 0x0000EE0000081234#64 = some (0x1008, 0x00CF9B000000FFFF#64) ∧
    canPushAll (bytes (gateWide 0x0000EE0000081234#64)) 3 prot = true := ⟨soft21 _, prot_ready, by decide +kernel⟩

theorem witness_GatePrivilege : IsSoftInt (.intIb 0x0D#8) 0x0D user ∧ user.lockOk false = true ∧ user.prot = true ∧
    user.flag fVM = false ∧ user.gateOk 0x0D false = some 0x00008E0000081234#64 ∧
    descDpl 0x00008E0000081234#64 < user.cpl := ⟨softD _, by decide +kernel⟩

/-- The bounds at 500H are 1234H and 8, or, in a state without them, 0 and 0. -/
theorem witness_Bounds : real.lockOk false = true ∧ real.reaches (eaSeg real m16) (eaPlus real m16 0) 2 2 .read = true ∧
    real.reaches (eaSeg real m16) (eaPlus real m16 2) 2 2 .read = true ∧ eaFits real m16 2 = true ∧ real.ready ∧ bytes real.o32 = 2 ∧
    (BitVec.ofNat 16 (real.num (real.lin (eaSeg real m16) (eaPlus real m16 2)) 2)).toInt < ((real.r32 .ecx).setWidth 16).toInt ∧
    (BitVec.ofNat 16 (real.num (real.lin (eaSeg real m16) (eaPlus real m16 0)) 2)).toInt ≤
      (((eax real 0).r32 .eax).setWidth 16).toInt ∧
    (((eax real 0).r32 .eax).setWidth 16).toInt ≤
      (BitVec.ofNat 16 (real.num (real.lin (eaSeg real m16) (eaPlus real m16 2)) 2)).toInt :=
  ⟨by decide +kernel, by decide +kernel, by decide +kernel, by decide +kernel, real_ready, by decide +kernel⟩

/-- An upper bound at the last offset but one of a 64-KByte segment lies beyond the limit. -/
theorem witness_Bounds_limit : real.reaches (eaSeg real (.abs16 0xFFFE#16)) (eaPlus real (.abs16 0xFFFE#16) 0) 2 2 .read = true ∧
    eaFits real (.abs16 0xFFFE#16) 2 = true ∧
    (real.seg.get (eaSeg real (.abs16 0xFFFE#16))).inLimit (eaPlus real (.abs16 0xFFFE#16) 2) 2 = false := by decide +kernel

/-- A data segment with base 1000H. -/
def shifted : State := { prot with seg := { prot.seg with ds := { flat 0x10#16 3 0 with base := 0x1000#32 } } }

/-- A pair whose lower bound ends at the last offset of all. -/
theorem witness_Bounds_wrap : shifted.lockOk false = true ∧ bytes shifted.o32 = 4 ∧
    shifted.reaches (eaSeg shifted (.abs32 0xFFFFFFFC#32)) (eaPlus shifted (.abs32 0xFFFFFFFC#32) 0) 4 4 .read = true ∧
    eaFits shifted (.abs32 0xFFFFFFFC#32) 4 = false := by decide +kernel

theorem witness_Privilege : IsPrivileged .hlt ∧ user.lockOk false = true ∧ user.privileged = false ∧ user.protMode = true ∧
    user.cpl ≠ 0 ∧ user.prot = true ∧ bit user.sys.cr4 8 = false ∧
    bit (Sys.cr4 { user.sys with cr4 := 4#32 }) 2 = true ∧ IsProtOnly (.strEw (.reg .eax)) ∧ real.lockOk false = true ∧
    real.protMode = false ∧ real.ready ∧ real.privileged = true ∧ real.r32 .ecx = 1 := ⟨.hlt, rfl, by decide, by decide, by decide, by decide, by decide, by decide, .str _, rfl, by decide, real_ready, rfl, rfl⟩

theorem witness_UndefinedOpcodes : IsUndefined .ud2 ∧ real.ready ∧ real.prot = false ∧ real.noLbr = true ∧
    real.realVectorOk 6 = true := ⟨.ud2, real_ready, by decide +kernel⟩

theorem witness_UndefinedOpcodes_prot : IsUndefined (.reserved0F24 7 .edi) ∧ prot.ready ∧ prot.prot = true ∧
    prot.flag fVM = false ∧ prot.noLbr = true ∧ prot.gateOk 6 false = some 0x0000EF0000081234#64 ∧
    prot.handlerSame 0x0000EF0000081234#64 = some (0x1008, 0x00CF9B000000FFFF#64) ∧
    canPushAll (bytes (gateWide 0x0000EF0000081234#64)) 3 prot = true := ⟨.fromTr _ _, prot_ready, by decide +kernel⟩

theorem witness_UndefinedOpcodes_unspecified : (Instr.reservedF1 = .reservedD6 ∨ Instr.reservedF1 = .reservedF1) ∧ real.ready ∧
    real.lockOk false = true := ⟨.inr rfl, real_ready, rfl⟩

theorem witness_DescriptorTables : real.ready ∧ real.lockOk false = true ∧ real.privileged = true ∧
    real.reaches (eaSeg real m16) (eaPlus real m16 0) 2 1 .read = true ∧ eaFits real m16 2 = true ∧
    real.reaches (eaSeg real m16) (eaPlus real m16 2) 4 1 .read = true ∧
    real.reaches (eaSeg real m16) (eaPlus real m16 0) 2 4 .write = true ∧
    real.reaches (eaSeg real m16) (eaPlus real m16 2) 4 1 .write = true := ⟨real_ready, by decide +kernel⟩

theorem witness_DescriptorTables_task : (eax prot 0x20#32).ready ∧ prot.lockOk false = true ∧ prot.protMode = true ∧
    prot.cpl = 0 ∧ prot.can (.reg .eax : Rm) 2 .read = true ∧ isNull ((eax prot 3#32).val 16 (.reg .eax)) = true ∧
    isNull ((eax prot 0x18#32).val 16 (.reg .eax)) = false ∧ bit ((eax prot 0x18#32).val 16 (.reg .eax)) 2 = false ∧
    prot.descriptor 0x18#16 = some (0x1018, 0x0000820030000067#64) ∧ descS 0x0000820030000067#64 = false ∧
    descType 0x0000820030000067#64 = 2 ∧ descP 0x0000820030000067#64 = true ∧
    prot.descriptor 0x20#16 = some (0x1020, 0x0000890031000067#64) ∧ descS 0x0000890031000067#64 = false ∧
    descType 0x0000890031000067#64 = 9 ∧ descP 0x0000890031000067#64 = true ∧
    prot.can (.mem m32 : Rm) 2 .write = true := ⟨prot_ready, by decide +kernel⟩

theorem witness_ControlRegisters_status : real.ready ∧ real.lockOk false = true ∧ real.privileged = true ∧
    real.can (.mem m16 : Rm) 2 .write = true ∧ real.can (.mem m16 : Rm) 2 .read = true := ⟨real_ready, by decide +kernel⟩

/-- Protected mode with 36-bit addresses, about to turn paging on. -/
def pae : State := eax { prot with sys := { prot.sys with cr4 := 0x20#32 } } 0x80000011#32

theorem witness_ControlRegisters : pae.ready ∧ pae.lockOk false = true ∧ pae.privileged = true ∧ isCr 4 = true ∧
    (bit (pae.r32 .eax) 31 && !bit (pae.r32 .eax) 0) = false ∧ (bit (pae.r32 .eax) 29 && !bit (pae.r32 .eax) 30) = false ∧
    pae.others = [] ∧ (pae.pdpt pae.sys.cr3).isSome = true ∧ pae.r32 .ecx &&& 0xFFFFFE00#32 = 0 := ⟨⟨prot_ready.1, rfl⟩, by decide +kernel⟩

theorem witness_ControlRegisters_faults : real.lockOk false = true ∧ real.privileged = true ∧ isCr 1 = false ∧
    (bit ((eax real 0x80000000#32).r32 .eax) 31 && !bit ((eax real 0x80000000#32).r32 .eax) 0) = true ∧
    (bit ((eax real 0x20000000#32).r32 .eax) 29 && !bit ((eax real 0x20000000#32).r32 .eax) 30) = true ∧
    (eax real 0x200#32).r32 .eax &&& 0xFFFFFE00#32 ≠ 0 := by decide +kernel

theorem witness_DebugRegisters : real.ready ∧ real.lockOk false = true ∧ real.privileged = true ∧ real.drOk 5 = true ∧
    bit (Sys.cr4 { real.sys with cr4 := 8#32 }) 3 = true ∧ bit real.sys.cr4 3 = false ∧
    bit (Dbg.dr7 { real.dbg with dr7 := 0x2400#32 }) 13 = true := ⟨real_ready, by decide +kernel⟩

/-- ECX names the time-stamp counter. -/
def tsc : State := real.setR32 .ecx 0x10#32

/-- A row of the table of model-specific registers. -/
theorem row_mem {k : Nat} {r : MsrRow} (h : msrTable[k]? = some r) : r ∈ msrTable := List.mem_of_getElem? h

/-- 63 of the addresses in 11_state_msr.md R135 name a register that is implemented; no address stands twice. -/
theorem test_msr_addresses : (msrTable.map MsrRow.addr).length = 63 ∧ (msrTable.map MsrRow.addr).Nodup := by decide +kernel

/-- The time-stamp counter: row 2. -/
theorem witness_ModelRegisters : tsc.ready ∧ tsc.lockOk false = true ∧ tsc.privileged = true ∧
    (∃ r ∈ msrTable, (tsc.r32 .ecx).toNat = r.addr ∧ r.verdict tsc.edxEax = .takes) ∧ tsc.prot = false ∧
    real.r32 .ecx = 1 ∧ real.lockOk false = true ∧ tsc.r32 .ecx ≠ 0 ∧ tsc.r32 .ecx ≠ 1 :=
  ⟨real_ready, rfl, rfl, ⟨_, row_mem (k := 2) rfl, rfl, rfl⟩, rfl, rfl, rfl, by decide, by decide⟩

/-- MTRRcap is read-only, MCG_CAP must not be written, and 413H, the MCi_MISC register of the last bank, is not there. -/
theorem witness_ModelRegisters_bad : (∃ r ∈ msrTable, r.addr = 0xFE ∧ r.verdict 0 = .gp) ∧
    (∃ r ∈ msrTable, r.addr = 0x179 ∧ r.verdict 0 = .stops .mcgCapWrite) ∧
    (∀ r ∈ msrTable, ((real.setR32 .ecx 0x413#32).r32 .ecx).toNat ≠ r.addr) ∧ tsc.lockOk false = true ∧
    tsc.privileged = true :=
  ⟨⟨_, row_mem (k := 9) rfl, rfl, rfl⟩, ⟨_, row_mem (k := 10) rfl, rfl, rfl⟩, by decide +kernel, rfl, rfl⟩

theorem witness_CachesAndHalt : real.ready ∧ real.lockOk false = true ∧ real.privileged = true :=
  ⟨real_ready, by decide +kernel⟩

theorem witness_SelectorTests : (eax prot 0x10#32).ready ∧ prot.lockOk false = true ∧ prot.protMode = true ∧
    prot.can (.reg .eax : Rm) 2 .read = true ∧ prot.can (.mem m32 : Rm) 2 .write = true ∧
    isNull ((eax prot 0#32).val 16 (.reg .eax)) = true ∧ (eax prot 0x100#32).descAddr 0x100#16 = none ∧
    isNull ((eax prot 0x10#32).val 16 (.reg .eax)) = false ∧
    (eax prot 0x10#32).descriptor ((eax prot 0x10#32).val 16 (.reg .eax)) = some (0x1010, 0x00CF93000000FFFF#64) ∧
    (isReadable (descS 0x00CF93000000FFFF#64) (descType 0x00CF93000000FFFF#64) &&
      (descConforming 0x00CF93000000FFFF#64 || (decide (prot.cpl ≤ descDpl 0x00CF93000000FFFF#64) &&
        decide (rpl 0x10#16 ≤ descDpl 0x00CF93000000FFFF#64)))) = true := ⟨prot_ready, by decide +kernel⟩

/-- In system-management mode, with a save map of zeros that nothing has changed. -/
def smm : State :=
  let s : State := { real with smm := { real.smm with inSmm := true, smbase := 0x30000#32 } }
  { s with smm := { s.smm with saved := { s.smm.saved with image := s.smmReadOnly, reserved := s.reservedBytes 0x30000#32 } } }

theorem witness_ResumeFromSmm : smm.ready ∧ smm.lockOk false = true ∧ smm.noLbr = true ∧ smm.smm.inSmm = true ∧
    smm.smm.smbase.toNat + 0x10000 ≤ 2 ^ 32 ∧ smm.ramAt (smm.smm.smbase.toNat + 0xFE00) 0x200 = true ∧ cr0Bad (smm.slot32 0x7FFC) = false ∧
    (bit (smm.slot32 0x7FFC) 31 && bit smm.smm.saved.cr4 5) = false ∧ smm.smmReadOnly = smm.smm.saved.image ∧
    smm.others = [] ∧ smm.reservedBytes smm.smm.smbase = smm.smm.saved.reserved ∧
    smm.slot 0x7F02 2 % 2 = 0 ∧ smm.slot 0x7F00 2 = 0 ∧ real.smm.inSmm = false :=
  ⟨⟨rfl, rfl⟩, by decide +kernel⟩

/-- An SMI is pending at the boundary. -/
def smi : State := { real with lat := { real.lat with smiPending := true, nmiPending := true } }

theorem witness_ResumeFromSmm_entry : smi.ready ∧ smi.ins = Ins.clear ∧ smi.smiDue = true ∧ smi.others = [] ∧
    smi.smm.smbase.toNat + 0x10000 ≤ 2 ^ 32 ∧ smi.ramAt (smi.smm.smbase.toNat + 0xFE00) 0x200 = true :=
  ⟨real_ready, by decide +kernel⟩

/-- The handler has put PG without PE into the CR0 image. -/
def smmBad : State := { smm with mem := memWriteList smm.mem 0x3FFFC (leBytes 4 0x80000000) }

theorem witness_ResumeFromSmm_shutdown : smmBad.ready ∧ smmBad.lockOk false = true ∧ smmBad.smm.inSmm = true ∧
    smmBad.smm.smbase.toNat + 0x10000 ≤ 2 ^ 32 ∧ smmBad.ramAt (smmBad.smm.smbase.toNat + 0xFE00) 0x200 = true ∧
    smmBad.others = [] ∧ cr0Bad (smmBad.slot32 0x7FFC) = true :=
  ⟨⟨wf_memWriteList (m := smm.mem) rfl, rfl⟩, by decide +kernel⟩

theorem witness_FloatingPoint : IsFpuReg (.fxchSTSTi 7) (394 + 512 * 7) none ∧ IsFpuLoad m16 (.fldM80 m16) 354 10 8 ∧
    IsFpuStore m16 (.fstpM64 m16) 366 8 8 ∧ IsFpuFlags (.fcomiSTSTi 0) (454 + 512 * 0) ∧ real.ready ∧
    real.fpuGoes = true ∧ real.fpuCan m16 10 8 .read = true ∧ real.fpuCan m16 8 8 .write = true :=
  ⟨.fxchSTSTi 7, .fldM80, .fstpM64, .fcomiSTSTi 0, real_ready, by decide +kernel⟩

theorem witness_FpuControl : real.ready ∧ real.fpuOn = true ∧ real.fpuGoes = true ∧ real.lockOk false = true ∧
    real.fpuCan m16 2 2 .write = true ∧ real.fpuCan m16 2 2 .read = true ∧ real.fpuCan m16 94 (bytes real.o32) .read = true ∧
    real.fpuCan m16 94 (bytes real.o32) .write = true ∧ (bit real.sys.cr0 1 && bit real.sys.cr0 3) = false ∧
    bit real.fpu.sw 7 = false := ⟨real_ready, by decide +kernel⟩

/-- An unmasked error is pending; CR0.NE is clear, MP and TS are clear. -/
def pend : State := { real with fpu := { real.fpu with sw := 0x8080#16 } }

theorem witness_FpuExceptions : IsEsc (.fldcw m16) ∧ IsWaiting (.fldcw m16) ∧ pend.ready ∧ pend.lockOk false = true ∧
    (bit (0xA#32) 2 || bit (0xA#32) 3) = true ∧ (bit (0xA#32) 1 && bit (0xA#32) 3) = true ∧
    (bit pend.sys.cr0 2 || bit pend.sys.cr0 3) = false ∧ (bit pend.sys.cr0 1 && bit pend.sys.cr0 3) = false ∧
    bit pend.fpu.sw 7 = true ∧ bit pend.sys.cr0 5 = false ∧ bit (0x20#32) 5 = true ∧ pend.lat.ignne = false :=
  ⟨.waits (.fldcw m16), .fldcw m16, real_ready, by decide +kernel⟩

theorem witness_InvariantKept : Machine.Inv State.reset :=
  ⟨rfl, rfl, by decide, by decide, by decide, by decide⟩

/-- The boot protocol starts from reset; the processor with another APIC ID may come first. -/
theorem witness_ResetState : State.reset.lat.activity = .boot ∧ State.reset.ins.len = 0 ∧ State.reset.events = [] ∧
    State.reset.apic.id + 1 ≠ State.reset.apic.id ∧
    State.lat { State.reset with lat := { State.reset.lat with activity := .elected } } =
      { State.reset.lat with activity := .elected } ∧
    State.lat { State.reset with lat := { State.reset.lat with activity := .passedOver },
                                 events := [.apic (bootIpi 1 5 0)] } =
      { State.reset.lat with activity := .passedOver } := ⟨rfl, rfl, rfl, by simp, rfl, rfl⟩

theorem witness_DecodeEncode : Instr.wf ⟨true, true⟩ (.movGvEv .eax (.mem (.sib 3 .edi .ebp (.d8 0xFF#8)))) = true ∧
    decode ⟨true, true⟩ [0x90#8] = .ok (.nop, []) := ⟨by decide +kernel, rfl⟩

/-- CLI lies at CS:EIP, the first byte of the last 16 below 1 MByte. -/
def atCli : State :=
  { real with mem := memWrite [] 0xFFFF0 0xFA#8,
              seg := { real.seg with cs := { real.seg.cs with base := 0xF0000#32 } } }

theorem witness_StepRunsDecoded : atCli.plain = true ∧ (atCli.seg.cs.base + atCli.fetchOff).toNat +
      insideCode atCli.seg.cs atCli.fetchOff (15 - atCli.ins.len) ≤ 0xFEE00000 ∧ atCli.undisturbed = true ∧
    insideCode atCli.seg.cs atCli.fetchOff (15 - atCli.ins.len) = 15 ∧ Instr.cli.wf atCli.sizes = true ∧
    min 15 (0x1000 - (atCli.seg.cs.base + atCli.fetchOff).toNat % 0x1000) = 15 := by decide +kernel

theorem witness_StepRunsDecoded_bytes : decode atCli.sizes (memBytes atCli.prelude.mem 0xFFFF0 15) = .ok (.cli, List.replicate 14 0#8) :=
  rfl

/-- An instruction whose second byte lies on the next page: the first page alone is too short for it. -/
theorem witness_StepRunsDecoded_page : decode ⟨true, true⟩ [0xCD#8] = .error .short ∧
    decode ⟨true, true⟩ [0xCD#8, 0x21#8] = .ok (.intIb 0x21#8, []) := ⟨rfl, rfl⟩

theorem witness_FlagRules : 8 ≤ 8 ∧ 0 < 1 := by decide

/-- DS holds a null selector. -/
def nods : State := { prot with seg := { prot.seg with ds := { prot.seg.ds with valid := false } } }

theorem witness_SelectorTests_unwritable : nods.lockOk false = true ∧ nods.protMode = true ∧
    (nods.seg.get (eaSeg nods m32)).allows (eaSeg nods m32) .write nods.prot = false := by decide +kernel

/-- A segment that is unusable, offsets beyond the limit. -/
theorem witness_AccessFaults : nods.lockOk false = true ∧ real.lockOk false = true ∧ eaSeg nods m32 = .ds ∧
    (nods.seg.get .ds).allows .ds .write nods.prot = false ∧
    (real.seg.get .ds).allows .ds .write real.prot = true ∧
    eaSeg real (.abs16 0xFFFF#16) = .ds ∧
    real.seg.ds.inLimit (eaOffset real (.abs16 0xFFFF#16)) (bytes real.o32) = false ∧
    eaSeg real (.base16 .bp (.d16 0xFCFF#16)) = .ss ∧
    real.seg.ss.inLimit (eaOffset real (.base16 .bp (.d16 0xFCFF#16))) (bytes real.o32) = false := by decide +kernel

/-- Level 3 with alignment checking on. -/
def aligned : State := { user with eflags := 0x40002#32, sys := { user.sys with cr0 := 0x40011#32 } }

theorem witness_AccessFaults_alignment : aligned.lockOk false = true ∧
    aligned.seg.ds.allows .ds .read aligned.prot = true ∧
    aligned.seg.ds.inLimit (eaOffset aligned (.abs32 0x501#32)) (bytes aligned.o32) = true ∧
    (aligned.alignOn && decide (aligned.ea (.abs32 0x501#32) % bytes aligned.o32 ≠ 0)) = true ∧
    aligned.paging = false := by decide +kernel

/-- Paging on: the directory at 0 maps the first 4 MBytes through a table at 3000H, whose entry 5 maps 7000H. -/
def paged : State :=
  { prot with mem := memWriteList (memWriteList tables 0 [0x07#8, 0x30#8]) 0x3014 [0x07#8, 0x70#8],
              sys := { prot.sys with cr0 := 0x80000011#32 } }

/-- The directory entry of 400000H is not present. -/
theorem witness_AccessFaults_page : paged.lockOk false = true ∧
    paged.seg.ds.allows .ds .write paged.prot = true ∧
    paged.seg.ds.inLimit (eaOffset paged (.abs32 0x400000#32)) (bytes paged.o32) = true ∧
    (paged.alignOn && decide (paged.ea (.abs32 0x400000#32) % bytes paged.o32 ≠ 0)) = false ∧ paged.paging = true ∧
    paged.pae = false ∧ paged.tlb = [] ∧ paged.ramAt 4 4 = true ∧
    (paged.num ((paged.sys.cr3.toNat &&& 0xFFFFF000) + paged.ea (.abs32 0x400000#32) / 0x400000 * 4) 4).testBit 0 = false := by
  decide +kernel

/-- A misaligned operand at 400001H, in the page table that is not present. -/
def alignedPaged : State :=
  { aligned with sys := { aligned.sys with cr0 := 0x80040011#32 } }

theorem witness_AccessFaults_both : alignedPaged.lockOk false = true ∧
    alignedPaged.seg.ds.allows .ds .read alignedPaged.prot = true ∧
    alignedPaged.seg.ds.inLimit (eaOffset alignedPaged (.abs32 0x400001#32)) (bytes alignedPaged.o32) = true ∧
    (alignedPaged.alignOn && decide (alignedPaged.ea (.abs32 0x400001#32) % bytes alignedPaged.o32 ≠ 0)) = true ∧
    alignedPaged.paging = true ∧ alignedPaged.pae = false ∧ alignedPaged.tlb = [] ∧ alignedPaged.ramAt 4 4 = true ∧
    (alignedPaged.num ((alignedPaged.sys.cr3.toNat &&& 0xFFFFF000) +
      alignedPaged.ea (.abs32 0x400001#32) / 0x400000 * 4) 4).testBit 0 = false := by decide +kernel

theorem witness_Paging : Memory.wf paged.mem = true ∧ paged.paging = true ∧ paged.pae = false ∧ paged.tlb = [] ∧
    paged.ramAt 0 4 = true ∧ paged.ramAt 0x3014 4 = true ∧ paged.num 0 4 = 0x3007 ∧ paged.num 0x3014 4 = 0x7007 ∧
    (0x3007 &&& 0xFFFFF000) + 0x5123 / 0x1000 % 0x400 * 4 = 0x3014 ∧ (0x3007).testBit 0 = true ∧ paged.pse = false ∧
    (0x7007).testBit 0 = true ∧ ((0x3007).testBit 2 && (0x7007).testBit 2) = true := by decide +kernel

/-- The same table with a page that only the supervisor may use refuses level 3. -/
theorem witness_Paging_refused :
    State.num { paged with mem := memWriteList paged.mem 0x3014 [0x03#8] } 0x3014 4 = 0x7003 ∧
    (true && !((0x3007).testBit 2 && (0x7003).testBit 2)) = true := by decide +kernel

/-- An interrupt with vector FFH and an NMI are requested. -/
def asked : State :=
  { real with eflags := 0x202#32, lat := { real.lat with intr := some 0xFF#8, activity := .halted } }

theorem witness_Interrupts : asked.ready ∧ asked.ins = Ins.clear ∧ asked.noLbr = true ∧ asked.prot = false ∧
    asked.onlyInterrupts = true ∧ asked.lat.inhibit = false ∧ asked.lat.nmiPending = false ∧
    asked.lat.intr = some 0xFF#8 ∧ asked.flag fIF = true ∧ asked.lat.stiShadow = false ∧ asked.lat.activity = .halted ∧
    asked.prelude.realVectorOk 0xFF = true ∧ asked.smm.inSmm = false ∧ Latches.nmiPending { asked.lat with nmiPending := true } = true ∧
    asked.lat.nmiBlocked = false ∧ asked.prelude.realVectorOk 2 = true :=
  ⟨real_ready, by decide +kernel⟩

/-- Protected mode with the local APIC enabled: 31H in service, 30H and 81H requested. EBX holds the address of TPR. -/
def apic : State :=
  { prot with
    gpr := { prot.gpr with ebx := 0xFEE00080#32 }
    apic := { prot.apic with svr := 0x1FF#10, isr := BitVec.twoPow 256 0x31, irr := BitVec.twoPow 256 0x30 ||| BitVec.twoPow 256 0x81 } }

/-- A fixed message to all APICs. -/
def fixed (v : Byte) : ApicMsg :=
  { mode := 0, vector := v, levelTrigger := false, assert := true, logical := false, dest := 0x0F#8, arb := 2 }

/-- The task-priority register at FEE00080H, EOI at B0H, ICR at 300H and the offset 10H without a register. -/
theorem witness_LocalApic : apic.ready ∧ apic.lockOk false = true ∧ apic.apicAt (.base32 .ebx .none) .read = some 0x80 ∧
    apic.apicAt (.base32 .ebx (.d8 0x30#8)) .write = some 0xB0 ∧ apic.apicAt (.abs32 0xFEE00300#32) .write = some 0x300 ∧
    apic.apicAt (.abs32 0xFEE00010#32) .write = some 0x10 ∧ apic.apicAt (.abs32 0xFEE00020#32) .write = some 0x20 ∧
    (∀ x ∈ apic.apic.table, x.1 ≠ 0x10) ∧ bit apic.apic.lvtError 16 = true ∧ (0x80, (0 : Word)) ∈ apic.apic.table ∧
    apic.apic.outgoing = none ∧ (0x4031#32 &&& 0xCCF00#32) = 0x4000#32 ∧
    apic.apicOn = true ∧ bit apic.apic.svr 8 = true ∧ bit apic.apic.irr (fixed 0x40#8).vector.toNat = false ∧
    field apic.apic.tpr 4 4 ≠ (15 : BitVec 4) ∧ field (fixed 0x40#8).dest 0 4 = (15 : BitVec 4) :=
  ⟨prot_ready, by decide +kernel⟩

/-- The first legal vector and the last illegal one, in a message, of either level, and in ICR, with APIC 3 as destination. -/
theorem witness_LocalApic_vectors : 16 ≤ (fixed 16).vector.toNat ∧ bit apic.apic.irr 16 = false ∧ (fixed 15).vector.toNat < 16 ∧
    ApicMsg.vector { fixed 15 with levelTrigger := true, assert := false } = 15 ∧ (fixed 15).mode = 0 ∧
    (0x4010#32 &&& 0xCCF00#32) = 0x4000#32 ∧ 16 ≤ (0x4010#32).toNat % 256 ∧
    (field (0x03000000#32) 24 4 : BitVec 4) ≠ 15 ∧ (field (0x03000000#32) 24 4 : BitVec 4) ≠ Apic.id { apic.apic with id := 0 } := by decide +kernel

/-- EOI with nothing in service, and of a vector that is level-triggered. -/
theorem witness_LocalApic_ends : IsTop 0 0 ∧ bit (BitVec.twoPow 256 0x31) 0x31 = true ∧
    apic.apicAt (.abs32 0xFEE000B0#32) .write = some 0xB0 ∧ apic.ready := ⟨.inl ⟨rfl, rfl⟩, by decide +kernel, by decide +kernel, prot_ready⟩

theorem witness_LocalApic_stores : ∃ a, (0x20, a) ∈ apic.apic.stores (apic.r32 .eax) :=
  ⟨{ apic.apic with id := field (apic.r32 .eax) 24 4 }, by simp [Apic.stores, show apic.apic.outgoing = none from rfl]⟩

/-- A message of this APIC still waits; EAX would change its ID to 5. -/
def sending : State :=
  eax { apic with apic := { apic.apic with outgoing := some ⟨fixed 0x40#8, false, false, true⟩, id := 3 } } 0x05000000#32

theorem witness_LocalApic_pending : sending.lockOk false = true ∧ sending.apic.outgoing.isSome = true ∧
    sending.apicAt (.abs32 0xFEE00020#32) .write = some 0x20 ∧ field (sending.r32 .eax) 24 4 ≠ sending.apic.id ∧
    sending.apicAt (.abs32 0xFEE00300#32) .write = some 0x300 ∧
    sending.apicAt (.abs32 0xFEE00310#32) .write = some 0x310 := by decide +kernel

theorem witness_LocalApic_tops : IsTop apic.apic.isr 0x31 ∧ IsTop apic.apic.irr 0x81 :=
  ⟨.inr ⟨by decide, by decide +kernel, fun j h => by simp [apic, bit, BitVec.getLsbD_twoPow]; omega⟩,
    .inr ⟨by decide, by decide +kernel, fun j h => by simp [apic, bit, BitVec.getLsbD_twoPow]; omega⟩⟩

/-- An interrupt of the local APIC is requested in real-address mode. -/
def asked81 : State := { real with eflags := 0x202#32, apic := apic.apic }

theorem witness_LocalApic_dispense : asked81.ready ∧ asked81.ins = Ins.clear ∧ asked81.noLbr = true ∧ asked81.prot = false ∧
    asked81.onlyInterrupts = true ∧ asked81.lat.inhibit = false ∧ asked81.lat.stiShadow = false ∧
    asked81.lat.nmiPending = false ∧ asked81.lat.intr = none ∧ asked81.flag fIF = true ∧ asked81.lat.activity = .running ∧
    asked81.apicOn = true ∧ asked81.apic.tpr.toNat / 16 < 0x81 / 16 ∧ 0x31 / 16 < 0x81 / 16 ∧
    asked81.prelude.realVectorOk 0x81 = true := ⟨real_ready, by decide +kernel⟩

/-- A new TSS at 3100H: EIP 40H, EFLAGS 2, CS 8, SS 10H; the current one at 3200H has the selector 40H, its stack of level 0
is 10H:7000H. A call gate to level 0 with one parameter at 48H; code and data of level 3 at 50H and 58H; at 600H a frame with
VM set, at 620H one for level 3. -/
def tasks : State :=
  let put := fun (m : List Cell) (x : Nat × Nat) => memWriteList m x.1 (leBytes 4 x.2)
  { prot with
    mem := [(0x3120, 0x40), (0x3124, 2), (0x314C, 8), (0x3150, 0x10), (0x1040, 0x32000067), (0x1044, 0x00008B00),
            (0x1048, 0x00081234), (0x104C, 0x0000EC01), (0x1050, 0xFFFF), (0x1054, 0x00CFFB00), (0x1058, 0xFFFF),
            (0x105C, 0x00CFF300), (0x3204, 0x7000), (0x3208, 0x10), (0x600, 0x50), (0x604, 0x53), (0x608, 0x20202),
            (0x60C, 0x7654), (0x610, 0x5B), (0x620, 0x50), (0x624, 0x53), (0x628, 0x202), (0x62C, 0x7654),
            (0x630, 0x5B)].foldl put tables
    sys := { prot.sys with tr := { Seg.resetTss with sel := 0x40#16, base := 0x3200#32, limit := 0x67#32, type := 11 } } }

theorem tasks_ready : tasks.ready := ⟨by decide +kernel, rfl⟩

/-- Memory with the registers saved. -/
def savedMem : List Cell := memWriteList tasks.mem 0x3220 (leBytes 64 (tasks.after.savedTask tasks.eflags))
/-- The same with the old TSS freed. -/
def freedMem : List Cell :=
  memWriteList savedMem 0x1044 (leBytes 4 (State.num { tasks with mem := savedMem } 0x1044 4 &&& 0xFFFFFDFF))
/-- Memory after the new TSS is marked busy as well. -/
def switched : State :=
  { tasks.after with
    mem := memWriteList freedMem 0x1024 (leBytes 4 (State.num { tasks with mem := freedMem } 0x1024 4 ||| 0x200)) }

theorem savedMem_wf : Memory.wf savedMem = true := wf_memWriteList tasks_ready.1
theorem freedMem_wf : Memory.wf freedMem = true := wf_memWriteList savedMem_wf

theorem witness_TaskSwitches : tasks.ready ∧ tasks.lockOk false = true ∧ tasks.noLbr = true ∧ tasks.mode8086 = false ∧
    (FarForm.ap 0x20#16 0).ok tasks = true ∧ tasks.taskSelector 0x20#16 = some 0x20#16 ∧
    tasks.taskTarget .jmp 0x20#16 = some (0x1020, 0x0000890031000067#64) ∧ tasks.canLeaveTask = true :=
  ⟨tasks_ready, by decide +kernel⟩

theorem witness_TaskSwitches_saves :
    StoredSeq (tasks.after.taskSaves .jmp tasks.eflags) tasks.after { tasks.after with mem := freedMem } :=
  ⟨savedMem, stored_memWriteList tasks_ready.1 rfl,
    freedMem, stored_memWriteList (s := { tasks.after with mem := savedMem }) savedMem_wf rfl, fun _ => rfl⟩

theorem witness_TaskSwitches_enters :
    StoredSeq (tasks.after.taskEnters .jmp 0x1020 0x3100) { tasks.after with mem := freedMem } switched :=
  ⟨switched.mem, stored_memWriteList (s := { tasks.after with mem := freedMem }) freedMem_wf rfl, fun _ => rfl⟩

theorem witness_TaskSwitches_starts : TaskStarts tasks.after switched switched 0x3100 :=
  ⟨(0x1008, 0x00CF9B000000FFFF#64), (0x1010, 0x00CF93000000FFFF#64),
    { tasks.sys.ldtr with sel := 0, valid := false }, by decide +kernel, by decide +kernel, by decide +kernel, by decide +kernel,
    by decide +kernel, by decide +kernel, by decide +kernel, by decide +kernel, ⟨_, fun _ => rfl, _, fun _ => rfl, fun _ => rfl⟩,
    by decide +kernel⟩

theorem witness_TaskSwitches_all :
    Switches tasks.after .jmp 0x1020 0x0000890031000067#64 tasks.eflags switched switched :=
  ⟨rfl, rfl, ⟨freedMem, witness_TaskSwitches_saves, fun _ => by decide +kernel, witness_TaskSwitches_enters⟩,
    witness_TaskSwitches_starts⟩

/-- A nested task: NT is set, the link of the current TSS names the other one, which is busy. -/
def nested : State :=
  { tasks with eflags := 0x4002#32, mem := memWriteList (memWriteList tasks.mem 0x1025 [0x8B#8]) 0x3200 [0x20#8] }

theorem nested_ready : nested.ready := ⟨wf_memWriteList (wf_memWriteList tasks_ready.1), rfl⟩

/-- Memory after its registers have been saved, and after its TSS has been freed. -/
def nestedMem : List Cell := memWriteList nested.mem 0x3220 (leBytes 64 (nested.after.savedTask (setBit nested.eflags 14 false)))
def unnested : State :=
  { nested.after with
    mem := memWriteList nestedMem 0x1044 (leBytes 4 (State.num { tasks with mem := nestedMem } 0x1044 4 &&& 0xFFFFFDFF)) }

theorem witness_TaskSwitches_iret : nested.ready ∧ nested.lockOk false = true ∧ nested.noLbr = true ∧
    nested.protMode = true ∧ nested.flag fNT = true ∧ nested.noReturn = [] ∧ 1 ≤ nested.sys.tr.limit.toNat ∧
    nested.plainAt nested.sys.tr.base 2 = true ∧ (BitVec.ofNat 16 (nested.num nested.sys.tr.base.toNat 2) : Half) = 0x20#16 ∧
    nested.taskTarget .iret 0x20#16 = some (0x1020, 0x00008B0031000067#64) ∧ nested.canLeaveTask = true :=
  ⟨nested_ready, by decide +kernel⟩

theorem witness_TaskSwitches_iret_all :
    Switches nested.after .iret 0x1020 0x00008B0031000067#64 (setBit nested.eflags 14 false) unnested unnested :=
  ⟨rfl, rfl, ⟨unnested.mem, ⟨nestedMem, stored_memWriteList nested_ready.1 rfl,
      unnested.mem, stored_memWriteList (s := { nested.after with mem := nestedMem }) (wf_memWriteList nested_ready.1) rfl,
      fun _ => rfl⟩, fun h => absurd rfl h, fun _ => rfl⟩,
    ⟨(0x1008, 0x00CF9B000000FFFF#64), (0x1010, 0x00CF93000000FFFF#64),
      { nested.sys.ldtr with sel := 0, valid := false }, by decide +kernel, by decide +kernel, by decide +kernel, by decide +kernel,
      by decide +kernel, by decide +kernel, by decide +kernel, by decide +kernel, ⟨_, fun _ => rfl, _, fun _ => rfl, fun _ => rfl⟩,
      by decide +kernel⟩⟩

/-- Vector 22H leads to a task gate for the TSS at 3100H. -/
def gated : State := { tasks with mem := memWriteList tasks.mem 0x2110 (leBytes 8 0x0000E50000200000) }

theorem gated_ready : gated.ready := ⟨wf_memWriteList tasks_ready.1, rfl⟩

/-- An external interrupt with vector 22H. -/
def ext22 : Entry := { vec := 0x22, src := .external, code := none, from_ := 0, rf := none }

/-- Memory with the registers saved, the TSS busy, and the link stored. -/
def gatedMem1 : List Cell := memWriteList gated.mem 0x3220 (leBytes 64 (gated.savedTask (ext22.image gated)))
def gatedMem2 : List Cell :=
  memWriteList gatedMem1 0x1024 (leBytes 4 (State.num { gated with mem := gatedMem1 } 0x1024 4 ||| 0x200))
def called : State := { gated with mem := memWriteList gatedMem2 0x3100 (leBytes 2 0x40) }

theorem witness_TaskSwitches_event : gated.ready ∧ gated.noLbr = true ∧ gated.prot = true ∧ ext22.code = none ∧
    ext22.vec ≠ 18 ∧ ext22.src ≠ .nmi ∧ ext22.isDebug = false ∧ 8 * ext22.vec + 7 ≤ gated.sys.idtr.limit.toNat ∧
    (BitVec.ofNat 64 (gated.num (gated.sys.idtr.base + BitVec.ofNat 32 (8 * ext22.vec)).toNat 8) : Desc) = 0x0000E50000200000#64 ∧
    gated.plainAt (gated.sys.idtr.base + BitVec.ofNat 32 (8 * ext22.vec)) 8 = true ∧ descS 0x0000E50000200000#64 = false ∧
    descType 0x0000E50000200000#64 = 5 ∧ descP 0x0000E50000200000#64 = true ∧ gateSel 0x0000E50000200000#64 = 0x20#16 ∧
    gated.taskTarget .int 0x20#16 = some (0x1020, 0x0000890031000067#64) ∧ gated.canLeaveTask = true :=
  ⟨gated_ready, by decide +kernel⟩

theorem witness_TaskSwitches_event_all :
    Switches gated .int 0x1020 0x0000890031000067#64 (ext22.image gated) called called :=
  ⟨rfl, rfl, ⟨gatedMem1, ⟨gatedMem1, stored_memWriteList gated_ready.1 rfl, fun _ => rfl⟩,
      fun _ => by decide +kernel, gatedMem2,
      stored_memWriteList (s := { gated with mem := gatedMem1 }) (wf_memWriteList gated_ready.1) rfl, called.mem,
      stored_memWriteList (s := { gated with mem := gatedMem2 }) (wf_memWriteList (wf_memWriteList gated_ready.1)) rfl, fun _ => rfl⟩,
    ⟨(0x1008, 0x00CF9B000000FFFF#64), (0x1010, 0x00CF93000000FFFF#64),
      { gated.sys.ldtr with sel := 0, valid := false }, by decide +kernel, by decide +kernel, by decide +kernel, by decide +kernel,
      by decide +kernel, by decide +kernel, by decide +kernel, by decide +kernel, ⟨_, fun _ => rfl, _, fun _ => rfl, fun _ => rfl⟩,
      by decide +kernel⟩⟩

/-- Level 3 with the current TSS of `tasks`. -/
def userTasks : State := { tasks with cpl := 3, seg := user.seg }

theorem witness_InnerTransfers : userTasks.ready ∧ userTasks.lockOk false = true ∧ userTasks.noLbr = true ∧
    userTasks.mode8086 = false ∧ (FarForm.ap 0x48#16 0).ok userTasks = true ∧
    userTasks.callGate 0x48#16 true = some (0x0000EC0100081234#64, 0x1008, 0x00CF9B000000FFFF#64) ∧
    (userTasks.stackOf 0).isSome = true ∧ (field (0x0000EC0100081234#64) 32 5 : BitVec 5).toNat = 1 ∧
    (∀ j < 1, userTasks.canPop (4 * j) 4 = true) ∧
    roomBelow (flat 0x10#16 3 0) 4 0x7000#32 (4 + 1) = true ∧
    tasks.callGate 0x48#16 false = some (0x0000EC0100081234#64, 0x1008, 0x00CF9B000000FFFF#64) ∧
    canPushAll 4 2 tasks = true := ⟨tasks_ready, by decide +kernel⟩

/-- Virtual-8086 mode with IOPL 3 and the current TSS of `tasks`. -/
def v86Tasks : State := { tasks with cpl := 3, eflags := 0x23002#32, seg := v86.seg }

theorem witness_InnerTransfers_events : IsSoftInt (.intIb 0x21#8) 0x21 v86Tasks ∧ v86Tasks.ready ∧
    v86Tasks.lockOk false = true ∧ v86Tasks.noLbr = true ∧ v86Tasks.prot = true ∧ v86Tasks.flag fVM = true ∧
    v86Tasks.iopl = 3 ∧ bit v86Tasks.sys.cr4 0 = false ∧
    v86Tasks.gateOk 0x21 true = some 0x0000EE0000081234#64 ∧
    v86Tasks.handlerInner 0x0000EE0000081234#64 = some (0x1008, 0x00CF9B000000FFFF#64) ∧
    (v86Tasks.stackOf 0).isSome = true ∧ roomBelow (flat 0x10#16 3 0) 4 0x7000#32 10 = true ∧
    (rollback userTasks userTasks ud).gateOk 6 false = some 0x0000EF0000081234#64 ∧
    (rollback userTasks userTasks ud).handlerInner 0x0000EF0000081234#64 = some (0x1008, 0x00CF9B000000FFFF#64) ∧
    ((rollback userTasks userTasks ud).stackOf 0).isSome = true := ⟨soft21 _, tasks_ready, by decide +kernel⟩

/-- The same in a state whose gate of vector 1 is like that of 21H. -/
def v86One : State := { v86Tasks with mem := memWriteList v86Tasks.mem 0x2008 (leBytes 8 0x0000EE0000081234) }

theorem witness_InnerTransfers_one : IsSoftInt (.intIb 1#8) 1 v86One ∧ v86One.ready ∧ v86One.flag fVM = true ∧ v86One.iopl = 3 ∧
    v86One.gateOk 1 true = some 0x0000EE0000081234#64 ∧
    v86One.handlerInner 0x0000EE0000081234#64 = some (0x1008, 0x00CF9B000000FFFF#64) :=
  ⟨.inl ⟨_, rfl, rfl⟩, ⟨wf_memWriteList tasks_ready.1, rfl⟩, by decide +kernel⟩

/-- Virtual-8086 mode with IOPL 3 and CR4.VME set; the current TSS has 16 bits, its stack of level 0 is 10H:7000H. -/
def v86Short : State :=
  { v86Tasks with
    mem := memWriteList v86Tasks.mem 0x3202 [0x00, 0x70, 0x10, 0x00]
    sys := { v86Tasks.sys with cr4 := 1#32, tr := { v86Tasks.sys.tr with type := 3 } } }

theorem witness_InnerTransfers_mapless : v86Short.ready ∧ v86Short.lockOk false = true ∧ v86Short.noLbr = true ∧
    v86Short.prot = true ∧ v86Short.gateOk 0x21 true = some 0x0000EE0000081234#64 ∧ v86Short.mapless ∧
    v86Short.handlerInner 0x0000EE0000081234#64 = some (0x1008, 0x00CF9B000000FFFF#64) ∧
    (v86Short.stackOf 0).isSome = true ∧ roomBelow (flat 0x10#16 3 0) 4 0x7000#32 10 = true ∧
    v86Short.gateOk 0x0D false = some 0x00008E0000081234#64 ∧ descDpl 0x00008E0000081234#64 < v86Short.cpl :=
  ⟨⟨wf_memWriteList tasks_ready.1, rfl⟩, by decide +kernel, by decide +kernel, by decide +kernel, by decide +kernel,
    ⟨by decide +kernel, by decide +kernel, by decide +kernel, by decide +kernel⟩, by decide +kernel⟩

/-- Virtual-8086 mode with CR4.VME set: IOPL from `f`, the I/O map base `b`, the limit `l` of the TSS, and the byte 6CH of the
TSS, which holds the redirection flag of vector 21H if the base is 88H. -/
def redir (f : Word) (b l c : Nat) : State :=
  { v86Tasks with
    eflags := f, mem := memWriteList (memWriteList v86Tasks.mem 0x3266 (leBytes 2 b)) 0x326C (leBytes 1 c)
    sys := { v86Tasks.sys with cr4 := 1#32, tr := { v86Tasks.sys.tr with limit := BitVec.ofNat 32 l } } }

theorem redir_ready (f : Word) (b l c : Nat) : (redir f b l c).ready :=
  ⟨wf_memWriteList (wf_memWriteList tasks_ready.1), rfl⟩

/-- The flag in the last byte inside the limit, clear and set; one byte beyond; a map base without room, and with room. -/
theorem witness_SoftwareInterrupts_v86 : (redir 0x20002#32 0x88 0x6C 0).lockOk false = true ∧
    (redir 0x20002#32 0x88 0x6C 0).prot = true ∧ (redir 0x20002#32 0x88 0x6C 0).flag fVM = true ∧
    (redir 0x20002#32 0x88 0x6C 0).iopl ≠ 3 ∧ (redir 0x20002#32 0x88 0x6C 0).redirected 0x21 = some false ∧
    (redir 0x23002#32 0x88 0x6C 2).iopl = 3 ∧ (redir 0x23002#32 0x88 0x6C 2).redirected 0x21 = some true ∧
    (redir 0x20002#32 0x88 0x6B 0).beyondMap 0x21 = true ∧ (redir 0x20002#32 0x88 0x66 0).beyondMap 0 = true ∧
    (redir 0x20002#32 31 0x6C 0).hasMapBase = true ∧ (redir 0x20002#32 31 0x6C 0).mapBase < 32 ∧
    (redir 0x20002#32 32 0x67 0).redirected 0 = some false ∧ v86.iopl ≠ 3 ∧ bit v86.sys.cr4 0 = false := by decide +kernel

theorem witness_SoftwareInterrupts_redirect : (redir 0x23002#32 0x88 0x6C 0).noLbr = true ∧
    (redir 0x23002#32 0x88 0x6C 0).iopl = 3 ∧ bit (redir 0x23002#32 0x88 0x6C 0).sys.cr4 0 = true ∧
    (redir 0x23002#32 0x88 0x6C 0).redirected 0x21 = some false ∧ (redir 0x23002#32 0x88 0x6C 0).plain = true ∧
    canPushAll 2 3 (redir 0x23002#32 0x88 0x6C 0) = true ∧
    (redir 0x23002#32 0x88 0x6C 0).seg.ss.inLimit ((redir 0x23002#32 0x88 0x6C 0).pushOff 6) 6 = true := by decide +kernel

/-- The frame of an IRET: offset, selector and flags. -/
def framed (s : State) (o32 : Bool) (off f : Nat) : State :=
  let n := bytes o32
  { s with mem := [(0x8000, off), (0x8000 + n, 0x55), (0x8000 + 2 * n, f)].foldl (fun m x => memWriteList m x.1 (leBytes n x.2)) s.mem,
           ins := { s.ins with op66 := o32 } }

theorem framed_ready (s : State) (o32 : Bool) (off f : Nat) (h : s.ready) : (framed s o32 off f).ready :=
  ⟨wf_memWriteList (wf_memWriteList (wf_memWriteList h.1)), h.2⟩

/-- The offsets on both sides of FFFFH at IOPL 3; below, images with IF while VIP is clear and set, and with TF; a barred
return address. -/
theorem witness_InterruptReturns_v86 : (v86.iopl ≠ 3 ∧ v86.prot = true ∧ v86.flag fVM = true ∧ bit v86.sys.cr4 0 = false) ∧
    (∀ j < 3, (framed v86Tasks true 0x10000 2).canPop (j * 4) 4 = true) ∧
    (framed v86Tasks true 0x10000 2).cutTarget (BitVec.ofNat 32 ((framed v86Tasks true 0x10000 2).item 0 4)) = 0x10000#32 ∧
    (framed v86Tasks true 0xFFFF 2).cutTarget (BitVec.ofNat 32 ((framed v86Tasks true 0xFFFF 2).item 0 4)) = 0xFFFF#32 ∧
    (framed v86Tasks true 0xFFFF 2).iopl = 3 ∧ (framed v86Tasks true 0xFFFF 2).o32 = true ∧
    (framed (redir 0x20002#32 0 0x67 0) false 0x1234 0x202).o32 = false ∧
    (∀ j < 3, (framed (redir 0x20002#32 0 0x67 0) false 0x1234 0x202).canPop (j * 2) 2 = true) ∧
    (framed (redir 0x20002#32 0 0x67 0) false 0x1234 0x202).item 4 2 = 0x202 ∧
    (redir 0x20002#32 0 0x67 0).flag fVIP = false ∧ (redir 0x120002#32 0 0x67 0).flag fVIP = true ∧
    (framed (redir 0x20002#32 0 0x67 0) false 0x1234 0x102).item 4 2 = 0x102 ∧
    (framed (redir 0x20002#32 0 0x67 0) false 0x1234 0x202).item 2 2 = 0x55 := by decide +kernel

theorem witness_InterruptReturns_v86_stop :
    let s := framed v86Tasks false 0x1234 2
    State.barred { s with noReturn := [{ esp := 0#32, cs := 0x55#16, eip := 0x1234#32, cr3 := s.sys.cr3 }] }
      (BitVec.ofNat 16 (s.item 2 2)) (s.cutTarget (BitVec.ofNat 32 (s.item 0 2))) = true := by
  decide +kernel

/-- The state with another ESP. -/
def onStack (s : State) (esp : Word) : State := s.setR32 .esp esp

theorem witness_OuterReturns : (onStack tasks 0x620#32).ready ∧ (onStack tasks 0x620#32).lockOk false = true ∧
    tasks.noLbr = true ∧ tasks.mode8086 = false ∧ tasks.flag fNT = false ∧
    (∀ j < 5, (onStack tasks 0x620#32).canPop (j * 4) 4 = true) ∧ tasks.noReturn = [] ∧
    bit (BitVec.ofNat 32 ((onStack tasks 0x620#32).item 8 4)) fVM = false ∧
    tasks.outerCode 0x53#16 0x50#32 = some (0x1050, 0x00CFFB000000FFFF#64) ∧
    tasks.outerStack 0x5B#16 3 = some (0x1058, 0x00CFF3000000FFFF#64) ∧
    (onStack tasks 0x600#32).canPop 8 4 = true ∧
    bit (BitVec.ofNat 32 ((onStack tasks 0x600#32).item 8 4)) fVM = true ∧
    tasks.seg.ss.inLimit (0x600#32 + 12) 24 = true := ⟨tasks_ready, by decide +kernel⟩

/-! Every row of the opcode table: a word written from the spec's encoding (the opcode of 31_opcode_map.md, the reg
field 1, 3 or, where the row names no second register, 0, the operand BX or [BX+10H], the bytes of the immediate low first) and the instruction it stands for. -/

/-- A word in 16-bit code decodes to an instruction, to its last byte, and is what the encoder writes. -/
noncomputable def reads (p : List Nat × Instr) : Bool :=
  let bs := p.1.map (BitVec.ofNat 8)
  (match decode ⟨false, false⟩ bs with
    | .ok (i, rest) => decide (i = p.2) && rest.isEmpty
    | .error _ => false) && decide (encode ⟨false, false⟩ p.2 = bs)

/-- Words of rows 0 to 57 of the opcode table, in 16-bit code. -/
theorem test_words_0 : ([
    ([0x00, 0xCB], .addEbGb (.reg .bl) .cl),
    ([0x01, 0xCB], .addEvGv (.reg .ebx) .ecx),
    ([0x02, 0xCB], .addGbEb .cl (.reg .bl)),
    ([0x03, 0xCB], .addGvEv .ecx (.reg .ebx)),
    ([0x04, 0x8F], .addALIb 0x8F#8),
    ([0x05, 0x34, 0x12], .addeAXIv 0x1234#32),
    ([0x80, 0xC3, 0x8F], .addEbIb (.reg .bl) 0x8F#8),
    ([0x81, 0xC3, 0x34, 0x12], .addEvIv (.reg .ebx) 0x1234#32),
    ([0x83, 0xC3, 0x8F], .addEvIb (.reg .ebx) 0x8F#8),
    ([0x08, 0xCB], .orEbGb (.reg .bl) .cl),
    ([0x09, 0xCB], .orEvGv (.reg .ebx) .ecx),
    ([0x0A, 0xCB], .orGbEb .cl (.reg .bl)),
    ([0x0B, 0xCB], .orGvEv .ecx (.reg .ebx)),
    ([0x0C, 0x8F], .orALIb 0x8F#8),
    ([0x0D, 0x34, 0x12], .oreAXIv 0x1234#32),
    ([0x80, 0xCB, 0x8F], .orEbIb (.reg .bl) 0x8F#8),
    ([0x81, 0xCB, 0x34, 0x12], .orEvIv (.reg .ebx) 0x1234#32),
    ([0x83, 0xCB, 0x8F], .orEvIb (.reg .ebx) 0x8F#8),
    ([0x10, 0xCB], .adcEbGb (.reg .bl) .cl),
    ([0x11, 0xCB], .adcEvGv (.reg .ebx) .ecx),
    ([0x12, 0xCB], .adcGbEb .cl (.reg .bl)),
    ([0x13, 0xCB], .adcGvEv .ecx (.reg .ebx)),
    ([0x14, 0x8F], .adcALIb 0x8F#8),
    ([0x15, 0x34, 0x12], .adceAXIv 0x1234#32),
    ([0x80, 0xD3, 0x8F], .adcEbIb (.reg .bl) 0x8F#8),
    ([0x81, 0xD3, 0x34, 0x12], .adcEvIv (.reg .ebx) 0x1234#32),
    ([0x83, 0xD3, 0x8F], .adcEvIb (.reg .ebx) 0x8F#8),
    ([0x18, 0xCB], .sbbEbGb (.reg .bl) .cl),
    ([0x19, 0xCB], .sbbEvGv (.reg .ebx) .ecx),
    ([0x1A, 0xCB], .sbbGbEb .cl (.reg .bl)),
    ([0x1B, 0xCB], .sbbGvEv .ecx (.reg .ebx)),
    ([0x1C, 0x8F], .sbbALIb 0x8F#8),
    ([0x1D, 0x34, 0x12], .sbbeAXIv 0x1234#32),
    ([0x80, 0xDB, 0x8F], .sbbEbIb (.reg .bl) 0x8F#8),
    ([0x81, 0xDB, 0x34, 0x12], .sbbEvIv (.reg .ebx) 0x1234#32),
    ([0x83, 0xDB, 0x8F], .sbbEvIb (.reg .ebx) 0x8F#8),
    ([0x20, 0xCB], .andEbGb (.reg .bl) .cl),
    ([0x21, 0xCB], .andEvGv (.reg .ebx) .ecx),
    ([0x22, 0xCB], .andGbEb .cl (.reg .bl)),
    ([0x23, 0xCB], .andGvEv .ecx (.reg .ebx)),
    ([0x24, 0x8F], .andALIb 0x8F#8),
    ([0x25, 0x34, 0x12], .andeAXIv 0x1234#32),
    ([0x80, 0xE3, 0x8F], .andEbIb (.reg .bl) 0x8F#8),
    ([0x81, 0xE3, 0x34, 0x12], .andEvIv (.reg .ebx) 0x1234#32),
    ([0x83, 0xE3, 0x8F], .andEvIb (.reg .ebx) 0x8F#8),
    ([0x28, 0xCB], .subEbGb (.reg .bl) .cl),
    ([0x29, 0xCB], .subEvGv (.reg .ebx) .ecx),
    ([0x2A, 0xCB], .subGbEb .cl (.reg .bl)),
    ([0x2B, 0xCB], .subGvEv .ecx (.reg .ebx)),
    ([0x2C, 0x8F], .subALIb 0x8F#8),
    ([0x2D, 0x34, 0x12], .subeAXIv 0x1234#32),
    ([0x80, 0xEB, 0x8F], .subEbIb (.reg .bl) 0x8F#8),
    ([0x81, 0xEB, 0x34, 0x12], .subEvIv (.reg .ebx) 0x1234#32),
    ([0x83, 0xEB, 0x8F], .subEvIb (.reg .ebx) 0x8F#8),
    ([0x30, 0xCB], .xorEbGb (.reg .bl) .cl),
    ([0x31, 0xCB], .xorEvGv (.reg .ebx) .ecx),
    ([0x32, 0xCB], .xorGbEb .cl (.reg .bl)),
    ([0x33, 0xCB], .xorGvEv .ecx (.reg .ebx))
  ] : List (List Nat × Instr)).all reads = true := by decide +kernel

/-- Words of rows 58 to 115 of the opcode table, in 16-bit code. -/
theorem test_words_1 : ([
    ([0x34, 0x8F], .xorALIb 0x8F#8),
    ([0x35, 0x34, 0x12], .xoreAXIv 0x1234#32),
    ([0x80, 0xF3, 0x8F], .xorEbIb (.reg .bl) 0x8F#8),
    ([0x81, 0xF3, 0x34, 0x12], .xorEvIv (.reg .ebx) 0x1234#32),
    ([0x83, 0xF3, 0x8F], .xorEvIb (.reg .ebx) 0x8F#8),
    ([0x38, 0xCB], .cmpEbGb (.reg .bl) .cl),
    ([0x39, 0xCB], .cmpEvGv (.reg .ebx) .ecx),
    ([0x3A, 0xCB], .cmpGbEb .cl (.reg .bl)),
    ([0x3B, 0xCB], .cmpGvEv .ecx (.reg .ebx)),
    ([0x3C, 0x8F], .cmpALIb 0x8F#8),
    ([0x3D, 0x34, 0x12], .cmpeAXIv 0x1234#32),
    ([0x80, 0xFB, 0x8F], .cmpEbIb (.reg .bl) 0x8F#8),
    ([0x81, 0xFB, 0x34, 0x12], .cmpEvIv (.reg .ebx) 0x1234#32),
    ([0x83, 0xFB, 0x8F], .cmpEvIb (.reg .ebx) 0x8F#8),
    ([0x06], .pushEs),
    ([0x07], .popEs),
    ([0x0E], .pushCs),
    ([0x16], .pushSs),
    ([0x17], .popSs),
    ([0x1E], .pushDs),
    ([0x1F], .popDs),
    ([0x0F, 0xA0], .pushFs),
    ([0x0F, 0xA1], .popFs),
    ([0x0F, 0xA8], .pushGs),
    ([0x0F, 0xA9], .popGs),
    ([0x27], .daa),
    ([0x2F], .das),
    ([0x37], .aaa),
    ([0x3F], .aas),
    ([0x45], .incRv .ebp),
    ([0x4D], .decRv .ebp),
    ([0x55], .pushRv .ebp),
    ([0x5D], .popRv .ebp),
    ([0x60], .pushaPushad),
    ([0x61], .popaPopad),
    ([0x62, 0x4F, 0x10], .boundGvMa .ecx (.base16 .bx (.d8 0x10#8))),
    ([0x63, 0xCB], .arplEwGw (.reg .ebx) .ecx),
    ([0x68, 0x34, 0x12], .pushIv 0x1234#32),
    ([0x69, 0xCB, 0x34, 0x12], .imulGvEvIv .ecx (.reg .ebx) 0x1234#32),
    ([0x6A, 0x8F], .pushIb 0x8F#8),
    ([0x6B, 0xCB, 0x8F], .imulGvEvIb .ecx (.reg .ebx) 0x8F#8),
    ([0x6C], .insbYbDX),
    ([0x6D], .inswInsdYvDX),
    ([0x6E], .outsbDXXb),
    ([0x6F], .outswOutsdDXXv),
    ([0x7C, 0x8F], .jccJb .l 0x8F#8),
    ([0x82, 0x00], .reserved82),
    ([0x84, 0xCB], .testEbGb (.reg .bl) .cl),
    ([0x85, 0xCB], .testEvGv (.reg .ebx) .ecx),
    ([0x86, 0xCB], .xchgEbGb (.reg .bl) .cl),
    ([0x87, 0xCB], .xchgEvGv (.reg .ebx) .ecx),
    ([0x88, 0xCB], .movEbGb (.reg .bl) .cl),
    ([0x89, 0xCB], .movEvGv (.reg .ebx) .ecx),
    ([0x8A, 0xCB], .movGbEb .cl (.reg .bl)),
    ([0x8B, 0xCB], .movGvEv .ecx (.reg .ebx)),
    ([0x8C, 0xDB], .movEwSw (.reg .ebx) .ds),
    ([0x8D, 0x4F, 0x10], .leaGvM .ecx (.base16 .bx (.d8 0x10#8))),
    ([0x8E, 0xDB], .movSwEw .ds (.reg .ebx))
  ] : List (List Nat × Instr)).all reads = true := by decide +kernel

/-- Words of rows 116 to 173 of the opcode table, in 16-bit code. -/
theorem test_words_2 : ([
    ([0x8F, 0xC3], .popEv (.reg .ebx)),
    ([0x90], .nop),
    ([0x95], .xchgEAXRv .ebp),
    ([0x98], .cbwCwde),
    ([0x99], .cwdCdq),
    ([0x9A, 0x34, 0x12, 0x08, 0x00], .callAp 0x1234#32 0x0008#16),
    ([0x9B], .waitFwait),
    ([0x9C], .pushfPushfd),
    ([0x9D], .popfPopfd),
    ([0x9E], .sahf),
    ([0x9F], .lahf),
    ([0xA0, 0x34, 0x12], .movALOb 0x1234#32),
    ([0xA1, 0x34, 0x12], .moveAXOv 0x1234#32),
    ([0xA2, 0x34, 0x12], .movObAL 0x1234#32),
    ([0xA3, 0x34, 0x12], .movOveAX 0x1234#32),
    ([0xA4], .movsbYbXb),
    ([0xA5], .movswMovsdYvXv),
    ([0xA6], .cmpsbXbYb),
    ([0xA7], .cmpswCmpsdXvYv),
    ([0xA8, 0x8F], .testALIb 0x8F#8),
    ([0xA9, 0x34, 0x12], .testeAXIv 0x1234#32),
    ([0xAA], .stosbYbAL),
    ([0xAB], .stoswStosdYveAX),
    ([0xAC], .lodsbALXb),
    ([0xAD], .lodswLodsdeAXXv),
    ([0xAE], .scasbALYb),
    ([0xAF], .scaswScasdeAXYv),
    ([0xB5, 0x8F], .movR8Ib .ch 0x8F#8),
    ([0xBD, 0x34, 0x12], .movRvIv .ebp 0x1234#32),
    ([0xC0, 0xC3, 0x8F], .rolEbIb (.reg .bl) 0x8F#8),
    ([0xC0, 0xCB, 0x8F], .rorEbIb (.reg .bl) 0x8F#8),
    ([0xC0, 0xD3, 0x8F], .rclEbIb (.reg .bl) 0x8F#8),
    ([0xC0, 0xDB, 0x8F], .rcrEbIb (.reg .bl) 0x8F#8),
    ([0xC0, 0xE3, 0x8F], .shlSalEbIb (.reg .bl) 0x8F#8),
    ([0xC0, 0xEB, 0x8F], .shrEbIb (.reg .bl) 0x8F#8),
    ([0xC0, 0xFB, 0x8F], .sarEbIb (.reg .bl) 0x8F#8),
    ([0xC1, 0xC3, 0x8F], .rolEvIb (.reg .ebx) 0x8F#8),
    ([0xC1, 0xCB, 0x8F], .rorEvIb (.reg .ebx) 0x8F#8),
    ([0xC1, 0xD3, 0x8F], .rclEvIb (.reg .ebx) 0x8F#8),
    ([0xC1, 0xDB, 0x8F], .rcrEvIb (.reg .ebx) 0x8F#8),
    ([0xC1, 0xE3, 0x8F], .shlSalEvIb (.reg .ebx) 0x8F#8),
    ([0xC1, 0xEB, 0x8F], .shrEvIb (.reg .ebx) 0x8F#8),
    ([0xC1, 0xFB, 0x8F], .sarEvIb (.reg .ebx) 0x8F#8),
    ([0xD0, 0xC3], .rolEb1 (.reg .bl)),
    ([0xD0, 0xCB], .rorEb1 (.reg .bl)),
    ([0xD0, 0xD3], .rclEb1 (.reg .bl)),
    ([0xD0, 0xDB], .rcrEb1 (.reg .bl)),
    ([0xD0, 0xE3], .shlSalEb1 (.reg .bl)),
    ([0xD0, 0xEB], .shrEb1 (.reg .bl)),
    ([0xD0, 0xFB], .sarEb1 (.reg .bl)),
    ([0xD1, 0xC3], .rolEv1 (.reg .ebx)),
    ([0xD1, 0xCB], .rorEv1 (.reg .ebx)),
    ([0xD1, 0xD3], .rclEv1 (.reg .ebx)),
    ([0xD1, 0xDB], .rcrEv1 (.reg .ebx)),
    ([0xD1, 0xE3], .shlSalEv1 (.reg .ebx)),
    ([0xD1, 0xEB], .shrEv1 (.reg .ebx)),
    ([0xD1, 0xFB], .sarEv1 (.reg .ebx)),
    ([0xD2, 0xC3], .rolEbCL (.reg .bl))
  ] : List (List Nat × Instr)).all reads = true := by decide +kernel

/-- Words of rows 174 to 231 of the opcode table, in 16-bit code. -/
theorem test_words_3 : ([
    ([0xD2, 0xCB], .rorEbCL (.reg .bl)),
    ([0xD2, 0xD3], .rclEbCL (.reg .bl)),
    ([0xD2, 0xDB], .rcrEbCL (.reg .bl)),
    ([0xD2, 0xE3], .shlSalEbCL (.reg .bl)),
    ([0xD2, 0xEB], .shrEbCL (.reg .bl)),
    ([0xD2, 0xFB], .sarEbCL (.reg .bl)),
    ([0xD3, 0xC3], .rolEvCL (.reg .ebx)),
    ([0xD3, 0xCB], .rorEvCL (.reg .ebx)),
    ([0xD3, 0xD3], .rclEvCL (.reg .ebx)),
    ([0xD3, 0xDB], .rcrEvCL (.reg .ebx)),
    ([0xD3, 0xE3], .shlSalEvCL (.reg .ebx)),
    ([0xD3, 0xEB], .shrEvCL (.reg .ebx)),
    ([0xD3, 0xFB], .sarEvCL (.reg .ebx)),
    ([0xC2, 0x78, 0x56], .retNearIw 0x5678#16),
    ([0xC3], .retNear),
    ([0xC4, 0x4F, 0x10], .lesGvMp .ecx (.base16 .bx (.d8 0x10#8))),
    ([0xC5, 0x4F, 0x10], .ldsGvMp .ecx (.base16 .bx (.d8 0x10#8))),
    ([0xC6, 0xC3, 0x8F], .movEbIb (.reg .bl) 0x8F#8),
    ([0xC7, 0xC3, 0x34, 0x12], .movEvIv (.reg .ebx) 0x1234#32),
    ([0xC8, 0x78, 0x56, 0x8F], .enterIwIb 0x5678#16 0x8F#8),
    ([0xC9], .leave),
    ([0xCA, 0x78, 0x56], .retFarIw 0x5678#16),
    ([0xCB], .retFar),
    ([0xCC], .int3),
    ([0xCD, 0x8F], .intIb 0x8F#8),
    ([0xCE], .into),
    ([0xCF], .iretIretd),
    ([0xD4, 0x8F], .aamIb 0x8F#8),
    ([0xD5, 0x8F], .aadIb 0x8F#8),
    ([0xD6], .reservedD6),
    ([0xD7], .xlatXlatb),
    ([0xE0, 0x8F], .loopneLoopnzJb 0x8F#8),
    ([0xE1, 0x8F], .loopeLoopzJb 0x8F#8),
    ([0xE2, 0x8F], .loopJb 0x8F#8),
    ([0xE3, 0x8F], .jcxzJecxzJb 0x8F#8),
    ([0xE4, 0x8F], .inALIb 0x8F#8),
    ([0xE5, 0x8F], .ineAXIb 0x8F#8),
    ([0xE6, 0x8F], .outIbAL 0x8F#8),
    ([0xE7, 0x8F], .outIbeAX 0x8F#8),
    ([0xE8, 0x34, 0x12], .callJv 0x1234#32),
    ([0xE9, 0x34, 0x12], .jmpJv 0x1234#32),
    ([0xEA, 0x34, 0x12, 0x08, 0x00], .jmpAp 0x1234#32 0x0008#16),
    ([0xEB, 0x8F], .jmpJb 0x8F#8),
    ([0xEC], .inALDX),
    ([0xED], .ineAXDX),
    ([0xEE], .outDXAL),
    ([0xEF], .outDXeAX),
    ([0xF1], .reservedF1),
    ([0xF4], .hlt),
    ([0xF5], .cmc),
    ([0xF6, 0xC3, 0x8F], .testEbIb (.reg .bl) 0x8F#8),
    ([0xF6, 0xD3], .notEb (.reg .bl)),
    ([0xF6, 0xDB], .negEb (.reg .bl)),
    ([0xF6, 0xE3], .mulEb (.reg .bl)),
    ([0xF6, 0xEB], .imulEb (.reg .bl)),
    ([0xF6, 0xF3], .divEb (.reg .bl)),
    ([0xF6, 0xFB], .idivEb (.reg .bl)),
    ([0xF7, 0xC3, 0x34, 0x12], .testEvIv (.reg .ebx) 0x1234#32)
  ] : List (List Nat × Instr)).all reads = true := by decide +kernel

/-- Words of rows 232 to 289 of the opcode table, in 16-bit code. -/
theorem test_words_4 : ([
    ([0xF7, 0xD3], .notEv (.reg .ebx)),
    ([0xF7, 0xDB], .negEv (.reg .ebx)),
    ([0xF7, 0xE3], .mulEv (.reg .ebx)),
    ([0xF7, 0xEB], .imulEv (.reg .ebx)),
    ([0xF7, 0xF3], .divEv (.reg .ebx)),
    ([0xF7, 0xFB], .idivEv (.reg .ebx)),
    ([0xF8], .clc),
    ([0xF9], .stc),
    ([0xFA], .cli),
    ([0xFB], .sti),
    ([0xFC], .cld),
    ([0xFD], .std),
    ([0xFE, 0xC3], .incEb (.reg .bl)),
    ([0xFE, 0xCB], .decEb (.reg .bl)),
    ([0xFF, 0xC3], .incEv (.reg .ebx)),
    ([0xFF, 0xCB], .decEv (.reg .ebx)),
    ([0xFF, 0xD3], .callEv (.reg .ebx)),
    ([0xFF, 0x5F, 0x10], .callEp (.base16 .bx (.d8 0x10#8))),
    ([0xFF, 0xE3], .jmpEv (.reg .ebx)),
    ([0xFF, 0x6F, 0x10], .jmpEp (.base16 .bx (.d8 0x10#8))),
    ([0xFF, 0xF3], .pushEv (.reg .ebx)),
    ([0x26], .prefixSegEs),
    ([0x2E], .prefixSegCs),
    ([0x36], .prefixSegSs),
    ([0x3E], .prefixSegDs),
    ([0x64], .prefixSegFs),
    ([0x65], .prefixSegGs),
    ([0x66], .prefixOperandSize),
    ([0x67], .prefixAddressSize),
    ([0xF0], .prefixLock),
    ([0xF2], .prefixRepneRepnz),
    ([0xF3], .prefixRepRepeRepz),
    ([0x0F, 0x00, 0xC3], .sldtEw (.reg .ebx)),
    ([0x0F, 0x00, 0xCB], .strEw (.reg .ebx)),
    ([0x0F, 0x00, 0xD3], .lldtEw (.reg .ebx)),
    ([0x0F, 0x00, 0xDB], .ltrEw (.reg .ebx)),
    ([0x0F, 0x00, 0xE3], .verrEw (.reg .ebx)),
    ([0x0F, 0x00, 0xEB], .verwEw (.reg .ebx)),
    ([0x0F, 0x01, 0x47, 0x10], .sgdtMs (.base16 .bx (.d8 0x10#8))),
    ([0x0F, 0x01, 0x4F, 0x10], .sidtMs (.base16 .bx (.d8 0x10#8))),
    ([0x0F, 0x01, 0x57, 0x10], .lgdtMs (.base16 .bx (.d8 0x10#8))),
    ([0x0F, 0x01, 0x5F, 0x10], .lidtMs (.base16 .bx (.d8 0x10#8))),
    ([0x0F, 0x01, 0xE3], .smswEw (.reg .ebx)),
    ([0x0F, 0x01, 0xF3], .lmswEw (.reg .ebx)),
    ([0x0F, 0x01, 0x7F, 0x10], .invlpgM (.base16 .bx (.d8 0x10#8))),
    ([0x0F, 0x02, 0xCB], .larGvEw .ecx (.reg .ebx)),
    ([0x0F, 0x03, 0xCB], .lslGvEw .ecx (.reg .ebx)),
    ([0x0F, 0x06], .clts),
    ([0x0F, 0x08], .invd),
    ([0x0F, 0x09], .wbinvd),
    ([0x0F, 0x0B], .ud2),
    ([0x0F, 0x20, 0xDB], .movRdCd .ebx 3),
    ([0x0F, 0x21, 0xDB], .movRdDd .ebx 3),
    ([0x0F, 0x22, 0xDB], .movCdRd 3 .ebx),
    ([0x0F, 0x23, 0xDB], .movDdRd 3 .ebx),
    ([0x0F, 0x24, 0xDB], .reserved0F24 3 .ebx),
    ([0x0F, 0x26, 0xDB], .reserved0F26 3 .ebx),
    ([0x0F, 0x30], .wrmsr)
  ] : List (List Nat × Instr)).all reads = true := by decide +kernel

/-- Words of rows 290 to 347 of the opcode table, in 16-bit code. -/
theorem test_words_5 : ([
    ([0x0F, 0x31], .rdtsc),
    ([0x0F, 0x32], .rdmsr),
    ([0x0F, 0x33], .rdpmc),
    ([0x0F, 0x4C, 0xCB], .cmovccGvEv .l .ecx (.reg .ebx)),
    ([0x0F, 0x8C, 0x34, 0x12], .jccJv .l 0x1234#32),
    ([0x0F, 0x9C, 0xC3], .setccEb .l (.reg .bl)),
    ([0x0F, 0xA2], .cpuid),
    ([0x0F, 0xA3, 0xCB], .btEvGv (.reg .ebx) .ecx),
    ([0x0F, 0xA4, 0xCB, 0x8F], .shldEvGvIb (.reg .ebx) .ecx 0x8F#8),
    ([0x0F, 0xA5, 0xCB], .shldEvGvCL (.reg .ebx) .ecx),
    ([0x0F, 0xA6], .reserved0FA6),
    ([0x0F, 0xA7], .reserved0FA7),
    ([0x0F, 0xAA], .rsm),
    ([0x0F, 0xAB, 0xCB], .btsEvGv (.reg .ebx) .ecx),
    ([0x0F, 0xAC, 0xCB, 0x8F], .shrdEvGvIb (.reg .ebx) .ecx 0x8F#8),
    ([0x0F, 0xAD, 0xCB], .shrdEvGvCL (.reg .ebx) .ecx),
    ([0x0F, 0xAF, 0xCB], .imulGvEv .ecx (.reg .ebx)),
    ([0x0F, 0xB0, 0xCB], .cmpxchgEbGb (.reg .bl) .cl),
    ([0x0F, 0xB1, 0xCB], .cmpxchgEvGv (.reg .ebx) .ecx),
    ([0x0F, 0xB2, 0x4F, 0x10], .lssGvMp .ecx (.base16 .bx (.d8 0x10#8))),
    ([0x0F, 0xB3, 0xCB], .btrEvGv (.reg .ebx) .ecx),
    ([0x0F, 0xB4, 0x4F, 0x10], .lfsGvMp .ecx (.base16 .bx (.d8 0x10#8))),
    ([0x0F, 0xB5, 0x4F, 0x10], .lgsGvMp .ecx (.base16 .bx (.d8 0x10#8))),
    ([0x0F, 0xB6, 0xCB], .movzxGvEb .ecx (.reg .bl)),
    ([0x0F, 0xB7, 0xCB], .movzxGvEw .ecx (.reg .ebx)),
    ([0x0F, 0xBA, 0xE3, 0x8F], .btEvIb (.reg .ebx) 0x8F#8),
    ([0x0F, 0xBA, 0xEB, 0x8F], .btsEvIb (.reg .ebx) 0x8F#8),
    ([0x0F, 0xBA, 0xF3, 0x8F], .btrEvIb (.reg .ebx) 0x8F#8),
    ([0x0F, 0xBA, 0xFB, 0x8F], .btcEvIb (.reg .ebx) 0x8F#8),
    ([0x0F, 0xBB, 0xCB], .btcEvGv (.reg .ebx) .ecx),
    ([0x0F, 0xBC, 0xCB], .bsfGvEv .ecx (.reg .ebx)),
    ([0x0F, 0xBD, 0xCB], .bsrGvEv .ecx (.reg .ebx)),
    ([0x0F, 0xBE, 0xCB], .movsxGvEb .ecx (.reg .bl)),
    ([0x0F, 0xBF, 0xCB], .movsxGvEw .ecx (.reg .ebx)),
    ([0x0F, 0xC0, 0xCB], .xaddEbGb (.reg .bl) .cl),
    ([0x0F, 0xC1, 0xCB], .xaddEvGv (.reg .ebx) .ecx),
    ([0x0F, 0xC7, 0x4F, 0x10], .cmpxchg8bMq (.base16 .bx (.d8 0x10#8))),
    ([0x0F, 0xCD], .bswap .ebp),
    ([0xD8, 0x47, 0x10], .faddM32 (.base16 .bx (.d8 0x10#8))),
    ([0xD8, 0x4F, 0x10], .fmulM32 (.base16 .bx (.d8 0x10#8))),
    ([0xD8, 0x57, 0x10], .fcomM32 (.base16 .bx (.d8 0x10#8))),
    ([0xD8, 0x5F, 0x10], .fcompM32 (.base16 .bx (.d8 0x10#8))),
    ([0xD8, 0x67, 0x10], .fsubM32 (.base16 .bx (.d8 0x10#8))),
    ([0xD8, 0x6F, 0x10], .fsubrM32 (.base16 .bx (.d8 0x10#8))),
    ([0xD8, 0x77, 0x10], .fdivM32 (.base16 .bx (.d8 0x10#8))),
    ([0xD8, 0x7F, 0x10], .fdivrM32 (.base16 .bx (.d8 0x10#8))),
    ([0xD9, 0x47, 0x10], .fldM32 (.base16 .bx (.d8 0x10#8))),
    ([0xD9, 0x57, 0x10], .fstM32 (.base16 .bx (.d8 0x10#8))),
    ([0xD9, 0x5F, 0x10], .fstpM32 (.base16 .bx (.d8 0x10#8))),
    ([0xD9, 0x67, 0x10], .fldenv (.base16 .bx (.d8 0x10#8))),
    ([0xD9, 0x6F, 0x10], .fldcw (.base16 .bx (.d8 0x10#8))),
    ([0xD9, 0x77, 0x10], .fstenvFnstenv (.base16 .bx (.d8 0x10#8))),
    ([0xD9, 0x7F, 0x10], .fstcwFnstcw (.base16 .bx (.d8 0x10#8))),
    ([0xDA, 0x47, 0x10], .fiaddI32 (.base16 .bx (.d8 0x10#8))),
    ([0xDA, 0x4F, 0x10], .fimulI32 (.base16 .bx (.d8 0x10#8))),
    ([0xDA, 0x57, 0x10], .ficomI32 (.base16 .bx (.d8 0x10#8))),
    ([0xDA, 0x5F, 0x10], .ficompI32 (.base16 .bx (.d8 0x10#8))),
    ([0xDA, 0x67, 0x10], .fisubI32 (.base16 .bx (.d8 0x10#8)))
  ] : List (List Nat × Instr)).all reads = true := by decide +kernel

/-- Words of rows 348 to 405 of the opcode table, in 16-bit code. -/
theorem test_words_6 : ([
    ([0xDA, 0x6F, 0x10], .fisubrI32 (.base16 .bx (.d8 0x10#8))),
    ([0xDA, 0x77, 0x10], .fidivI32 (.base16 .bx (.d8 0x10#8))),
    ([0xDA, 0x7F, 0x10], .fidivrI32 (.base16 .bx (.d8 0x10#8))),
    ([0xDB, 0x47, 0x10], .fildI32 (.base16 .bx (.d8 0x10#8))),
    ([0xDB, 0x57, 0x10], .fistI32 (.base16 .bx (.d8 0x10#8))),
    ([0xDB, 0x5F, 0x10], .fistpI32 (.base16 .bx (.d8 0x10#8))),
    ([0xDB, 0x6F, 0x10], .fldM80 (.base16 .bx (.d8 0x10#8))),
    ([0xDB, 0x7F, 0x10], .fstpM80 (.base16 .bx (.d8 0x10#8))),
    ([0xDC, 0x47, 0x10], .faddM64 (.base16 .bx (.d8 0x10#8))),
    ([0xDC, 0x4F, 0x10], .fmulM64 (.base16 .bx (.d8 0x10#8))),
    ([0xDC, 0x57, 0x10], .fcomM64 (.base16 .bx (.d8 0x10#8))),
    ([0xDC, 0x5F, 0x10], .fcompM64 (.base16 .bx (.d8 0x10#8))),
    ([0xDC, 0x67, 0x10], .fsubM64 (.base16 .bx (.d8 0x10#8))),
    ([0xDC, 0x6F, 0x10], .fsubrM64 (.base16 .bx (.d8 0x10#8))),
    ([0xDC, 0x77, 0x10], .fdivM64 (.base16 .bx (.d8 0x10#8))),
    ([0xDC, 0x7F, 0x10], .fdivrM64 (.base16 .bx (.d8 0x10#8))),
    ([0xDD, 0x47, 0x10], .fldM64 (.base16 .bx (.d8 0x10#8))),
    ([0xDD, 0x57, 0x10], .fstM64 (.base16 .bx (.d8 0x10#8))),
    ([0xDD, 0x5F, 0x10], .fstpM64 (.base16 .bx (.d8 0x10#8))),
    ([0xDD, 0x67, 0x10], .frstor (.base16 .bx (.d8 0x10#8))),
    ([0xDD, 0x77, 0x10], .fsaveFnsave (.base16 .bx (.d8 0x10#8))),
    ([0xDD, 0x7F, 0x10], .fstswFnstsw (.base16 .bx (.d8 0x10#8))),
    ([0xDE, 0x47, 0x10], .fiaddI16 (.base16 .bx (.d8 0x10#8))),
    ([0xDE, 0x4F, 0x10], .fimulI16 (.base16 .bx (.d8 0x10#8))),
    ([0xDE, 0x57, 0x10], .ficomI16 (.base16 .bx (.d8 0x10#8))),
    ([0xDE, 0x5F, 0x10], .ficompI16 (.base16 .bx (.d8 0x10#8))),
    ([0xDE, 0x67, 0x10], .fisubI16 (.base16 .bx (.d8 0x10#8))),
    ([0xDE, 0x6F, 0x10], .fisubrI16 (.base16 .bx (.d8 0x10#8))),
    ([0xDE, 0x77, 0x10], .fidivI16 (.base16 .bx (.d8 0x10#8))),
    ([0xDE, 0x7F, 0x10], .fidivrI16 (.base16 .bx (.d8 0x10#8))),
    ([0xDF, 0x47, 0x10], .fildI16 (.base16 .bx (.d8 0x10#8))),
    ([0xDF, 0x57, 0x10], .fistI16 (.base16 .bx (.d8 0x10#8))),
    ([0xDF, 0x5F, 0x10], .fistpI16 (.base16 .bx (.d8 0x10#8))),
    ([0xDF, 0x67, 0x10], .fbld (.base16 .bx (.d8 0x10#8))),
    ([0xDF, 0x6F, 0x10], .fildI64 (.base16 .bx (.d8 0x10#8))),
    ([0xDF, 0x77, 0x10], .fbstp (.base16 .bx (.d8 0x10#8))),
    ([0xDF, 0x7F, 0x10], .fistpI64 (.base16 .bx (.d8 0x10#8))),
    ([0xD8, 0xC5], .faddSTSTi 5),
    ([0xD8, 0xCD], .fmulSTSTi 5),
    ([0xD8, 0xD5], .fcomSTSTi 5),
    ([0xD8, 0xDD], .fcompSTSTi 5),
    ([0xD8, 0xE5], .fsubSTSTi 5),
    ([0xD8, 0xED], .fsubrSTSTi 5),
    ([0xD8, 0xF5], .fdivSTSTi 5),
    ([0xD8, 0xFD], .fdivrSTSTi 5),
    ([0xD9, 0xC5], .fldSTSTi 5),
    ([0xD9, 0xCD], .fxchSTSTi 5),
    ([0xD9, 0xD0], .fnop),
    ([0xD9, 0xE0], .fchs),
    ([0xD9, 0xE1], .fabs),
    ([0xD9, 0xE4], .ftst),
    ([0xD9, 0xE5], .fxam),
    ([0xD9, 0xE8], .fld1),
    ([0xD9, 0xE9], .fldl2t),
    ([0xD9, 0xEA], .fldl2e),
    ([0xD9, 0xEB], .fldpi),
    ([0xD9, 0xEC], .fldlg2),
    ([0xD9, 0xED], .fldln2)
  ] : List (List Nat × Instr)).all reads = true := by decide +kernel

/-- Words of rows 406 to 456 of the opcode table, in 16-bit code. -/
theorem test_words_7 : ([
    ([0xD9, 0xEE], .fldz),
    ([0xD9, 0xF0], .f2xm1),
    ([0xD9, 0xF1], .fyl2x),
    ([0xD9, 0xF2], .fptan),
    ([0xD9, 0xF3], .fpatan),
    ([0xD9, 0xF4], .fxtract),
    ([0xD9, 0xF5], .fprem1),
    ([0xD9, 0xF6], .fdecstp),
    ([0xD9, 0xF7], .fincstp),
    ([0xD9, 0xF8], .fprem),
    ([0xD9, 0xF9], .fyl2xp1),
    ([0xD9, 0xFA], .fsqrt),
    ([0xD9, 0xFB], .fsincos),
    ([0xD9, 0xFC], .frndint),
    ([0xD9, 0xFD], .fscale),
    ([0xD9, 0xFE], .fsin),
    ([0xD9, 0xFF], .fcos),
    ([0xDA, 0xE9], .fucompp),
    ([0xDB, 0xE2], .fclexFnclex),
    ([0xDB, 0xE3], .finitFninit),
    ([0xDC, 0xC5], .faddSTiST 5),
    ([0xDC, 0xCD], .fmulSTiST 5),
    ([0xDC, 0xE5], .fsubrSTiST 5),
    ([0xDC, 0xED], .fsubSTiST 5),
    ([0xDC, 0xF5], .fdivrSTiST 5),
    ([0xDC, 0xFD], .fdivSTiST 5),
    ([0xDD, 0xC5], .ffreeSTi 5),
    ([0xDD, 0xD5], .fstSTi 5),
    ([0xDD, 0xDD], .fstpSTi 5),
    ([0xDD, 0xE5], .fucomSTiST 5),
    ([0xDD, 0xED], .fucompSTi 5),
    ([0xDE, 0xC5], .faddpSTiST 5),
    ([0xDE, 0xCD], .fmulpSTiST 5),
    ([0xDE, 0xE5], .fsubrpSTiST 5),
    ([0xDE, 0xED], .fsubpSTiST 5),
    ([0xDE, 0xF5], .fdivrpSTiST 5),
    ([0xDE, 0xFD], .fdivpSTiST 5),
    ([0xDE, 0xD9], .fcompp),
    ([0xDF, 0xE0], .fstswAxFnstswAx),
    ([0xDA, 0xC5], .fcmovbSTSTi 5),
    ([0xDA, 0xCD], .fcmoveSTSTi 5),
    ([0xDA, 0xD5], .fcmovbeSTSTi 5),
    ([0xDA, 0xDD], .fcmovuSTSTi 5),
    ([0xDB, 0xC5], .fcmovnbSTSTi 5),
    ([0xDB, 0xCD], .fcmovneSTSTi 5),
    ([0xDB, 0xD5], .fcmovnbeSTSTi 5),
    ([0xDB, 0xDD], .fcmovnuSTSTi 5),
    ([0xDB, 0xED], .fucomiSTSTi 5),
    ([0xDB, 0xF5], .fcomiSTSTi 5),
    ([0xDF, 0xED], .fucomipSTSTi 5),
    ([0xDF, 0xF5], .fcomipSTSTi 5)
  ] : List (List Nat × Instr)).all reads = true := by decide +kernel
/-! What WellFormed refuses: an ill-formed term for each of its checks. -/

theorem test_wf_refuses_wide_immediate : Instr.wf ⟨false, false⟩ (.pushIv 0x10000#32) = false ∧
    Instr.wf ⟨false, false⟩ (.movEvIv (.reg .eax) 0x10000#32) = false ∧ Instr.wf ⟨false, false⟩ (.jmpJv 0xFFFFFFFF#32) = false ∧
    Instr.wf ⟨false, true⟩ (.jmpAp 0x10000#32 0) = false ∧ Instr.wf ⟨true, false⟩ (.movALOb 0x10000#32) = false := by decide

theorem test_wf_refuses_address_size : Ea.wf true (.base16 .si .none) = false ∧ Ea.wf true (.abs16 0) = false ∧
    Ea.wf false (.base32 .eax .none) = false ∧ Ea.wf false (.abs32 0) = false ∧ Ea.wf false (.sib 0 .eax .eax .none) = false ∧
    Ea.wf false (.sibAbs 0 .eax 0) = false := by decide

theorem test_wf_refuses_unencodable_base : Ea.wf false (.base16 .bp .none) = false ∧ Ea.wf true (.base32 .esp .none) = false ∧
    Ea.wf true (.base32 .ebp .none) = false ∧ Ea.wf true (.sib 0 .eax .ebp .none) = false := by decide

theorem test_wf_refuses_operand : Instr.wf ⟨true, true⟩ (.addEbGb (.mem (.abs16 0)) .al) = false ∧
    Instr.wf ⟨true, true⟩ (.leaGvM .eax (.abs16 0)) = false ∧ Instr.wf ⟨true, true⟩ (.movSwEw .cs (.reg .eax)) = false ∧
    Instr.wf ⟨true, true⟩ (.xchgEAXRv .eax) = false := by decide

/-! Single steps. The expected values are worked by hand, or are the spec's worked examples where a test names one. -/

/-- A next state of which `f` holds. -/
def ends (o : Outcome State Fault Refusal) (f : State → Bool) : Bool :=
  match o with
  | .next t => f t
  | _ => false

/-- 5 + FBH is 100H: AL 0, with CF, PF, AF and ZF. -/
theorem test_add_wraps : ends (exec (.addALIb 0xFB#8) real) fun t =>
    t.gpr.eax = 0x100#32 && t.eflags = 0x57#32 && t.eip = real.nextEip := by decide +kernel

/-- 5 - 6 borrows: CF, PF, AF and SF, and AL stays. -/
theorem test_cmp_borrows : ends (exec (.cmpALIb 6#8) real) fun t =>
    t.gpr.eax = 0x105#32 && t.eflags = 0x97#32 := by decide +kernel

/-- 7FH + 1 overflows. -/
theorem test_inc_overflows : ends (exec (.incEb (.reg .al)) (eax real 0x7F#32)) fun t =>
    t.gpr.eax = 0x80#32 && t.flag fOF && t.flag fSF && t.flag fAF && !t.flag fCF := by decide +kernel

/-- 85H shifted left by one is 0AH; the flags hold an undefined AF and are not looked at. -/
theorem test_shl_drops_top : ends (exec (.shlSalEb1 (.reg .al)) (eax real 0x85#32)) fun t =>
    t.gpr.eax = 0x0A#32 := by decide +kernel

/-- RCR moves CF into the top bit. -/
theorem test_rcr_takes_carry : ends (exec (.rcrEv1 (.reg .eax)) { eax real 2#32 with eflags := 3#32 }) fun t =>
    t.gpr.eax = 0x8001#32 && !t.flag fCF := by decide +kernel

/-- -2 by 3 is -6: the upper half is all ones. -/
theorem test_imul_signed : ends (exec (.imulEb (.reg .bl)) { eax real 0xFE#32 with gpr := { (eax real 0xFE#32).gpr with ebx := 3#32 } })
    fun t => t.gpr.eax = 0xFFFA#32 := by decide +kernel

/-- -7 by 2 is -3, rest -1. -/
theorem test_idiv_truncates : ends (exec (.idivEb (.reg .bl)) { eax real 0xFFF9#32 with gpr := { (eax real 0xFFF9#32).gpr with ebx := 2#32 } })
    fun t => t.gpr.eax = 0xFFFD#32 := by decide +kernel

/-- Division by 0 saves the place of the DIV itself and enters vector 0. -/
theorem test_div_by_zero : ends (exec (.divEb (.reg .bl)) real) fun t =>
    t.eip = 0 && t.num 0x7FFA 2 = 0xFFF0 && t.gpr.eax = 0x105#32 := by decide +kernel

/-- PUSH SP pushes the value before (43_general_instructions.md). -/
theorem test_push_sp : ends (exec (.pushRv .esp) real) fun t => t.num 0x7FFE 2 = 0x8000 && t.gpr.esp = 0x7FFE#32 := by
  decide +kernel

/-- Writing AH leaves the rest of EAX. -/
theorem test_mov_high_byte : ends (exec (.movR8Ib .ah 0x77#8) (eax real 0x12345678#32)) fun t => t.gpr.eax = 0x12347778#32 := by
  decide +kernel

/-- The example of 43_general_instructions.md R806. -/
theorem test_xchg_memory :
    ends (exec (.xchgEvGv (.mem (.base32 .ebx .none)) .eax) (eax (prot.setR32 .ebx 0x500#32) 2#32)) fun t =>
      t.num 0x500 4 = 2 && t.gpr.eax = 0x1234#32 := by decide +kernel

/-- The bit index -1 selects the highest bit of the word below. -/
theorem test_bts_below : ends (exec (.btsEvGv (.mem m16) .eax) (eax real 0xFFFF#32)) fun t =>
    t.num 0x4FE 2 = 0x8000 && t.gpr.eax = 0xFFFF#32 := by decide +kernel

/-- A repeated MOVSB counts down and stays at itself until the count is 0. -/
theorem test_rep_movsb : ends (exec .movsbYbXb ({ rep1 with ins := { rep1.ins with len := 2 } }.setR32 .ecx 2#32)) fun t =>
    t.gpr.ecx = 1#32 && t.gpr.esi = 0x401#32 && t.gpr.edi = 0x501#32 && t.eip = 0xFFF0#32 && t.lat.midRep := by decide +kernel

/-- The example of 67_8086_emulation.md R1230: INT 21H at 1000:0200. -/
def dos : State :=
  { real with
    eip := 0x200#32, eflags := 0x202#32, gpr := { real.gpr with esp := 0x100#32 }
    sys := { real.sys with idtr := ⟨0, 0x3FF#16⟩ }
    mem := memWriteList (memWriteList [] 0x84 [0x34#8, 0x12#8, 0#8, 0xF0#8]) 0x10200 [0xCD#8, 0x21#8]
    seg := { real.seg with cs := real.seg.cs.real 0x1000#16, ss := real.seg.ss.real 0x2000#16 } }

theorem test_int_example : ends (step dos) fun t =>
    t.num 0x200FE 2 = 0x202 && t.num 0x200FC 2 = 0x1000 && t.num 0x200FA 2 = 0x202 && t.gpr.esp = 0xFA#32 &&
      t.eflags = 2#32 && t.seg.cs.sel = 0xF000#16 && t.seg.cs.base = 0xF0000#32 && t.eip = 0x1234#32 := by decide +kernel

/-- The example of 67_8086_emulation.md R1231: the IRET at F000:1234. -/
def dosBack : State :=
  { dos with
    eip := 0x1234#32, eflags := 2#32, gpr := { dos.gpr with esp := 0xFA#32 }
    mem := memWriteList (memWriteList [] 0x200FA [2#8, 2#8, 0#8, 0x10#8, 2#8, 2#8]) 0xF1234 [0xCF#8]
    seg := { dos.seg with cs := real.seg.cs.real 0xF000#16 } }

theorem test_iret_example : ends (step dosBack) fun t =>
    t.eip = 0x202#32 && t.seg.cs.sel = 0x1000#16 && t.seg.cs.base = 0x10000#32 && t.eflags = 0x202#32 &&
      t.gpr.esp = 0x100#32 := by decide +kernel

/-- A gate of protected mode saves EFLAGS, CS and EIP and clears IF. -/
theorem test_int_gate : ends (exec (.intIb 0x21#8) { prot with eflags := 0x202#32 }) fun t =>
    t.eip = 0x1234#32 && t.num 0x7FFC 4 = 0x202 && t.num 0x7FF8 4 = 8 && t.gpr.esp = 0x7FF4#32 && t.eflags = 2#32 := by
  decide +kernel

/-- HLT at level 3 raises #GP(0) through the gate of vector 13; without a stack for level 0 in the TSS the delivery
fails in turn and the processor shuts down. -/
theorem test_hlt_user : ends (exec .hlt user) fun t => t.lat.activity = .shutdown := by decide +kernel

/-- The accessed flag of a descriptor is set by the load (23_protection.md R451, example 3). -/
theorem test_load_sets_accessed : ends (exec (.movSwEw .ds (.reg .eax)) (eax prot 0x30#32)) fun t =>
    t.num 0x1035 1 = 0x93 && t.seg.ds.sel = 0x30#16 := by decide +kernel

/-- LMSW cannot clear PE. -/
theorem test_lmsw_keeps_pe : ends (exec (.lmswEw (.reg .eax)) (eax prot 0xE#32)) fun t => t.sys.cr0 = 0x1F#32 := by
  decide +kernel

/-- With TS set an ESC raises #NM, vector 7. -/
theorem test_esc_ts : ends (exec .fld1 { real with sys := { real.sys with cr0 := 0x18#32, idtr := ⟨0, 0x3FF#16⟩ }, mem := memWrite [] 0x1C 0x55#8 })
    fun t => t.eip = 0x55#32 := by decide +kernel

/-- FNINIT. -/
theorem test_fninit : ends (exec .finitFninit { real with fpu := { real.fpu with cw := 0, sw := 0xFFFF#16 } }) fun t =>
    t.fpu.cw = 0x37F#16 && t.fpu.sw = 0 && t.fpu.tw = 0xFFFF#16 := by decide +kernel

/-- The linear address 5120H lies in the page at 7000H; its entry is marked accessed. -/
theorem test_paged_address : (match translate 0x5120#32 false true paged with
    | .ok p u => decide (p.pa = 0x7120) && decide (u.num 0x3014 4 = 0x7027)
    | .error _ _ => false) = true := by decide +kernel

/-- An operand-size prefix is a step of its own. -/
theorem test_prefix_step : ends (step { dos with mem := memWrite [] 0x10200 0x66#8 }) fun t =>
    t.ins.op66 && t.ins.len = 1 && t.eip = 0x200#32 := by decide +kernel

/-- The first instruction after reset is the word that the host places. -/
theorem test_first_step : ends (step (State.reset.withFetchWord 24 0x1234B8)) fun t => t.gpr.eax = 0x1234#32 := by
  decide +kernel

/-- The lone processor boots: its BIPI is the first, its FIPI ends the protocol, and it runs at the reset vector with its
BSP flag set (63_multiprocessor.md R1036, R1037). -/
theorem test_boot_alone : ends (step State.reset) fun t =>
    t.lat.activity = .elected && !bit t.msr.apicBase 8 &&
      ends (step t) fun u => u.lat.activity = .running && bit u.msr.apicBase 8 && u.eip = 0xFFF0#32 := by decide +kernel

/-- An SMI enters at SMBASE + 8000H (64_smm.md R1069); the NMI waits. -/
theorem test_smi : ends (step smi) fun t =>
    t.smm.inSmm && t.eip = 0x8000#32 && t.seg.cs.base = 0x30000#32 && t.seg.cs.sel = 0x3000#16 &&
      t.eflags = 2#32 && t.smm.saved.segs.cs.base = 0xFFFF0000#32 && t.lat.nmiPending := by decide +kernel

/-- A MOV from the APIC page reads TPR, a store of EOI ends 31H. -/
theorem test_apic : (ends (exec (.movGvEv .eax (.mem (.base32 .ebx .none))) { apic with apic := { apic.apic with tpr := 0x20#8 } })
      fun t => t.gpr.eax = 0x20#32) = true ∧
    (ends (exec (.movEvGv (.mem (.base32 .ebx (.d8 0x30#8))) .eax) apic) fun t => t.apic.isr = 0) = true := by
  decide +kernel

/-- A JMP to a TSS: the new registers, the old ones saved, the busy flags moved. -/
theorem test_jmp_task : ends (exec (.jmpAp 0 0x20#16) tasks) fun t =>
    t.eip = 0x40#32 && t.eflags = 2#32 && t.sys.tr.sel = 0x20#16 && t.sys.cr0 = 0x19#32 && t.gpr.eax = 0 &&
      t.num 0x3228 4 = 0x105 && t.num 0x1025 1 = 0x8B && t.num 0x1045 1 = 0x89 := by decide +kernel

/-- A CALL through a gate to level 0 with a parameter: the old stack, the parameter and the return address on the new one. -/
theorem test_call_inner : ends (exec (.callAp 0 0x48#16) { userTasks with gpr := { userTasks.gpr with esp := 0x500#32 } }) fun t =>
    t.eip = 0x1234#32 && t.cpl = 0 && t.seg.cs.sel = 8#16 && t.gpr.esp = 0x6FEC#32 && t.num 0x6FFC 4 = 0x13 &&
      t.num 0x6FF8 4 = 0x500 && t.num 0x6FF4 4 = 0x1234 && t.num 0x6FF0 4 = 0xB && t.num 0x6FEC 4 = 0xFFF0 := by decide +kernel

/-- INT 21H in virtual-8086 mode: GS first, then the frame of level 0; the data segment registers are null. -/
theorem test_int_v86 : ends (exec (.intIb 0x21#8) v86Tasks) fun t =>
    t.eip = 0x1234#32 && t.cpl = 0 && t.gpr.esp = 0x6FDC#32 && t.num 0x6FE4 4 = 0x23002 && !t.seg.ds.valid &&
      t.eflags = 0x3002#32 := by decide +kernel

/-- The two examples of 67_8086_emulation.md R1261: INT 21H redirected with the flags `f`. -/
def redirectExample (f : Word) : State :=
  { redir f 0x88 0x6C 0 with
    eip := 0x200#32, mem := memWriteList (redir f 0x88 0x6C 0).mem 0x84 [0x34, 0x12, 0, 0xF0],
    gpr := { v86.gpr with esp := 0x100#32 },
    seg := { v86.seg with cs := Seg.v86 0x1000#16, ss := Seg.v86 0x2000#16 }, ins := { Ins.clear with len := 2 } }

theorem test_int_redirected : (ends (exec (.intIb 0x21#8) (redirectExample 0x23202#32)) fun t =>
      t.num 0x200FA 6 = 0x020210000202 && t.eflags = 0x23002#32 && t.eip = 0x1234#32 && t.seg.cs.base = 0xF0000#32 &&
        t.gpr.esp = 0xFA#32) = true ∧
    (ends (exec (.intIb 0x21#8) (redirectExample 0xA0202#32)) fun t =>
      t.num 0x200FA 6 = 0x320210000202 && t.eflags = 0x20202#32) = true := by decide +kernel

/-- A fixed message that de-asserts the illegal vector 5 sets the receive illegal-vector and accept errors (62_apic.md R962,
R974). -/
theorem test_illegal_deassert :
    (match busMessage { fixed 5 with levelTrigger := true, assert := false } { real with apic := apic.apic } with
      | .ok _ t => bit t.apic.esrPending 6 && bit t.apic.esrPending 3
      | _ => false) = true := by decide +kernel

/-- The change of the ID stops, a store of the same ID does not (62_apic.md R946). -/
theorem test_id_in_flight :
    (match exec (.movEvGv (.mem (.abs32 0xFEE00020#32)) .eax) sending with
      | .fault .apicIdChange => true
      | _ => false) = true ∧
    (ends (exec (.movEvGv (.mem (.abs32 0xFEE00020#32)) .eax) (eax sending 0x03000000#32)) fun t => t.apic.id = 3) = true := by
  decide +kernel

/-- A level request that stands in IRR does not become Send Pending when the class of TPR is 15 (62_apic.md R954). -/
theorem test_level_accepted :
    (Apic.levelPin { apic.apic with tpr := 0xF0#8, irr := BitVec.twoPow 256 0x41, tmr := BitVec.twoPow 256 0x41,
                                    lvtLint0 := 0xC041#32 } .lint0 true).lvtLint0 = 0xC041#32 := by decide +kernel

/-- The immediate of a reserved or blank cell is consumed before #UD (30_encoding.md R496): 82, C0 /6, C7 /1 and 0F BA /0. -/
theorem test_undefined_immediates :
    decode ⟨false, false⟩ [0x82#8] = .error .short ∧
    decode ⟨false, false⟩ [0xC0#8, 0xF0#8] = .error .short ∧
    decode ⟨false, false⟩ [0xC0#8, 0xF0#8, 0x01#8] = .error .undefined ∧
    decode ⟨true, true⟩ [0xC7#8, 0xC8#8, 0x01#8, 0x02#8, 0x03#8] = .error .short ∧
    decode ⟨true, true⟩ [0xC7#8, 0xC8#8, 0x01#8, 0x02#8, 0x03#8, 0x04#8] = .error .undefined ∧
    decode ⟨false, false⟩ [0x0F#8, 0xBA#8, 0xC0#8] = .error .short := by decide +kernel

/-- Three ticks fall at the boundary that takes the SMI, and the NMI is left for the next (62_apic.md R975). -/
theorem test_ticks_beside_event :
    (match nextEvent { real with apic := { apic.apic with curCount := 5#32 },
                                 events := [.timerTick, .timerTick, .timerTick, .smi, .nmi] } with
      | .ok e t => decide (e = .smi) && decide (t.apic.curCount = 2) && decide (t.events = [.nmi])
      | _ => false) = true := by decide +kernel

/-- IRET to level 3, and to virtual-8086 mode. -/
theorem test_iret_outer : (ends (exec .iretIretd (onStack tasks 0x620#32)) fun t =>
      t.eip = 0x50#32 && t.cpl = 3 && t.seg.cs.sel = 0x53#16 && t.seg.ss.sel = 0x5B#16 && t.gpr.esp = 0x7654#32 &&
        !t.seg.ds.valid) = true ∧
    (ends (exec .iretIretd (onStack tasks 0x600#32)) fun t =>
      t.eip = 0x50#32 && t.cpl = 3 && t.flag fVM && t.seg.cs.base = 0x530#32 && t.seg.ss.base = 0x5B0#32 &&
        t.gpr.esp = 0x7654#32 && t.seg.gs.base = 0x500#32 && t.eflags = 0x20202#32) = true := by decide +kernel

/-- The example of 40_system_instructions.md R601: MTRRdefType is set to C06H. -/
theorem test_wrmsr_example : ends (exec .wrmsr { real with gpr := ⟨0xC06#32, 0x2FF#32, 0, 0, 0, 0, 0, 0⟩ }) fun t =>
    t.msr.mtrrDef = 0xC06#64 := by decide +kernel

/-- The example of 65_debug_perfmon.md R1152. -/
theorem test_rdpmc_example : ends (exec .rdpmc { real with msr := { real.msr with perfCtr1 := 0xFF80000000#40 } }) fun t =>
    t.gpr.eax = 0x80000000#32 && t.gpr.edx = 0xFF#32 := by decide +kernel

/-- CPUID with EAX = 0 names the vendor, Genu, ineI, ntel (40_system_instructions.md R604). -/
theorem test_cpuid_vendor : ends (exec .cpuid (eax real 0)) fun t =>
    t.gpr.ebx = 0x756E6547#32 && t.gpr.edx = 0x49656E69#32 && t.gpr.ecx = 0x6C65746E#32 := by decide +kernel

/-- A far pointer whose selector lies beyond offset FFFFH raises #GP through vector 13, and does not wrap. -/
theorem test_far_pointer_limit :
    ends (exec (.lesGvMp .eax (.abs16 0xFFFE#16)) { real with sys := { real.sys with idtr := ⟨0, 0x3FF#16⟩ }, mem := memWrite [] 0x34 0x55#8 })
      fun t => t.eip = 0x55#32 := by decide +kernel

end Sys2Proof.Tests
end

/-! SUPPORT. The guards in front of the system instructions: what they answer, and that an instruction whose guard
raises ends in that exception. -/
namespace Sys2Proof.Machine
open Host

/-- A body that raises at once, from the state it starts at, makes an instruction that raises. -/
theorem raises_of_body {i : Instr} {allowed : Bool} {body : M Unit} {s : State} {v : Nat} {c : Option Half}
    (hi : exec i s = instr allowed body s) (hl : s.lockOk allowed = true) (hb : body s.start = raise v c s.start) :
    Raises i s v c := by
  have hlock : (s.ins.lock && !allowed) = false := by
    simpa [State.lockOk] using congrArg not hl
  refine ⟨s.start, ?_, rfl, rfl, rfl, rfl, rfl, rfl, rfl, rfl, rfl, rfl, rfl⟩
  unfold State.start at hb ⊢
  simp only [hi, instr, hlock, Bool.false_eq_true, if_false, run_bind, hb, raise, run_throw]

/-- LOCK where it is not allowed raises #UD (30_encoding.md R483). -/
theorem raises_of_lock {i : Instr} {allowed : Bool} {body : M Unit} {s : State}
    (hi : exec i s = instr allowed body s) (hl : s.lockOk allowed = false) : Raises i s 6 none := by
  have hlock : (s.ins.lock && !allowed) = true := by
    simpa [State.lockOk] using congrArg not hl
  refine ⟨s, ?_, rfl, rfl, rfl, rfl, rfl, rfl, rfl, rfl, rfl, rfl, rfl⟩
  simp only [hi, instr, hlock, if_true]

/-- A body that ends normally and marks nothing makes an instruction that completes. -/
theorem instr_completes {allowed : Bool} {body : M Unit} {s u : State} (hs : s.ready) (hl : s.lockOk allowed = true)
    (hb : body s.start = .ok () u) (htr : u.tr = s.tr) : ∃ t, instr allowed body s = .next t := by
  have hbr : u.tr.branched = false := by rw [htr, hs.2]; rfl
  exact ⟨_, instr_next hl hb (by simp [hbr])⟩

/-- What follows an exception is not reached. -/
theorem run_bind_raise {α β : Type} {x : M α} {s : State} {v : Nat} {c : Option Half} (f : α → M β)
    (h : x s = raise v c s) : (x >>= f) s = raise v c s := by
  simp only [run_bind, h, raise, run_throw]

/-- The instruction does not allow LOCK, and `g` comes before everything else it does. -/
def GuardedBy (g : M Unit) (i : Instr) : Prop := ∃ rest : Unit → M Unit, ∀ s, exec i s = instr false (g >>= rest) s

/-- An instruction ends in what its guard raises. -/
theorem GuardedBy.raises {g : M Unit} {i : Instr} {s : State} {v : Nat} {c : Option Half} (hi : GuardedBy g i)
    (hl : s.lockOk false = true) (hg : g s.start = raise v c s.start) : Raises i s v c := by
  obtain ⟨rest, h⟩ := hi
  exact raises_of_body (h s) hl (run_bind_raise rest hg)

/-- A guard that raises #UD makes an instruction that raises it, with LOCK or without. -/
theorem GuardedBy.raises_ud {g : M Unit} {i : Instr} {s : State} (hi : GuardedBy g i)
    (hg : g s.start = raise 6 none s.start) : Raises i s 6 none := by
  obtain ⟨rest, h⟩ := hi
  cases hl : s.lockOk false with
  | true => exact raises_of_body (h s) hl (run_bind_raise rest hg)
  | false => exact raises_of_lock (h s) hl

/-- The guard of the privileged instructions (23_protection.md R430). -/
theorem run_requireCpl0 (s : State) :
    requireCpl0 s = if s.privileged then .ok () s else raise 13 (some 0) s := by
  have hguard : (s.prot && (s.flag fVM || decide (s.cpl ≠ 0))) = !s.privileged := by
    simp [State.privileged]
  simp only [requireCpl0, run_bind, run_get, hguard]
  cases s.privileged <;> rfl

/-- The guard of the instructions of protected mode (23_protection.md R432). -/
theorem run_requireProt (s : State) : requireProt s = if s.protMode then .ok () s else raise 6 none s := by
  have hguard : s.mode8086 = !s.protMode := by simp [State.mode8086, State.protMode]
  simp only [requireProt, run_bind, run_get, hguard]
  cases s.protMode <;> rfl

@[simp] theorem State.start_privileged (s : State) : s.start.privileged = s.privileged := rfl
@[simp] theorem State.start_protMode (s : State) : s.start.protMode = s.protMode := rfl

/-- Protection is enabled and the level is another than 0: where CR4 decides over RDTSC and RDPMC (23_protection.md R431). -/
def State.above0 (s : State) : Bool := s.prot && decide (s.cpl ≠ 0)

@[simp] theorem State.start_above0 (s : State) : s.start.above0 = s.above0 := rfl

theorem State.above0_of_cpl {s : State} (hp : s.prot = true) (hc : s.cpl ≠ 0) : s.above0 = true := by
  simp only [State.above0, hp, decide_eq_true hc, Bool.and_true]

/-- Above level 0 no privileged instruction may run. -/
theorem State.privileged_of_above0 {s : State} (h : s.above0 = true) : s.privileged = false := by
  simp only [State.above0, Bool.and_eq_true, decide_eq_true_eq] at h
  obtain ⟨hp, hc⟩ := h
  simp only [State.privileged, hp, decide_eq_false hc, Bool.and_false, Bool.not_true, Bool.or_false]

theorem State.above0_of_privileged {s : State} (h : s.privileged = true) : s.above0 = false :=
  Bool.eq_false_iff.mpr fun ha => by simp [State.privileged_of_above0 ha] at h

/-- Every privileged instruction checks the level first, MOV of a debug register within its choice of the register. -/
theorem IsPrivileged.guardedBy {i : Instr} (h : IsPrivileged i) : GuardedBy requireCpl0 i := by
  cases h with
  | fromDr r n => exact ⟨_, fun s => congrArg (instr false · s) (bind_assoc requireCpl0 _ _)⟩
  | toDr n r => exact ⟨_, fun s => congrArg (instr false · s) (bind_assoc requireCpl0 _ _)⟩
  | lgdt | lidt | lmsw | clts | fromCr | toCr | invd | wbinvd | invlpg | hlt | rdmsr | wrmsr => exact ⟨_, fun _ => rfl⟩

/-- Every instruction of protected mode checks the mode first. -/
theorem IsProtOnly.guardedBy {i : Instr} (h : IsProtOnly i) : GuardedBy requireProt i := by
  cases h <;> exact ⟨_, fun _ => rfl⟩

/-- The guard of LLDT and LTR, which check the mode and then the level (40_system_instructions.md R575, R577). -/
def requireProtCpl0 : M Unit := do
  requireProt
  requireCpl0

theorem run_requireProtCpl0 (s : State) : requireProtCpl0 s =
    if s.protMode then (if s.privileged then .ok () s else raise 13 (some 0) s) else raise 6 none s := by
  simp only [requireProtCpl0, run_bind, run_requireProt]
  cases s.protMode with
  | true => exact run_requireCpl0 s
  | false => rfl

theorem guardedBy_lldt (rm : Rm) : GuardedBy requireProtCpl0 (.lldtEw rm) :=
  ⟨_, fun s => congrArg (instr false · s) (bind_assoc requireProt _ _).symm⟩

theorem guardedBy_ltr (rm : Rm) : GuardedBy requireProtCpl0 (.ltrEw rm) :=
  ⟨_, fun s => congrArg (instr false · s) (bind_assoc requireProt _ _).symm⟩

/-- RDTSC, by CR4.TSD and the level (65_debug_perfmon.md R1140). -/
theorem run_rdtsc (s : State) : rdtsc s =
    if (bit s.sys.cr4 2 && s.above0) = true then raise 13 (some 0) s
    else .ok () ((s.setR32 .edx (field s.msr.tsc 32 32)).setR32 .eax (field s.msr.tsc 0 32)) := by
  simp only [rdtsc, run_bind, run_get, State.above0, Bool.and_assoc, run_ite]
  rfl

/-- The performance counter that ECX selects. -/
def State.perfCounter (s : State) : BitVec Config.perfBits :=
  if s.gpr.ecx = 0 then s.msr.perfCtr0 else s.msr.perfCtr1

/-- RDPMC, by CR4.PCE, the level and the counter asked for (65_debug_perfmon.md R1152). -/
theorem run_rdpmc (s : State) : rdpmc s =
    if (!bit s.sys.cr4 8 && s.above0) = true then raise 13 (some 0) s
    else if s.gpr.ecx ≠ 0 ∧ s.gpr.ecx ≠ 1 then raise 13 (some 0) s
    else .ok () ((s.setR32 .eax (field s.perfCounter 0 32)).setR32 .edx (field s.perfCounter 32 32 &&& 0xFF#32)) := by
  simp only [rdpmc, run_bind, run_get, State.above0, Bool.and_assoc, run_ite]
  rfl

theorem rdtsc_raises {s : State} (hl : s.lockOk false = true) (ha : s.above0 = true) (hb : bit s.sys.cr4 2 = true) :
    Raises .rdtsc s 13 (some 0) :=
  raises_of_body (body := rdtsc) rfl hl (by simp [run_rdtsc, ha, hb])

theorem rdpmc_raises {s : State} (hl : s.lockOk false = true) (ha : s.above0 = true) (hb : bit s.sys.cr4 8 = false) :
    Raises .rdpmc s 13 (some 0) :=
  raises_of_body (body := rdpmc) rfl hl (by simp [run_rdpmc, ha, hb])

theorem rdtsc_completes {s : State} (hs : s.ready) (hl : s.lockOk false = true)
    (h : bit s.sys.cr4 2 = false ∨ s.privileged = true) : ∃ t, exec .rdtsc s = .next t := by
  have hok : ¬(bit s.sys.cr4 2 && s.above0) = true := by
    rcases h with hb | hp
    · simp [hb]
    · simp [State.above0_of_privileged hp]
  exact instr_completes (body := rdtsc) hs hl ((run_rdtsc s.start).trans (if_neg hok)) rfl

theorem rdpmc_completes {s : State} (hs : s.ready) (hl : s.lockOk false = true)
    (h : bit s.sys.cr4 8 = true ∨ s.privileged = true) (hecx : s.r32 .ecx = 0 ∨ s.r32 .ecx = 1) :
    ∃ t, exec .rdpmc s = .next t := by
  have hok : ¬(!bit s.sys.cr4 8 && s.above0) = true := by
    rcases h with hb | hp
    · simp [hb]
    · simp [State.above0_of_privileged hp]
  have hsel : ¬(s.gpr.ecx ≠ 0 ∧ s.gpr.ecx ≠ 1) := fun ⟨h0, h1⟩ => hecx.elim h0 h1
  exact instr_completes (body := rdpmc) hs hl ((run_rdpmc s.start).trans ((if_neg hok).trans (if_neg hsel))) rfl

/-- Settles O28: each group of instructions by its guard. -/
theorem privilege : Obligations.Privilege := by
  refine ⟨?privileged, ?tables, ?denied, ?granted, ?protOnly⟩
  case privileged =>
    intro i s hi hl hp
    exact hi.guardedBy.raises hl (by simp [run_requireCpl0, hp])
  case tables =>
    intro rm s hl hm hc
    have hprot : s.prot = true := (Bool.and_eq_true_iff.mp hm).1
    have hguard : requireProtCpl0 s.start = raise 13 (some 0) s.start := by
      simp [run_requireProtCpl0, hm, State.privileged_of_above0 (State.above0_of_cpl hprot hc)]
    exact ⟨(guardedBy_lldt rm).raises hl hguard, (guardedBy_ltr rm).raises hl hguard⟩
  case denied =>
    intro s hl hp hc
    have ha : s.above0 = true := State.above0_of_cpl hp hc
    exact ⟨rdtsc_raises hl ha, rdpmc_raises hl ha⟩
  case granted => exact fun s hs hl => ⟨rdtsc_completes hs hl, rdpmc_completes hs hl⟩
  case protOnly =>
    intro i s hi hm
    exact hi.guardedBy.raises_ud (by simp [run_requireProt, hm])

end Sys2Proof.Machine

/-! SUPPORT. DIV and IDIV: what they do with a divisor that has been read, and the exception they raise. -/
namespace Sys2Proof.Machine
open Host

/-- A body that only records breakpoint hits before it raises makes an instruction that raises. -/
theorem raises_of_body_withHit {i : Instr} {allowed : Bool} {body : M Unit} {s : State} {k : BitVec 4} {v : Nat}
    {c : Option Half} (hi : exec i s = instr allowed body s) (hl : s.lockOk allowed = true)
    (hb : body s.start = raise v c (s.start.withHit k)) : Raises i s v c := by
  have hlock : (s.ins.lock && !allowed) = false := by
    simpa [State.lockOk] using congrArg not hl
  refine ⟨s.start.withHit k, ?_, rfl, rfl, rfl, rfl, rfl, rfl, rfl, rfl, rfl, rfl, rfl⟩
  unfold State.start at hb ⊢
  simp only [hi, instr, hlock, Bool.false_eq_true, if_false, run_bind, hb, raise, run_throw]

theorem run_getW (s : State) : getW s = .ok (bits s.o32) s := rfl

theorem run_getPair (w : Nat) (s : State) : getPair w s = .ok (s.dividend w) s := rfl

/-- The divisor is 0, or the quotient cannot be represented in `w` bits (43_general_instructions.md R818). -/
def State.divFails (s : State) (signed : Bool) {w : Nat} (b : BitVec w) : Prop :=
  b = 0 ∨ tooWide signed w (quotient signed (s.dividend w) b).1 = true

/-- The unsigned quotient needs more than `w` bits. -/
theorem tooWide_unsigned_quotient {w : Nat} (d : BitVec (w + w)) (b : BitVec w) :
    tooWide false w (quotient false d b).1 = true ↔ 2 ^ w ≤ d.toNat / b.toNat := by
  simp only [tooWide, quotient, Bool.false_eq_true, if_false, decide_eq_true_eq]
  exact_mod_cast Iff.rfl

/-- The signed quotient lies below or above the numbers of `w` bits. -/
theorem tooWide_signed_quotient {w : Nat} (d : BitVec (w + w)) (b : BitVec w) :
    tooWide true w (quotient true d b).1 = true ↔
      d.toInt.tdiv b.toInt < -(2 ^ (w - 1) : Int) ∨ (2 ^ (w - 1) : Int) ≤ d.toInt.tdiv b.toInt := by
  simp only [tooWide, quotient, if_true, Bool.not_eq_true', Bool.and_eq_false_iff, decide_eq_false_iff_not, not_le,
    not_lt]

/-- DIV of a divisor that has been read raises #DE if the division fails. -/
theorem divBody_raises {w : Nat} {b : BitVec w} {s : State} (h : s.divFails false b) :
    divBody w b s = raise 0 none s := by
  simp only [divBody, run_bind, run_getPair, run_ite]
  by_cases hb : b = 0
  · exact if_pos hb
  · have hwide : 2 ^ w ≤ (s.dividend w).toNat / b.toNat :=
      (tooWide_unsigned_quotient _ b).mp (h.resolve_left hb)
    exact (if_neg hb).trans (if_pos hwide)

/-- IDIV of a divisor that has been read raises #DE if the division fails. -/
theorem idivBody_raises {w : Nat} {b : BitVec w} {s : State} (h : s.divFails true b) :
    idivBody w b s = raise 0 none s := by
  simp only [idivBody, run_bind, run_getPair, run_ite]
  by_cases hb : b = 0
  · exact if_pos hb
  · exact (if_neg hb).trans (if_pos ((tooWide_signed_quotient _ b).mp (h.resolve_left hb)))

/-- DIV or IDIV. -/
def divOp (signed : Bool) : MulOp := if signed then .idiv else .div

theorem mulOp_divOp_raises {signed : Bool} {w : Nat} {b : BitVec w} {s : State} (h : s.divFails signed b) :
    mulOp (divOp signed) w b s = raise 0 none s := by
  cases signed with
  | false => exact divBody_raises h
  | true => exact idivBody_raises h

theorem exec_divideEb (signed : Bool) (rm : Rm8) (s : State) :
    exec (if signed then .idivEb rm else .divEb rm) s = instr false (mulEbBody (divOp signed) rm) s := by
  cases signed <;> rfl

theorem exec_divideEv (signed : Bool) (rm : Rm) (s : State) :
    exec (if signed then .idivEv rm else .divEv rm) s = instr false (mulEvBody (divOp signed) rm) s := by
  cases signed <;> rfl

/-- Reading the divisor can only have recorded breakpoint hits when the byte form raises. -/
theorem mulEbBody_raises {signed : Bool} {rm : Rm8} {s : State} (hc : s.can rm 1 .read = true)
    (h : s.divFails signed (s.val8 rm)) :
    ∃ k, mulEbBody (divOp signed) rm s = raise 0 none (s.withHit k) := by
  obtain ⟨k, hread⟩ := readRm8_can hc
  have hfail : (s.withHit k).divFails signed (s.val8 rm) := h
  exact ⟨k, by simp only [mulEbBody, run_bind, hread, mulOp_divOp_raises hfail]⟩

/-- Reading the divisor can only have recorded breakpoint hits when the word or doubleword form raises. -/
theorem mulEvBody_raises {signed : Bool} {rm : Rm} {s : State} (hc : s.can rm (bytes s.o32) .read = true)
    (h : s.divFails signed (s.val (bits s.o32) rm)) :
    ∃ k, mulEvBody (divOp signed) rm s = raise 0 none (s.withHit k) := by
  obtain ⟨k, hread⟩ := readRm_can (bits_div_pos s.o32) (State.can_bytes hc)
  have hfail : (s.withHit k).divFails signed (s.val (bits s.o32) rm) := h
  exact ⟨k, by simp only [mulEvBody, run_bind, run_getW, hread, mulOp_divOp_raises hfail]⟩

/-- Settles O5: the divisor is read, which leaves a mark of breakpoint hits at most, and then the division fails. -/
theorem divideError : Obligations.DivideError := by
  refine ⟨?byteForm, ?wordForm⟩
  case byteForm =>
    intro signed rm s hl hc hfail
    obtain ⟨k, hbody⟩ := mulEbBody_raises (s := s.start) hc hfail
    exact raises_of_body_withHit (exec_divideEb signed rm s) hl hbody
  case wordForm =>
    intro signed rm s hl hc hfail
    obtain ⟨k, hbody⟩ := mulEvBody_raises (s := s.start) hc hfail
    exact raises_of_body_withHit (exec_divideEv signed rm s) hl hbody

end Sys2Proof.Machine

/-! SUPPORT. The part of the invariant that every computation keeps, at each point of it. -/
namespace Sys2Proof.Machine
open Host

/-- What the invariant says of memory, EFLAGS, CR0, CR4, the CR4 that an SMI saved, and the transient part. -/
structure Fixed (m : List Cell) (f cr0 cr4 saved : Word) (tr : Trans) : Prop where
  mem : Memory.wf m = true
  flags : eflagsFixed f = true
  cr0 : cr0Fixed cr0 = true
  cr4 : cr4Fixed cr4 = true
  saved : cr4Fixed saved = true
  tr : tr = Trans.clear

/-- The invariant at any point of a step: `clr` says whether the transient part is clear there. -/
def Core (clr : Bool) (s : State) : Prop :=
  Fixed s.mem s.eflags s.sys.cr0 s.sys.cr4 s.smm.saved.cr4 (bif clr then s.tr else Trans.clear)

/-- Every state a computation passes to keeps `Core clr`. -/
def Kept {α : Type} (clr : Bool) (x : M α) : Prop := Keeps (Core clr) x

section
variable {α β : Type} {clr : Bool}

@[simp] theorem kept_pure (a : α) : Kept clr (pure a : M α) := keeps_pure _ a
@[simp] theorem kept_get : Kept clr (get : M State) := keeps_get _
@[simp] theorem kept_throw (e : Abort) : Kept clr (throw e : M α) := keeps_throw _ e
theorem kept_modify (f : State → State) :
    Kept clr (modify f : M PUnit) ↔ ∀ s, Core clr s → Core clr (f s) := Iff.rfl
theorem kept_set {t : State} (h : Core clr t) : Kept clr (set t : M PUnit) := fun _ _ => h

@[simp] theorem kept_bind {x : M α} {f : α → M β} (hx : Kept clr x) (hf : ∀ a, Kept clr (f a)) : Kept clr (x >>= f) :=
  keeps_bind _ x f hx hf

/-- The second part of a sequence may use what is known of the answer of the first. -/
theorem kept_bind_answer {x : M α} {f : α → M β} {q : α → Prop} (hx : Kept clr x)
    (hq : ∀ {s t a}, x s = .ok a t → q a) (hf : ∀ a, q a → Kept clr (f a)) : Kept clr (x >>= f) := by
  intro s hs
  have h := hx s hs
  rw [run_bind]
  cases hr : x s with
  | ok a t =>
    rw [hr] at h
    exact hf a (hq hr) t h
  | error e t =>
    rw [hr] at h
    exact h

/-- A sequence that reads the state may use `Core` of it. -/
theorem kept_get_bind {f : State → M β} (hf : ∀ s, Core clr s → Kept clr (f s)) : Kept clr (get >>= f) := fun s hs => hf s hs s hs

@[simp] theorem kept_ite {p : Prop} [Decidable p] {x y : M α} (hx : Kept clr x) (hy : Kept clr y) : Kept clr (if p then x else y) :=
  keeps_ite _ p x y hx hy

@[simp] theorem kept_map {x : M α} (f : α → β) (hx : Kept clr x) : Kept clr (f <$> x) := by
  intro s hs
  have h := hx s hs
  rw [run_map]
  cases hr : x s <;> rw [hr] at h <;> exact h

@[simp] theorem kept_whenM {b : Bool} {x : M Unit} (h : Kept clr x) : Kept clr (whenM b x) := by
  cases b with
  | true => exact h
  | false => exact kept_pure ()

@[simp] theorem kept_unlessM {b : Bool} {x : M Unit} (h : Kept clr x) : Kept clr (unlessM b x) := by
  cases b with
  | true => exact kept_pure ()
  | false => exact h

end

theorem Fixed.write {m : List Cell} {f cr0 cr4 saved : Word} {tr : Trans} (h : Fixed m f cr0 cr4 saved tr) (k : Nat) (b : Byte) :
    Fixed (memWrite m k b) f cr0 cr4 saved tr :=
  ⟨wf_memWrite h.mem, h.flags, h.cr0, h.cr4, h.saved, h.tr⟩

theorem core_foldl {clr : Bool} {ι : Type} {f : State → ι → State} (hf : ∀ s i, Core clr s → Core clr (f s i)) (l : List ι) {s : State}
    (h : Core clr s) : Core clr (l.foldl f s) := by
  induction l generalizing s with
  | nil => exact h
  | cons i l ih => exact ih (hf s i h)

/-! ### The fixed bits -/

section
variable {m f g K : Word}

theorem and_bit {x y : Word} {i : Nat} (h : x &&& y = 0) (hi : i < 32) : (x[i] && y[i]) = false := by
  have hbit : (x &&& y)[i] = (0 : Word)[i] := by rw [h]
  simpa using hbit

theorem blend_and (hm : m &&& K = 0) : blend m f g &&& K = f &&& K := by
  ext i hi
  have hbit := and_bit hm hi
  simp only [blend, BitVec.getElem_and, BitVec.getElem_or, BitVec.getElem_not]
  cases hmi : m[i] <;> simp_all

theorem setBit_and {i : Nat} {b : Bool} (hi : bit K i = false) : setBit f i b &&& K = f &&& K := by
  ext j hj
  by_cases hne : j = i
  · subst hne
    have hK : K[j] = false := by simpa [bit, hj] using hi
    simp [hK]
  · unfold setBit
    split <;> simp [hne, BitVec.getElem_twoPow]

theorem and_and_of_not (hm : ~~~m &&& K = 0) : f &&& m &&& K = f &&& K := by
  ext i hi
  have hbit := and_bit hm hi
  simp only [BitVec.getElem_not] at hbit
  simp only [BitVec.getElem_and]
  cases hmi : m[i] <;> simp_all

theorem and_or_and (hm : m &&& K = 0) : (f &&& m ||| g) &&& K = g &&& K := by
  ext i hi
  have hbit := and_bit hm hi
  simp only [BitVec.getElem_and, BitVec.getElem_or]
  cases hmi : m[i] <;> simp_all

end

/-- A flag that is not one of the fixed bits. -/
def FreeFlag (i : Nat) : Prop := bit 0xFFC0802A#32 i = false

@[simp] theorem freeFlag_cf : FreeFlag fCF := rfl
@[simp] theorem freeFlag_zf : FreeFlag fZF := rfl
@[simp] theorem freeFlag_tf : FreeFlag fTF := rfl
@[simp] theorem freeFlag_if : FreeFlag fIF := rfl
@[simp] theorem freeFlag_df : FreeFlag fDF := rfl
@[simp] theorem freeFlag_nt : FreeFlag fNT := rfl
@[simp] theorem freeFlag_rf : FreeFlag fRF := rfl
@[simp] theorem freeFlag_vif : FreeFlag fVIF := rfl

theorem eflagsFixed_of_and {f g : Word} (h : eflagsFixed f = true) (he : g &&& 0xFFC0802A#32 = f &&& 0xFFC0802A#32) :
    eflagsFixed g = true := by
  rw [eflagsFixed, he]
  exact h

theorem cr0Fixed_of_and {v w : Word} (h : cr0Fixed v = true) (he : w &&& ~~~cr0Mask = v &&& ~~~cr0Mask) :
    cr0Fixed w = true := by
  rw [cr0Fixed, he]
  exact h

theorem eflagsFixed_definedFlags (f : Word) : eflagsFixed (definedFlags f) = true :=
  eflagsFixed_of_and (f := 2#32) rfl (and_or_and rfl)

theorem eflagsFixed_reset : eflagsFixed 2#32 = true := by decide

theorem cr4Fixed_zero : cr4Fixed 0 = true := by decide

theorem cr0Fixed_cr0Value (v : Word) : cr0Fixed (cr0Value v) = true :=
  cr0Fixed_of_and (v := 0x10#32) rfl (and_or_and rfl)

section
variable {m : List Cell} {f g cr0 cr4 saved : Word} {tr : Trans} (h : Fixed m f cr0 cr4 saved tr)
include h

theorem Fixed.withFlags (hg : eflagsFixed g = true) : Fixed m g cr0 cr4 saved tr := ⟨h.mem, hg, h.cr0, h.cr4, h.saved, h.tr⟩

theorem Fixed.setFlag {i : Nat} (hi : FreeFlag i) (b : Bool) : Fixed m (setBit f i b) cr0 cr4 saved tr :=
  h.withFlags (eflagsFixed_of_and h.flags (setBit_and hi))

theorem Fixed.blendFlags {k : Word} (hk : k &&& 0xFFC0802A#32 = 0) : Fixed m (blend k f g) cr0 cr4 saved tr :=
  h.withFlags (eflagsFixed_of_and h.flags (blend_and hk))

theorem Fixed.andFlags {k : Word} (hk : ~~~k &&& 0xFFC0802A#32 = 0) : Fixed m (f &&& k) cr0 cr4 saved tr :=
  h.withFlags (eflagsFixed_of_and h.flags (and_and_of_not hk))

theorem Fixed.withCr0 {v : Word} (hv : cr0Fixed v = true) : Fixed m f v cr4 saved tr := ⟨h.mem, h.flags, hv, h.cr4, h.saved, h.tr⟩

theorem Fixed.setCr0 {i : Nat} (hi : bit (~~~cr0Mask) i = false) (b : Bool) : Fixed m f (setBit cr0 i b) cr4 saved tr :=
  h.withCr0 (cr0Fixed_of_and h.cr0 (setBit_and hi))

theorem Fixed.withCr4 {v : Word} (hv : cr4Fixed v = true) : Fixed m f cr0 v saved tr := ⟨h.mem, h.flags, h.cr0, hv, h.saved, h.tr⟩

end

/-! ### Registers -/

@[simp] theorem core_setR32 {clr : Bool} {s : State} (h : Core clr s) (r : Reg) (v : Word) : Core clr (s.setR32 r v) := h
@[simp] theorem core_setR16 {clr : Bool} {s : State} (h : Core clr s) (r : Reg) (v : Half) : Core clr (s.setR16 r v) := h

@[simp] theorem core_setR8 {clr : Bool} {s : State} (h : Core clr s) (r : Reg8) (v : Byte) : Core clr (s.setR8 r v) := by
  cases r <;> exact h

@[simp] theorem core_setRv {clr : Bool} {s : State} (h : Core clr s) (o32 : Bool) (r : Reg) (v : BitVec (bits o32)) :
    Core clr (s.setRv o32 r v) := by
  cases o32 <;> exact h

@[simp] theorem core_setRw {clr : Bool} {s : State} (h : Core clr s) (w : Nat) (r : Reg) (v : BitVec w) : Core clr (s.setRw w r v) := by
  unfold State.setRw
  split <;> exact h

@[simp] theorem core_setSp {clr : Bool} {s : State} (h : Core clr s) (x : Word) : Core clr (s.setSp x) := by
  unfold State.setSp
  split <;> exact h

@[simp] theorem core_setFlag {clr : Bool} {s : State} {i : Nat} (hi : FreeFlag i) (h : Core clr s) (b : Bool) : Core clr (s.setFlag i b) :=
  Fixed.setFlag h hi b

/-! ### Memory and the other agents -/

@[simp] theorem core_storeByte {clr : Bool} {s : State} (h : Core clr s) (pa : Nat) (b : Byte) (wb : Bool) : Core clr (s.storeByte pa b wb) := by
  unfold State.storeByte
  split
  · exact h.write _ b
  all_goals exact h

theorem core_endSplit {clr : Bool} {s : State} (k : StaleByte) (h : Core clr s) : Core clr (s.endSplit k) := by
  dsimp only [State.endSplit]
  split
  · exact h.write _ _
  · exact h

theorem core_snoopLine {clr : Bool} {s : State} (k : Nat) (h : Core clr s) : Core clr (s.snoopLine k) :=
  core_foldl (fun _ k => core_endSplit k) _ h

theorem core_agentByte {clr : Bool} {s : State} (smm : Bool) (a : Nat) (b : Byte) (h : Core clr s) : Core clr (s.agentByte smm a b) := by
  unfold State.agentByte
  split
  · split
    · split
      · exact h
      · exact h.write _ b
    · exact (core_snoopLine _ h).write _ b
  · exact h

theorem core_agentWrite {clr : Bool} (s : State) (w : AgentWrite) (h : Core clr s) : Core clr (s.agentWrite w) := by
  suffices hs : ∀ (bs : List Byte) (p : State × Nat), Core clr p.1 →
      Core clr (bs.foldl (fun (p : State × Nat) b => (p.1.agentByte w.smm p.2 b, p.2 + 1)) p).1 from hs _ _ h
  intro bs
  induction bs with
  | nil => exact fun _ hp => hp
  | cons b bs ih => exact fun p hp => ih _ (core_agentByte _ _ _ hp)

@[simp] theorem core_othersWrite {clr : Bool} {s : State} (h : Core clr s) : Core clr s.othersWrite := by
  unfold State.othersWrite
  split
  · exact h
  · exact core_foldl core_agentWrite _ h

theorem core_settleByte {clr : Bool} (s : State) (k : StaleByte) (h : Core clr s) : Core clr (s.settleByte k) := by
  dsimp only [State.settleByte]
  split
  · exact h.write _ _
  · exact h

@[simp] theorem core_settleLines {clr : Bool} {s : State} (h : Core clr s) : Core clr s.settleLines := by
  unfold State.settleLines
  split
  · exact h
  · exact core_foldl core_settleByte _ h

end Sys2Proof.Machine

/-! SUPPORT. The fixed bits through the computations of the monad and of memory. -/
namespace Sys2Proof.Machine
open Host

@[simp] theorem kept_raise {clr : Bool} {α : Type} (v : Nat) (c : Option Half) : Kept clr (raise v c : M α) := by
  simp [raise]

@[simp] theorem kept_raiseNone {clr : Bool} {α : Type} (v : Nat) : Kept clr (raiseNone v : M α) := by
  simp [raiseNone]

@[simp] theorem kept_raiseZero {clr : Bool} {α : Type} (v : Nat) : Kept clr (raiseZero v : M α) := by
  simp [raiseZero]

@[simp] theorem kept_raiseSel {clr : Bool} {α : Type} (v : Nat) (sel : Half) : Kept clr (raiseSel v sel : M α) := by
  simp [raiseSel]

@[simp] theorem kept_raiseDE {clr : Bool} {α : Type} : Kept clr (raiseDE : M α) := by
  simp [raiseDE]

@[simp] theorem kept_raiseBR {clr : Bool} {α : Type} : Kept clr (raiseBR : M α) := by
  simp [raiseBR]

@[simp] theorem kept_raiseUD {clr : Bool} {α : Type} : Kept clr (raiseUD : M α) := by
  simp [raiseUD]

@[simp] theorem kept_raiseNM {clr : Bool} {α : Type} : Kept clr (raiseNM : M α) := by
  simp [raiseNM]

@[simp] theorem kept_raiseMF {clr : Bool} {α : Type} : Kept clr (raiseMF : M α) := by
  simp [raiseMF]

@[simp] theorem kept_raiseTS {clr : Bool} {α : Type} (sel : Half) : Kept clr (raiseTS sel : M α) := by
  simp [raiseTS]

@[simp] theorem kept_raiseNP {clr : Bool} {α : Type} (sel : Half) : Kept clr (raiseNP sel : M α) := by
  simp [raiseNP]

@[simp] theorem kept_raiseSS {clr : Bool} {α : Type} (sel : Half) : Kept clr (raiseSS sel : M α) := by
  simp [raiseSS]

@[simp] theorem kept_raiseGP {clr : Bool} {α : Type} (sel : Half) : Kept clr (raiseGP sel : M α) := by
  simp [raiseGP]

@[simp] theorem kept_raiseGP0 {clr : Bool} {α : Type} : Kept clr (raiseGP0 : M α) := by
  simp [raiseGP0]

@[simp] theorem kept_raiseSS0 {clr : Bool} {α : Type} : Kept clr (raiseSS0 : M α) := by
  simp [raiseSS0]

@[simp] theorem kept_raiseAC {clr : Bool} {α : Type} : Kept clr (raiseAC : M α) := by
  simp [raiseAC]

@[simp] theorem kept_raisePF {clr : Bool} {α : Type} (la : Word) (present write user rsvd : Bool) :
    Kept clr (raisePF la present write user rsvd : M α) := by
  simp [raisePF]

@[simp] theorem kept_stop {clr : Bool} {α : Type} (f : Fault) : Kept clr (stop f : M α) := by
  simp [stop]

@[simp] theorem kept_refuse {clr : Bool} {α : Type} (r : Refusal) : Kept clr (refuse r : M α) := by
  simp [refuse]

@[simp] theorem kept_drawNat {clr : Bool} : Kept clr drawNat := fun _ h => h

@[simp] theorem kept_draw {clr : Bool} (w : Nat) : Kept clr (draw w) := fun _ h => h

@[simp] theorem kept_drawBool {clr : Bool} : Kept clr drawBool := fun _ h => h





@[simp] theorem kept_emit {clr : Bool} (b : BusMsg) : Kept clr (emit b) := by
  unfold emit
  repeat' first | assumption | with_reducible refine (kept_modify _).mpr fun s hs => ?_

@[simp] theorem kept_loadByte {clr : Bool} (pa : Nat) : Kept clr (loadByte pa) := by
  refine kept_get_bind fun s h => ?_
  split
  · exact kept_pure _
  · exact kept_pure _
  · exact kept_bind (kept_set h) fun _ => kept_pure _
  · exact kept_bind (kept_set h) fun _ => kept_pure _

@[simp] theorem kept_storeByte {clr : Bool} (pa : Nat) (b : Byte) (wb : Bool) : Kept clr (storeByte pa b wb) :=
  (kept_modify _).mpr fun _ h => core_storeByte h pa b wb

@[simp] theorem kept_loadBytes {clr : Bool} (pa n : Nat) : Kept clr (loadBytes pa n) := by
  induction n generalizing pa with
  | zero => exact kept_pure _
  | succ n ih => exact kept_bind (kept_loadByte pa) fun _ => kept_bind (ih _) fun _ => kept_pure _

@[simp] theorem kept_storeBytes {clr : Bool} (pa : Nat) (bs : List Byte) (wb : Bool) : Kept clr (storeBytes pa bs wb) := by
  induction bs generalizing pa with
  | nil => exact kept_pure _
  | cons b bs ih => exact kept_bind (kept_storeByte pa b wb) fun _ => ih _

@[simp] theorem kept_othersGap {clr : Bool} : Kept clr othersGap := (kept_modify _).mpr fun _ h => core_othersWrite h

@[simp] theorem kept_shuffle {clr : Bool} {α : Type} (n : Nat) (l : List α) : Kept clr (shuffle n l) := by
  induction n generalizing l with
  | zero => exact kept_pure _
  | succ n ih => exact kept_bind kept_drawNat fun _ => kept_bind (ih _) fun _ => kept_pure _

@[simp] theorem kept_loseLines {clr : Bool} (keep : Bool) (l : List StaleByte) : Kept clr (loseLines keep l) := by
  induction l with
  | nil => exact kept_pure _
  | cons x l ih =>
    rw [loseLines]
    repeat' first
      | with_reducible refine kept_bind ?_ fun _ => ?_
      | with_reducible refine kept_whenM ?_
      | with_reducible refine (kept_modify _).mpr fun s hs => ?_
      | split
      | simp [*]
    exact Fixed.write hs _ _

@[simp] theorem kept_emptyCaches {clr : Bool} (keep : Bool) : Kept clr (emptyCaches keep) := by
  unfold emptyCaches
  repeat' first
    | assumption
    | with_reducible refine kept_bind ?_ fun _ => ?_
    | with_reducible refine (kept_modify _).mpr fun s hs => ?_
    | simp

@[simp] theorem kept_writeBackCaches {clr : Bool} : Kept clr writeBackCaches := by
  simp [writeBackCaches]

@[simp] theorem kept_dropCaches {clr : Bool} : Kept clr dropCaches := by
  simp [dropCaches]

@[simp] theorem kept_flushTlb {clr : Bool} : Kept clr flushTlb := by
  unfold flushTlb
  repeat' first | assumption | with_reducible refine (kept_modify _).mpr fun s hs => ?_

end Sys2Proof.Machine

/-! SUPPORT. The fixed bits through the local APIC. -/
namespace Sys2Proof.Machine
open Host

@[simp] theorem core_startUp {clr : Bool} {s : State} (h : Core clr s) (v : Byte) : Core clr (s.startUp v) := by
  unfold State.startUp
  split <;> exact h

@[simp] theorem core_signal {clr : Bool} {s : State} (h : Core clr s) (mode : BitVec 3) : Core clr (s.signal mode) := by
  unfold State.signal
  repeat' split
  all_goals exact h

@[simp] theorem kept_takeFixed {clr : Bool} (m : ApicMsg) : Kept clr (takeFixed m) := by
  unfold takeFixed
  repeat' first
    | assumption
    | with_reducible refine kept_bind ?_ fun _ => ?_
    | with_reducible refine (kept_modify _).mpr fun s hs => ?_
    | with_reducible refine kept_ite ?_ ?_
    | simp

@[simp] theorem kept_takeLowest {clr : Bool} (m : ApicMsg) (only : Bool) : Kept clr (takeLowest m only) := by
  unfold takeLowest
  repeat' first | with_reducible refine kept_bind ?_ fun _ => ?_ | with_reducible refine kept_ite ?_ ?_ | simp

@[simp] theorem kept_takeMessage {clr : Bool} (m : ApicMsg) (selfInt only : Bool) :
    Kept clr (takeMessage m selfInt only) := by
  unfold takeMessage
  repeat' first
    | assumption
    | with_reducible refine kept_bind ?_ fun _ => ?_
    | with_reducible refine (kept_modify _).mpr fun s hs => ?_
    | split
    | simp [*]

@[simp] theorem kept_modifyApic {clr : Bool} (f : Apic → Apic) : Kept clr (modifyApic f) := by
  unfold modifyApic
  repeat' first | assumption | with_reducible refine (kept_modify _).mpr fun s hs => ?_

@[simp] theorem kept_busMessage {clr : Bool} (m : ApicMsg) : Kept clr (busMessage m) := by
  unfold busMessage
  repeat' first
    | assumption
    | with_reducible refine kept_bind ?_ fun _ => ?_
    | with_reducible refine (kept_modify _).mpr fun s hs => ?_
    | split
    | simp

@[simp] theorem kept_askOthers {clr : Bool} (m : ApicMsg) : Kept clr (askOthers m) := by
  simp [askOthers]

@[simp] theorem kept_attempt {clr : Bool} (o : Outgoing) : Kept clr (attempt o) := by
  unfold attempt
  repeat' first | with_reducible refine kept_bind ?_ fun _ => ?_ | split | simp

@[simp] theorem kept_retryOutgoing {clr : Bool} : Kept clr retryOutgoing := by
  unfold retryOutgoing
  repeat' first | with_reducible refine kept_bind ?_ fun _ => ?_ | split | simp

@[simp] theorem kept_settleApic {clr : Bool} : Kept clr settleApic := by
  unfold settleApic
  repeat' first | with_reducible refine kept_bind ?_ fun _ => ?_ | simp

@[simp] theorem kept_sendIcr {clr : Bool} : Kept clr sendIcr := by
  unfold sendIcr
  repeat' first | with_reducible refine kept_bind ?_ fun _ => ?_ | split | simp

@[simp] theorem kept_writeLvt {clr : Bool} (l : Lvt) (v : Word) : Kept clr (writeLvt l v) := by
  simp [writeLvt]

@[simp] theorem kept_apicLoad {clr : Bool} (off : Nat) : Kept clr (apicLoad off) := by
  unfold apicLoad
  repeat' first | with_reducible refine kept_bind ?_ fun _ => ?_ | split | simp

@[simp] theorem kept_writeId {clr : Bool} (v : Word) : Kept clr (writeId v) := by
  simp [writeId]

@[simp] theorem kept_apicStore {clr : Bool} (off : Nat) (v : Word) : Kept clr (apicStore off v) := by
  unfold apicStore
  repeat' first
    | with_reducible refine kept_bind ?_ fun _ => ?_
    | with_reducible refine kept_ite ?_ ?_
    | split
    | simp

end Sys2Proof.Machine

/-! SUPPORT. The fixed bits through paging and the accesses of memory. -/
namespace Sys2Proof.Machine
open Host

@[simp] theorem kept_physCheck {clr : Bool} (s : State) (a n : Nat) (locked : Bool) :
    Kept clr (physCheck s a n locked) := by
  unfold physCheck
  repeat' first | split | simp

@[simp] theorem kept_physRead {clr : Bool} (pa n : Nat) : Kept clr (physRead pa n) := by
  unfold physRead
  repeat' first | with_reducible refine kept_bind ?_ fun _ => ?_ | simp

@[simp] theorem kept_physWrite {clr : Bool} (pa n v : Nat) (pcd pwt locked : Bool) :
    Kept clr (physWrite pa n v pcd pwt locked) := by
  simp [physWrite]

@[simp] theorem kept_setAccessed {clr : Bool} (a n e : Nat) (pcd pwt : Bool) :
    Kept clr (setAccessed a n e pcd pwt) := by
  simp [setAccessed]

@[simp] theorem kept_setAccessedDirty {clr : Bool} (a n e : Nat) (write pcd pwt : Bool) :
    Kept clr (setAccessedDirty a n e write pcd pwt) := by
  simp [setAccessedDirty]

@[simp] theorem kept_addTlb {clr : Bool} (t : TlbEntry) : Kept clr (addTlb t) := by
  unfold addTlb
  repeat' first | assumption | with_reducible refine (kept_modify _).mpr fun s hs => ?_ | split

@[simp] theorem kept_useLarge {clr : Bool} (la : Word) (write user : Bool) (a n e size frame rsvd : Nat) (pcd pwt : Bool) :
    Kept clr (useLarge la write user a n e size frame rsvd pcd pwt) := by
  unfold useLarge
  repeat' first | with_reducible refine kept_bind ?_ fun _ => ?_ | split | simp

@[simp] theorem kept_useTable {clr : Bool} (la : Word) (write user : Bool) (da n pde ta rsvd : Nat) (pcd pwt : Bool) :
    Kept clr (useTable la write user da n pde ta rsvd pcd pwt) := by
  unfold useTable
  repeat' first | with_reducible refine kept_bind ?_ fun _ => ?_ | with_reducible refine kept_ite ?_ ?_ | simp

@[simp] theorem kept_walk32 {clr : Bool} (la : Word) (write user : Bool) : Kept clr (walk32 la write user) := by
  unfold walk32
  repeat' first | with_reducible refine kept_bind ?_ fun _ => ?_ | simp

@[simp] theorem kept_walk64 {clr : Bool} (la : Word) (write user : Bool) : Kept clr (walk64 la write user) := by
  unfold walk64
  repeat' first | with_reducible refine kept_bind ?_ fun _ => ?_ | with_reducible refine kept_ite ?_ ?_ | simp

@[simp] theorem kept_chooseTlb {clr : Bool} (la : Word) (l : List TlbEntry) : Kept clr (chooseTlb la l) := by
  induction l with
  | nil => exact kept_pure _
  | cons t l ih =>
    rw [chooseTlb]
    repeat' first
      | assumption
      | with_reducible refine kept_get_bind fun s hs => ?_
      | with_reducible refine kept_bind ?_ fun _ => ?_
      | with_reducible refine kept_set ?_
      | split
      | simp

@[simp] theorem kept_walk {clr : Bool} (la : Word) (write user : Bool) : Kept clr (walk la write user) := by
  simp [walk]

@[simp] theorem kept_useHeld {clr : Bool} (t : TlbEntry) (la : Word) (write user : Bool) :
    Kept clr (useHeld t la write user) := by
  unfold useHeld
  repeat' first
    | assumption
    | with_reducible refine kept_bind ?_ fun _ => ?_
    | with_reducible refine (kept_modify _).mpr fun s hs => ?_
    | split
    | simp

@[simp] theorem kept_translate {clr : Bool} (la : Word) (write user : Bool) : Kept clr (translate la write user) := by
  unfold translate
  repeat' first | with_reducible refine kept_bind ?_ fun _ => ?_ | split | simp

@[simp] theorem core_speculateAt {clr : Bool} (s : State) (la : Word) (h : Core clr s) : Core clr (s.speculateAt la) := by
  unfold State.speculateAt
  split
  · have hw := kept_walk la false false s h
    split
    · next e t hr =>
      rw [hr] at hw
      split
      · exact ⟨hw.mem, h.flags, h.cr0, h.cr4, h.saved, h.tr⟩
      · exact h
    · exact h
  · exact h

@[simp] theorem core_speculate {clr : Bool} {s : State} (h : Core clr s) : Core clr s.speculate := by
  unfold State.speculate
  split
  · exact core_foldl core_speculateAt _ h
  · exact h

@[simp] theorem kept_gap {clr : Bool} : Kept clr gap := (kept_modify _).mpr fun _ h => core_speculate (core_othersWrite h)

@[simp] theorem kept_spanOf {clr : Bool} (p : Phys) (len : Nat) : Kept clr (spanOf p len) := by
  unfold spanOf
  repeat' first | with_reducible refine kept_bind ?_ fun _ => ?_ | split | simp

@[simp] theorem kept_pageSpan {clr : Bool} (la : Word) (len : Nat) (write user : Bool) :
    Kept clr (pageSpan la len write user) := by
  simp [pageSpan]

@[simp] theorem kept_linearSpans {clr : Bool} (la : Word) (n : Nat) (write user : Bool) :
    Kept clr (linearSpans la n write user) := by
  unfold linearSpans
  repeat' first | with_reducible refine kept_ite ?_ ?_ | simp

@[simp] theorem kept_translatePages {clr : Bool} (la : Word) (n : Nat) (write user : Bool) :
    Kept clr (translatePages la n write user) := by
  unfold translatePages
  repeat' first | with_reducible refine kept_bind ?_ fun _ => ?_ | simp

@[simp] theorem kept_alignedSpans {clr : Bool} (aligned : Bool) (la : Word) (n align : Nat) (write user : Bool) :
    Kept clr (alignedSpans aligned la n align write user) := by
  unfold alignedSpans
  repeat' first | with_reducible refine kept_bind ?_ fun _ => ?_ | split | simp

@[simp] theorem kept_loadSpans {clr : Bool} (ps : List Span) : Kept clr (loadSpans ps) := by
  induction ps with
  | nil => exact kept_pure _
  | cons p ps ih => exact kept_bind (kept_loadBytes _ _) fun _ => kept_bind ih fun _ => kept_pure _

@[simp] theorem kept_storeSpans {clr : Bool} (ps : List Span) (bs : List Byte) : Kept clr (storeSpans ps bs) := by
  induction ps generalizing bs with
  | nil => exact kept_pure _
  | cons p ps ih => exact kept_bind (kept_storeBytes _ _ _) fun _ => ih _

@[simp] theorem kept_accessGap {clr : Bool} : Kept clr accessGap := by
  simp [accessGap]

@[simp] theorem kept_loadParted {clr : Bool} {between : M Unit} (h : Kept clr between) (l : List (Nat × Nat)) :
    Kept clr (loadParted between l) := by
  induction l with
  | nil => exact kept_pure _
  | cons x l ih => exact kept_bind h fun _ => kept_bind (kept_loadByte _) fun _ => kept_bind ih fun _ => kept_pure _

@[simp] theorem kept_storeParted {clr : Bool} {between : M Unit} (h : Kept clr between) (l : List ((Nat × Bool) × Byte)) :
    Kept clr (storeParted between l) := by
  induction l with
  | nil => exact kept_pure _
  | cons x l ih => exact kept_bind h fun _ => kept_bind (kept_storeByte _ _ _) fun _ => ih

@[simp] theorem kept_loadFree {clr : Bool} {between : M Unit} (h : Kept clr between) (ps : List Span) : Kept clr (loadFree between ps) :=
  kept_bind (kept_shuffle _ _) fun _ => kept_bind (kept_loadParted h _) fun _ => kept_pure _

@[simp] theorem kept_storeFree {clr : Bool} {between : M Unit} (h : Kept clr between) (ps : List Span) (bs : List Byte) :
    Kept clr (storeFree between ps bs) :=
  kept_bind (kept_shuffle _ _) fun _ => kept_storeParted h _

@[simp] theorem kept_loadRuns {clr : Bool} {between : M Unit} (h : Kept clr between) (ps : List Span) : Kept clr (loadRuns between ps) := by
  refine kept_bind h fun _ => kept_get_bind fun s _ => ?_
  split <;> simp [h]

@[simp] theorem kept_storeRuns {clr : Bool} {between : M Unit} (h : Kept clr between) (ps : List Span) (bs : List Byte) :
    Kept clr (storeRuns between ps bs) := by
  refine kept_bind h fun _ => kept_get_bind fun s _ => ?_
  split <;> simp [h]

@[simp] theorem kept_readVia {clr : Bool} {between : M Unit} (h : Kept clr between) (ps : List Span) : Kept clr (readVia between ps) := by
  unfold readVia
  split
  · refine kept_get_bind fun s _ => ?_
    split
    · exact kept_bind (kept_apicLoad _) fun _ => kept_pure _
    · exact kept_stop _
  · exact kept_bind (kept_loadRuns h ps) fun _ => kept_pure _

@[simp] theorem kept_writeVia {clr : Bool} {between : M Unit} (h : Kept clr between) (ps : List Span) (n v : Nat) :
    Kept clr (writeVia between ps n v) := by
  unfold writeVia
  split
  · refine kept_get_bind fun s _ => ?_
    split <;> simp
  · exact kept_storeRuns h ps _

@[simp] theorem kept_readSpans {clr : Bool} (ps : List Span) : Kept clr (readSpans ps) := by
  simp [readSpans]

@[simp] theorem kept_writeSpans {clr : Bool} (ps : List Span) (n v : Nat) : Kept clr (writeSpans ps n v) := by
  simp [writeSpans]

@[simp] theorem kept_locked {clr : Bool} {α : Type} {x : M α} (h : Kept clr x) : Kept clr (locked x) :=
  kept_get_bind fun _ _ => kept_bind ((kept_modify _).mpr fun _ h => h) fun _ => kept_bind h fun _ =>
    kept_bind ((kept_modify _).mpr fun _ h => h) fun _ => kept_pure _

@[simp] theorem kept_sysRead {clr : Bool} (la : Word) (n : Nat) : Kept clr (sysRead la n) := by
  simp [sysRead]

@[simp] theorem kept_sysWrite {clr : Bool} (la : Word) (n v : Nat) : Kept clr (sysWrite la n v) := by
  simp [sysWrite]

@[simp] theorem kept_flushTlbNonGlobal {clr : Bool} : Kept clr flushTlbNonGlobal := by
  unfold flushTlbNonGlobal
  repeat' first | assumption | with_reducible refine (kept_modify _).mpr fun s hs => ?_

@[simp] theorem kept_flushTlbPage {clr : Bool} (la : Word) : Kept clr (flushTlbPage la) := by
  unfold flushTlbPage
  repeat' first | assumption | with_reducible refine (kept_modify _).mpr fun s hs => ?_

@[simp] theorem kept_readPdpteList {clr : Bool} (base : Nat) (l : List Nat) : Kept clr (readPdpteList base l) := by
  induction l with
  | nil => exact kept_pure _
  | cons k l ih =>
    exact kept_bind kept_othersGap fun _ => kept_bind (kept_physRead _ _) fun _ => kept_bind ih fun _ => kept_pure _

@[simp] theorem kept_pdpteOrder {clr : Bool} : Kept clr pdpteOrder := by
  simp [pdpteOrder]

@[simp] theorem kept_readPdptes {clr : Bool} : Kept clr readPdptes := by
  unfold readPdptes
  repeat' first | with_reducible refine kept_bind ?_ fun _ => ?_ | simp

@[simp] theorem kept_loadPdptes {clr : Bool} : Kept clr loadPdptes := by
  unfold loadPdptes
  repeat' first
    | assumption
    | with_reducible refine kept_bind ?_ fun _ => ?_
    | with_reducible refine (kept_modify _).mpr fun s hs => ?_
    | split
    | simp

end Sys2Proof.Machine

/-! SUPPORT. The fixed bits through registers and segment checks. -/
namespace Sys2Proof.Machine
open Host

@[simp] theorem kept_getO32 {clr : Bool} : Kept clr getO32 := by
  simp [getO32]

@[simp] theorem kept_getA32 {clr : Bool} : Kept clr getA32 := by
  simp [getA32]

@[simp] theorem kept_putRv {clr : Bool} (o32 : Bool) (r : Reg) (v : BitVec (bits o32)) :
    Kept clr (putRv o32 r v) := by
  unfold putRv
  repeat' first | with_reducible refine (kept_modify _).mpr fun s hs => ?_ | simp [*]

@[simp] theorem kept_putR32 {clr : Bool} (r : Reg) (v : Word) : Kept clr (putR32 r v) := by
  unfold putR32
  repeat' first | with_reducible refine (kept_modify _).mpr fun s hs => ?_ | simp [*]

@[simp] theorem kept_putR16 {clr : Bool} (r : Reg) (v : Half) : Kept clr (putR16 r v) := by
  unfold putR16
  repeat' first | with_reducible refine (kept_modify _).mpr fun s hs => ?_ | simp [*]

@[simp] theorem kept_putR8 {clr : Bool} (r : Reg8) (v : Byte) : Kept clr (putR8 r v) := by
  unfold putR8
  repeat' first | with_reducible refine (kept_modify _).mpr fun s hs => ?_ | simp [*]

theorem kept_putFlags {clr : Bool} {f : Word} (h : eflagsFixed f = true) : Kept clr (putFlags f) :=
  (kept_modify _).mpr fun _ hs => Fixed.withFlags hs h

@[simp] theorem kept_putFlag {clr : Bool} {i : Nat} (hi : FreeFlag i) (b : Bool) : Kept clr (putFlag i b) :=
  (kept_modify _).mpr fun _ hs => Fixed.setFlag hs hi b

@[simp] theorem kept_segLinear {clr : Bool} (seg : SegReg) (r : Seg) (off : Word) (n : Nat) (k : Access) :
    Kept clr (segLinear seg r off n k) := by
  unfold segLinear
  repeat' first | split | simp

@[simp] theorem kept_noteHits (f : Dbg → BitVec 4) : Kept false (noteHits f) := by
  unfold noteHits
  repeat' first | assumption | with_reducible refine (kept_modify _).mpr fun s hs => ?_

@[simp] theorem kept_checkedAccess {clr : Bool} (seg : SegReg) (off : Word) (n align : Nat) (write : Bool) :
    Kept clr (checkedAccess seg off n align write) := by
  unfold checkedAccess
  repeat' first | with_reducible refine kept_bind ?_ fun _ => ?_ | simp

@[simp] theorem kept_access (seg : SegReg) (off : Word) (n align : Nat) (write : Bool) :
    Kept false (access seg off n align write) := by
  simp [access]

@[simp] theorem kept_segRead (seg : SegReg) (off : Word) (n align : Nat) : Kept false (segRead seg off n align) := by
  simp [segRead]

@[simp] theorem kept_segWrite (seg : SegReg) (off : Word) (n align v : Nat) :
    Kept false (segWrite seg off n align v) := by
  simp [segWrite]

@[simp] theorem kept_addSp {clr : Bool} (k : Word) : Kept clr (addSp k) := by
  unfold addSp
  repeat' first | with_reducible refine (kept_modify _).mpr fun s hs => ?_ | simp [*]

@[simp] theorem kept_push (n v : Nat) : Kept false (push n v) := by
  unfold push
  repeat' first
    | with_reducible refine kept_bind ?_ fun _ => ?_
    | with_reducible refine (kept_modify _).mpr fun s hs => ?_
    | simp [*]

@[simp] theorem kept_pop (n : Nat) : Kept false (pop n) := by
  unfold pop
  repeat' first | with_reducible refine kept_bind ?_ fun _ => ?_ | simp

@[simp] theorem kept_peek (k n : Nat) : Kept false (peek k n) := by
  simp [peek]

@[simp] theorem kept_pushSpans {clr : Bool} (r : Seg) (user : Bool) (code : Half) (n : Nat) (x : Word) (l : List Nat) :
    Kept clr (pushSpans r user code n x l) := by
  induction l generalizing x with
  | nil => exact kept_pure _
  | cons v l ih =>
    rw [pushSpans]
    repeat' first | with_reducible refine kept_bind ?_ fun _ => ?_ | split | simp [*]

@[simp] theorem kept_storeItems {clr : Bool} (n : Nat) (l : List (List Span × Nat)) : Kept clr (storeItems n l) := by
  induction l with
  | nil => exact kept_pure _
  | cons x l ih => exact kept_bind (kept_writeSpans _ _ _) fun _ => ih

@[simp] theorem kept_readDesc {clr : Bool} (addr : Word) : Kept clr (readDesc addr) := by
  simp [readDesc]

@[simp] theorem kept_fetchDesc {clr : Bool} (sel : Half) : Kept clr (fetchDesc sel) := by
  unfold fetchDesc
  repeat' first | with_reducible refine kept_bind ?_ fun _ => ?_ | split | simp

@[simp] theorem kept_needDesc {clr : Bool} (v : Nat) (sel : Half) : Kept clr (needDesc v sel) := by
  unfold needDesc
  repeat' first | with_reducible refine kept_bind ?_ fun _ => ?_ | split | simp

@[simp] theorem kept_accessedSpan {clr : Bool} (addr : Word) (d : Desc) : Kept clr (accessedSpan addr d) := by
  simp [accessedSpan]

@[simp] theorem kept_markAccessed {clr : Bool} (ps : List Span) : Kept clr (markAccessed ps) := by
  unfold markAccessed
  repeat' first | with_reducible refine kept_bind ?_ fun _ => ?_ | split | simp

@[simp] theorem kept_setDescAccessed {clr : Bool} (addr : Word) (d : Desc) : Kept clr (setDescAccessed addr d) := by
  simp [setDescAccessed]

@[simp] theorem kept_putSeg {clr : Bool} (r : SegReg) (v : Seg) : Kept clr (putSeg r v) := by
  unfold putSeg
  repeat' first | assumption | with_reducible refine (kept_modify _).mpr fun s hs => ?_

@[simp] theorem kept_checkDataSeg {clr : Bool} (sel : Half) (d : Desc) (cpl : BitVec 2) :
    Kept clr (checkDataSeg sel d cpl) := by
  unfold checkDataSeg
  repeat' first | split | simp

@[simp] theorem kept_loadDataSeg {clr : Bool} (r : SegReg) (sel : Half) : Kept clr (loadDataSeg r sel) := by
  unfold loadDataSeg
  repeat' first | with_reducible refine kept_bind ?_ fun _ => ?_ | split | simp

@[simp] theorem kept_checkStackSeg {clr : Bool} (v : Nat) (sel : Half) (d : Desc) (cpl : BitVec 2) :
    Kept clr (checkStackSeg v sel d cpl) := by
  unfold checkStackSeg
  repeat' first | split | simp

@[simp] theorem kept_loadSS {clr : Bool} (sel : Half) : Kept clr (loadSS sel) := by
  unfold loadSS
  repeat' first | with_reducible refine kept_bind ?_ fun _ => ?_ | split | simp

@[simp] theorem kept_loadSeg {clr : Bool} (r : SegReg) (sel : Half) : Kept clr (loadSeg r sel) := by
  unfold loadSeg
  repeat' first | with_reducible refine kept_bind ?_ fun _ => ?_ | split | simp

@[simp] theorem kept_ioPermitted {clr : Bool} (port n : Nat) : Kept clr (ioPermitted port n) := by
  unfold ioPermitted
  repeat' first | with_reducible refine kept_bind ?_ fun _ => ?_ | with_reducible refine kept_ite ?_ ?_ | simp

@[simp] theorem kept_checkIO {clr : Bool} (port n : Nat) : Kept clr (checkIO port n) := by
  unfold checkIO
  repeat' first | with_reducible refine kept_bind ?_ fun _ => ?_ | simp

@[simp] theorem kept_requireCpl0 {clr : Bool} : Kept clr requireCpl0 := by
  simp [requireCpl0]

@[simp] theorem kept_requireProt {clr : Bool} : Kept clr requireProt := by
  simp [requireProt]

end Sys2Proof.Machine

/-! SUPPORT. The fixed bits through task switches and segment loads. -/
namespace Sys2Proof.Machine
open Host

@[simp] theorem kept_tssTarget {clr : Bool} (k : Switch) (tsel : Half) : Kept clr (tssTarget k tsel) := by
  unfold tssTarget
  repeat' first | with_reducible refine kept_bind ?_ fun _ => ?_ | with_reducible refine kept_ite ?_ ?_ | simp

@[simp] theorem kept_inNewTask {clr : Bool} {α : Type} {x : M α} (h : Kept clr x) : Kept clr (inNewTask x) := by
  intro s hs
  have hx := h s hs
  unfold inNewTask
  cases hr : x s with
  | ok a t =>
    rw [hr] at hx
    exact hx
  | error e t =>
    rw [hr] at hx
    cases e <;> exact hx

@[simp] theorem kept_writeFields {clr : Bool} (ps : List Span) (n k : Nat) (l : List Nat) : Kept clr (writeFields ps n k l) := by
  induction l generalizing k with
  | nil => exact kept_pure _
  | cons v l ih => exact kept_bind (kept_writeSpans _ _ _) fun _ => ih _

@[simp] theorem kept_readFields {clr : Bool} (ps : List Span) (n k c : Nat) : Kept clr (readFields ps n k c) := by
  induction c generalizing k with
  | zero => exact kept_pure _
  | succ c ih => exact kept_bind (kept_readSpans _) fun _ => kept_bind (ih _) fun _ => kept_pure _

@[simp] theorem kept_savePlaces {clr : Bool} (old : Seg) : Kept clr (savePlaces old) := by
  simp [savePlaces]

@[simp] theorem kept_saveTask {clr : Bool} (ps : List Span) (image : Word) : Kept clr (saveTask ps image) := by
  simp [saveTask]

@[simp] theorem kept_putBusy {clr : Bool} (ps : List Span) (b : Bool) : Kept clr (putBusy ps b) := by
  unfold putBusy
  repeat' first | with_reducible refine kept_bind ?_ fun _ => ?_ | with_reducible refine kept_locked ?_ | simp

@[simp] theorem kept_takeBusy {clr : Bool} (sel : Half) (ps : List Span) : Kept clr (takeBusy sel ps) := by
  simp [takeBusy]

@[simp] theorem kept_recover {clr : Bool} {α : Type} {x : M α} (h : Kept clr x) : Kept clr (recover x) := by
  intro s hs
  have hx := h s hs
  unfold recover
  cases hr : x s with
  | ok a t =>
    rw [hr] at hx
    exact hx
  | error e t =>
    rw [hr] at hx
    cases e <;> exact hx

@[simp] theorem kept_passBusy {clr : Bool} (k : Switch) (tsel : Half) (oldBusy newBusy : List Span) :
    Kept clr (passBusy k tsel oldBusy newBusy) := by
  unfold passBusy
  repeat' first | with_reducible refine kept_bind ?_ fun _ => ?_ | with_reducible refine kept_whenM ?_ | split | simp

@[simp] theorem kept_image32 {clr : Bool} (ps : List Span) : Kept clr (image32 ps) := by
  simp [image32]

@[simp] theorem kept_halfLoaded {clr : Bool} (v : Nat) : Kept clr (halfLoaded v) := by
  simp [halfLoaded]

@[simp] theorem kept_image16 {clr : Bool} (ps : List Span) : Kept clr (image16 ps) := by
  unfold image16
  repeat' first | with_reducible refine kept_bind ?_ fun _ => ?_ | simp

@[simp] theorem kept_putCr3 {clr : Bool} (v : Word) : Kept clr (putCr3 v) := by
  unfold putCr3
  repeat' first
    | assumption
    | with_reducible refine kept_bind ?_ fun _ => ?_
    | with_reducible refine (kept_modify _).mpr fun s hs => ?_
    | simp

@[simp] theorem kept_loadCr3 {clr : Bool} (v : Word) : Kept clr (loadCr3 v) := by
  unfold loadCr3
  repeat' first | with_reducible refine kept_bind ?_ fun _ => ?_ | simp

@[simp] theorem kept_taskLdt {clr : Bool} (sel : Half) : Kept clr (taskLdt sel) := by
  unfold taskLdt
  repeat' first
    | assumption
    | with_reducible refine kept_bind ?_ fun _ => ?_
    | with_reducible refine kept_whenM ?_
    | with_reducible refine (kept_modify _).mpr fun s hs => ?_
    | split
    | simp

@[simp] theorem kept_findDesc {clr : Bool} (sel : Half) : Kept clr (findDesc sel) := by
  simp [findDesc]

@[simp] theorem kept_taskDataDescs {clr : Bool} (l : List (SegReg × Half)) : Kept clr (taskDataDescs l) := by
  induction l with
  | nil => exact kept_pure _
  | cons x l ih =>
    rw [taskDataDescs]
    repeat' first | with_reducible refine kept_bind ?_ fun _ => ?_ | split | simp [*]

@[simp] theorem kept_taskDataCheck {clr : Bool} (v : Nat) (bad : Half → Desc → Bool) (l : List (SegReg × Half × Word × Desc)) :
    Kept clr (taskDataCheck v bad l) := by
  induction l with
  | nil => exact kept_pure _
  | cons x l ih =>
    rw [taskDataCheck]
    repeat' first | simp [*]

@[simp] theorem kept_taskDataLoad {clr : Bool} (cpl : BitVec 2) (l : List (SegReg × Half × Word × Desc)) :
    Kept clr (taskDataLoad cpl l) := by
  induction l with
  | nil => exact kept_pure _
  | cons x l ih =>
    rw [taskDataLoad]
    repeat' first | split | simp [*]

@[simp] theorem kept_taskStack {clr : Bool} (i : TaskImage) : Kept clr (taskStack i) := by
  unfold taskStack
  repeat' first | with_reducible refine kept_bind ?_ fun _ => ?_ | split | simp

@[simp] theorem kept_taskSegments {clr : Bool} (i : TaskImage) : Kept clr (taskSegments i) := by
  unfold taskSegments
  repeat' first | with_reducible refine kept_bind ?_ fun _ => ?_ | split | simp

@[simp] theorem kept_taskLdtV86 {clr : Bool} (sel : Half) : Kept clr (taskLdtV86 sel) := by
  unfold taskLdtV86
  repeat' first
    | assumption
    | with_reducible refine kept_bind ?_ fun _ => ?_
    | with_reducible refine kept_whenM ?_
    | with_reducible refine (kept_modify _).mpr fun s hs => ?_
    | split
    | simp

@[simp] theorem kept_underNewCr3 {clr : Bool} (base c : Word) : Kept clr (underNewCr3 base c) := by
  simp [underNewCr3]

theorem core_taskLoaded {s : State} (h : Core false s) (i : TaskImage) {f : Word} (hf : eflagsFixed f = true) :
    Core false (s.taskLoaded i f) :=
  Fixed.withFlags h hf

theorem core_enteredTask {s : State} (h : Core false s) (tr : Seg) (d : Dbg) :
    Core false { s with sys := { s.sys with tr := tr, cr0 := setBit s.sys.cr0 3 true }, dbg := d } :=
  Fixed.setCr0 h rfl true

@[simp] theorem kept_enterTask (k : Switch) (tsel : Half) (t : Desc) (ps linkAt : List Span) (code : Option Half) :
    Kept false (enterTask k tsel t ps linkAt code) := by
  unfold enterTask
  repeat' first
    | assumption
    | with_reducible refine kept_bind ?_ fun _ => ?_
    | with_reducible refine (kept_modify _).mpr fun s hs => ?_
    | split
    | simp
  · exact core_enteredTask hs _ _
  all_goals exact core_taskLoaded hs _ (eflagsFixed_definedFlags _)

@[simp] theorem kept_tssHolds {clr : Bool} (last : Nat) : Kept clr (tssHolds last) := by
  simp [tssHolds]

@[simp] theorem kept_oldTaskDesc {clr : Bool} : Kept clr oldTaskDesc := by
  unfold oldTaskDesc
  repeat' first | with_reducible refine kept_bind ?_ fun _ => ?_ | simp

@[simp] theorem kept_taskSwitch (k : Switch) (tsel : Half) (a : Word) (t : Desc) (image : Word) (code : Option Half) :
    Kept false (taskSwitch k tsel a t image code) := by
  unfold taskSwitch
  repeat' first | with_reducible refine kept_bind ?_ fun _ => ?_ | split | simp

@[simp] theorem kept_farTask (k : Switch) (sel : Half) (d : Desc) : Kept false (farTask k sel d) := by
  unfold farTask
  repeat' first | with_reducible refine kept_bind ?_ fun _ => ?_ | split | simp

@[simp] theorem kept_taskReturn : Kept false taskReturn := by
  unfold taskReturn
  repeat' first | with_reducible refine kept_bind ?_ fun _ => ?_ | simp

end Sys2Proof.Machine

/-! SUPPORT. The fixed bits through deliveries and the operands of instructions. -/
namespace Sys2Proof.Machine
open Host

@[simp] theorem kept_loseBranches {clr : Bool} : Kept clr loseBranches := by
  unfold loseBranches
  repeat' first
    | assumption
    | with_reducible refine kept_bind ?_ fun _ => ?_
    | with_reducible refine (kept_modify _).mpr fun s hs => ?_
    | simp

@[simp] theorem kept_recordBranch {clr : Bool} (exc : Bool) (f t : Word) : Kept clr (recordBranch exc f t) := by
  unfold recordBranch
  repeat' first
    | assumption
    | with_reducible refine kept_bind ?_ fun _ => ?_
    | with_reducible refine kept_whenM ?_
    | with_reducible refine (kept_modify _).mpr fun s hs => ?_
    | split
    | simp

@[simp] theorem kept_trapRf {clr : Bool} (between : Bool) : Kept clr (trapRf between) := by
  unfold trapRf
  repeat' first | with_reducible refine kept_bind ?_ fun _ => ?_ | simp

@[simp] theorem kept_innerStack {clr : Bool} (n : BitVec 2) : Kept clr (innerStack n) := by
  unfold innerStack
  repeat' first | with_reducible refine kept_bind ?_ fun _ => ?_ | with_reducible refine kept_ite ?_ ?_ | simp

@[simp] theorem kept_pushAll {clr : Bool} (n : Nat) (items : List Nat) : Kept clr (pushAll n items) := by
  unfold pushAll
  repeat' first
    | with_reducible refine kept_bind ?_ fun _ => ?_
    | with_reducible refine (kept_modify _).mpr fun s hs => ?_
    | with_reducible refine kept_ite ?_ ?_
    | simp [*]

theorem eflagsFixed_handlerFlags {f : Word} (h : eflagsFixed f = true) (g : Bool) :
    eflagsFixed (handlerFlags f g) = true := by
  have hm : eflagsFixed (f &&& ~~~0x00034100#32) = true := eflagsFixed_of_and h (and_and_of_not rfl)
  cases g with
  | false => exact hm
  | true => exact eflagsFixed_of_and hm (setBit_and (i := fIF) (b := false) rfl)

theorem core_handlerFlags {clr : Bool} {s t : State} (h : Core clr s) {g : Bool} (hm : t.mem = s.mem) (hs : t.sys = s.sys)
    (hsmm : t.smm = s.smm) (htr : t.tr = s.tr) (hf : t.eflags = handlerFlags s.eflags g) : Core clr t := by
  unfold Core
  rw [hm, hs, hsmm, htr, hf]
  exact Fixed.withFlags h (eflagsFixed_handlerFlags h.flags g)

@[simp] theorem kept_deliverSame {clr : Bool} (e : Entry) (g : Gate) (a : Word) (d : Desc) : Kept clr (deliverSame e g a d) := by
  unfold deliverSame
  repeat' first
    | with_reducible refine kept_bind ?_ fun _ => ?_
    | with_reducible refine (kept_modify _).mpr fun s hs => ?_
    | with_reducible refine kept_ite ?_ ?_
    | simp
  exact core_handlerFlags hs rfl rfl rfl rfl rfl

@[simp] theorem kept_deliverInner {clr : Bool} (e : Entry) (g : Gate) (a : Word) (d : Desc) (n : BitVec 2) (segs : List Half)
    (whole : Bool) : Kept clr (deliverInner e g a d n segs whole) := by
  unfold deliverInner
  repeat' first
    | with_reducible refine kept_bind ?_ fun _ => ?_
    | with_reducible refine (kept_modify _).mpr fun s hs => ?_
    | with_reducible refine kept_ite ?_ ?_
    | simp
  all_goals exact core_handlerFlags hs rfl rfl rfl rfl rfl

@[simp] theorem kept_deliverV86 {clr : Bool} (e : Entry) (g : Gate) (a : Word) (d : Desc) :
    Kept clr (deliverV86 e g a d) := by
  unfold deliverV86
  repeat' first
    | assumption
    | with_reducible refine kept_bind ?_ fun _ => ?_
    | with_reducible refine (kept_modify _).mpr fun s hs => ?_
    | split
    | simp

@[simp] theorem kept_deliverGate {clr : Bool} (e : Entry) (g : Gate) : Kept clr (deliverGate e g) := by
  unfold deliverGate
  repeat' first | with_reducible refine kept_bind ?_ fun _ => ?_ | split | simp

@[simp] theorem kept_deliverProt (e : Entry) : Kept false (deliverProt e) := by
  unfold deliverProt
  repeat' first | with_reducible refine kept_bind ?_ fun _ => ?_ | with_reducible refine kept_ite ?_ ?_ | simp

@[simp] theorem kept_deliverReal {clr : Bool} (e : Entry) : Kept clr (deliverReal e) := by
  unfold deliverReal
  repeat' first
    | with_reducible refine kept_bind ?_ fun _ => ?_
    | with_reducible refine (kept_modify _).mpr fun s hs => ?_
    | with_reducible refine kept_ite ?_ ?_
    | simp
  exact ((Fixed.setFlag hs freeFlag_if false).setFlag freeFlag_tf false).setFlag freeFlag_rf false

@[simp] theorem kept_afterDelivery {clr : Bool} (e : Entry) (stepping : Bool) (cs : Half) (eip cr3 : Word) :
    Kept clr (afterDelivery e stepping cs eip cr3) := by
  unfold afterDelivery
  repeat' first
    | assumption
    | with_reducible refine kept_bind ?_ fun _ => ?_
    | with_reducible refine kept_whenM ?_
    | with_reducible refine (kept_modify _).mpr fun s hs => ?_
    | split
    | simp

@[simp] theorem kept_deliver (e : Entry) : Kept false (deliver e) := by
  unfold deliver
  repeat' first | with_reducible refine kept_bind ?_ fun _ => ?_ | simp

@[simp] theorem core_completed {s : State} (h : Core false s) (s0 : State) : Core false (s.completed s0) := by
  dsimp only [State.completed]
  split
  · exact h
  · exact Fixed.setFlag h freeFlag_rf false

@[simp] theorem kept_finish (s0 : State) : Kept false (finish s0) := by
  unfold finish
  repeat' first
    | with_reducible refine kept_bind ?_ fun _ => ?_
    | with_reducible refine (kept_modify _).mpr fun s hs => ?_
    | simp [*]

@[simp] theorem kept_softInt (cur : Word) (v : Nat) : Kept false (softInt cur v) := by
  unfold softInt
  repeat' first
    | assumption
    | with_reducible refine kept_bind ?_ fun _ => ?_
    | with_reducible refine (kept_modify _).mpr fun s hs => ?_
    | simp

@[simp] theorem kept_putFlagsMasked {clr : Bool} {mask : Word} (hm : mask &&& 0xFFC0802A#32 = 0#32) (f : Word) :
    Kept clr (putFlagsMasked mask f) :=
  (kept_modify _).mpr fun _ hs => Fixed.blendFlags hs hm

@[simp] theorem iretMask_and_fixed (wide : Bool) (cpl iopl : BitVec 2) :
    iretMask wide cpl iopl &&& 0xFFC0802A#32 = 0#32 := by
  revert wide cpl iopl
  decide

@[simp] theorem kept_iretDone : Kept false iretDone := by
  unfold iretDone
  repeat' first | assumption | with_reducible refine (kept_modify _).mpr fun s hs => ?_

@[simp] theorem kept_returnTarget {clr : Bool} (sel : Half) (off : Word) : Kept clr (returnTarget sel off) := by
  unfold returnTarget
  repeat' first | with_reducible refine kept_bind ?_ fun _ => ?_ | split | simp

@[simp] theorem kept_returnStack {clr : Bool} (sel : Half) (n : BitVec 2) : Kept clr (returnStack sel n) := by
  unfold returnStack
  repeat' first | with_reducible refine kept_bind ?_ fun _ => ?_ | split | simp

@[simp] theorem kept_enterOuter {clr : Bool} (wide : Bool) (rsel : Half) (off : Word) (a : Word) (d : Desc) (newSS : Half) (newESP : Word) (imm : Word) :
    Kept clr (enterOuter wide rsel off a d newSS newESP imm) := by
  unfold enterOuter
  repeat' first
    | assumption
    | with_reducible refine kept_bind ?_ fun _ => ?_
    | with_reducible refine (kept_modify _).mpr fun s hs => ?_
    | simp

@[simp] theorem kept_iretProt (wide : Bool) (off0 : Word) (rsel : Half) (fl : Word) :
    Kept false (iretProt wide off0 rsel fl) := by
  unfold iretProt
  repeat' first
    | assumption
    | with_reducible refine kept_bind ?_ fun _ => ?_
    | with_reducible refine (kept_modify _).mpr fun s hs => ?_
    | split
    | simp

@[simp] theorem kept_iretToV86 (off : Word) (rsel : Half) (fl : Word) : Kept false (iretToV86 off rsel fl) := by
  unfold iretToV86
  repeat' first
    | with_reducible refine kept_bind ?_ fun _ => ?_
    | with_reducible refine (kept_modify _).mpr fun s hs => ?_
    | split
    | simp
  exact Fixed.withFlags hs (eflagsFixed_definedFlags _)

@[simp] theorem kept_iretInV86 {clr : Bool} (wide : Bool) (off0 : Word) (sel : Half) (fl : Word) :
    Kept clr (iretInV86 wide off0 sel fl) := by
  unfold iretInV86
  repeat' first
    | assumption
    | with_reducible refine kept_bind ?_ fun _ => ?_
    | with_reducible refine (kept_modify _).mpr fun s hs => ?_
    | with_reducible refine kept_ite ?_ ?_
    | split
    | simp

@[simp] theorem kept_iretReal {clr : Bool} (wide : Bool) (off0 : Word) (sel : Half) (fl : Word) :
    Kept clr (iretReal wide off0 sel fl) := by
  unfold iretReal
  repeat' first
    | assumption
    | with_reducible refine kept_bind ?_ fun _ => ?_
    | with_reducible refine (kept_modify _).mpr fun s hs => ?_
    | with_reducible refine kept_ite ?_ ?_
    | split
    | simp

@[simp] theorem kept_iretFrame (wide : Bool) : Kept false (iretFrame wide) := by
  unfold iretFrame
  repeat' first | with_reducible refine kept_bind ?_ fun _ => ?_ | split | simp

@[simp] theorem kept_iret (wide : Bool) : Kept false (iret wide) := by
  unfold iret
  repeat' first
    | assumption
    | with_reducible refine kept_bind ?_ fun _ => ?_
    | with_reducible refine (kept_modify _).mpr fun s hs => ?_
    | split
    | simp

@[simp] theorem kept_eaPart {clr : Bool} (m : Ea) (k : Word) : Kept clr (eaPart m k) := by
  unfold eaPart
  repeat' first | with_reducible refine kept_bind ?_ fun _ => ?_ | simp

@[simp] theorem kept_accessEa (m : Ea) (k : Word) (n align : Nat) (write : Bool) :
    Kept false (accessEa m k n align write) := by
  simp [accessEa]

@[simp] theorem kept_readEa (m : Ea) (k : Word) (n align : Nat) : Kept false (readEa m k n align) := by
  simp [readEa]

@[simp] theorem kept_writeEa (m : Ea) (k : Word) (n align v : Nat) : Kept false (writeEa m k n align v) := by
  simp [writeEa]

@[simp] theorem kept_locMem (m : Ea) (n : Nat) (write : Bool) : Kept false (locMem m n write) := by
  simp [locMem]

@[simp] theorem kept_locRm8 (rm : Rm8) (write : Bool) : Kept false (locRm8 rm write) := by
  unfold locRm8
  repeat' first | split | simp

@[simp] theorem kept_locRm (rm : Rm) (n : Nat) (write : Bool) : Kept false (locRm rm n write) := by
  unfold locRm
  repeat' first | split | simp

@[simp] theorem kept_locUpdate (rm : Rm) (n : Nat) : Kept false (locUpdate rm n) := by
  unfold locUpdate
  repeat' first | with_reducible refine kept_bind ?_ fun _ => ?_ | split | simp

@[simp] theorem kept_noteWrite (la : Option Word) (n : Nat) : Kept false (noteWrite la n) := by
  unfold noteWrite
  repeat' first | split | simp

@[simp] theorem kept_readLoc {clr : Bool} (w : Nat) (l : Loc) : Kept clr (readLoc w l) := by
  unfold readLoc
  repeat' first | split | simp

@[simp] theorem kept_writeLoc {clr : Bool} (w : Nat) (l : Loc) (v : BitVec w) : Kept clr (writeLoc w l v) := by
  unfold writeLoc
  repeat' first | with_reducible refine (kept_modify _).mpr fun s hs => ?_ | split | simp [*]

@[simp] theorem kept_readRm8 (rm : Rm8) : Kept false (readRm8 rm) := by
  simp [readRm8]

@[simp] theorem kept_readRm (w : Nat) (rm : Rm) : Kept false (readRm w rm) := by
  simp [readRm]

@[simp] theorem kept_writeRm8 (rm : Rm8) (v : Byte) : Kept false (writeRm8 rm v) := by
  simp [writeRm8]

@[simp] theorem kept_writeRm (w : Nat) (rm : Rm) (v : BitVec w) : Kept false (writeRm w rm v) := by
  simp [writeRm]

@[simp] theorem kept_readG {clr : Bool} (w : Nat) (r : Reg) : Kept clr (readG w r) := by
  simp [readG]

@[simp] theorem kept_readG8 {clr : Bool} (r : Reg8) : Kept clr (readG8 r) := by
  simp [readG8]

@[simp] theorem kept_getW {clr : Bool} : Kept clr getW := by
  simp [getW]

end Sys2Proof.Machine

/-! SUPPORT. The fixed bits through flags and shutdown. -/
namespace Sys2Proof.Machine
open Host

@[simp] theorem arithMask_and_fixed : arithMask &&& 0xFFC0802A#32 = 0#32 := by decide

@[simp] theorem kept_putArith {clr : Bool} (a : Arith) : Kept clr (putArith a) := kept_putFlagsMasked rfl _

@[simp] theorem kept_putArithKeepCf {clr : Bool} (a : Arith) : Kept clr (putArithKeepCf a) := by
  simp [putArithKeepCf]

@[simp] theorem kept_putCfOf {clr : Bool} (a : Arith) : Kept clr (putCfOf a) := by
  simp [putCfOf]

@[simp] theorem kept_logicFlags {clr : Bool} {w : Nat} (r : BitVec w) : Kept clr (logicFlags r) := by
  simp [logicFlags]

@[simp] theorem kept_freeArith {clr : Bool} : Kept clr freeArith := by
  simp [freeArith]

@[simp] theorem kept_shiftLoc {clr : Bool} (op : Shift) (w : Nat) (l : Loc) (count : Byte) :
    Kept clr (shiftLoc op w l count) := by
  unfold shiftLoc
  repeat' first | with_reducible refine kept_bind ?_ fun _ => ?_ | with_reducible refine kept_ite ?_ ?_ | simp

@[simp] theorem kept_doubleShift {clr : Bool} (left : Bool) (w : Nat) (l : Loc) (src : BitVec w) (count : Byte) :
    Kept clr (doubleShift left w l src count) := by
  unfold doubleShift
  repeat' first | with_reducible refine kept_bind ?_ fun _ => ?_ | with_reducible refine kept_ite ?_ ?_ | simp

end Sys2Proof.Machine

/-! SUPPORT. The fixed bits through the model-specific registers, SMM and reset. -/
namespace Sys2Proof.Machine
open Host

@[simp] theorem kept_rdmsr {clr : Bool} : Kept clr rdmsr := by
  unfold rdmsr
  repeat' first | with_reducible refine kept_bind ?_ fun _ => ?_ | split | simp

@[simp] theorem kept_wrmsr {clr : Bool} : Kept clr wrmsr := by
  unfold wrmsr
  repeat' first
    | assumption
    | with_reducible refine kept_bind ?_ fun _ => ?_
    | with_reducible refine (kept_modify _).mpr fun s hs => ?_
    | split
    | simp

@[simp] theorem kept_rdtsc {clr : Bool} : Kept clr rdtsc := by
  unfold rdtsc
  repeat' first | with_reducible refine kept_bind ?_ fun _ => ?_ | simp

@[simp] theorem kept_rdpmc {clr : Bool} : Kept clr rdpmc := by
  unfold rdpmc
  repeat' first | with_reducible refine kept_bind ?_ fun _ => ?_ | split | simp

@[simp] theorem kept_cpuid {clr : Bool} : Kept clr cpuid := by
  unfold cpuid
  repeat' first
    | assumption
    | with_reducible refine kept_bind ?_ fun _ => ?_
    | with_reducible refine (kept_modify _).mpr fun s hs => ?_
    | simp

@[simp] theorem kept_slotSpans {clr : Bool} (smbase off : Word) (n : Nat) : Kept clr (slotSpans smbase off n) := by
  unfold slotSpans
  repeat' first | with_reducible refine kept_ite ?_ ?_ | simp

@[simp] theorem kept_putSlot {clr : Bool} (smbase off : Word) (n v : Nat) : Kept clr (putSlot smbase off n v) := by
  simp [putSlot]

@[simp] theorem kept_getSlot {clr : Bool} (smbase off : Word) (n : Nat) : Kept clr (getSlot smbase off n) := by
  simp [getSlot]

@[simp] theorem kept_getSlot32 {clr : Bool} (smbase off : Word) : Kept clr (getSlot32 smbase off) := by
  simp [getSlot32]

@[simp] theorem kept_putSlots {clr : Bool} (smbase : Word) (l : List (Word × Word)) : Kept clr (putSlots smbase l) := by
  induction l with
  | nil => exact kept_pure _
  | cons x l ih => exact kept_bind (kept_putSlot _ _ _ _) fun _ => ih

@[simp] theorem kept_getSlots {clr : Bool} (smbase mask : Word) (l : List Word) : Kept clr (getSlots smbase mask l) := by
  induction l with
  | nil => exact kept_pure _
  | cons x l ih => exact kept_bind (kept_getSlot32 _ _) fun _ => kept_bind ih fun _ => kept_pure _

theorem core_smmEntry {clr : Bool} {s : State} (h : Core clr s) (g : Gprs) (dr6 : Word) {r : SmmSaved} (hr : cr4Fixed r.cr4 = true) :
    Core clr (s.smmEntry g dr6 r) :=
  ⟨h.mem, eflagsFixed_reset, cr0Fixed_of_and h.cr0 (and_and_of_not rfl), cr4Fixed_zero, hr, h.tr⟩

@[simp] theorem kept_enterSmm {clr : Bool} : Kept clr enterSmm := by
  unfold enterSmm
  with_reducible refine kept_get_bind fun s0 h0 => ?_
  repeat' first
    | assumption
    | with_reducible refine kept_bind ?_ fun _ => ?_
    | with_reducible refine (kept_modify _).mpr fun s hs => ?_
    | simp
  exact core_smmEntry hs _ _ h0.cr4

@[simp] theorem kept_reloadPdptes {clr : Bool} : Kept clr reloadPdptes := by
  unfold reloadPdptes
  repeat' first
    | assumption
    | with_reducible refine kept_bind ?_ fun _ => ?_
    | with_reducible refine (kept_modify _).mpr fun s hs => ?_
    | simp

@[simp] theorem kept_applyIoRestart {clr : Bool} (w : Nat) (r : Option IoRec) : Kept clr (applyIoRestart w r) := by
  unfold applyIoRestart
  repeat' first | assumption | with_reducible refine (kept_modify _).mpr fun s hs => ?_ | split | simp

@[simp] theorem kept_applyHaltRestart {clr : Bool} (h : Nat) (r : SmmSaved) (eip : Word) :
    Kept clr (applyHaltRestart h r eip) := by
  unfold applyHaltRestart
  repeat' first | assumption | with_reducible refine (kept_modify _).mpr fun s hs => ?_ | split | simp

theorem core_smmLoaded {s : State} (h : Core false s) (cr0 : Word) (w f g : List Word) (smbase : Word) :
    Core false (s.smmLoaded cr0 w f g smbase) :=
  ⟨h.mem, eflagsFixed_definedFlags _, cr0Fixed_cr0Value _, h.saved, h.saved, h.tr⟩

@[simp] theorem kept_rsm (cur : Word) : Kept false (rsm cur) := by
  unfold rsm
  repeat' first
    | assumption
    | with_reducible refine kept_bind ?_ fun _ => ?_
    | with_reducible refine (kept_modify _).mpr fun s hs => ?_
    | split
    | simp
  exact core_smmLoaded hs _ _ _ _ _

theorem core_hardReset {clr : Bool} {s : State} (h : Core clr s) : Core clr s.hardReset := 
  ⟨h.mem, eflagsFixed_reset, (by decide : cr0Fixed 0x60000010#32 = true), cr4Fixed_zero, cr4Fixed_zero, by cases clr <;> rfl⟩

@[simp] theorem kept_hardReset {clr : Bool} : Kept clr hardReset :=
  kept_bind kept_dropCaches fun _ => (kept_modify _).mpr fun _ h => core_hardReset h

theorem wf_memWrites (l : List Cell) {m : List Cell} (h : Memory.wf m = true) :
    Memory.wf (l.foldl (fun m x => memWrite m x.1 x.2) m) = true := by
  induction l generalizing m with
  | nil => exact h
  | cons x l ih => exact ih (wf_memWrite h)

@[simp] theorem kept_corrupt {clr : Bool} : Kept clr corrupt := by
  unfold corrupt
  repeat' first
    | with_reducible refine kept_bind ?_ fun _ => ?_
    | with_reducible refine (kept_modify _).mpr fun s hs => ?_
    | simp
  have hb := Fixed.blendFlags hs (k := 0xCD5#32) (g := ‹Word›) rfl
  exact ⟨wf_memWrites _ hs.mem, eflagsFixed_of_and hs.flags (blend_and rfl), hs.cr0, hs.cr4, hs.saved, hs.tr⟩

end Sys2Proof.Machine

/-! SUPPORT. The fixed bits through the boundary between instructions. -/
namespace Sys2Proof.Machine
open Host

@[simp] theorem kept_postpone {clr : Bool} (e : Event) : Kept clr (postpone e) := by
  unfold postpone
  repeat' first | assumption | with_reducible refine (kept_modify _).mpr fun s hs => ?_

theorem core_machineCheck {clr : Bool} {s : State} (h : Core clr s) (e : McEvent) : Core clr (s.machineCheck e).1 := by
  unfold State.machineCheck
  dsimp only
  repeat' split
  all_goals exact h

@[simp] theorem kept_arriveError {clr : Bool} (e : McEvent) : Kept clr (arriveError e) := by
  unfold arriveError
  with_reducible refine kept_get_bind fun s hs => ?_
  split
  · exact kept_bind (kept_postpone _) fun _ => kept_pure _
  · split
    all_goals
      have ht := core_machineCheck hs e
      rw [‹s.machineCheck e = _›] at ht
      dsimp only at ht
    repeat' first
      | assumption
      | with_reducible refine kept_bind ?_ fun _ => ?_
      | with_reducible refine kept_set ?_
      | simp

theorem core_perfInterrupt {clr : Bool} {s : State} (h : Core clr s) : Core clr s.perfInterrupt := by
  unfold State.perfInterrupt
  dsimp only
  split
  · exact h
  · split
    · exact core_signal h 4
    · exact h

theorem core_advance0 {clr : Bool} {s : State} (h : Core clr s) (n : Nat) : Core clr (advance0 n s) := by
  unfold advance0
  split
  · dsimp only
    split
    · exact core_perfInterrupt h
    · exact h
  · exact h

theorem core_advance1 {clr : Bool} {s : State} (h : Core clr s) (n : Nat) : Core clr (advance1 n s) := by
  unfold advance1
  split
  · dsimp only
    split
    · exact core_perfInterrupt h
    · exact h
  · exact h

theorem core_count {clr : Bool} {s t : State} (h : Core clr s) {e : Event} (ht : s.count e = some t) : Core clr t := by
  unfold State.count at ht
  split at ht
  · cases ht
    split <;> exact h
  · cases ht
    exact core_advance0 h _
  · cases ht
    exact core_advance1 h _
  · cases ht

@[simp] theorem core_upcoming {clr : Bool} (es : List Event) {s : State} (h : Core clr s) :
    Core clr (State.upcoming es s).2 := by
  induction es generalizing s with
  | nil => exact h
  | cons e es ih =>
    unfold State.upcoming
    split
    · next ht => exact ih (core_count h ht)
    · exact h

@[simp] theorem kept_nextEvent {clr : Bool} : Kept clr nextEvent := by
  unfold nextEvent
  repeat' first
    | with_reducible refine kept_get_bind fun s hs => ?_
    | with_reducible refine kept_bind ?_ fun _ => ?_
    | with_reducible refine kept_set ?_
    | simp [*]

@[simp] theorem kept_onLatches {clr : Bool} (f : Latches → Latches) : Kept clr (onLatches f) := by
  unfold onLatches
  repeat' first
    | assumption
    | with_reducible refine kept_bind ?_ fun _ => ?_
    | with_reducible refine (kept_modify _).mpr fun s hs => ?_
    | simp

@[simp] theorem kept_arriveBinit {clr : Bool} : Kept clr arriveBinit := by
  unfold arriveBinit
  repeat' first
    | assumption
    | with_reducible refine kept_get_bind fun s hs => ?_
    | with_reducible refine kept_bind ?_ fun _ => ?_
    | with_reducible refine kept_set ?_
    | split
    | simp

@[simp] theorem core_pinChange {clr : Bool} {s : State} (h : Core clr s) (l : Lvt) (was now : Bool) (v : Byte) :
    Core clr (s.pinChange l was now v) := by
  unfold State.pinChange
  dsimp only
  repeat' split
  all_goals exact h

@[simp] theorem core_lint0Pin {clr : Bool} {s : State} (h : Core clr s) (on : Bool) (v : Byte) :
    Core clr (s.lint0Pin on v) :=
  core_pinChange h .lint0 s.apic.lint0 on v

@[simp] theorem core_lint1Pin {clr : Bool} {s : State} (h : Core clr s) (on : Bool) (v : Byte) :
    Core clr (s.lint1Pin on v) :=
  core_pinChange h .lint1 s.apic.lint1 on v

@[simp] theorem core_background {clr : Bool} {s : State} (h : Core clr s) : Core clr s.background :=
  core_speculate (core_settleLines h)

@[simp] theorem core_agentWrite' {clr : Bool} {s : State} (h : Core clr s) (w : AgentWrite) : Core clr (s.agentWrite w) :=
  core_agentWrite s w h

@[simp] theorem kept_arrive {clr : Bool} (e : Event) : Kept clr (arrive e) := by
  cases e <;> unfold arrive
  repeat' first
    | with_reducible refine kept_bind ?_ fun _ => ?_
    | with_reducible refine kept_whenM ?_
    | with_reducible refine (kept_modify _).mpr fun s hs => ?_
    | split
    | simp [*]

@[simp] theorem kept_debugTrap {clr : Bool} (bits : Word) : Kept clr (debugTrap bits) := by
  unfold debugTrap
  repeat' first
    | assumption
    | with_reducible refine kept_get_bind fun s hs => ?_
    | with_reducible refine kept_bind ?_ fun _ => ?_
    | with_reducible refine kept_set ?_
    | simp

@[simp] theorem kept_reportTraps {clr : Bool} : Kept clr reportTraps := by
  unfold reportTraps
  repeat' first
    | assumption
    | with_reducible refine kept_get_bind fun s hs => ?_
    | with_reducible refine kept_bind ?_ fun _ => ?_
    | with_reducible refine kept_set ?_
    | simp

@[simp] theorem kept_wake {clr : Bool} (e : Entry) (ack : Ack) : Kept clr (wake e ack) := by
  unfold wake
  repeat' first
    | assumption
    | with_reducible refine kept_bind ?_ fun _ => ?_
    | with_reducible refine (kept_modify _).mpr fun s hs => ?_
    | simp

@[simp] theorem kept_attendInterrupt {clr : Bool} : Kept clr attendInterrupt := by
  unfold attendInterrupt
  repeat' first | with_reducible refine kept_bind ?_ fun _ => ?_ | split | simp

theorem core_init {clr : Bool} {s : State} (h : Core clr s) : Core clr s.init :=
  ⟨h.mem, eflagsFixed_reset, cr0Fixed_of_and (v := 0x10#32) (by decide) (and_or_and (by decide)), cr4Fixed_zero, h.saved,
    by cases clr <;> rfl⟩

@[simp] theorem kept_attend {clr : Bool} : Kept clr attend := by
  unfold attend
  repeat' first
    | assumption
    | with_reducible refine kept_bind ?_ fun _ => ?_
    | with_reducible refine (kept_modify _).mpr fun s hs => ?_
    | split
    | simp
  exact core_init hs

@[simp] theorem kept_setActivity {clr : Bool} (a : Activity) : Kept clr (setActivity a) := by
  unfold setActivity
  repeat' first | assumption | with_reducible refine (kept_modify _).mpr fun s hs => ?_

@[simp] theorem kept_sendBoot {clr : Bool} (generation : BitVec 4) : Kept clr (sendBoot generation) := by
  simp [sendBoot]

@[simp] theorem kept_bootTurn {clr : Bool} : Kept clr bootTurn := by
  unfold bootTurn
  repeat' first
    | assumption
    | with_reducible refine kept_bind ?_ fun _ => ?_
    | with_reducible refine (kept_modify _).mpr fun s hs => ?_
    | split
    | simp

@[simp] theorem kept_bootHears {clr : Bool} (m : ApicMsg) : Kept clr (bootHears m) := by
  unfold bootHears
  repeat' first | with_reducible refine kept_bind ?_ fun _ => ?_ | simp

@[simp] theorem kept_bootMessage {clr : Bool} (m : ApicMsg) : Kept clr (bootMessage m) := by
  unfold bootMessage
  repeat' first | with_reducible refine kept_bind ?_ fun _ => ?_ | split | simp

@[simp] theorem kept_bootStep {clr : Bool} (e : Event) : Kept clr (bootStep e) := by
  unfold bootStep
  repeat' first | split | simp

@[simp] theorem kept_boundary {clr : Bool} : Kept clr boundary := by
  unfold boundary
  repeat' first | with_reducible refine kept_bind ?_ fun _ => ?_ | split | simp

end Sys2Proof.Machine

/-! SUPPORT. The fixed bits through arithmetic, bit and string instructions. -/
namespace Sys2Proof.Machine
open Host

@[simp] theorem kept_aluLoc {clr : Bool} (op : Alu) (w : Nat) (l : Loc) (b : BitVec w) :
    Kept clr (aluLoc op w l b) := by
  unfold aluLoc
  repeat' first | with_reducible refine kept_bind ?_ fun _ => ?_ | split | simp

@[simp] theorem kept_aluEbGb (op : Alu) (rm : Rm8) (r : Reg8) : Kept false (aluEbGb op rm r) := by
  simp [aluEbGb]

@[simp] theorem kept_aluEvGv (op : Alu) (rm : Rm) (r : Reg) : Kept false (aluEvGv op rm r) := by
  unfold aluEvGv
  repeat' first | with_reducible refine kept_bind ?_ fun _ => ?_ | simp

@[simp] theorem kept_aluGbEb (op : Alu) (r : Reg8) (rm : Rm8) : Kept false (aluGbEb op r rm) := by
  simp [aluGbEb]

@[simp] theorem kept_aluGvEv (op : Alu) (r : Reg) (rm : Rm) : Kept false (aluGvEv op r rm) := by
  simp [aluGvEv]

@[simp] theorem kept_aluAlIb {clr : Bool} (op : Alu) (imm : Byte) : Kept clr (aluAlIb op imm) := by
  simp [aluAlIb]

@[simp] theorem kept_aluAxIv {clr : Bool} (op : Alu) (imm : Word) : Kept clr (aluAxIv op imm) := by
  simp [aluAxIv]

@[simp] theorem kept_aluEbIb (op : Alu) (rm : Rm8) (imm : Byte) : Kept false (aluEbIb op rm imm) := by
  simp [aluEbIb]

@[simp] theorem kept_aluEvIv (op : Alu) (rm : Rm) (imm : Word) : Kept false (aluEvIv op rm imm) := by
  simp [aluEvIv]

@[simp] theorem kept_aluEvIb (op : Alu) (rm : Rm) (imm : Byte) : Kept false (aluEvIb op rm imm) := by
  simp [aluEvIb]

@[simp] theorem kept_alu1Loc {clr : Bool} (op : Alu1) (w : Nat) (l : Loc) : Kept clr (alu1Loc op w l) := by
  unfold alu1Loc
  repeat' first | split | simp

@[simp] theorem kept_alu1Eb (op : Alu1) (rm : Rm8) : Kept false (alu1Eb op rm) := by
  simp [alu1Eb]

@[simp] theorem kept_alu1Ev (op : Alu1) (rm : Rm) : Kept false (alu1Ev op rm) := by
  simp [alu1Ev]

@[simp] theorem kept_bitLoc {clr : Bool} (op : BitOp) (w : Nat) (l : Loc) (i : Nat) : Kept clr (bitLoc op w l i) := by
  unfold bitLoc
  repeat' first | with_reducible refine kept_bind ?_ fun _ => ?_ | simp

@[simp] theorem kept_bitItem (w : Nat) (rm : Rm) (index : BitVec w) (write : Bool) :
    Kept false (bitItem w rm index write) := by
  unfold bitItem
  repeat' first | split | simp

@[simp] theorem kept_bitEvGv (op : BitOp) (rm : Rm) (r : Reg) : Kept false (bitEvGv op rm r) := by
  unfold bitEvGv
  repeat' first | with_reducible refine kept_bind ?_ fun _ => ?_ | simp

@[simp] theorem kept_bitEvIb (op : BitOp) (rm : Rm) (imm : Byte) : Kept false (bitEvIb op rm imm) := by
  simp [bitEvIb]

@[simp] theorem kept_bitScan (forward : Bool) (r : Reg) (rm : Rm) : Kept false (bitScan forward r rm) := by
  unfold bitScan
  repeat' first | with_reducible refine kept_bind ?_ fun _ => ?_ | split | simp

@[simp] theorem kept_lahfBody {clr : Bool} : Kept clr lahfBody := by
  simp [lahfBody]

@[simp] theorem kept_sahfBody {clr : Bool} : Kept clr sahfBody := by
  simp [sahfBody]

@[simp] theorem kept_cmcBody {clr : Bool} : Kept clr cmcBody := by
  simp [cmcBody]

@[simp] theorem core_addA {clr : Bool} {s : State} (h : Core clr s) (r : Reg) (d : Word) : Core clr (s.addA r d) :=
  core_setRv h _ r _

@[simp] theorem kept_advance {clr : Bool} (r : Reg) (n : Nat) : Kept clr (advance r n) :=
  (kept_modify _).mpr fun _ h => core_addA h r _

@[simp] theorem kept_noteIo (cur : Word) : Kept false (noteIo cur) := by
  unfold noteIo
  repeat' first | assumption | with_reducible refine (kept_modify _).mpr fun s hs => ?_

@[simp] theorem kept_checkPort (cur : Word) (port n : Nat) : Kept false (checkPort cur port n) := by
  unfold checkPort
  repeat' first | with_reducible refine kept_bind ?_ fun _ => ?_ | simp

@[simp] theorem kept_readPort {clr : Bool} (port n : Nat) : Kept clr (readPort port n) := by
  simp [readPort]

@[simp] theorem kept_inBody (cur : Word) (port w : Nat) : Kept false (inBody cur port w) := by
  simp [inBody]

@[simp] theorem kept_outBody (cur : Word) (port w : Nat) : Kept false (outBody cur port w) := by
  simp [outBody]

@[simp] theorem kept_getPort {clr : Bool} : Kept clr getPort := by
  simp [getPort]

@[simp] theorem kept_inDx (cur : Word) (w : Nat) : Kept false (inDx cur w) := by
  simp [inDx]

@[simp] theorem kept_outDx (cur : Word) (w : Nat) : Kept false (outDx cur w) := by
  simp [outDx]

@[simp] theorem kept_strAccess (seg : SegReg) (off : Word) (n : Nat) (write : Bool) :
    Kept false (strAccess seg off n write) := by
  simp [strAccess]

@[simp] theorem kept_strSource (w : Nat) : Kept false (strSource w) := by
  unfold strSource
  repeat' first | with_reducible refine kept_bind ?_ fun _ => ?_ | simp

@[simp] theorem kept_strDest (w : Nat) (write : Bool) : Kept false (strDest w write) := by
  simp [strDest]

@[simp] theorem kept_repeated {iter : M Unit} (h : Kept false iter) (testsZf late : Bool) (cur : Word) :
    Kept false (repeated testsZf late cur iter) := by
  unfold repeated
  repeat' first
    | assumption
    | with_reducible refine kept_bind ?_ fun _ => ?_
    | with_reducible refine kept_whenM ?_
    | with_reducible refine (kept_modify _).mpr fun s hs => ?_
    | split
    | simp [*]

@[simp] theorem kept_insIter (cur : Word) (w : Nat) : Kept false (insIter cur w) := by
  unfold insIter
  repeat' first | with_reducible refine kept_bind ?_ fun _ => ?_ | simp

@[simp] theorem kept_outsIter (cur : Word) (w : Nat) : Kept false (outsIter cur w) := by
  unfold outsIter
  repeat' first | with_reducible refine kept_bind ?_ fun _ => ?_ | simp

@[simp] theorem kept_movsIter (w : Nat) : Kept false (movsIter w) := by
  unfold movsIter
  repeat' first | with_reducible refine kept_bind ?_ fun _ => ?_ | simp

@[simp] theorem kept_cmpsIter (w : Nat) : Kept false (cmpsIter w) := by
  unfold cmpsIter
  repeat' first | with_reducible refine kept_bind ?_ fun _ => ?_ | simp

@[simp] theorem kept_scasIter (w : Nat) : Kept false (scasIter w) := by
  unfold scasIter
  repeat' first | with_reducible refine kept_bind ?_ fun _ => ?_ | simp

@[simp] theorem kept_lodsIter (w : Nat) : Kept false (lodsIter w) := by
  simp [lodsIter]

@[simp] theorem kept_stosIter (w : Nat) : Kept false (stosIter w) := by
  unfold stosIter
  repeat' first | with_reducible refine kept_bind ?_ fun _ => ?_ | simp

@[simp] theorem kept_strB {iter : Nat → M Unit} (h : ∀ w, Kept false (iter w)) (testsZf late : Bool) (cur : Word) :
    Kept false (strB testsZf late cur iter) :=
  kept_repeated (h 8) testsZf late cur

@[simp] theorem kept_strV {iter : Nat → M Unit} (h : ∀ w, Kept false (iter w)) (testsZf late : Bool) (cur : Word) :
    Kept false (strV testsZf late cur iter) :=
  kept_bind kept_getW fun w => kept_repeated (h w) testsZf late cur

@[simp] theorem kept_portV {io : Nat → M Unit} (h : ∀ w, Kept false (io w)) : Kept false (portV io) :=
  kept_bind kept_getW h

end Sys2Proof.Machine

/-! SUPPORT. The fixed bits through control transfers. -/
namespace Sys2Proof.Machine
open Host

@[simp] theorem kept_jumpTo (t : Word) : Kept false (jumpTo t) := by
  unfold jumpTo
  repeat' first | assumption | with_reducible refine (kept_modify _).mpr fun s hs => ?_

@[simp] theorem kept_nearTarget {clr : Bool} (t : Word) : Kept clr (nearTarget t) := by
  simp [nearTarget]

@[simp] theorem kept_nearBranch (t : Word) : Kept false (nearBranch t) := by
  simp [nearBranch]

@[simp] theorem kept_branchBy (disp : Word) : Kept false (branchBy disp) := by
  simp [branchBy]

@[simp] theorem kept_jmpEvBody (rm : Rm) : Kept false (jmpEvBody rm) := by
  simp [jmpEvBody]

@[simp] theorem kept_jccBody (c : Cond) (disp : Word) : Kept false (jccBody c disp) := by
  simp [jccBody]

@[simp] theorem kept_jcxzBody (disp : Word) : Kept false (jcxzBody disp) := by
  simp [jcxzBody]

@[simp] theorem kept_loopBody (zf : Option Bool) (disp : Word) : Kept false (loopBody zf disp) := by
  unfold loopBody
  repeat' first
    | with_reducible refine kept_bind ?_ fun _ => ?_
    | with_reducible refine (kept_modify _).mpr fun s hs => ?_
    | simp [*]

@[simp] theorem kept_callNear (t : Word) : Kept false (callNear t) := by
  unfold callNear
  repeat' first | with_reducible refine kept_bind ?_ fun _ => ?_ | simp

@[simp] theorem kept_callBy (disp : Word) : Kept false (callBy disp) := by
  simp [callBy]

@[simp] theorem kept_callEvBody (rm : Rm) : Kept false (callEvBody rm) := by
  simp [callEvBody]

@[simp] theorem kept_retNearBody (imm : Half) : Kept false (retNearBody imm) := by
  unfold retNearBody
  repeat' first | with_reducible refine kept_bind ?_ fun _ => ?_ | simp

@[simp] theorem kept_farReal (sel : Half) (off : Word) : Kept false (farReal sel off) := by
  unfold farReal
  repeat' first | with_reducible refine kept_bind ?_ fun _ => ?_ | simp

@[simp] theorem kept_callFrame (n : Nat) : Kept false (callFrame n) := by
  unfold callFrame
  repeat' first | with_reducible refine kept_bind ?_ fun _ => ?_ | simp

@[simp] theorem kept_enterCode (sel : Half) (a : Word) (d : Desc) (off : Word) :
    Kept false (enterCode sel a d off) := by
  unfold enterCode
  repeat' first | with_reducible refine kept_bind ?_ fun _ => ?_ | simp

@[simp] theorem kept_hitsBelow (r : Seg) (n : Nat) (t : Word) (l : List Nat) : Kept false (hitsBelow r n t l) := by
  induction l generalizing t with
  | nil => exact kept_pure _
  | cons v l ih => exact kept_bind (kept_noteHits _) fun _ => ih _

@[simp] theorem kept_gateParams (w k c : Nat) : Kept false (gateParams w k c) := by
  induction c generalizing k with
  | zero => exact kept_pure _
  | succ c ih => exact kept_bind (kept_peek _ _) fun _ => kept_bind (ih _) fun _ => kept_pure _

@[simp] theorem kept_callInner (w : Nat) (count : Nat) (csel : Half) (a : Word) (d : Desc) (off : Word) :
    Kept false (callInner w count csel a d off) := by
  unfold callInner
  repeat' first
    | assumption
    | with_reducible refine kept_bind ?_ fun _ => ?_
    | with_reducible refine (kept_modify _).mpr fun s hs => ?_
    | with_reducible refine kept_ite ?_ ?_
    | simp

@[simp] theorem kept_throughGate (call : Bool) (gsel : Half) (g : Desc) : Kept false (throughGate call gsel g) := by
  unfold throughGate
  repeat' first | with_reducible refine kept_bind ?_ fun _ => ?_ | with_reducible refine kept_ite ?_ ?_ | simp

@[simp] theorem kept_loadCsDirect (call : Bool) (sel : Half) (off0 : Word) :
    Kept false (loadCsDirect call sel off0) := by
  unfold loadCsDirect
  repeat' first | with_reducible refine kept_bind ?_ fun _ => ?_ | with_reducible refine kept_ite ?_ ?_ | simp

@[simp] theorem kept_farTransfer (call : Bool) (sel : Half) (off : Word) : Kept false (farTransfer call sel off) := by
  unfold farTransfer
  repeat' first | with_reducible refine kept_bind ?_ fun _ => ?_ | split | simp

@[simp] theorem kept_farThrough (call : Bool) (m : Ea) : Kept false (farThrough call m) := by
  unfold farThrough
  repeat' first | with_reducible refine kept_bind ?_ fun _ => ?_ | simp

@[simp] theorem kept_retFarBody (imm : Half) : Kept false (retFarBody imm) := by
  unfold retFarBody
  repeat' first | with_reducible refine kept_bind ?_ fun _ => ?_ | split | simp

@[simp] theorem kept_redirBit {clr : Bool} (n : Nat) : Kept clr (redirBit n) := by
  unfold redirBit
  repeat' first | with_reducible refine kept_bind ?_ fun _ => ?_ | with_reducible refine kept_ite ?_ ?_ | simp

@[simp] theorem kept_redirect (cur : Word) (n : Nat) : Kept false (redirect cur n) := by
  unfold redirect
  repeat' first
    | assumption
    | with_reducible refine kept_bind ?_ fun _ => ?_
    | with_reducible refine kept_whenM ?_
    | with_reducible refine (kept_modify _).mpr fun s hs => ?_
    | with_reducible refine kept_ite ?_ ?_
    | split
    | simp

@[simp] theorem kept_intV86 (cur : Word) (n : Nat) : Kept false (intV86 cur n) := by
  unfold intV86
  repeat' first | with_reducible refine kept_bind ?_ fun _ => ?_ | split | simp

@[simp] theorem kept_intBody (cur : Word) (n : Nat) : Kept false (intBody cur n) := by
  simp [intBody]

@[simp] theorem kept_intoBody (cur : Word) : Kept false (intoBody cur) := by
  simp [intoBody]

@[simp] theorem kept_iretBody : Kept false iretBody := by
  simp [iretBody]

@[simp] theorem kept_boundBody (r : Reg) (m : Ea) : Kept false (boundBody r m) := by
  unfold boundBody
  repeat' first | with_reducible refine kept_bind ?_ fun _ => ?_ | simp

end Sys2Proof.Machine

/-! SUPPORT. The fixed bits through floating-point instructions. -/
namespace Sys2Proof.Machine
open Host

@[simp] theorem kept_pendingError {body : M Unit} (h : Kept false body) (cur : Word) :
    Kept false (pendingError cur body) := by
  unfold pendingError
  repeat' first
    | assumption
    | with_reducible refine kept_bind ?_ fun _ => ?_
    | with_reducible refine (kept_modify _).mpr fun s hs => ?_
    | split
    | simp

@[simp] theorem kept_escNoWait {body : M Unit} (h : Kept false body) : Kept false (escNoWait body) := by
  unfold escNoWait
  repeat' first | simp [*]

@[simp] theorem kept_esc {body : M Unit} (h : Kept false body) (cur : Word) : Kept false (esc cur body) := by
  unfold esc
  refine kept_escNoWait (kept_get_bind fun s _ => ?_)
  split
  · exact kept_pendingError h cur
  · exact h

@[simp] theorem kept_waitBody (cur : Word) : Kept false (waitBody cur) := by
  unfold waitBody
  repeat' first | with_reducible refine kept_bind ?_ fun _ => ?_ | split | simp

@[simp] theorem kept_putFpu {clr : Bool} (f : Fpu) : Kept clr (putFpu f) := by
  unfold putFpu
  repeat' first | assumption | with_reducible refine (kept_modify _).mpr fun s hs => ?_

@[simp] theorem kept_fpuReg (cur : Word) (op x : Nat) : Kept false (fpuReg cur op x) := by
  simp [fpuReg]

@[simp] theorem kept_fpuLoad (cur : Word) (op : Nat) (m : Ea) (n align : Nat) :
    Kept false (fpuLoad cur op m n align) := by
  unfold fpuLoad
  repeat' first | with_reducible refine kept_esc ?_ _ | simp

@[simp] theorem kept_fpuStoreTo (cur : Word) (op : Nat) (m : Ea) (n align : Nat) :
    Kept false (fpuStoreTo cur op m n align) := by
  unfold fpuStoreTo
  repeat' first | with_reducible refine kept_esc ?_ _ | simp

@[simp] theorem kept_fpuLoadImage (cur : Word) (op : Nat) (m : Ea) (narrow wide : Nat) :
    Kept false (fpuLoadImage cur op m narrow wide) := by
  unfold fpuLoadImage
  repeat' first | with_reducible refine kept_esc ?_ _ | simp

@[simp] theorem kept_fpuStoreImage (op : Nat) (m : Ea) (narrow wide : Nat) :
    Kept false (fpuStoreImage op m narrow wide) := by
  unfold fpuStoreImage
  repeat' first | with_reducible refine kept_escNoWait ?_ | simp

@[simp] theorem kept_fldcwBody (cur : Word) (m : Ea) : Kept false (fldcwBody cur m) := by
  unfold fldcwBody
  repeat' first | with_reducible refine kept_esc ?_ _ | simp

@[simp] theorem kept_fnstcwBody (m : Ea) : Kept false (fnstcwBody m) := by
  simp [fnstcwBody]

@[simp] theorem kept_fnstswBody (m : Ea) : Kept false (fnstswBody m) := by
  simp [fnstswBody]

@[simp] theorem kept_fnstswAxBody : Kept false fnstswAxBody := by
  simp [fnstswAxBody]

@[simp] theorem kept_fninitBody : Kept false fninitBody := by
  simp [fninitBody]

@[simp] theorem kept_fnclexBody (op : Nat) : Kept false (fnclexBody op) := by
  simp [fnclexBody]

@[simp] theorem kept_fcmovBody (cur : Word) (op : Nat) (c : Cond) : Kept false (fcmovBody cur op c) := by
  simp [fcmovBody]

@[simp] theorem kept_fcomiBody (cur : Word) (op : Nat) : Kept false (fcomiBody cur op) := by
  unfold fcomiBody
  repeat' first | with_reducible refine kept_bind ?_ fun _ => ?_ | with_reducible refine kept_esc ?_ _ | simp

end Sys2Proof.Machine

/-! SUPPORT. The fixed bits through moves, multiplication and division. -/
namespace Sys2Proof.Machine
open Host

@[simp] theorem kept_movEbGb (rm : Rm8) (r : Reg8) : Kept false (movEbGb rm r) := by
  simp [movEbGb]

@[simp] theorem kept_movEvGv (rm : Rm) (r : Reg) : Kept false (movEvGv rm r) := by
  simp [movEvGv]

@[simp] theorem kept_movGbEb (r : Reg8) (rm : Rm8) : Kept false (movGbEb r rm) := by
  simp [movGbEb]

@[simp] theorem kept_movGvEv (r : Reg) (rm : Rm) : Kept false (movGvEv r rm) := by
  simp [movGvEv]

@[simp] theorem kept_movEvIv (rm : Rm) (imm : Word) : Kept false (movEvIv rm imm) := by
  simp [movEvIv]

@[simp] theorem kept_movAccOff (w : Nat) (off : Word) : Kept false (movAccOff w off) := by
  simp [movAccOff]

@[simp] theorem kept_movOffAcc (w : Nat) (off : Word) : Kept false (movOffAcc w off) := by
  simp [movOffAcc]

@[simp] theorem kept_movxByte (signed : Bool) (r : Reg) (rm : Rm8) : Kept false (movxByte signed r rm) := by
  simp [movxByte]

@[simp] theorem kept_movxWord (signed : Bool) (r : Reg) (rm : Rm) : Kept false (movxWord signed r rm) := by
  simp [movxWord]

@[simp] theorem kept_leaBody {clr : Bool} (r : Reg) (m : Ea) : Kept clr (leaBody r m) := by
  simp [leaBody]

@[simp] theorem kept_xlatBody : Kept false xlatBody := by
  simp [xlatBody]

@[simp] theorem kept_cbwBody {clr : Bool} : Kept clr cbwBody := by
  simp [cbwBody]

@[simp] theorem kept_cwdBody {clr : Bool} : Kept clr cwdBody := by
  simp [cwdBody]

@[simp] theorem kept_bswapBody {clr : Bool} (r : Reg) : Kept clr (bswapBody r) := by
  unfold bswapBody
  repeat' first | with_reducible refine kept_bind ?_ fun _ => ?_ | simp

@[simp] theorem kept_xchgLoc {clr : Bool} (w : Nat) (l g : Loc) : Kept clr (xchgLoc w l g) := by
  unfold xchgLoc
  repeat' first | with_reducible refine kept_bind ?_ fun _ => ?_ | with_reducible refine kept_locked ?_ | simp

@[simp] theorem kept_xchgEbGb (rm : Rm8) (r : Reg8) : Kept false (xchgEbGb rm r) := by
  simp [xchgEbGb]

@[simp] theorem kept_xchgEvGv (rm : Rm) (r : Reg) : Kept false (xchgEvGv rm r) := by
  simp [xchgEvGv]

@[simp] theorem kept_xchgAcc {clr : Bool} (r : Reg) : Kept clr (xchgAcc r) := by
  simp [xchgAcc]

@[simp] theorem kept_xaddLoc {clr : Bool} (w : Nat) (l g : Loc) : Kept clr (xaddLoc w l g) := by
  unfold xaddLoc
  repeat' first | with_reducible refine kept_bind ?_ fun _ => ?_ | simp

@[simp] theorem kept_xaddEbGb (rm : Rm8) (r : Reg8) : Kept false (xaddEbGb rm r) := by
  simp [xaddEbGb]

@[simp] theorem kept_xaddEvGv (rm : Rm) (r : Reg) : Kept false (xaddEvGv rm r) := by
  simp [xaddEvGv]

@[simp] theorem kept_cmpxchgLoc {clr : Bool} (w : Nat) (l g : Loc) : Kept clr (cmpxchgLoc w l g) := by
  unfold cmpxchgLoc
  repeat' first | with_reducible refine kept_bind ?_ fun _ => ?_ | simp

@[simp] theorem kept_cmpxchgEbGb (rm : Rm8) (r : Reg8) : Kept false (cmpxchgEbGb rm r) := by
  simp [cmpxchgEbGb]

@[simp] theorem kept_cmpxchgEvGv (rm : Rm) (r : Reg) : Kept false (cmpxchgEvGv rm r) := by
  simp [cmpxchgEvGv]

@[simp] theorem kept_cmpxchg8bBody (m : Ea) : Kept false (cmpxchg8bBody m) := by
  unfold cmpxchg8bBody
  repeat' first | with_reducible refine kept_bind ?_ fun _ => ?_ | split | simp

@[simp] theorem kept_setccBody (c : Cond) (rm : Rm8) : Kept false (setccBody c rm) := by
  simp [setccBody]

@[simp] theorem kept_cmovBody (c : Cond) (r : Reg) (rm : Rm) : Kept false (cmovBody c r rm) := by
  unfold cmovBody
  repeat' first | with_reducible refine kept_bind ?_ fun _ => ?_ | simp

@[simp] theorem kept_putPair {clr : Bool} (w : Nat) (hi lo : BitVec w) : Kept clr (putPair w hi lo) := by
  unfold putPair
  repeat' first | with_reducible refine (kept_modify _).mpr fun s hs => ?_ | split | simp [*]

@[simp] theorem kept_getPair {clr : Bool} (w : Nat) : Kept clr (getPair w) := by
  simp [getPair]

@[simp] theorem kept_getAcc {clr : Bool} (w : Nat) : Kept clr (getAcc w) := by
  simp [getAcc]

@[simp] theorem kept_mulFlags {clr : Bool} (c : Bool) : Kept clr (mulFlags c) := by
  simp [mulFlags]

@[simp] theorem kept_mulBody {clr : Bool} (w : Nat) (b : BitVec w) : Kept clr (mulBody w b) := by
  simp [mulBody]

@[simp] theorem kept_imulBody {clr : Bool} (w : Nat) (b : BitVec w) : Kept clr (imulBody w b) := by
  simp [imulBody]

@[simp] theorem kept_imulTo {clr : Bool} (w : Nat) (r : Reg) (a b : BitVec w) : Kept clr (imulTo w r a b) := by
  unfold imulTo
  repeat' first
    | with_reducible refine kept_bind ?_ fun _ => ?_
    | with_reducible refine (kept_modify _).mpr fun s hs => ?_
    | simp [*]

@[simp] theorem kept_divBody {clr : Bool} (w : Nat) (b : BitVec w) : Kept clr (divBody w b) := by
  unfold divBody
  repeat' first | with_reducible refine kept_bind ?_ fun _ => ?_ | split | simp

@[simp] theorem kept_idivBody {clr : Bool} (w : Nat) (b : BitVec w) : Kept clr (idivBody w b) := by
  unfold idivBody
  repeat' first | with_reducible refine kept_bind ?_ fun _ => ?_ | split | simp

@[simp] theorem kept_mulOp {clr : Bool} (op : MulOp) (w : Nat) (b : BitVec w) : Kept clr (mulOp op w b) := by
  unfold mulOp
  repeat' first | split | simp

@[simp] theorem kept_mulEbBody (op : MulOp) (rm : Rm8) : Kept false (mulEbBody op rm) := by
  simp [mulEbBody]

@[simp] theorem kept_mulEvBody (op : MulOp) (rm : Rm) : Kept false (mulEvBody op rm) := by
  simp [mulEvBody]

@[simp] theorem kept_imulGvEvBody (r : Reg) (rm : Rm) : Kept false (imulGvEvBody r rm) := by
  unfold imulGvEvBody
  repeat' first | with_reducible refine kept_bind ?_ fun _ => ?_ | simp

@[simp] theorem kept_imulImm (r : Reg) (rm : Rm) (imm : Word) : Kept false (imulImm r rm imm) := by
  simp [imulImm]

@[simp] theorem kept_imulImm8 (r : Reg) (rm : Rm) (imm : Byte) : Kept false (imulImm8 r rm imm) := by
  simp [imulImm8]

@[simp] theorem kept_decimalAdjust {clr : Bool} (sub : Bool) : Kept clr (decimalAdjust sub) := by
  unfold decimalAdjust
  repeat' first | with_reducible refine kept_bind ?_ fun _ => ?_ | simp

@[simp] theorem kept_asciiAdjust {clr : Bool} (sub : Bool) : Kept clr (asciiAdjust sub) := by
  unfold asciiAdjust
  repeat' first | with_reducible refine kept_bind ?_ fun _ => ?_ | simp

@[simp] theorem kept_asciiFlags {clr : Bool} (al : Byte) : Kept clr (asciiFlags al) := by
  unfold asciiFlags
  repeat' first | with_reducible refine kept_bind ?_ fun _ => ?_ | simp

@[simp] theorem kept_aam {clr : Bool} (b : Byte) : Kept clr (aam b) := by
  unfold aam
  repeat' first | with_reducible refine kept_bind ?_ fun _ => ?_ | split | simp

@[simp] theorem kept_aad {clr : Bool} (b : Byte) : Kept clr (aad b) := by
  unfold aad
  repeat' first | with_reducible refine kept_bind ?_ fun _ => ?_ | simp

end Sys2Proof.Machine

/-! SUPPORT. The fixed bits through shifts and stack instructions. -/
namespace Sys2Proof.Machine
open Host

@[simp] theorem kept_shiftEb (op : Shift) (rm : Rm8) (count : Byte) : Kept false (shiftEb op rm count) := by
  simp [shiftEb]

@[simp] theorem kept_shiftEv (op : Shift) (rm : Rm) (count : Byte) : Kept false (shiftEv op rm count) := by
  simp [shiftEv]

@[simp] theorem kept_shiftEbCl (op : Shift) (rm : Rm8) : Kept false (shiftEbCl op rm) := by
  simp [shiftEbCl]

@[simp] theorem kept_shiftEvCl (op : Shift) (rm : Rm) : Kept false (shiftEvCl op rm) := by
  simp [shiftEvCl]

@[simp] theorem kept_doubleEv (left : Bool) (rm : Rm) (r : Reg) (count : Byte) :
    Kept false (doubleEv left rm r count) := by
  unfold doubleEv
  repeat' first | with_reducible refine kept_bind ?_ fun _ => ?_ | simp

@[simp] theorem kept_doubleEvCl (left : Bool) (rm : Rm) (r : Reg) : Kept false (doubleEvCl left rm r) := by
  simp [doubleEvCl]

@[simp] theorem kept_pushW (w : Nat) (v : BitVec w) : Kept false (pushW w v) := by
  simp [pushW]

@[simp] theorem kept_pushReg (r : Reg) : Kept false (pushReg r) := by
  simp [pushReg]

@[simp] theorem kept_pushEvBody (rm : Rm) : Kept false (pushEvBody rm) := by
  simp [pushEvBody]

@[simp] theorem kept_pushImm (imm : Word) : Kept false (pushImm imm) := by
  simp [pushImm]

@[simp] theorem kept_popReg (r : Reg) : Kept false (popReg r) := by
  simp [popReg]

@[simp] theorem kept_popEvBody (rm : Rm) : Kept false (popEvBody rm) := by
  simp [popEvBody]

@[simp] theorem kept_pushEach (n : Nat) (l : List Nat) : Kept false (pushEach n l) := by
  induction l with
  | nil => exact kept_pure _
  | cons v l ih => exact kept_bind (kept_push _ _) fun _ => ih

@[simp] theorem kept_pushaBody : Kept false pushaBody := by
  simp [pushaBody]

@[simp] theorem kept_popEach (w : Nat) (l : List (Option Reg)) : Kept false (popEach w l) := by
  induction l with
  | nil => exact kept_pure _
  | cons r l ih =>
    rw [popEach]
    repeat' first | split | simp [*]

@[simp] theorem kept_popaBody : Kept false popaBody := by
  simp [popaBody]

@[simp] theorem kept_copyFrames (n k : Nat) (b : Word) : Kept false (copyFrames n k b) := by
  induction k generalizing b with
  | zero => exact kept_pure _
  | succ k ih =>
    exact kept_get_bind fun s _ => kept_bind (kept_segRead _ _ _ _) fun _ => kept_bind (kept_push _ _) fun _ => ih _

@[simp] theorem kept_enterBody (size : Half) (level : Byte) : Kept false (enterBody size level) := by
  unfold enterBody
  repeat' first | with_reducible refine kept_bind ?_ fun _ => ?_ | simp

@[simp] theorem kept_leaveBody : Kept false leaveBody := by
  unfold leaveBody
  repeat' first
    | with_reducible refine kept_bind ?_ fun _ => ?_
    | with_reducible refine (kept_modify _).mpr fun s hs => ?_
    | simp [*]

@[simp] theorem kept_pushSeg (r : SegReg) : Kept false (pushSeg r) := by
  simp [pushSeg]

@[simp] theorem kept_markSsLoad (r : SegReg) : Kept false (markSsLoad r) := by
  unfold markSsLoad
  repeat' first | assumption | with_reducible refine (kept_modify _).mpr fun s hs => ?_

@[simp] theorem kept_popSeg (r : SegReg) : Kept false (popSeg r) := by
  unfold popSeg
  repeat' first | with_reducible refine kept_bind ?_ fun _ => ?_ | simp

@[simp] theorem kept_movSwEwBody (sr : SegReg) (rm : Rm) : Kept false (movSwEwBody sr rm) := by
  unfold movSwEwBody
  repeat' first | split | simp

@[simp] theorem kept_movEwSwBody (rm : Rm) (sr : SegReg) : Kept false (movEwSwBody rm sr) := by
  unfold movEwSwBody
  repeat' first | split | simp

@[simp] theorem kept_loadFar (sr : SegReg) (r : Reg) (m : Ea) : Kept false (loadFar sr r m) := by
  unfold loadFar
  repeat' first | with_reducible refine kept_bind ?_ fun _ => ?_ | simp

@[simp] theorem kept_pushfBody : Kept false pushfBody := by
  unfold pushfBody
  repeat' first | with_reducible refine kept_bind ?_ fun _ => ?_ | simp

@[simp] theorem popfMask_and_fixed (s : State) : s.popfMask &&& 0xFFC0802A#32 = 0#32 := by
  unfold State.popfMask
  repeat' split
  all_goals decide

@[simp] theorem kept_popfBody : Kept false popfBody := by
  unfold popfBody
  repeat' first | with_reducible refine kept_bind ?_ fun _ => ?_ | with_reducible refine kept_ite ?_ ?_ | simp

@[simp] theorem kept_interruptFlag {clr : Bool} : Kept clr interruptFlag := by
  unfold interruptFlag
  repeat' first | with_reducible refine kept_bind ?_ fun _ => ?_ | split | simp

/-- The flag that CLI and STI act on is not one of the fixed bits. -/
theorem interruptFlag_free {s t : State} {f : Nat} (h : interruptFlag s = .ok f t) : FreeFlag f := by
  rw [interruptFlag, run_bind, run_get] at h
  repeat' split at h
  all_goals first | (cases h; rfl) | cases h

@[simp] theorem kept_cliBody {clr : Bool} : Kept clr cliBody :=
  kept_bind_answer kept_interruptFlag interruptFlag_free fun _ hf => kept_putFlag hf false

@[simp] theorem kept_stiBody : Kept false stiBody := by
  unfold stiBody
  repeat' first
    | assumption
    | with_reducible refine kept_bind ?_ fun _ => ?_
    | with_reducible refine (kept_modify _).mpr fun s hs => ?_
    | split
    | simp

end Sys2Proof.Machine

/-! SUPPORT. The fixed bits through system instructions. -/
namespace Sys2Proof.Machine
open Host

@[simp] theorem kept_loadTable {put : TableReg → Sys → Sys} (h : ∀ t y, (put t y).cr0 = y.cr0 ∧ (put t y).cr4 = y.cr4)
    (m : Ea) : Kept false (loadTable m put) := by
  unfold loadTable
  repeat' first
    | with_reducible refine kept_bind ?_ fun _ => ?_
    | with_reducible refine (kept_modify _).mpr fun s hs => ?_
    | simp
  all_goals
    rw [Core, (h _ _).1, (h _ _).2]
    assumption

@[simp] theorem kept_storeTable (m : Ea) (t : TableReg) : Kept false (storeTable m t) := by
  unfold storeTable
  repeat' first | with_reducible refine kept_bind ?_ fun _ => ?_ | simp

@[simp] theorem kept_lldtBody (rm : Rm) : Kept false (lldtBody rm) := by
  unfold lldtBody
  repeat' first
    | assumption
    | with_reducible refine kept_bind ?_ fun _ => ?_
    | with_reducible refine (kept_modify _).mpr fun s hs => ?_
    | split
    | simp

@[simp] theorem kept_ltrBody (rm : Rm) : Kept false (ltrBody rm) := by
  unfold ltrBody
  repeat' first
    | assumption
    | with_reducible refine kept_bind ?_ fun _ => ?_
    | with_reducible refine (kept_modify _).mpr fun s hs => ?_
    | split
    | simp

@[simp] theorem kept_storeWord (rm : Rm) (v : Half) : Kept false (storeWord rm v) := by
  unfold storeWord
  repeat' first | with_reducible refine kept_bind ?_ fun _ => ?_ | split | simp

@[simp] theorem kept_sldtBody (rm : Rm) : Kept false (sldtBody rm) := by
  simp [sldtBody]

@[simp] theorem kept_strBody (rm : Rm) : Kept false (strBody rm) := by
  simp [strBody]

@[simp] theorem kept_smswBody (rm : Rm) : Kept false (smswBody rm) := by
  simp [smswBody]

@[simp] theorem kept_afterCr0 {clr : Bool} (old new : Word) : Kept clr (afterCr0 old new) := by
  unfold afterCr0
  repeat' first | with_reducible refine kept_bind ?_ fun _ => ?_ | simp

theorem core_withCr0 {clr : Bool} {s : State} (h : Core clr s) {v : Word} (hv : cr0Fixed v = true) :
    Core clr { s with sys := { s.sys with cr0 := v } } :=
  Fixed.withCr0 h hv

theorem lmsw_fixed {v x : Word} (h : cr0Fixed v = true) : cr0Fixed (blend 0xE#32 v x ||| (x &&& 1#32)) = true := by
  refine cr0Fixed_of_and h ?_
  rw [BitVec.or_comm]
  exact (and_or_and (by decide)).trans (blend_and (by decide))

@[simp] theorem kept_lmswBody (rm : Rm) : Kept false (lmswBody rm) := by
  unfold lmswBody
  repeat' first
    | with_reducible refine kept_get_bind fun s hs => ?_
    | with_reducible refine kept_bind ?_ fun _ => ?_
    | with_reducible refine (kept_modify _).mpr fun s hs => ?_
    | simp
  exact core_withCr0 hs (lmsw_fixed ‹Core false _›.cr0)

@[simp] theorem kept_cltsBody {clr : Bool} : Kept clr cltsBody := by
  unfold cltsBody
  repeat' first
    | with_reducible refine kept_bind ?_ fun _ => ?_
    | with_reducible refine (kept_modify _).mpr fun s hs => ?_
    | simp
  exact Fixed.setCr0 hs (by decide) false

@[simp] theorem kept_movFromCr {clr : Bool} (r : Reg) (n : Nat) : Kept clr (movFromCr r n) := by
  unfold movFromCr
  repeat' first | with_reducible refine kept_bind ?_ fun _ => ?_ | split | simp

@[simp] theorem kept_writeCr0 {clr : Bool} (v : Word) : Kept clr (writeCr0 v) := by
  unfold writeCr0
  repeat' first
    | with_reducible refine kept_bind ?_ fun _ => ?_
    | with_reducible refine (kept_modify _).mpr fun s hs => ?_
    | split
    | simp
  exact core_withCr0 hs (cr0Fixed_cr0Value v)

@[simp] theorem kept_writeCr4 {clr : Bool} (v : Word) : Kept clr (writeCr4 v) := by
  unfold writeCr4
  split
  · exact kept_raiseGP0
  · next hv =>
    have hv : cr4Fixed v = true := decide_eq_true (not_not.mp hv)
    repeat' first
      | with_reducible refine kept_bind ?_ fun _ => ?_
      | with_reducible refine kept_whenM ?_
      | with_reducible refine (kept_modify _).mpr fun s hs => ?_
      | simp
    exact Fixed.withCr4 hs hv

@[simp] theorem kept_movToCr {clr : Bool} (n : Nat) (r : Reg) : Kept clr (movToCr n r) := by
  unfold movToCr
  repeat' first
    | assumption
    | with_reducible refine kept_bind ?_ fun _ => ?_
    | with_reducible refine (kept_modify _).mpr fun s hs => ?_
    | split
    | simp

@[simp] theorem kept_debugReg {clr : Bool} (n : Nat) : Kept clr (debugReg n) := by
  unfold debugReg
  repeat' first | with_reducible refine kept_bind ?_ fun _ => ?_ | simp

@[simp] theorem kept_movFromDr {clr : Bool} (r : Reg) (n : Nat) : Kept clr (movFromDr r n) := by
  unfold movFromDr
  repeat' first | with_reducible refine kept_bind ?_ fun _ => ?_ | simp

@[simp] theorem kept_movToDr {clr : Bool} (n : Nat) (r : Reg) : Kept clr (movToDr n r) := by
  unfold movToDr
  repeat' first
    | assumption
    | with_reducible refine kept_bind ?_ fun _ => ?_
    | with_reducible refine (kept_modify _).mpr fun s hs => ?_
    | simp

@[simp] theorem kept_arplBody (rm : Rm) (r : Reg) : Kept false (arplBody rm r) := by
  unfold arplBody
  repeat' first | with_reducible refine kept_bind ?_ fun _ => ?_ | split | simp

@[simp] theorem kept_testedDesc {clr : Bool} (sel : Half) : Kept clr (testedDesc sel) := by
  simp [testedDesc]

@[simp] theorem kept_examine (types : List Nat) (value : Desc → Word) (r : Reg) (rm : Rm) :
    Kept false (examine types value r rm) := by
  unfold examine
  repeat' first | with_reducible refine kept_bind ?_ fun _ => ?_ | split | simp

@[simp] theorem kept_larBody (r : Reg) (rm : Rm) : Kept false (larBody r rm) := by
  simp [larBody]

@[simp] theorem kept_lslBody (r : Reg) (rm : Rm) : Kept false (lslBody r rm) := by
  simp [lslBody]

@[simp] theorem kept_verify (ok : Desc → Half → BitVec 2 → Bool) (rm : Rm) : Kept false (verify ok rm) := by
  unfold verify
  repeat' first | with_reducible refine kept_bind ?_ fun _ => ?_ | simp

@[simp] theorem kept_verrBody (rm : Rm) : Kept false (verrBody rm) := by
  simp [verrBody]

@[simp] theorem kept_verwBody (rm : Rm) : Kept false (verwBody rm) := by
  simp [verwBody]

@[simp] theorem kept_invdBody {clr : Bool} : Kept clr invdBody := by
  unfold invdBody
  repeat' first | with_reducible refine kept_bind ?_ fun _ => ?_ | simp

@[simp] theorem kept_wbinvdBody {clr : Bool} : Kept clr wbinvdBody := by
  unfold wbinvdBody
  repeat' first | with_reducible refine kept_bind ?_ fun _ => ?_ | simp

@[simp] theorem kept_invlpgBody {clr : Bool} (m : Ea) : Kept clr (invlpgBody m) := by
  simp [invlpgBody]

@[simp] theorem kept_hltBody : Kept false hltBody := by
  unfold hltBody
  repeat' first
    | assumption
    | with_reducible refine kept_bind ?_ fun _ => ?_
    | with_reducible refine (kept_modify _).mpr fun s hs => ?_
    | simp

@[simp] theorem kept_unspecified {clr : Bool} : Kept clr unspecified := by
  unfold unspecified
  repeat' first
    | assumption
    | with_reducible refine kept_bind ?_ fun _ => ?_
    | with_reducible refine (kept_modify _).mpr fun s hs => ?_
    | simp

end Sys2Proof.Machine

/-! SUPPORT. The fixed bits through the fetch. -/
namespace Sys2Proof.Machine
open Host

@[simp] theorem kept_fetchBytes {clr : Bool} (la : Word) (n : Nat) (user : Bool) :
    Kept clr (fetchBytes la n user) := by
  unfold fetchBytes
  repeat' first | with_reducible refine kept_bind ?_ fun _ => ?_ | split | simp

@[simp] theorem kept_badEncoding {clr : Bool} {α : Type} (e : DecodeErr) : Kept clr (badEncoding e : M α) := by
  unfold badEncoding
  repeat' first | with_reducible refine kept_bind ?_ fun _ => ?_ | split | simp

@[simp] theorem kept_decodeFrom {clr : Bool} (bs : List Byte) : Kept clr (decodeFrom bs) := by
  unfold decodeFrom
  repeat' first | with_reducible refine kept_bind ?_ fun _ => ?_ | split | simp

@[simp] theorem kept_fetchInstr {clr : Bool} : Kept clr fetchInstr := by
  unfold fetchInstr
  repeat' first
    | with_reducible refine kept_bind ?_ fun _ => ?_
    | with_reducible refine kept_ite ?_ ?_
    | split
    | simp

@[simp] theorem kept_checkCodeBreakpoint {clr : Bool} : Kept clr checkCodeBreakpoint := by
  unfold checkCodeBreakpoint
  repeat' first | with_reducible refine kept_bind ?_ fun _ => ?_ | simp

@[simp] theorem kept_fetchNext {clr : Bool} : Kept clr fetchNext := by
  unfold fetchNext
  repeat' first | with_reducible refine kept_bind ?_ fun _ => ?_ | simp

end Sys2Proof.Machine

/-! SUPPORT. The invariant from the end of an instruction or a delivery to the end of the step. -/
namespace Sys2Proof.Machine
open Host

theorem core_true_iff (s : State) : Core true s ↔ Inv s :=
  ⟨fun ⟨mem, flags, cr0, cr4, saved, tr⟩ => ⟨mem, tr, flags, cr0, cr4, saved⟩,
   fun ⟨mem, tr, flags, cr0, cr4, saved⟩ => ⟨mem, flags, cr0, cr4, saved, tr⟩⟩

theorem Core.weaken {s : State} (h : Core true s) : Core false s := ⟨h.mem, h.flags, h.cr0, h.cr4, h.saved, rfl⟩

theorem Core.cleared {s : State} (h : Core false s) : Core true { s with tr := Trans.clear } :=
  ⟨h.mem, h.flags, h.cr0, h.cr4, h.saved, rfl⟩

/-- Where a step ends with a state, the invariant holds in it. -/
def EndsInv (o : Outcome State Fault Refusal) : Prop := ∀ t, o = .next t → Core true t

theorem endsInv_next {t : State} (h : Core true t) : EndsInv (.next t) := by
  rintro u ⟨⟩
  exact h

theorem endsInv_fault (f : Fault) : EndsInv (.fault f) := by rintro _ ⟨⟩
theorem endsInv_refused (r : Refusal) : EndsInv (.refused r) := by rintro _ ⟨⟩

/-- The answer of a computation that keeps `Core` is taken apart with `Core` of the state it ends in. -/
theorem Kept.run {α : Type} {clr : Bool} {x : M α} (h : Kept clr x) {s : State} (hs : Core clr s) :
    match x s with
    | .ok _ t => Core clr t
    | .error _ t => Core clr t := h s hs

theorem core_rollback {s0 s1 : State} (h0 : Core false s0) (h1 : Core false s1) (x : Exc) : Core true (rollback s0 s1 x) := by
  unfold rollback
  cases x.keep with
  | true => exact ⟨h1.mem, h1.flags, h1.cr0, h1.cr4, h1.saved, rfl⟩
  | false => exact ⟨h1.mem, h0.flags, h0.cr0, h0.cr4, h0.saved, rfl⟩

theorem endsInv_takeEvent {n : Nat} {e : Entry} {s : State} (h : Core true s) : EndsInv (takeEvent n e s) := by
  induction n generalizing e s with
  | zero => exact endsInv_next h
  | succ n ih =>
    have hd := (kept_deliver e).run h.weaken
    rw [takeEvent]
    cases hr : deliver e s with
    | ok _ s1 =>
      rw [hr] at hd
      exact endsInv_next (Core.cleared hd)
    | error a s1 =>
      rw [hr] at hd
      cases a with
      | fault f => exact endsInv_fault f
      | refused r => exact endsInv_refused r
      | exc x =>
        have hb := core_rollback h.weaken hd (if e.src = .soft then x else x.external)
        dsimp only
        split
        · exact endsInv_next hb
        · split
          · exact ih hb
          · exact ih hb

theorem endsInv_takeException {s0 s1 : State} (h0 : Core false s0) (h1 : Core false s1) (x : Exc) :
    EndsInv (takeException s0 s1 x) :=
  endsInv_takeEvent (core_rollback h0 h1 x)

theorem core_acknowledge {s : State} (h : Core true s) (ack : Ack) : Core true (s.acknowledge ack) := by
  cases ack <;> exact h

theorem endsInv_takeAt {s : State} (h : Core true s) (e : Entry) (ack : Ack) : EndsInv (takeAt e ack s) := by
  have hd := (kept_deliver e).run h.weaken
  unfold takeAt
  cases hr : deliver e s with
  | ok _ t =>
    rw [hr] at hd
    exact endsInv_next (core_acknowledge (Core.cleared hd) ack)
  | error _ _ => exact endsInv_takeEvent h

/-- An instruction whose body keeps the fixed bits ends in the invariant: completion and an exception clear the transient
part. -/
theorem endsInv_instr {lockOk : Bool} {body : M Unit} {s : State} (hbody : Kept false body) (h : Core true s) :
    EndsInv (instr lockOk body s) := by
  unfold instr
  split
  · exact endsInv_takeException h.weaken h.weaken _
  · have hb := hbody.run (s := { s with eip := s.nextEip }) h.weaken
    rw [run_bind]
    cases hr : body { s with eip := s.nextEip } with
    | ok a t =>
      rw [hr] at hb
      simp only [finish, run_bind, run_get]
      have hw := (kept_whenM (b := t.tr.branched) (kept_recordBranch false s.eip t.eip)).run hb
      cases hwr : whenM t.tr.branched (recordBranch false s.eip t.eip) t with
      | ok _ u =>
        rw [hwr] at hw
        exact endsInv_next (Core.cleared (core_completed hw s))
      | error a u =>
        rw [hwr] at hw
        cases a with
        | exc x => exact endsInv_takeException h.weaken hw x
        | fault f => exact endsInv_fault f
        | refused r => exact endsInv_refused r
    | error a t =>
      rw [hr] at hb
      cases a with
      | exc x => exact endsInv_takeException h.weaken hb x
      | fault f => exact endsInv_fault f
      | refused r => exact endsInv_refused r

/-- Each arm of `exec` sets a mark or runs the body of an instruction. -/
theorem endsInv_exec (i : Instr) {s : State} (h : Core true s) : EndsInv (exec i s) := by
  cases i
  all_goals first
    | exact endsInv_next h
    | exact endsInv_instr (by simp) h
    | exact endsInv_instr (body := raiseUD) (by simp) h

theorem endsInv_fetchAndRun {s : State} (h : Core true s) : EndsInv (fetchAndRun s) := by
  have hf := kept_fetchNext.run h
  unfold fetchAndRun
  cases hr : fetchNext s with
  | ok p t =>
    rw [hr] at hf
    exact endsInv_exec p.1 hf
  | error a t =>
    rw [hr] at hf
    cases a with
    | exc x => exact endsInv_takeException h.weaken hf.weaken x
    | fault f => exact endsInv_fault f
    | refused r => exact endsInv_refused r

theorem core_prelude {s : State} (h : Core true s) : Core true s.prelude := by
  unfold State.prelude
  split
  · exact h
  · exact core_background (s := s.tick) h

theorem endsInv_step {s : State} (h : Core true s) : EndsInv (step s) := by
  have hp := core_prelude h
  have hb := kept_boundary.run hp
  dsimp only [step]
  split
  · exact endsInv_fetchAndRun hp
  · cases hr : boundary s.prelude with
    | ok turn u =>
      rw [hr] at hb
      cases turn with
      | run => exact endsInv_fetchAndRun hb
      | stay => exact endsInv_next hb
      | take e ack => exact endsInv_takeAt hb e ack
    | error a u =>
      rw [hr] at hb
      cases a with
      | exc x => exact endsInv_takeException hp.weaken hb.weaken x
      | fault f => exact endsInv_fault f
      | refused r => exact endsInv_refused r

/-- Settles O36: the invariant is `Core true`, which every computation of a step keeps, or keeps but for the transient part
that the end of an instruction and of a delivery clears. -/
theorem invariantKept : Obligations.InvariantKept := fun s t hs ht =>
  (core_true_iff t).1 (endsInv_step ((core_true_iff s).2 hs) t ht)

end Sys2Proof.Machine

/-! SUPPORT. The last step from a body to its instruction, and the two-operand and one-operand arithmetic. -/
namespace Sys2Proof.Machine
open Host

/-- What a body leaves of registers, memory and flags, when it runs, is what its instruction completes with. -/
theorem completes_of_runs {i : Instr} {lockOk : Bool} {body : M Unit} {s : State} {q : State → Prop}
    (hi : exec i s = instr lockOk body s) (hs : s.ready) (hl : s.lockOk lockOk = true)
    (hb : Runs body s.start fun _ u => ∃ g m f, At s s.nextEip g m f u ∧
      ∀ t : State, t.gpr = g → t.mem = m → t.eflags = setBit f fRF false → Falls s t → q t) :
    Completes i s q := by
  obtain ⟨_, u, hx, g, m, f, h, hq⟩ := hb
  obtain ⟨t, ht, hg, hm, hf, hfalls⟩ := instr_falls hs hl hx h.calm h.eip
  exact ⟨t, hi.trans ht, hq t (hg.trans h.gpr) (hm.trans h.mem) (by rw [hf, h.eflags]) hfalls⟩

theorem untouched_of {s t : State} (hg : t.gpr = s.gpr) (hm : t.mem = s.mem) : Untouched s t := ⟨hg, memSame_of hm⟩

theorem flagsSame_of {s t : State} (h : t.eflags = setBit s.eflags fRF false) : FlagsSame s t := h

/-- The body of a two-operand instruction on bytes. -/
def aluBody8 (op : Alu) : Form8 → M Unit
  | .ebGb rm r => aluEbGb op rm r
  | .gbEb r rm => aluGbEb op r rm
  | .alIb k => aluAlIb op k
  | .ebIb rm k => aluEbIb op rm k

/-- The body of a two-operand instruction on words or doublewords. -/
def aluBodyV (op : Alu) : FormV → M Unit
  | .evGv rm r => aluEvGv op rm r
  | .gvEv r rm => aluGvEv op r rm
  | .axIv k => aluAxIv op k
  | .evIv rm k => aluEvIv op rm k
  | .evIb rm k => aluEvIb op rm k

theorem exec_aluIns8 {op : Alu} {f : Form8} {i : Instr} (h : aluIns8 op f = some i) (s : State) :
    exec i s = instr (op.writes && isMem f.dst) (aluBody8 op f) s := by
  cases op <;> cases f <;> cases h <;> rfl

theorem exec_aluInsV {op : Alu} {f : FormV} {i : Instr} (h : aluInsV op f = some i) (s : State) :
    exec i s = instr (op.writes && isMem f.dst) (aluBodyV op f) s := by
  cases op <;> cases f <;> cases h <;> rfl

/-- Every byte form reads its operands, and then does what `aluLoc` does to the first. -/
theorem runs_aluBody8 {op : Alu} {f : Form8} {s : State}
    (hd : s.can f.dst 1 (kindOf op.writes) = true) (hr : f.srcOk s = true) :
    Runs (aluBody8 op f) s.start fun _ v => ∃ af : Bool,
      let p := op.result (s.val8 f.dst) (f.src s) (s.flag fCF) af
      At s s.nextEip (if op.writes then gprAfter8 s f.dst p.1 else s.gpr)
        (if op.writes then memAfter8 s f.dst p.1 else s.mem) (blend arithMask s.eflags p.2.word) v := by
  cases f with
  | ebGb rm r =>
    refine runs_bind (runs_locRm8 (at_start s) hd) fun l v ⟨hl, hv⟩ => ?_
    refine runs_bind (runs_readG8 hv r) fun b u ⟨hb, hu⟩ => ?_
    exact hb ▸ runs_aluLoc hl hu
  | gbEb r rm =>
    refine runs_bind (runs_readRm8 (at_start s) hr) fun b v ⟨hb, hv⟩ => ?_
    exact hb ▸ runs_aluLoc (located_reg8 s r) hv
  | alIb k => exact runs_aluLoc (located_reg8 s .al) (at_start s)
  | ebIb rm k => exact runs_bind (runs_locRm8 (at_start s) hd) fun l v ⟨hl, hv⟩ => runs_aluLoc hl hv

/-- A computation that begins with the operand size, of a state reached from `s`. -/
theorem runs_getW_bind {α : Type} {s u : State} {e : Word} {g : Gprs} {m : List Cell} {f : Word} {x : Nat → M α}
    {q : α → State → Prop} (h : At s e g m f u) (hx : Runs (x (bits s.o32)) u q) : Runs (getW >>= x) u q := by
  obtain ⟨a, v, hr, hq⟩ := hx
  have hw : getW u = .ok (bits s.o32) u := by simp [getW, getO32, State.o32, h.calm.seg, h.calm.op66]
  exact ⟨a, v, by simp only [run_bind, hw, hr], hq⟩

/-- Every word or doubleword form reads its operands, and then does what `aluLoc` does to the first. -/
theorem runs_aluBodyV {op : Alu} {f : FormV} {s : State}
    (hd : s.can f.dst (bytes s.o32) (kindOf op.writes) = true) (hr : f.srcOk s (bits s.o32) = true) :
    Runs (aluBodyV op f) s.start fun _ v => ∃ af : Bool,
      let p := op.result (s.val (bits s.o32) f.dst) (f.src s (bits s.o32)) (s.flag fCF) af
      At s s.nextEip (if op.writes then gprAfter s (bits s.o32) f.dst p.1 else s.gpr)
        (if op.writes then memAfter s (bits s.o32) f.dst p.1 else s.mem) (blend arithMask s.eflags p.2.word) v := by
  have hw := bits_div_pos s.o32
  have hd' := State.can_bytes hd
  cases f with
  | evGv rm r =>
    refine runs_getW_bind (at_start s) (runs_bind (runs_locRm (at_start s) hw hd') fun l v ⟨hl, hv⟩ => ?_)
    refine runs_bind (runs_readG hv _ r) fun b u ⟨hb, hu⟩ => ?_
    exact hb ▸ runs_aluLoc hl hu
  | gvEv r rm =>
    refine runs_getW_bind (at_start s) (runs_bind (runs_readRm (at_start s) hw hr) fun b v ⟨hb, hv⟩ => ?_)
    exact hb ▸ runs_aluLoc (located_reg s _ r) hv
  | axIv k => exact runs_getW_bind (at_start s) (runs_aluLoc (located_reg s _ .eax) (at_start s))
  | evIv rm k =>
    exact runs_getW_bind (at_start s) (runs_bind (runs_locRm (at_start s) hw hd') fun l v ⟨hl, hv⟩ => runs_aluLoc hl hv)
  | evIb rm k =>
    exact runs_getW_bind (at_start s) (runs_bind (runs_locRm (at_start s) hw hd') fun l v ⟨hl, hv⟩ => runs_aluLoc hl hv)

/-- Settles O1. -/
theorem aluBytes : Obligations.AluBytes := by
  intro op f i s hi hs hl hd hr
  refine completes_of_runs (exec_aluIns8 hi s) hs hl (runs_mono (runs_aluBody8 hd hr) ?_)
  rintro _ u ⟨af, h⟩
  refine ⟨_, _, _, h, fun t hg hm hf ht => ⟨af, ?_, hf, ht⟩⟩
  cases hw : op.writes with
  | true => rw [hw] at hg hm; exact wrote8_of hs.1 hg hm
  | false => rw [hw] at hg hm; exact untouched_of hg hm

/-- Settles O2. -/
theorem aluWords : Obligations.AluWords := by
  intro op f i s hi hs hl hd hr
  refine completes_of_runs (exec_aluInsV hi s) hs hl (runs_mono (runs_aluBodyV hd hr) ?_)
  rintro _ u ⟨af, h⟩
  refine ⟨_, _, _, h, fun t hg hm hf ht => ⟨af, ?_, hf, ht⟩⟩
  cases hw : op.writes with
  | true => rw [hw] at hg hm; exact wrote_of hs.1 hg hm
  | false => rw [hw] at hg hm; exact untouched_of hg hm

/-- What INC, DEC, NEG and NOT leave, by `unaryRule`. -/
theorem runs_alu1Loc_rule {op : Alu1} {w : Nat} {l : Loc} {a : BitVec w} {s u : State} {e : Word} {g m}
    (h : Located s w l a g m) (hu : At s e s.gpr s.mem s.eflags u) :
    Runs (alu1Loc op w l) u fun _ v =>
      let p := unaryRule op a
      At s e (g p.1) (m p.1) (blend p.2.1 s.eflags p.2.2) v := by
  refine runs_mono (runs_alu1Loc h hu) fun _ v hv => ?_
  cases op with
  | inc => simpa [unaryRule, addFlags, ofBool] using hv
  | dec => simpa [unaryRule, subFlags, ofBool] using hv
  | neg => simpa [unaryRule, subFlags, ofBool] using hv
  | not => simpa [unaryRule, blend_zero] using hv

theorem exec_unaryIns8 (op : Alu1) (rm : Rm8) (s : State) :
    exec (unaryIns8 op rm) s = instr (isMem rm) (alu1Eb op rm) s := by cases op <;> rfl

theorem exec_unaryInsV (op : Alu1) (rm : Rm) (s : State) :
    exec (unaryInsV op rm) s = instr (isMem rm) (alu1Ev op rm) s := by cases op <;> rfl

theorem runs_alu1Eb {op : Alu1} {rm : Rm8} {s : State} (hc : s.can rm 1 .write = true) :
    Runs (alu1Eb op rm) s.start fun _ v =>
      let p := unaryRule op (s.val8 rm)
      At s s.nextEip (gprAfter8 s rm p.1) (memAfter8 s rm p.1) (blend p.2.1 s.eflags p.2.2) v :=
  runs_bind (runs_locRm8 (write := true) (at_start s) hc) fun _ _ ⟨hl, hv⟩ => runs_alu1Loc_rule hl hv

theorem runs_alu1Ev {op : Alu1} {rm : Rm} {s : State} (hc : s.can rm (bytes s.o32) .write = true) :
    Runs (alu1Ev op rm) s.start fun _ v =>
      let p := unaryRule op (s.val (bits s.o32) rm)
      At s s.nextEip (gprAfter s (bits s.o32) rm p.1) (memAfter s (bits s.o32) rm p.1) (blend p.2.1 s.eflags p.2.2) v :=
  runs_getW_bind (at_start s) (runs_bind (runs_locRm (write := true) (at_start s) (bits_div_pos _) (State.can_bytes hc))
    fun _ _ ⟨hl, hv⟩ => runs_alu1Loc_rule hl hv)

/-- An instruction that does what `alu1Ev` does. -/
theorem completes_alu1Ev {i : Instr} {op : Alu1} {rm : Rm} {lk : Bool} {s : State} (hi : exec i s = instr lk (alu1Ev op rm) s)
    (hs : s.ready) (hl : s.lockOk lk = true) (hc : s.can rm (bytes s.o32) .write = true) :
    Completes i s fun t =>
      let p := unaryRule op (s.val (bits s.o32) rm)
      Wrote s t (bits s.o32) rm p.1 ∧ t.eflags = flagsAfter s p.2.1 p.2.2 ∧ Falls s t :=
  completes_of_runs hi hs hl (runs_mono (runs_alu1Ev hc) fun _ _ h =>
    ⟨_, _, _, h, fun _ hg hm hf ht => ⟨wrote_of hs.1 hg hm, hf, ht⟩⟩)

/-- Settles O3. -/
theorem unary : Obligations.Unary := by
  refine ⟨fun op rm s hs hl hc => ?bytes, fun op rm s hs hl hc => ?words, fun i op r s hi hs hl => ?short⟩
  case bytes =>
    exact completes_of_runs (exec_unaryIns8 op rm s) hs hl (runs_mono (runs_alu1Eb hc) fun _ _ h =>
      ⟨_, _, _, h, fun _ hg hm hf ht => ⟨wrote8_of hs.1 hg hm, hf, ht⟩⟩)
  case words => exact completes_alu1Ev (exec_unaryInsV op rm s) hs hl hc
  case short =>
    obtain ⟨rfl, rfl⟩ | ⟨rfl, rfl⟩ := hi
    · exact completes_alu1Ev (op := .inc) (rm := .reg r) rfl hs hl rfl
    · exact completes_alu1Ev (op := .dec) (rm := .reg r) rfl hs hl rfl

end Sys2Proof.Machine

/-! SUPPORT. Shifts, rotates and double shifts. -/
namespace Sys2Proof.Machine
open Host

theorem blend_none (x y : Word) : blend 0 x y = x := blend_zero x y

/-- What a shift or rotate of a located operand leaves, by `shiftRule`. -/
theorem runs_shiftLoc {op : Shift} {w : Nat} {l : Loc} {x : BitVec w} {s u : State} {e : Word} {g m} (count : Byte)
    (h : Located s w l x g m) (hu : At s e s.gpr s.mem s.eflags u) :
    Runs (shiftLoc op w l count) u fun _ v => ∃ cf of af : Bool,
      let p := shiftRule op x (s.flag fCF) count cf of af
      At s e (g p.1) (m p.1) (blend p.2.1 s.eflags p.2.2) v := by
  unfold shiftLoc
  refine runs_bind (runs_readLoc h hu) fun y v ⟨hy, hv⟩ => runs_get_bind ?_
  subst hy
  by_cases hc : count.toNat % 32 = 0
  · simp only [hc, if_true]
    refine runs_mono (runs_writeLoc y h hv) fun _ t ht => ⟨false, false, false, ?_⟩
    simpa only [shiftRule, hc, if_true, blend_none] using ht
  · simp only [hc, if_false, hv.flag]
    refine runs_bind (runs_drawBool hv) fun f0 v0 h0 => runs_bind (runs_drawBool h0) fun f1 v1 h1 =>
      runs_bind (runs_drawBool h1) fun f2 v2 h2 => runs_bind (runs_writeLoc _ h h2) fun _ v3 h3 => ?_
    cases hr : op.isRotate with
    | true =>
      refine runs_mono (runs_putFlagsMasked _ _ h3) fun _ t ht => ⟨f0, f1, false, ?_⟩
      simpa only [shiftRule, hc, if_false, hr, if_true] using ht
    | false =>
      refine runs_mono (runs_putArith _ h3) fun _ t ht => ⟨f0, f1, f2, ?_⟩
      simpa only [shiftRule, hc, if_false, hr, Bool.false_eq_true] using ht

/-- What a double shift of a located operand leaves, by `doubleRule`. -/
theorem runs_doubleShift {left : Bool} {w : Nat} {l : Loc} {x : BitVec w} {s u : State} {e : Word} {g m}
    (src : BitVec w) (count : Byte) (h : Located s w l x g m) (hu : At s e s.gpr s.mem s.eflags u) :
    Runs (doubleShift left w l src count) u fun _ v => ∃ (y : BitVec w) (f : Word) (of af : Bool),
      let p := doubleRule left x src count y f of af
      At s e (g p.1) (m p.1) (blend p.2.1 s.eflags p.2.2) v := by
  unfold doubleShift
  refine runs_bind (runs_readLoc h hu) fun y v ⟨hy, hv⟩ => ?_
  subst hy
  by_cases hc : count.toNat % 32 = 0
  · simp only [hc, if_true]
    refine runs_mono (runs_writeLoc y h hv) fun _ t ht => ⟨0, 0, false, false, ?_⟩
    simpa only [doubleRule, hc, if_true, blend_none] using ht
  · by_cases hw : w < count.toNat % 32
    · simp only [hc, if_false, hw, if_true]
      refine runs_bind (runs_draw w hv) fun r v0 h0 => runs_bind (runs_draw 32 h0) fun f v1 h1 =>
        runs_bind (runs_writeLoc r h h1) fun _ v2 h2 => ?_
      refine runs_mono (runs_putFlagsMasked _ _ h2) fun _ t ht => ⟨r, f, false, false, ?_⟩
      simpa only [doubleRule, hc, if_false, hw, if_true] using ht
    · simp only [hc, if_false, hw]
      refine runs_bind (runs_drawBool hv) fun f1 v0 h0 => runs_bind (runs_drawBool h0) fun f2 v1 h1 =>
        runs_bind (runs_writeLoc _ h h1) fun _ v2 h2 => ?_
      refine runs_mono (runs_putArith _ h2) fun _ t ht => ⟨0, 0, f1, f2, ?_⟩
      simpa only [doubleRule, hc, if_false, hw] using ht

/-- The count of a shift is read first, where it is in CL. -/
def Count.read : Count → M Byte
  | .ib k => pure k
  | .one => pure 1
  | .cl => readG8 .cl

theorem runs_countRead (c : Count) (s : State) :
    Runs c.read s.start fun k v => k = c.value s ∧ At s s.nextEip s.gpr s.mem s.eflags v := by
  cases c with
  | ib k => exact runs_pure ⟨rfl, at_start s⟩
  | one => exact runs_pure ⟨rfl, at_start s⟩
  | cl => exact runs_readG8 (at_start s) .cl

theorem exec_shiftIns8 (op : Shift) (c : Count) (rm : Rm8) (s : State) :
    exec (shiftIns8 op c rm) s = instr false (c.read >>= shiftEb op rm) s := by
  cases op <;> cases c <;> rfl

theorem exec_shiftInsV (op : Shift) (c : Count) (rm : Rm) (s : State) :
    exec (shiftInsV op c rm) s = instr false (c.read >>= shiftEv op rm) s := by
  cases op <;> cases c <;> rfl

theorem exec_doubleIns {left : Bool} {c : Count} {rm : Rm} {r : Reg} {i : Instr} (h : doubleIns left c rm r = some i)
    (s : State) : exec i s = instr false (c.read >>= doubleEv left rm r) s := by
  cases left <;> cases c <;> cases h <;> rfl

theorem runs_shiftEb {op : Shift} {c : Count} {rm : Rm8} {s : State} (hc : s.can rm 1 .write = true) :
    Runs (c.read >>= shiftEb op rm) s.start fun _ v => ∃ cf of af : Bool,
      let p := shiftRule op (s.val8 rm) (s.flag fCF) (c.value s) cf of af
      At s s.nextEip (gprAfter8 s rm p.1) (memAfter8 s rm p.1) (blend p.2.1 s.eflags p.2.2) v := by
  refine runs_bind (runs_countRead c s) fun k v ⟨hk, hv⟩ => hk ▸ ?_
  exact runs_bind (runs_locRm8 (write := true) hv hc) fun l u ⟨hl, hu⟩ => runs_shiftLoc _ hl hu

theorem runs_shiftEv {op : Shift} {c : Count} {rm : Rm} {s : State} (hc : s.can rm (bytes s.o32) .write = true) :
    Runs (c.read >>= shiftEv op rm) s.start fun _ v => ∃ cf of af : Bool,
      let p := shiftRule op (s.val (bits s.o32) rm) (s.flag fCF) (c.value s) cf of af
      At s s.nextEip (gprAfter s (bits s.o32) rm p.1) (memAfter s (bits s.o32) rm p.1)
        (blend p.2.1 s.eflags p.2.2) v := by
  refine runs_bind (runs_countRead c s) fun k v ⟨hk, hv⟩ => hk ▸ runs_getW_bind hv ?_
  exact runs_bind (runs_locRm (write := true) hv (bits_div_pos _) (State.can_bytes hc)) fun l u ⟨hl, hu⟩ =>
    runs_shiftLoc _ hl hu

theorem runs_doubleEv {left : Bool} {c : Count} {rm : Rm} {r : Reg} {s : State}
    (hc : s.can rm (bytes s.o32) .write = true) :
    Runs (c.read >>= doubleEv left rm r) s.start fun _ v => ∃ (x : BitVec (bits s.o32)) (f : Word) (of af : Bool),
      let p := doubleRule left (s.val (bits s.o32) rm) ((s.r32 r).setWidth (bits s.o32)) (c.value s) x f of af
      At s s.nextEip (gprAfter s (bits s.o32) rm p.1) (memAfter s (bits s.o32) rm p.1)
        (blend p.2.1 s.eflags p.2.2) v := by
  refine runs_bind (runs_countRead c s) fun k v ⟨hk, hv⟩ => hk ▸ runs_getW_bind hv ?_
  refine runs_bind (runs_locRm (write := true) hv (bits_div_pos _) (State.can_bytes hc)) fun l u ⟨hl, hu⟩ => ?_
  exact runs_bind (runs_readG hu _ r) fun b u' ⟨hb, hu'⟩ => hb ▸ runs_doubleShift _ _ hl hu'

theorem shiftsOne : ShiftsOne := by
  refine ⟨fun op c rm s hs hl hc => ?bytes, fun op c rm s hs hl hc => ?words⟩
  case bytes =>
    refine completes_of_runs (exec_shiftIns8 op c rm s) hs hl (runs_mono (runs_shiftEb hc) ?_)
    rintro _ u ⟨cf, of, af, h⟩
    exact ⟨_, _, _, h, fun t hg hm hf ht => ⟨cf, of, af, wrote8_of hs.1 hg hm, hf, ht⟩⟩
  case words =>
    refine completes_of_runs (exec_shiftInsV op c rm s) hs hl (runs_mono (runs_shiftEv hc) ?_)
    rintro _ u ⟨cf, of, af, h⟩
    exact ⟨_, _, _, h, fun t hg hm hf ht => ⟨cf, of, af, wrote_of hs.1 hg hm, hf, ht⟩⟩

theorem shiftsTwo : ShiftsTwo := by
  intro left c rm r i s hi hs hl hc
  refine completes_of_runs (exec_doubleIns hi s) hs hl (runs_mono (runs_doubleEv hc) ?_)
  rintro _ u ⟨x, f, of, af, h⟩
  exact ⟨_, _, _, h, fun t hg hm hf ht => ⟨x, f, of, af, wrote_of hs.1 hg hm, hf, ht⟩⟩

/-- Settles O59. -/
theorem shifts : Obligations.Shifts := ⟨shiftsOne, shiftsTwo⟩

end Sys2Proof.Machine

/-! SUPPORT. Multiplication and division. -/
namespace Sys2Proof.Machine
open Host

theorem withPair_congr {s u : State} (h : u.gpr = s.gpr) (w : Nat) (hi lo : BitVec w) :
    u.withPair w hi lo = { u with gpr := (s.withPair w hi lo).gpr } := by
  unfold State.withPair
  split
  · rw [setR8_congr h]
    exact setR8_congr (t := { u with gpr := (s.setR8 .al (lo.setWidth 8)).gpr }) (s := s.setR8 .al (lo.setWidth 8)) rfl _ _
  · rw [setRw_congr h]
    exact setRw_congr (t := { u with gpr := (s.setRw w .eax lo).gpr }) (s := s.setRw w .eax lo) rfl _ _ _

theorem run_putPair (w : Nat) (hi lo : BitVec w) (s : State) : putPair w hi lo s = .ok () (s.withPair w hi lo) := by
  unfold putPair State.withPair
  split
  · simp [run_putR8]
  · rfl

theorem runs_putPair {s u : State} {e : Word} {m : List Cell} {f : Word} (w : Nat) (hi lo : BitVec w)
    (h : At s e s.gpr m f u) : Runs (putPair w hi lo) u fun _ v => At s e (s.withPair w hi lo).gpr m f v := by
  refine ⟨(), _, run_putPair w hi lo u, ?_⟩
  rw [withPair_congr h.gpr]
  exact h.withGpr _

theorem runs_mulFlags {s u : State} {e : Word} {g : Gprs} {m : List Cell} {f : Word} (c : Bool) (h : At s e g m f u) :
    Runs (mulFlags c) u fun _ v => ∃ x : Word,
      At s e g m (blend arithMask f (setBit (setBit x fCF c) fOF c)) v :=
  runs_bind (runs_draw 32 h) fun x _ hv => runs_mono (runs_putFlagsMasked _ _ hv) fun _ _ hw => ⟨x, hw⟩

theorem runs_getAcc {s u : State} {e : Word} {m : List Cell} {f : Word} (w : Nat) (h : At s e s.gpr m f u) :
    Runs (getAcc w) u fun x v => x = (s.r32 .eax).setWidth w ∧ At s e s.gpr m f v :=
  runs_at (by simp [getAcc, h.r32]) h

/-- The upper half of the words that hold a number modulo its double width. -/
theorem field_ofInt_high (w : Nat) (x : Int) :
    (field (BitVec.ofInt (w + w) x) w w : BitVec w) = BitVec.ofInt w (x / 2 ^ w) := by
  apply BitVec.eq_of_toNat_eq
  have h2 : (2 : Int) ^ w ≠ 0 := by positivity
  zify
  simp only [field, BitVec.extractLsb'_toNat, BitVec.toNat_ofInt, Nat.shiftRight_eq_div_pow]
  have hp : (0 : Int) < 2 ^ w := by positivity
  have hm : 0 ≤ x % (2 ^ (w + w) : Nat) := Int.emod_nonneg _ (by positivity)
  have hm' : 0 ≤ x / 2 ^ w % (2 ^ w : Nat) := Int.emod_nonneg _ (by positivity)
  rw [Int.natCast_emod, Int.natCast_ediv, Int.toNat_of_nonneg hm, Int.toNat_of_nonneg hm']
  push_cast
  rw [Int.pow_add, Int.emod_def x, Int.mul_assoc, Int.sub_mul_ediv_left _ _ h2, Int.sub_mul_emod_self_left]

/-- The lower half. -/
theorem field_ofInt_low (w : Nat) (x : Int) :
    (field (BitVec.ofInt (w + w) x) 0 w : BitVec w) = BitVec.ofInt w x := by
  apply BitVec.eq_of_toNat_eq
  zify
  simp only [field, BitVec.extractLsb'_toNat, BitVec.toNat_ofInt, Nat.shiftRight_zero]
  have hm : 0 ≤ x % (2 ^ (w + w) : Nat) := Int.emod_nonneg _ (by positivity)
  have hm' : 0 ≤ x % (2 ^ w : Nat) := Int.emod_nonneg _ (by positivity)
  rw [Int.natCast_emod, Int.toNat_of_nonneg hm, Int.toNat_of_nonneg hm']
  push_cast
  rw [Int.pow_add, Int.emod_emod_of_dvd _ (Dvd.intro _ rfl)]

/-- A number does not fit in a signed word where the word does not stand for it. -/
theorem toInt_ofInt_ne_iff {w : Nat} (hw : 0 < w) (x : Int) :
    (BitVec.ofInt w x).toInt ≠ x ↔ tooWide true w x = true := by
  obtain ⟨k, rfl⟩ : ∃ k, w = k + 1 := ⟨w - 1, by omega⟩
  rw [BitVec.toInt_ofInt]
  simp only [tooWide, if_true, Nat.add_sub_cancel, Bool.not_eq_true', Bool.and_eq_false_iff, decide_eq_false_iff_not]
  have h2 : ((2 ^ (k + 1) : Nat) : Int) = 2 * 2 ^ k := by push_cast; ring
  have hp : (0 : Int) < 2 ^ k := by positivity
  constructor
  · intro h
    by_contra hc
    push Not at hc
    apply h
    rw [Int.bmod_eq_iff (by positivity), h2]
    refine ⟨by omega, by omega, by simp⟩
  · intro h heq
    have hb1 := Int.le_bmod (x := x) (m := 2 ^ (k + 1)) (by positivity)
    have hb2 := Int.bmod_lt (x := x) (m := 2 ^ (k + 1)) (by positivity)
    rw [heq, h2] at hb1 hb2
    omega

/-- The upper half of an unsigned product is not 0 where the product does not fit. -/
theorem high_ne_zero_iff {w : Nat} (a b : BitVec w) :
    (BitVec.ofInt w (((a.toNat * b.toNat : Nat) : Int) / 2 ^ w) ≠ 0) ↔
      tooWide false w ((a.toNat * b.toNat : Nat) : Int) = true := by
  have hlt : a.toNat * b.toNat / 2 ^ w < 2 ^ w :=
    Nat.div_lt_of_lt_mul (Nat.mul_lt_mul'' a.isLt b.isLt)
  have hc : (((a.toNat * b.toNat : Nat) : Int) / 2 ^ w) = ((a.toNat * b.toNat / 2 ^ w : Nat) : Int) := by push_cast; rfl
  have h0 : (0 : BitVec w).toNat = 0 := by simp
  rw [hc, BitVec.ofInt_natCast, Ne, ← BitVec.toNat_inj, BitVec.toNat_ofNat, Nat.mod_eq_of_lt hlt, h0,
    Nat.div_eq_zero_iff]
  simp only [tooWide, Bool.false_eq_true, if_false, decide_eq_true_eq]
  have h2 : 2 ^ w ≠ 0 := by positivity
  rw [← not_lt]
  exact_mod_cast (by simp [h2] : ¬(2 ^ w = 0 ∨ a.toNat * b.toNat < 2 ^ w) ↔ ¬a.toNat * b.toNat < 2 ^ w)

theorem decide_toInt_ofInt_ne {w : Nat} (hw : 0 < w) (x : Int) :
    decide ((BitVec.ofInt w x).toInt ≠ x) = tooWide true w x := by
  rw [Bool.eq_iff_iff, decide_eq_true_eq]
  exact toInt_ofInt_ne_iff hw x

theorem decide_high_ne_zero {w : Nat} (a b : BitVec w) :
    decide (BitVec.ofInt w (((a.toNat * b.toNat : Nat) : Int) / 2 ^ w) ≠ 0) =
      tooWide false w ((a.toNat * b.toNat : Nat) : Int) := by
  rw [Bool.eq_iff_iff, decide_eq_true_eq]
  exact high_ne_zero_iff a b

/-- MUL or IMUL. -/
def mulOf (signed : Bool) : MulOp := if signed then .imul else .mul

/-- The product is at its place, with CF and OF. -/
theorem runs_mulOp {s u : State} {e : Word} (signed : Bool) {w : Nat} (hw : 0 < w) (b : BitVec w)
    (h : At s e s.gpr s.mem s.eflags u) :
    Runs (mulOp (mulOf signed) w b) u fun _ v => ∃ f : Word,
      let x := product signed ((s.r32 .eax).setWidth w) b
      let c := tooWide signed w x
      At s e (s.withPair w (BitVec.ofInt w (x / 2 ^ w)) (BitVec.ofInt w x)).gpr s.mem
        (blend arithMask s.eflags (setBit (setBit f fCF c) fOF c)) v := by
  cases signed with
  | false =>
    refine runs_bind (runs_getAcc w h) fun a v ⟨ha, hv⟩ => ?_
    subst ha
    refine runs_bind (runs_putPair w _ _ hv) fun _ t ht => runs_mono (runs_mulFlags _ ht) fun _ y ⟨f, hy⟩ => ⟨f, ?_⟩
    rw [← BitVec.ofInt_natCast, field_ofInt_high, field_ofInt_low, decide_high_ne_zero] at hy
    exact hy
  | true =>
    refine runs_bind (runs_getAcc w h) fun a v ⟨ha, hv⟩ => ?_
    subst ha
    refine runs_bind (runs_putPair w _ _ hv) fun _ t ht => runs_mono (runs_mulFlags _ ht) fun _ y ⟨f, hy⟩ => ⟨f, ?_⟩
    rw [field_ofInt_high, field_ofInt_low, decide_toInt_ofInt_ne hw] at hy
    exact hy

theorem bits_pos (o : Bool) : 0 < bits o := by cases o <;> decide

theorem exec_mulEb (signed : Bool) (rm : Rm8) (s : State) :
    exec (if signed then .imulEb rm else .mulEb rm) s = instr false (mulEbBody (mulOf signed) rm) s := by
  cases signed <;> rfl

theorem exec_mulEv (signed : Bool) (rm : Rm) (s : State) :
    exec (if signed then .imulEv rm else .mulEv rm) s = instr false (mulEvBody (mulOf signed) rm) s := by
  cases signed <;> rfl

theorem multipliesPair : MultipliesPair := by
  refine ⟨fun signed rm s hs hl hc => ?bytes, fun signed rm s hs hl hc => ?words⟩
  case bytes =>
    refine completes_of_runs (exec_mulEb signed rm s) hs hl ?_
    refine runs_bind (runs_readRm8 (at_start s) hc) fun b v ⟨hb, hv⟩ => hb ▸ ?_
    refine runs_mono (runs_mulOp signed (by decide) _ hv) ?_
    rintro _ u ⟨f, h⟩
    have hal : s.r8 .al = (s.r32 .eax).setWidth 8 := by
      apply BitVec.eq_of_toNat_eq; simp [State.r8, reg8Parent, field, State.r32]
    exact ⟨_, _, _, h, fun t hg hm hf ht => ⟨f, by rw [hal]; exact hg, memSame_of hm, by rw [hal]; exact hf, ht⟩⟩
  case words =>
    refine completes_of_runs (exec_mulEv signed rm s) hs hl (runs_getW_bind (at_start s) ?_)
    refine runs_bind (runs_readRm (at_start s) (bits_div_pos _) (State.can_bytes hc)) fun b v ⟨hb, hv⟩ => hb ▸ ?_
    refine runs_mono (runs_mulOp signed (bits_pos _) _ hv) ?_
    rintro _ u ⟨f, h⟩
    exact ⟨_, _, _, h, fun t hg hm hf ht => ⟨f, hg, memSame_of hm, hf, ht⟩⟩

/-- A register written at an operand size, after whatever has been done to the registers. -/
theorem runs_setRw {s u : State} {e : Word} {g : Gprs} {m : List Cell} {f : Word} (w : Nat) (r : Reg) (v : BitVec w)
    (h : At s e g m f u) :
    Runs (modify fun s => s.setRw w r v) u fun _ t => At s e (State.setRw { s with gpr := g } w r v).gpr m f t := by
  refine runs_modify ?_
  rw [setRw_congr (s := { s with gpr := g }) h.gpr]
  exact h.withGpr _

theorem runs_imulTo {s u : State} {e : Word} {w : Nat} (hw : 0 < w) (r : Reg) (a b : BitVec w)
    (h : At s e s.gpr s.mem s.eflags u) :
    Runs (imulTo w r a b) u fun _ v => ∃ f : Word,
      let x := product true a b
      let c := tooWide true w x
      At s e (gprAfter s w (.reg r) (BitVec.ofInt w x)) s.mem
        (blend arithMask s.eflags (setBit (setBit f fCF c) fOF c)) v := by
  refine runs_bind (runs_setRw w r _ h) fun _ v hv => runs_mono (runs_mulFlags _ hv) fun _ y ⟨f, hy⟩ => ⟨f, ?_⟩
  rw [decide_toInt_ofInt_ne hw] at hy
  exact hy

/-- The forms of IMUL with two or three operands: the source is read, the other factor given. -/
theorem runs_imulForm {r : Reg} {rm : Rm} {k : Word} {j : Byte} {i : Instr} {s : State} {b : BitVec (bits s.o32)}
    (hi : i = .imulGvEv r rm ∧ b = (s.r32 r).setWidth (bits s.o32) ∨
      i = .imulGvEvIv r rm k ∧ b = k.setWidth (bits s.o32) ∨ i = .imulGvEvIb r rm j ∧ b = j.signExtend (bits s.o32))
    (hc : s.can rm (bytes s.o32) .read = true) :
    ∃ body : M Unit, exec i s = instr false body s ∧ Runs body s.start fun _ v => ∃ f : Word,
      let x := product true (s.val (bits s.o32) rm) b
      let c := tooWide true (bits s.o32) x
      At s s.nextEip (gprAfter s (bits s.o32) (.reg r) (BitVec.ofInt (bits s.o32) x)) s.mem
        (blend arithMask s.eflags (setBit (setBit f fCF c) fOF c)) v := by
  have hread := runs_readRm (at_start s) (bits_div_pos _) (State.can_bytes hc)
  obtain ⟨rfl, rfl⟩ | ⟨rfl, rfl⟩ | ⟨rfl, rfl⟩ := hi
  · refine ⟨imulGvEvBody r rm, rfl, runs_getW_bind (at_start s) (runs_bind hread fun x v ⟨hx, hv⟩ => ?_)⟩
    refine runs_bind (runs_readG hv _ r) fun y u ⟨hy, hu⟩ => ?_
    rw [hx, hy]
    have := runs_imulTo (bits_pos s.o32) r (s.val (bits s.o32) rm) ((s.r32 r).setWidth (bits s.o32)) hu
    simpa only [imulTo, product, if_true, Int.mul_comm ((s.r32 r).setWidth (bits s.o32)).toInt] using this
  · refine ⟨imulImm r rm k, rfl, runs_getW_bind (at_start s) (runs_bind hread fun x v ⟨hx, hv⟩ => ?_)⟩
    exact hx ▸ runs_imulTo (bits_pos s.o32) r _ _ hv
  · refine ⟨imulImm8 r rm j, rfl, runs_getW_bind (at_start s) (runs_bind hread fun x v ⟨hx, hv⟩ => ?_)⟩
    exact hx ▸ runs_imulTo (bits_pos s.o32) r _ _ hv

theorem multipliesTo : MultipliesTo := by
  intro r rm k j i s b hi hs hl hc
  obtain ⟨body, hx, hb⟩ := runs_imulForm hi hc
  refine completes_of_runs hx hs hl (runs_mono hb ?_)
  rintro _ u ⟨f, h⟩
  exact ⟨_, _, _, h, fun t hg hm hf ht => ⟨f, wrote_of hs.1 hg hm, hf, ht⟩⟩

/-- Settles O56. -/
theorem multiply : Obligations.Multiply := ⟨multipliesPair, multipliesTo⟩

theorem runs_freeArith {s u : State} {e : Word} {g : Gprs} {m : List Cell} {f : Word} (h : At s e g m f u) :
    Runs freeArith u fun _ v => ∃ x : Word, At s e g m (blend arithMask f x) v :=
  runs_bind (runs_draw 32 h) fun x _ hv => runs_mono (runs_putFlagsMasked _ _ hv) fun _ _ hw => ⟨x, hw⟩

theorem runs_getPair {s u : State} {e : Word} {m : List Cell} {f : Word} (w : Nat) (h : At s e s.gpr m f u) :
    Runs (getPair w) u fun d v => d = s.dividend w ∧ At s e s.gpr m f v :=
  runs_at (by rw [run_getPair]; simp [State.dividend, h.r32]) h

/-- A division that does not fail leaves quotient and remainder at their places. -/
theorem runs_divOp {s u : State} {e : Word} (signed : Bool) {w : Nat} {b : BitVec w} (hb : b ≠ 0)
    (hq : tooWide signed w (quotient signed (s.dividend w) b).1 = false) (h : At s e s.gpr s.mem s.eflags u) :
    Runs (mulOp (divOp signed) w b) u fun _ v => ∃ f : Word,
      let q := quotient signed (s.dividend w) b
      At s e (s.withPair w (BitVec.ofInt w q.2) (BitVec.ofInt w q.1)).gpr s.mem (blend arithMask s.eflags f) v := by
  cases signed with
  | false =>
    refine runs_bind (runs_getPair w h) fun d v ⟨hd, hv⟩ => ?_
    subst hd
    have hfit := mt (tooWide_unsigned_quotient (s.dividend w) b).2 (by simp [hq])
    simp only [hb, hfit, if_false]
    refine runs_bind (runs_putPair w _ _ hv) fun _ t ht => ?_
    simpa only [quotient, Bool.false_eq_true, if_false, BitVec.ofInt_natCast] using runs_freeArith ht
  | true =>
    refine runs_bind (runs_getPair w h) fun d v ⟨hd, hv⟩ => ?_
    subst hd
    have hfit := mt (tooWide_signed_quotient (s.dividend w) b).2 (by simp [hq])
    simp only [hb, hfit, if_false]
    exact runs_bind (runs_putPair w _ _ hv) fun _ t ht => runs_freeArith ht

/-- Settles O4. -/
theorem divide : Obligations.Divide := by
  refine ⟨fun signed rm s hs hl hc hb hq => ?bytes, fun signed rm s hs hl hc hb hq => ?words⟩
  case bytes =>
    refine completes_of_runs (exec_divideEb signed rm s) hs hl ?_
    refine runs_bind (runs_readRm8 (at_start s) hc) fun b v ⟨hx, hv⟩ => ?_
    subst hx
    refine runs_mono (runs_divOp signed hb hq hv) ?_
    rintro _ u ⟨f, h⟩
    exact ⟨_, _, _, h, fun t hg hm hf ht => ⟨f, hg, memSame_of hm, hf, ht⟩⟩
  case words =>
    refine completes_of_runs (exec_divideEv signed rm s) hs hl (runs_getW_bind (at_start s) ?_)
    refine runs_bind (runs_readRm (at_start s) (bits_div_pos _) (State.can_bytes hc)) fun b v ⟨hx, hv⟩ => ?_
    subst hx
    refine runs_mono (runs_divOp signed hb hq hv) ?_
    rintro _ u ⟨f, h⟩
    exact ⟨_, _, _, h, fun t hg hm hf ht => ⟨f, hg, memSame_of hm, hf, ht⟩⟩

end Sys2Proof.Machine

/-! SUPPORT. A calculus for bodies that change any part of the state: a computation goes from a state that is like `s` to one
that is like an explicit update of `s`. What is left open are the breakpoint hits, what the caches have still to write back,
the draws, and the mark of a locked bus. -/
namespace Sys2Proof.Machine
open Host

/-- The state with other hits, other bytes to be written back, other draws and another lock. -/
def State.noisy (s : State) (k : BitVec 4) (st : List StaleByte) (n : Nat) (b : Bool) : State :=
  { s with tr := { s.tr with hit := k }, stale := st, free := n, ins := { s.ins with lock := b } }

section
variable (s : State) (k : BitVec 4) (st : List StaleByte) (n : Nat) (b : Bool)

@[simp] theorem noisy_gpr : (s.noisy k st n b).gpr = s.gpr := by cases s; rfl
@[simp] theorem noisy_eip : (s.noisy k st n b).eip = s.eip := by cases s; rfl
@[simp] theorem noisy_eflags : (s.noisy k st n b).eflags = s.eflags := by cases s; rfl
@[simp] theorem noisy_cpl : (s.noisy k st n b).cpl = s.cpl := by cases s; rfl
@[simp] theorem noisy_seg : (s.noisy k st n b).seg = s.seg := by cases s; rfl
@[simp] theorem noisy_sys : (s.noisy k st n b).sys = s.sys := by cases s; rfl
@[simp] theorem noisy_dbg : (s.noisy k st n b).dbg = s.dbg := by cases s; rfl
@[simp] theorem noisy_fpu : (s.noisy k st n b).fpu = s.fpu := by cases s; rfl
@[simp] theorem noisy_msr : (s.noisy k st n b).msr = s.msr := by cases s; rfl
@[simp] theorem noisy_apic : (s.noisy k st n b).apic = s.apic := by cases s; rfl
@[simp] theorem noisy_smm : (s.noisy k st n b).smm = s.smm := by cases s; rfl
@[simp] theorem noisy_lat : (s.noisy k st n b).lat = s.lat := by cases s; rfl
@[simp] theorem noisy_tlb : (s.noisy k st n b).tlb = s.tlb := by cases s; rfl
@[simp] theorem noisy_mem : (s.noisy k st n b).mem = s.mem := by cases s; rfl
@[simp] theorem noisy_map : (s.noisy k st n b).map = s.map := by cases s; rfl
@[simp] theorem noisy_events : (s.noisy k st n b).events = s.events := by cases s; rfl
@[simp] theorem noisy_bus : (s.noisy k st n b).bus = s.bus := by cases s; rfl
@[simp] theorem noisy_cached : (s.noisy k st n b).cached = s.cached := by cases s; rfl
@[simp] theorem noisy_others : (s.noisy k st n b).others = s.others := by cases s; rfl
@[simp] theorem noisy_noReturn : (s.noisy k st n b).noReturn = s.noReturn := by cases s; rfl
@[simp] theorem noisy_ins_seg : (s.noisy k st n b).ins.seg = s.ins.seg := by cases s; rfl
@[simp] theorem noisy_ins_op66 : (s.noisy k st n b).ins.op66 = s.ins.op66 := by cases s; rfl
@[simp] theorem noisy_ins_ad67 : (s.noisy k st n b).ins.ad67 = s.ins.ad67 := by cases s; rfl
@[simp] theorem noisy_ins_rep : (s.noisy k st n b).ins.rep = s.ins.rep := by cases s; rfl
@[simp] theorem noisy_ins_len : (s.noisy k st n b).ins.len = s.ins.len := by cases s; rfl
@[simp] theorem noisy_tr_branched : (s.noisy k st n b).tr.branched = s.tr.branched := by cases s; rfl
@[simp] theorem noisy_tr_keepRf : (s.noisy k st n b).tr.keepRf = s.tr.keepRf := by cases s; rfl
@[simp] theorem noisy_tr_noStep : (s.noisy k st n b).tr.noStep = s.tr.noStep := by cases s; rfl
@[simp] theorem noisy_tr_ssLoad : (s.noisy k st n b).tr.ssLoad = s.tr.ssLoad := by cases s; rfl
@[simp] theorem noisy_tr_sti : (s.noisy k st n b).tr.sti = s.tr.sti := by cases s; rfl
@[simp] theorem noisy_tr_repeats : (s.noisy k st n b).tr.repeats = s.tr.repeats := by cases s; rfl
@[simp] theorem noisy_tr_lateHits : (s.noisy k st n b).tr.lateHits = s.tr.lateHits := by cases s; rfl
@[simp] theorem noisy_tr_io : (s.noisy k st n b).tr.io = s.tr.io := by cases s; rfl
@[simp] theorem noisy_o32 : (s.noisy k st n b).o32 = s.o32 := by cases s; rfl
@[simp] theorem noisy_a32 : (s.noisy k st n b).a32 = s.a32 := by cases s; rfl
@[simp] theorem noisy_sizes : (s.noisy k st n b).sizes = s.sizes := by cases s; rfl
@[simp] theorem noisy_prot : (s.noisy k st n b).prot = s.prot := by cases s; rfl
@[simp] theorem noisy_v86 : (s.noisy k st n b).v86 = s.v86 := by cases s; rfl
@[simp] theorem noisy_mode8086 : (s.noisy k st n b).mode8086 = s.mode8086 := by cases s; rfl
@[simp] theorem noisy_iopl : (s.noisy k st n b).iopl = s.iopl := by cases s; rfl
@[simp] theorem noisy_sp : (s.noisy k st n b).sp = s.sp := by cases s; rfl
@[simp] theorem noisy_nextEip : (s.noisy k st n b).nextEip = s.nextEip := by cases s; rfl
@[simp] theorem noisy_plain : (s.noisy k st n b).plain = s.plain := by cases s; rfl
@[simp] theorem noisy_paging : (s.noisy k st n b).paging = s.paging := by cases s; rfl
@[simp] theorem noisy_pae : (s.noisy k st n b).pae = s.pae := by cases s; rfl
@[simp] theorem noisy_pse : (s.noisy k st n b).pse = s.pse := by cases s; rfl
@[simp] theorem noisy_alignOn : (s.noisy k st n b).alignOn = s.alignOn := by cases s; rfl
@[simp] theorem noisy_noLbr : (s.noisy k st n b).noLbr = s.noLbr := by cases s; rfl
@[simp] theorem noisy_protMode : (s.noisy k st n b).protMode = s.protMode := by cases s; rfl
@[simp] theorem noisy_privileged : (s.noisy k st n b).privileged = s.privileged := by cases s; rfl
@[simp] theorem noisy_v86Low : (s.noisy k st n b).v86Low = s.v86Low := by cases s; rfl
@[simp] theorem noisy_v86Image : (s.noisy k st n b).v86Image = s.v86Image := by cases s; rfl
@[simp] theorem noisy_popfMask : (s.noisy k st n b).popfMask = s.popfMask := by cases s; rfl
@[simp] theorem noisy_r32 (r : Reg) : (s.noisy k st n b).r32 r = s.r32 r := by cases s; rfl
@[simp] theorem noisy_r16 (r : Reg) : (s.noisy k st n b).r16 r = s.r16 r := by cases s; rfl
@[simp] theorem noisy_r8 (r : Reg8) : (s.noisy k st n b).r8 r = s.r8 r := by cases s; rfl
@[simp] theorem noisy_flag (i : Nat) : (s.noisy k st n b).flag i = s.flag i := by cases s; rfl
@[simp] theorem noisy_cond (c : Cond) : (s.noisy k st n b).cond c = s.cond c := by cases c <;> rfl
@[simp] theorem noisy_pushOff (i : Nat) : (s.noisy k st n b).pushOff i = s.pushOff i := by cases s; rfl
@[simp] theorem noisy_popOff (i : Nat) : (s.noisy k st n b).popOff i = s.popOff i := by cases s; rfl
@[simp] theorem noisy_canPush (i : Nat) : (s.noisy k st n b).canPush i = s.canPush i := by cases s; rfl
@[simp] theorem noisy_canPop (i j : Nat) : (s.noisy k st n b).canPop i j = s.canPop i j := by cases s; rfl
@[simp] theorem noisy_item (i j : Nat) : (s.noisy k st n b).item i j = s.item i j := by cases s; rfl
@[simp] theorem noisy_lin (r : SegReg) (off : Word) : (s.noisy k st n b).lin r off = s.lin r off := by cases s; rfl
@[simp] theorem noisy_num (a i : Nat) : (s.noisy k st n b).num a i = s.num a i := by cases s; rfl
@[simp] theorem noisy_ea (m : Ea) : (s.noisy k st n b).ea m = s.ea m := by cases s; rfl
@[simp] theorem noisy_val8 (rm : Rm8) : (s.noisy k st n b).val8 rm = s.val8 rm := by cases rm <;> rfl
@[simp] theorem noisy_val (w : Nat) (rm : Rm) : (s.noisy k st n b).val w rm = s.val w rm := by cases rm <;> rfl
@[simp] theorem noisy_reaches (r : SegReg) (off : Word) (i j : Nat) (a : Access) : (s.noisy k st n b).reaches r off i j a = s.reaches r off i j a := by cases s; rfl
@[simp] theorem noisy_segOr (r : SegReg) : (s.noisy k st n b).segOr r = s.segOr r := by cases s; rfl
@[simp] theorem noisy_cutEip (x : Word) : (s.noisy k st n b).cutEip x = s.cutEip x := by cases s; rfl
@[simp] theorem noisy_descAddr (x : Half) : (s.noisy k st n b).descAddr x = s.descAddr x := by cases s; rfl
@[simp] theorem noisy_perfCounter : (s.noisy k st n b).perfCounter = s.perfCounter := by cases s; rfl
@[simp] theorem noisy_dividend (w : Nat) : (s.noisy k st n b).dividend w = s.dividend w := by cases s; rfl
@[simp] theorem noisy_eaOffset (m : Ea) : eaOffset (s.noisy k st n b) m = eaOffset s m := by cases m <;> rfl
@[simp] theorem noisy_eaSeg (m : Ea) : eaSeg (s.noisy k st n b) m = eaSeg s m := by cases s; rfl
@[simp] theorem noisy_can {ρ : Type} (rm : RegMem ρ) (i : Nat) (a : Access) : (s.noisy k st n b).can rm i a = s.can rm i a := by
  cases rm with
  | reg r => rfl
  | mem m => simp [State.can]

end

/-! What a body reads at its start is what the instruction finds. -/
@[simp] theorem start_o32 (s : State) : s.start.o32 = s.o32 := by cases s; rfl
@[simp] theorem start_a32 (s : State) : s.start.a32 = s.a32 := by cases s; rfl
@[simp] theorem start_sizes (s : State) : s.start.sizes = s.sizes := by cases s; rfl
@[simp] theorem start_prot (s : State) : s.start.prot = s.prot := by cases s; rfl
@[simp] theorem start_v86 (s : State) : s.start.v86 = s.v86 := by cases s; rfl
@[simp] theorem start_mode8086 (s : State) : s.start.mode8086 = s.mode8086 := by cases s; rfl
@[simp] theorem start_iopl (s : State) : s.start.iopl = s.iopl := by cases s; rfl
@[simp] theorem start_sp (s : State) : s.start.sp = s.sp := by cases s; rfl
@[simp] theorem start_plain (s : State) : s.start.plain = s.plain := by cases s; rfl
@[simp] theorem start_paging (s : State) : s.start.paging = s.paging := by cases s; rfl
@[simp] theorem start_alignOn (s : State) : s.start.alignOn = s.alignOn := by cases s; rfl
@[simp] theorem start_noLbr (s : State) : s.start.noLbr = s.noLbr := by cases s; rfl
@[simp] theorem start_r32 (s : State) (r : Reg) : s.start.r32 r = s.r32 r := by cases s; rfl
@[simp] theorem start_r16 (s : State) (r : Reg) : s.start.r16 r = s.r16 r := by cases s; rfl
@[simp] theorem start_r8 (s : State) (r : Reg8) : s.start.r8 r = s.r8 r := by cases s; rfl
@[simp] theorem start_flag (s : State) (i : Nat) : s.start.flag i = s.flag i := by cases s; rfl
@[simp] theorem start_cond (s : State) (c : Cond) : s.start.cond c = s.cond c := by cases c <;> rfl
@[simp] theorem start_pushOff (s : State) (i : Nat) : s.start.pushOff i = s.pushOff i := by cases s; rfl
@[simp] theorem start_popOff (s : State) (i : Nat) : s.start.popOff i = s.popOff i := by cases s; rfl
@[simp] theorem start_canPush (s : State) (i : Nat) : s.start.canPush i = s.canPush i := by cases s; rfl
@[simp] theorem start_canPop (s : State) (i j : Nat) : s.start.canPop i j = s.canPop i j := by cases s; rfl
@[simp] theorem start_item (s : State) (i j : Nat) : s.start.item i j = s.item i j := by cases s; rfl
@[simp] theorem start_lin (s : State) (r : SegReg) (off : Word) : s.start.lin r off = s.lin r off := by cases s; rfl
@[simp] theorem start_num (s : State) (a i : Nat) : s.start.num a i = s.num a i := by cases s; rfl
@[simp] theorem start_reaches (s : State) (r : SegReg) (off : Word) (i j : Nat) (a : Access) : s.start.reaches r off i j a = s.reaches r off i j a := by cases s; rfl
@[simp] theorem start_segOr (s : State) (r : SegReg) : s.start.segOr r = s.segOr r := by cases s; rfl
@[simp] theorem start_dividend (s : State) (w : Nat) : s.start.dividend w = s.dividend w := by cases s; rfl
@[simp] theorem start_eaOffset (s : State) (m : Ea) : eaOffset s.start m = eaOffset s m := by cases m <;> rfl
@[simp] theorem start_eaSeg (s : State) (m : Ea) : eaSeg s.start m = eaSeg s m := by cases s; rfl
@[simp] theorem start_ea (s : State) (m : Ea) : s.start.ea m = s.ea m := by simp [State.ea]
@[simp] theorem start_can (s : State) {ρ : Type} (rm : RegMem ρ) (i : Nat) (a : Access) : s.start.can rm i a = s.can rm i a := by
  cases rm with
  | reg r => rfl
  | mem m => simp [State.can]
@[simp] theorem start_val8 (s : State) (rm : Rm8) : s.start.val8 rm = s.val8 rm := by
  cases rm <;> simp [State.val8]
@[simp] theorem start_val (s : State) (w : Nat) (rm : Rm) : s.start.val w rm = s.val w rm := by
  cases rm <;> simp [State.val]

/-- The state is `s` but for hits, bytes to be written back, draws and the lock. -/
def Like (s u : State) : Prop := ∃ k st n b, u = s.noisy k st n b

theorem Like.refl (s : State) : Like s s := ⟨s.tr.hit, s.stale, s.free, s.ins.lock, rfl⟩

theorem Like.trans {s t u : State} (h : Like s t) (h' : Like t u) : Like s u := by
  obtain ⟨k, st, n, b, rfl⟩ := h
  obtain ⟨k', st', n', b', rfl⟩ := h'
  exact ⟨k', st', n', b', rfl⟩

theorem Like.withHit {s u : State} (h : Like s u) (k : BitVec 4) : Like s (u.withHit k) :=
  h.trans ⟨k, u.stale, u.free, u.ins.lock, rfl⟩

theorem Like.drawn {s u : State} (h : Like s u) (n : Nat) : Like s { u with free := n } :=
  h.trans ⟨u.tr.hit, u.stale, n, u.ins.lock, rfl⟩

/-- A state like an update of `s` that leaves all but registers, EIP, memory and flags alone is at them. -/
theorem Like.at {s s' u : State} (h : Like s' u) (hc : Calm s s') : At s s'.eip s'.gpr s'.mem s'.eflags u := by
  obtain ⟨k, st, n, b, rfl⟩ := h
  exact ⟨hc.trans (by constructor <;> rfl), rfl, rfl, rfl, rfl⟩

/-- An update that does not look at what is left open. -/
def Blind (f : State → State) : Prop := ∀ s k st n b, f (s.noisy k st n b) = (f s).noisy k st n b

theorem Blind.like {f : State → State} (hf : Blind f) {s u : State} (h : Like s u) : Like (f s) (f u) := by
  obtain ⟨k, st, n, b, rfl⟩ := h
  exact ⟨k, st, n, b, hf s k st n b⟩

theorem like_modify {f : State → State} {s u : State} (h : Like s u) (hf : Blind f) :
    Runs (modify f : M Unit) u fun _ v => Like (f s) v := runs_modify (hf.like h)

/-- Memory with the bytes of a number written. -/
def State.stored (s : State) (a n v : Nat) : State := { s with mem := memWriteList s.mem a (leBytes n v) }

section
variable (s : State) (a n v : Nat)
@[simp] theorem stored_gpr : (s.stored a n v).gpr = s.gpr := rfl
@[simp] theorem stored_eip : (s.stored a n v).eip = s.eip := rfl
@[simp] theorem stored_eflags : (s.stored a n v).eflags = s.eflags := rfl
@[simp] theorem stored_cpl : (s.stored a n v).cpl = s.cpl := rfl
@[simp] theorem stored_seg : (s.stored a n v).seg = s.seg := rfl
@[simp] theorem stored_sys : (s.stored a n v).sys = s.sys := rfl
@[simp] theorem stored_tr : (s.stored a n v).tr = s.tr := rfl
@[simp] theorem stored_ins : (s.stored a n v).ins = s.ins := rfl
@[simp] theorem stored_lat : (s.stored a n v).lat = s.lat := rfl
@[simp] theorem stored_msr : (s.stored a n v).msr = s.msr := rfl
@[simp] theorem stored_dbg : (s.stored a n v).dbg = s.dbg := rfl
@[simp] theorem stored_mem : (s.stored a n v).mem = memWriteList s.mem a (leBytes n v) := rfl
@[simp] theorem stored_plain : (s.stored a n v).plain = s.plain := rfl
@[simp] theorem stored_reaches (r : SegReg) (off : Word) (i j : Nat) (k : Access) :
    (s.stored a n v).reaches r off i j k = s.reaches r off i j k := rfl
@[simp] theorem stored_lin (r : SegReg) (off : Word) : (s.stored a n v).lin r off = s.lin r off := rfl
end

/-- The flags of `m` written from `f`. -/
def State.flagged (s : State) (m f : Word) : State := { s with eflags := blend m s.eflags f }

section
variable (s : State) (m f : Word)
@[simp] theorem flagged_gpr : (s.flagged m f).gpr = s.gpr := rfl
@[simp] theorem flagged_eip : (s.flagged m f).eip = s.eip := rfl
@[simp] theorem flagged_eflags : (s.flagged m f).eflags = blend m s.eflags f := rfl
@[simp] theorem flagged_cpl : (s.flagged m f).cpl = s.cpl := rfl
@[simp] theorem flagged_seg : (s.flagged m f).seg = s.seg := rfl
@[simp] theorem flagged_sys : (s.flagged m f).sys = s.sys := rfl
@[simp] theorem flagged_tr : (s.flagged m f).tr = s.tr := rfl
@[simp] theorem flagged_mem : (s.flagged m f).mem = s.mem := rfl
end

theorem calm_flagged (s : State) (m f : Word) : Calm s (s.flagged m f) := calm_eflags _ _

theorem calm_stored (s : State) (a n v : Nat) : Calm s (s.stored a n v) := by constructor <;> rfl

theorem like_access {s u : State} (h : Like s u) {r : SegReg} {off : Word} {n align : Nat} {write : Bool}
    (hr : s.reaches r off n align (kindOf write) = true) (hn : 0 < n) :
    Runs (access r off n align write) u fun ps v => ps = spansAt (s.lin r off) n ∧ Like s v := by
  obtain ⟨k, st, c, b, rfl⟩ := h
  obtain ⟨-, j, hj⟩ := access_reaches (s := s.noisy k st c b) hr hn
  exact ⟨_, _, hj, rfl, Like.withHit ⟨k, st, c, b, rfl⟩ j⟩

theorem like_readSpans {s u : State} (h : Like s u) (hp : s.plain = true) (a n : Nat) :
    Runs (readSpans (spansAt a n)) u fun v w => v = s.num a n ∧ Like s w := by
  obtain ⟨k, st, c, b, rfl⟩ := h
  exact ⟨_, _, readSpans_plain (s := s.noisy k st c b) hp a n, rfl, k, st, c, b, rfl⟩

theorem like_writeSpans {s u : State} (h : Like s u) (hp : s.plain = true) (a n v : Nat) :
    Runs (writeSpans (spansAt a n) n v) u fun _ w => Like (s.stored a n v) w := by
  obtain ⟨k, st, c, b, rfl⟩ := h
  obtain ⟨st', c', hw⟩ := writeSpans_plain (s := s.noisy k st c b) hp a n v
  exact ⟨_, _, hw, k, st', c', b, rfl⟩

theorem State.plain_of_reaches {s : State} {r : SegReg} {off : Word} {n align : Nat} {k : Access}
    (h : s.reaches r off n align k = true) : s.plain = true := by
  simp only [State.reaches, Bool.and_eq_true] at h
  exact h.1.1.1.1

theorem like_segRead {s u : State} (h : Like s u) {r : SegReg} {off : Word} {n align : Nat}
    (hr : s.reaches r off n align .read = true) (hn : 0 < n) :
    Runs (segRead r off n align) u fun v w => v = s.num (s.lin r off) n ∧ Like s w :=
  runs_bind (like_access (write := false) h hr hn) fun _ _ ⟨hps, hv⟩ =>
    hps ▸ like_readSpans hv (State.plain_of_reaches hr) _ _

theorem like_segWrite {s u : State} (h : Like s u) {r : SegReg} {off : Word} {n align : Nat} (v : Nat)
    (hr : s.reaches r off n align .write = true) (hn : 0 < n) :
    Runs (segWrite r off n align v) u fun _ w => Like (s.stored (s.lin r off) n v) w :=
  runs_bind (like_access (write := true) h hr hn) fun _ _ ⟨hps, hv⟩ =>
    hps ▸ like_writeSpans hv (State.plain_of_reaches hr) _ _ _

theorem blind_setR32 (r : Reg) (v : Word) : Blind (·.setR32 r v) := fun _ _ _ _ _ => rfl
theorem blind_setR16 (r : Reg) (v : Half) : Blind (·.setR16 r v) := fun _ _ _ _ _ => rfl
theorem blind_setR8 (r : Reg8) (v : Byte) : Blind (·.setR8 r v) := fun _ _ _ _ _ => by cases r <;> rfl
theorem blind_setRw (w : Nat) (r : Reg) (v : BitVec w) : Blind (·.setRw w r v) := fun _ _ _ _ _ => by
  unfold State.setRw; split <;> rfl
theorem blind_setSp (x : Word) : Blind (·.setSp x) := fun s _ _ _ _ => by
  simp only [State.setSp, noisy_seg]
  split <;> rfl
theorem blind_flagged (m f : Word) : Blind (·.flagged m f) := fun _ _ _ _ _ => rfl
theorem blind_setFlag (i : Nat) (v : Bool) : Blind (·.setFlag i v) := fun _ _ _ _ _ => rfl

theorem like_putR8 {s u : State} (h : Like s u) (r : Reg8) (v : Byte) :
    Runs (putR8 r v) u fun _ w => Like (s.setR8 r v) w := like_modify h (blind_setR8 r v)
theorem like_putR16 {s u : State} (h : Like s u) (r : Reg) (v : Half) :
    Runs (putR16 r v) u fun _ w => Like (s.setR16 r v) w := like_modify h (blind_setR16 r v)
theorem like_putR32 {s u : State} (h : Like s u) (r : Reg) (v : Word) :
    Runs (putR32 r v) u fun _ w => Like (s.setR32 r v) w := like_modify h (blind_setR32 r v)
theorem like_putFlag {s u : State} (h : Like s u) (i : Nat) (v : Bool) :
    Runs (putFlag i v) u fun _ w => Like (s.setFlag i v) w := like_modify h (blind_setFlag i v)
theorem like_putFlagsMasked {s u : State} (h : Like s u) (m f : Word) :
    Runs (putFlagsMasked m f) u fun _ w => Like (s.flagged m f) w := like_modify h (blind_flagged m f)
theorem like_putArith {s u : State} (h : Like s u) (a : Arith) :
    Runs (putArith a) u fun _ w => Like (s.flagged arithMask a.word) w :=
  like_putFlagsMasked h _ _
theorem like_writeReg {s u : State} (h : Like s u) (w : Nat) (r : Reg) (v : BitVec w) :
    Runs (writeLoc w (.reg r) v) u fun _ t => Like (s.setRw w r v) t := like_modify h (blind_setRw w r v)
theorem like_writeReg8 {s u : State} (h : Like s u) (r : Reg8) (v : Byte) :
    Runs (writeLoc 8 (.reg8 r) v) u fun _ t => Like (s.setR8 r v) t := by
  simpa only [writeLoc, BitVec.setWidth_eq] using like_putR8 h r v

theorem like_draw {s u : State} (h : Like s u) (w : Nat) : Runs (draw w) u fun _ v => Like s v :=
  ⟨_, _, run_draw w u, h.drawn _⟩
theorem like_drawNat {s u : State} (h : Like s u) : Runs drawNat u fun _ v => Like s v :=
  ⟨_, _, run_drawNat u, h.drawn _⟩
theorem like_drawBool {s u : State} (h : Like s u) : Runs drawBool u fun _ v => Like s v :=
  ⟨_, _, run_drawBool u, h.drawn _⟩

/-- What a computation reads of the state is what it reads of the one it is like. -/
theorem like_get_bind {β : Type} {s u : State} (h : Like s u) {f : State → M β} {r : β → State → Prop}
    (hf : ∀ k st n b, Runs (f (s.noisy k st n b)) (s.noisy k st n b) r) : Runs (get >>= f) u r := by
  obtain ⟨k, st, n, b, rfl⟩ := h
  exact runs_get_bind (hf k st n b)

theorem like_noisy (s : State) (k : BitVec 4) (st : List StaleByte) (n : Nat) (b : Bool) : Like s (s.noisy k st n b) :=
  ⟨k, st, n, b, rfl⟩

theorem like_getW {s u : State} (h : Like s u) {β : Type} {f : Nat → M β} {r : β → State → Prop}
    (hf : Runs (f (bits s.o32)) u r) : Runs (getW >>= f) u r := by
  obtain ⟨k, st, n, b, rfl⟩ := h
  obtain ⟨a, v, hv, hr⟩ := hf
  exact ⟨a, v, by rw [run_bind, run_getW]; exact hv, hr⟩

theorem like_readG {s u : State} (h : Like s u) (w : Nat) (r : Reg) :
    Runs (readG w r) u fun x v => x = (s.r32 r).setWidth w ∧ Like s v := by
  obtain ⟨k, st, n, b, rfl⟩ := h
  exact ⟨_, _, rfl, rfl, k, st, n, b, rfl⟩

theorem like_readG8 {s u : State} (h : Like s u) (r : Reg8) :
    Runs (readG8 r) u fun x v => x = s.r8 r ∧ Like s v := by
  obtain ⟨k, st, n, b, rfl⟩ := h
  exact ⟨_, _, rfl, rfl, k, st, n, b, rfl⟩

theorem like_readReg {s u : State} (h : Like s u) (w : Nat) (r : Reg) :
    Runs (readLoc w (.reg r)) u fun x v => x = (s.r32 r).setWidth w ∧ Like s v := like_readG h w r

theorem like_readReg8 {s u : State} (h : Like s u) (r : Reg8) :
    Runs (readLoc 8 (.reg8 r)) u fun x v => x = s.r8 r ∧ Like s v := by
  obtain ⟨k, st, n, b, rfl⟩ := h
  exact ⟨_, _, rfl, by simp, k, st, n, b, rfl⟩

theorem like_readRm8 {s u : State} (h : Like s u) {rm : Rm8} (hc : s.can rm 1 .read = true) :
    Runs (readRm8 rm) u fun x v => x = s.val8 rm ∧ Like s v := by
  obtain ⟨k, st, n, b, rfl⟩ := h
  obtain ⟨j, hj⟩ := readRm8_can (s := s.noisy k st n b) (rm := rm) (by simpa using hc)
  exact ⟨_, _, hj, by simp, (like_noisy s k st n b).withHit j⟩

theorem like_readRm {s u : State} (h : Like s u) {w : Nat} {rm : Rm} (hw : 0 < w / 8)
    (hc : s.can rm (w / 8) .read = true) : Runs (readRm w rm) u fun x v => x = s.val w rm ∧ Like s v := by
  obtain ⟨k, st, n, b, rfl⟩ := h
  obtain ⟨j, hj⟩ := readRm_can (s := s.noisy k st n b) (rm := rm) hw (by simpa using hc)
  exact ⟨_, _, hj, by simp, (like_noisy s k st n b).withHit j⟩

/-- The state with a byte operand written. -/
def State.wrote8 (s : State) (rm : Rm8) (v : Byte) : State := { s with gpr := gprAfter8 s rm v, mem := memAfter8 s rm v }
/-- The state with an operand of `w` bits written. -/
def State.wrote (s : State) (w : Nat) (rm : Rm) (v : BitVec w) : State :=
  { s with gpr := gprAfter s w rm v, mem := memAfter s w rm v }

theorem calm_wrote8 (s : State) (rm : Rm8) (v : Byte) : Calm s (s.wrote8 rm v) := by constructor <;> rfl
theorem calm_wrote (s : State) (w : Nat) (rm : Rm) (v : BitVec w) : Calm s (s.wrote w rm v) := by constructor <;> rfl

theorem noisy_gprAfter8 (s : State) (k : BitVec 4) (st : List StaleByte) (n : Nat) (b : Bool) (rm : Rm8) (v : Byte) :
    gprAfter8 (s.noisy k st n b) rm v = gprAfter8 s rm v := by
  cases rm with
  | reg r => cases r <;> rfl
  | mem m => rfl
theorem noisy_memAfter8 (s : State) (k : BitVec 4) (st : List StaleByte) (n : Nat) (b : Bool) (rm : Rm8) (v : Byte) :
    memAfter8 (s.noisy k st n b) rm v = memAfter8 s rm v := by cases rm <;> simp [memAfter8]
theorem noisy_gprAfter (s : State) (k : BitVec 4) (st : List StaleByte) (n : Nat) (b : Bool) (w : Nat) (rm : Rm)
    (v : BitVec w) : gprAfter (s.noisy k st n b) w rm v = gprAfter s w rm v := by
  cases rm with
  | reg r =>
    have hr : (s.noisy k st n b).setRw w r v = (s.setRw w r v).noisy k st n b := blind_setRw w r v s k st n b
    exact (congrArg State.gpr hr :)
  | mem m => rfl
theorem noisy_memAfter (s : State) (k : BitVec 4) (st : List StaleByte) (n : Nat) (b : Bool) (w : Nat) (rm : Rm)
    (v : BitVec w) : memAfter (s.noisy k st n b) w rm v = memAfter s w rm v := by cases rm <;> simp [memAfter]

theorem like_writeRm8 {s u : State} (h : Like s u) {rm : Rm8} (v : Byte) (hc : s.can rm 1 .write = true) :
    Runs (writeRm8 rm v) u fun _ w => Like (s.wrote8 rm v) w := by
  obtain ⟨k, st, n, b, rfl⟩ := h
  obtain ⟨j, st', n', hw⟩ := writeRm8_can (s := s.noisy k st n b) (rm := rm) v (by simpa using hc)
  refine ⟨_, _, hw, j, st', n', b, ?_⟩
  rw [noisy_gprAfter8, noisy_memAfter8]
  rfl

theorem like_writeRm {s u : State} (h : Like s u) {w : Nat} {rm : Rm} (v : BitVec w) (hw : 0 < w / 8)
    (hc : s.can rm (w / 8) .write = true) : Runs (writeRm w rm v) u fun _ t => Like (s.wrote w rm v) t := by
  obtain ⟨k, st, n, b, rfl⟩ := h
  obtain ⟨j, st', n', hw⟩ := writeRm_can (s := s.noisy k st n b) (rm := rm) v hw (by simpa using hc)
  refine ⟨_, _, hw, j, st', n', b, ?_⟩
  rw [noisy_gprAfter, noisy_memAfter]
  rfl

theorem like_locMem {s u : State} (h : Like s u) {m : Ea} {n : Nat} {write : Bool} (hn : 0 < n)
    (hc : s.can (.mem m : Rm) n (kindOf write) = true) :
    Runs (locMem m n write) u fun l v => l = .mem (spansAt (s.ea m) n) ∧ Like s v := by
  obtain ⟨k, st, c, b, rfl⟩ := h
  obtain ⟨-, j, hj⟩ := locMem_can (s := s.noisy k st c b) (m := m) (n := n) (write := write)
    (by simpa [State.can] using hc) hn
  exact ⟨_, _, hj, by simp, (like_noisy s k st c b).withHit j⟩

theorem like_readMem {s u : State} (h : Like s u) (hp : s.plain = true) (w a n : Nat) :
    Runs (readLoc w (.mem (spansAt a n))) u fun v t => v = BitVec.ofNat w (s.num a n) ∧ Like s t :=
  runs_bind (like_readSpans h hp a n) fun _ _ ⟨hv, ht⟩ => runs_pure ⟨by rw [hv], ht⟩

theorem like_writeMem {s u : State} (h : Like s u) (hp : s.plain = true) {w a n : Nat} (hn : w / 8 = n) (v : BitVec w) :
    Runs (writeLoc w (.mem (spansAt a n)) v) u fun _ t => Like (s.stored a n v.toNat) t := by
  subst hn
  exact like_writeSpans h hp a _ _

/-- A byte operand written by a body, as its instruction shows it. -/
theorem wrote8_of_start {s t : State} {rm : Rm8} {v : Byte} (hs : Memory.wf s.mem = true)
    (hg : t.gpr = (s.start.wrote8 rm v).gpr) (hm : t.mem = (s.start.wrote8 rm v).mem) : Wrote8 s t rm v := by
  refine wrote8_of hs ?_ ?_
  · cases rm with
    | reg r => rw [hg]; cases r <;> rfl
    | mem m => exact hg
  · cases rm with
    | reg r => exact hm
    | mem m => simpa only [State.wrote8, memAfter8, start_ea, State.start_mem] using hm

/-- An operand written by a body, as its instruction shows it. -/
theorem wrote_of_start {s t : State} {w : Nat} {rm : Rm} {v : BitVec w} (hs : Memory.wf s.mem = true)
    (hg : t.gpr = (s.start.wrote w rm v).gpr) (hm : t.mem = (s.start.wrote w rm v).mem) : Wrote s t w rm v := by
  refine wrote_of hs ?_ ?_
  · cases rm with
    | reg r =>
      rw [hg]
      have hr := setRw_congr (s := s) (t := s.start) rfl w r v
      exact (congrArg State.gpr hr :)
    | mem m => exact hg
  · cases rm with
    | reg r => exact hm
    | mem m => simpa only [State.wrote, memAfter, start_ea, State.start_mem] using hm

/-- What runs with the bus locked. -/
theorem like_locked {α : Type} {x : M α} {s s' u : State} {q : α → Prop} (h : Like s u)
    (hx : ∀ v, Like s v → Runs x v fun a w => q a ∧ Like s' w) :
    Runs (Sys2Proof.Machine.locked x) u fun a v => q a ∧ Like s' v := by
  refine runs_get_bind (runs_bind (q := fun _ v => Like s v)
    (runs_modify (h.trans ⟨u.tr.hit, u.stale, u.free, true, rfl⟩)) fun _ v hv => ?_)
  refine runs_bind (hx v hv) fun a w ⟨ha, hw⟩ => ?_
  exact runs_bind (q := fun _ y => Like s' y)
    (runs_modify (hw.trans ⟨w.tr.hit, w.stale, w.free, u.ins.lock, rfl⟩)) fun _ _ hy => runs_pure ⟨ha, hy⟩

/-- What an instruction leaves of registers, memory and flags is what its body leaves of them. -/
theorem completes_of_like {i : Instr} {lockOk : Bool} {body : M Unit} {s s' : State} {q : State → Prop}
    (hi : exec i s = instr lockOk body s) (hs : s.ready) (hl : s.lockOk lockOk = true)
    (hb : Runs body s.start fun _ u => Like s' u) (hc : Calm s s') (he : s'.eip = s.nextEip)
    (hq : ∀ t : State, t.gpr = s'.gpr → t.mem = s'.mem → t.eflags = setBit s'.eflags fRF false → Falls s t → q t) :
    Completes i s q :=
  completes_of_runs hi hs hl (runs_mono hb fun _ _ h => ⟨_, _, _, he ▸ h.at hc, hq⟩)

/-- The same where the computation leaves a state of its own choice. -/
theorem completes_of_some_like {i : Instr} {lockOk : Bool} {body : M Unit} {s : State} {q : State → Prop}
    (hi : exec i s = instr lockOk body s) (hs : s.ready) (hl : s.lockOk lockOk = true)
    (hb : Runs body s.start fun _ u => ∃ s', Like s' u ∧ Calm s s' ∧ s'.eip = s.nextEip ∧
      ∀ t : State, t.gpr = s'.gpr → t.mem = s'.mem → t.eflags = setBit s'.eflags fRF false → Falls s t → q t) :
    Completes i s q :=
  completes_of_runs hi hs hl (runs_mono hb fun _ _ ⟨_, h, hc, he, hq⟩ => ⟨_, _, _, he ▸ h.at hc, hq⟩)

theorem Calm.flagsAt (s : State) (f : Word) : Calm s { s with eflags := f } := calm_eflags s f

theorem calm_setR8 (s : State) (r : Reg8) (v : Byte) : Calm s (s.setR8 r v) := by rw [setR8_eq]; exact calm_gpr _ _
theorem calm_setR16 (s : State) (r : Reg) (v : Half) : Calm s (s.setR16 r v) := calm_gpr _ _
theorem calm_setR32 (s : State) (r : Reg) (v : Word) : Calm s (s.setR32 r v) := calm_gpr _ _
theorem calm_setRw (s : State) (w : Nat) (r : Reg) (v : BitVec w) : Calm s (s.setRw w r v) := by
  rw [setRw_eq]; exact calm_gpr _ _
theorem calm_setSp (s : State) (x : Word) : Calm s (s.setSp x) := by rw [setSp_eq]; exact calm_gpr _ _
theorem calm_setFlag (s : State) (i : Nat) (b : Bool) : Calm s (s.setFlag i b) := calm_eflags _ _

end Sys2Proof.Machine

/-! SUPPORT. Decimal adjustment. -/
namespace Sys2Proof.Machine
open Host

/-- The step-by-step rule of DAA and DAS as one correction of AL. -/
theorem decimalRule_eq (sub : Bool) (al : Byte) (cf af : Bool) :
    decimalRule sub al cf af =
      let low := 9 < al.toNat % 16 || af
      let high := 0x99 < al.toNat || cf
      let wrap := if sub then decide (al.toNat < 6) else decide (256 ≤ al.toNat + 6)
      let d : Byte := (if low then 6#8 else 0#8) + (if high then 0x60#8 else 0#8)
      (if sub then al - d else al + d, if sub then high || (low && (cf || wrap)) else high, low) := by
  simp only [decimalRule]
  generalize (decide (9 < al.toNat % 16) || af) = low
  generalize (decide (0x99 < al.toNat) || cf) = high
  have h1 : al - 6#8 - 0x60#8 = al - 0x66#8 := by bv_omega
  have h2 : al + 6#8 + 0x60#8 = al + 0x66#8 := by bv_omega
  cases sub <;> cases low <;> cases high <;> simp [h1, h2]

theorem like_decimalAdjust {s u : State} (h : Like s u) (sub : Bool) :
    Runs (decimalAdjust sub) u fun _ v => ∃ of : Bool,
      let p := decimalRule sub (s.r8 .al) (s.flag fCF) (s.flag fAF)
      Like ((s.setR8 .al p.1).flagged arithMask (szp p.1 p.2.1 p.2.2 of).word) v := by
  refine like_get_bind h fun k st n b => ?_
  refine runs_bind (like_drawBool (like_noisy s k st n b)) fun of v hv => ?_
  refine runs_bind (like_putR8 hv .al _) fun _ w hw => runs_mono (like_putArith hw _) fun _ x hx => ⟨of, ?_⟩
  rw [decimalRule_eq]
  simpa only [noisy_r8, noisy_flag] using hx

/-- The register AX holds AL in its low bits. -/
theorem r8_al_mod (s : State) : (s.r8 .al).toNat % 16 = (s.r16 .eax).toNat % 16 := by
  simp only [State.r8, State.r16, reg8Parent, field, BitVec.extractLsb'_toNat, Bool.false_eq_true, if_false]
  omega

theorem like_asciiAdjust {s u : State} (h : Like s u) (sub : Bool) :
    Runs (asciiAdjust sub) u fun _ v => ∃ f : Word,
      let p := asciiRule sub (s.r16 .eax) (s.flag fAF)
      Like ((s.setR16 .eax p.1).flagged arithMask (setBit (setBit f fCF p.2) fAF p.2)) v := by
  refine like_get_bind h fun k st n b => ?_
  refine runs_bind (like_draw (like_noisy s k st n b) 32) fun f v hv => ?_
  refine runs_bind (like_putR16 hv .eax _) fun _ w hw => runs_mono (like_putFlagsMasked hw _ _) fun _ x hx => ⟨f, ?_⟩
  simp only [noisy_r8, noisy_r16, noisy_flag, r8_al_mod] at hx
  exact hx

theorem like_asciiFlags {s u : State} (h : Like s u) (x : Byte) :
    Runs (asciiFlags x) u fun _ v => ∃ cf af of : Bool,
      Like (s.flagged arithMask (szp x cf af of).word) v :=
  runs_bind (like_drawBool h) fun cf _ h1 => runs_bind (like_drawBool h1) fun af _ h2 =>
    runs_bind (like_drawBool h2) fun of _ h3 => runs_mono (like_putArith h3 _) fun _ _ h4 => ⟨cf, af, of, h4⟩

/-- Fields of a register that do not overlap may be written in either order. -/
theorem blend_comm {m m' x y z : Word} (h : m &&& m' = 0) : blend m (blend m' x y) z = blend m' (blend m x z) y := by
  apply BitVec.eq_of_getLsbD_eq
  intro i hi
  have hb : (m &&& m').getLsbD i = false := by rw [h]; simp
  rw [BitVec.getLsbD_and] at hb
  simp only [blend, BitVec.getLsbD_or, BitVec.getLsbD_and, BitVec.getLsbD_not, hi, decide_true, Bool.true_and]
  cases h1 : m.getLsbD i <;> cases h2 : m'.getLsbD i <;> simp_all

theorem setR8_ah_al (s : State) (x y : Byte) : (s.setR8 .ah x).setR8 .al y = (s.setR8 .al y).setR8 .ah x := by
  simp only [State.setR8, reg8Parent, if_true, Bool.false_eq_true, if_false, State.setR32, Gprs.set, Gprs.get]
  rw [blend_comm (by decide)]

theorem exec_decimalAdjust (sub : Bool) (s : State) :
    exec (if sub then .das else .daa) s = instr false (decimalAdjust sub) s := by cases sub <;> rfl

theorem exec_asciiAdjust (sub : Bool) (s : State) :
    exec (if sub then .aas else .aaa) s = instr false (asciiAdjust sub) s := by cases sub <;> rfl

/-- Settles O6. -/
theorem decimal : Obligations.Decimal := by
  refine ⟨fun s hl => ?zero, fun sub s hs hl => ?dec, fun sub s hs hl => ?asc, fun k s hs hl hk => ?aam,
    fun k s hs hl => ?aad⟩
  case zero => exact raises_of_body (body := aam 0) rfl hl (by simp [aam, readG8, raiseDE, raiseNone])
  case dec =>
    refine completes_of_some_like (exec_decimalAdjust sub s) hs hl
      (runs_mono (like_decimalAdjust (Like.refl s.start) sub) ?_)
    rintro _ u ⟨of, h⟩
    exact ⟨_, h, by constructor <;> rfl, rfl, fun t hg hm hf ht => ⟨of, wrote8_of hs.1 hg hm, hf, ht⟩⟩
  case asc =>
    refine completes_of_some_like (exec_asciiAdjust sub s) hs hl
      (runs_mono (like_asciiAdjust (Like.refl s.start) sub) ?_)
    rintro _ u ⟨f, h⟩
    refine ⟨_, h, by constructor <;> rfl, rfl, fun t hg hm hf ht => ⟨f, wrote_of hs.1 ?_ hm, hf, ht⟩⟩
    simp only [start_r16, start_flag] at hg
    simp only [gprAfter, State.setRw, if_neg (show ¬16 = 32 by decide), BitVec.setWidth_eq]
    exact hg
  case aam =>
    refine completes_of_some_like (body := aam k) rfl hs hl ?_
    refine runs_bind (like_readG8 (Like.refl s.start) .al) fun al v ⟨hal, hv⟩ => ?_
    subst hal
    rw [if_neg hk]
    refine runs_bind (like_putR8 hv .ah _) fun _ w hw => runs_bind (like_putR8 hw .al _) fun _ x hx => ?_
    refine runs_mono (like_asciiFlags hx _) ?_
    rintro _ y ⟨cf, af, of, h⟩
    rw [setR8_ah_al] at h
    exact ⟨_, h, by constructor <;> rfl, rfl, fun t hg hm hf ht => ⟨cf, af, of, hg, memSame_of hm, hf, ht⟩⟩
  case aad =>
    refine completes_of_some_like (body := aad k) rfl hs hl ?_
    refine runs_bind (like_readG8 (Like.refl s.start) .al) fun al v ⟨hal, hv⟩ => ?_
    refine runs_bind (like_readG8 hv .ah) fun ah w ⟨hah, hw⟩ => ?_
    subst hal hah
    refine runs_bind (like_putR8 hw .al _) fun _ x hx => runs_bind (like_putR8 hx .ah _) fun _ y hy => ?_
    refine runs_mono (like_asciiFlags hy _) ?_
    rintro _ z ⟨cf, af, of, h⟩
    exact ⟨_, h, by constructor <;> rfl, rfl, fun t hg hm hf ht => ⟨cf, af, of, hg, memSame_of hm, hf, ht⟩⟩

end Sys2Proof.Machine

/-! SUPPORT. Moves and conversions. -/
namespace Sys2Proof.Machine
open Host

theorem eaSeg_moffs (s t : State) (off : Word) : eaSeg t (s.moffs off) = t.segOr .ds := by
  unfold State.moffs; split <;> rfl

theorem eaOffset_moffs (s t : State) (off : Word) : eaOffset t (s.moffs off) = cutAddr s.a32 off := by
  unfold State.moffs cutAddr
  split
  · rfl
  · apply BitVec.eq_of_toNat_eq
    simp only [eaOffset, zx32, BitVec.toNat_setWidth, BitVec.toNat_and]
    have := Nat.and_two_pow_sub_one_eq_mod off.toNat 16
    norm_num at this ⊢
    omega

theorem can_moffs {ρ : Type} {s : State} {off : Word} {n : Nat} {k : Access}
    (h : s.can (.mem (s.moffs off) : RegMem ρ) n k = true) : s.reaches (s.segOr .ds) (cutAddr s.a32 off) n n k = true := by
  simpa only [State.can, eaSeg_moffs, eaOffset_moffs] using h

theorem ea_moffs (s : State) (off : Word) : s.ea (s.moffs off) = s.lin (s.segOr .ds) (cutAddr s.a32 off) := by
  simp only [State.ea, eaSeg_moffs, eaOffset_moffs]

theorem like_readAcc {s u : State} (h : Like s u) (w : Nat) (hw : w ≠ 8) :
    Runs (readLoc w (accLoc w)) u fun x v => x = (s.r32 .eax).setWidth w ∧ Like s v := by
  simpa only [accLoc, hw, if_false] using like_readReg h w .eax

theorem like_writeAcc {s u : State} (h : Like s u) (w : Nat) (hw : w ≠ 8) (v : BitVec w) :
    Runs (writeLoc w (accLoc w) v) u fun _ t => Like (s.setRw w .eax v) t := by
  simpa only [accLoc, hw, if_false] using like_writeReg h w .eax v

/-- The body of a byte form of MOV. -/
def Mov8.body : Mov8 → M Unit
  | .ebGb rm r => movEbGb rm r
  | .gbEb r rm => movGbEb r rm
  | .ebIb rm k => writeRm8 rm k
  | .rIb r k => putR8 r k
  | .alOb off => movAccOff 8 off
  | .obAl off => movOffAcc 8 off

/-- The body of a word or doubleword form of MOV. -/
def MovV.body : MovV → M Unit
  | .evGv rm r => movEvGv rm r
  | .gvEv r rm => movGvEv r rm
  | .evIv rm k => movEvIv rm k
  | .rIv r k => movEvIv (.reg r) k
  | .axOv off => do
    let w ← getW
    movAccOff w off
  | .ovAx off => do
    let w ← getW
    movOffAcc w off

theorem exec_mov8 (f : Mov8) (s : State) : exec f.instr s = Machine.instr false f.body s := by cases f <;> rfl
theorem exec_movV (f : MovV) (s : State) : exec f.instr s = Machine.instr false f.body s := by cases f <;> rfl

theorem bits_ne_8 (o : Bool) : bits o ≠ 8 := by cases o <;> decide

theorem like_movAccOff {s u : State} (h : Like s u) (w : Nat) (hw : 0 < w / 8) (off : Word)
    (hr : s.reaches (s.segOr .ds) (cutAddr s.a32 off) (w / 8) (w / 8) .read = true) {q : Unit → State → Prop}
    (hq : ∀ v, Like s v → Runs (writeLoc w (accLoc w)
      (BitVec.ofNat w (s.num (s.lin (s.segOr .ds) (cutAddr s.a32 off)) (w / 8)))) v q) :
    Runs (movAccOff w off) u q := by
  refine like_get_bind h fun k st n b => ?_
  simp only [noisy_segOr, noisy_a32]
  exact runs_bind (like_segRead (like_noisy s k st n b) hr hw) fun x v ⟨hx, hv⟩ => hx ▸ hq v hv

theorem like_movOffAcc {s u : State} (h : Like s u) (w : Nat) (hw : 0 < w / 8) (off : Word) {x : BitVec w}
    (hr : s.reaches (s.segOr .ds) (cutAddr s.a32 off) (w / 8) (w / 8) .write = true)
    (hx : ∀ v, Like s v → Runs (readLoc w (accLoc w)) v fun y t => y = x ∧ Like s t) :
    Runs (movOffAcc w off) u fun _ v =>
      Like (s.stored (s.lin (s.segOr .ds) (cutAddr s.a32 off)) (w / 8) x.toNat) v := by
  refine like_get_bind h fun k st n b => ?_
  simp only [noisy_segOr, noisy_a32]
  refine runs_bind (hx _ (like_noisy s k st n b)) fun y v ⟨hy, hv⟩ => ?_
  subst hy
  exact like_segWrite hv _ hr hw

theorem wrote_moffs8 (s : State) (off : Word) (v : Byte) :
    s.wrote8 (.mem (s.moffs off)) v = s.stored (s.lin (s.segOr .ds) (cutAddr s.a32 off)) 1 v.toNat := by
  simp only [State.wrote8, gprAfter8, memAfter8, ea_moffs]; rfl

theorem wrote_moffs (s : State) (w : Nat) (off : Word) (v : BitVec w) :
    s.wrote w (.mem (s.moffs off)) v = s.stored (s.lin (s.segOr .ds) (cutAddr s.a32 off)) (w / 8) v.toNat := by
  simp only [State.wrote, gprAfter, memAfter, ea_moffs]; rfl

theorem wrote8_reg (s : State) (r : Reg8) (v : Byte) : s.wrote8 (.reg r) v = s.setR8 r v := (setR8_eq s r v).symm
theorem wrote_reg (s : State) (w : Nat) (r : Reg) (v : BitVec w) : s.wrote w (.reg r) v = s.setRw w r v :=
  (setRw_eq s w r v).symm

/-- Every byte form of MOV writes its source to its destination. -/
theorem like_mov8 {f : Mov8} {s u : State} (h : Like s u) (hr : f.srcOk s = true) (hd : s.can (f.dst s) 1 .write = true) :
    Runs f.body u fun _ v => Like (s.wrote8 (f.dst s) (f.src s)) v := by
  cases f with
  | ebGb rm r => exact runs_bind (like_readG8 h r) fun x v ⟨hx, hv⟩ => hx ▸ like_writeRm8 hv _ hd
  | gbEb r rm =>
    refine runs_bind (like_readRm8 h hr) fun x v ⟨hx, hv⟩ => ?_
    simpa only [Mov8.dst, Mov8.src, wrote8_reg, hx] using like_putR8 hv r _
  | ebIb rm k => exact like_writeRm8 h _ hd
  | rIb r k => simpa only [Mov8.dst, Mov8.src, wrote8_reg, Mov8.body] using like_putR8 h r k
  | alOb off =>
    refine like_movAccOff h 8 (by decide) off (can_moffs (ρ := Reg8) hr) fun v hv => ?_
    simp only [Mov8.dst, Mov8.src, wrote8_reg, State.val8, ea_moffs]
    exact like_writeReg8 hv .al _
  | obAl off =>
    have hw := like_movOffAcc h 8 (by decide) off (can_moffs hd) (fun v hv => like_readReg8 hv .al)
    simpa only [Mov8.dst, Mov8.src, wrote_moffs8, Mov8.body] using hw

/-- Every word or doubleword form of MOV writes its source to its destination. -/
theorem like_movV {f : MovV} {s u : State} (h : Like s u) (hr : f.srcOk s (bytes s.o32) = true)
    (hd : s.can (f.dst s) (bytes s.o32) .write = true) :
    Runs f.body u fun _ v => Like (s.wrote (bits s.o32) (f.dst s) (f.src s (bits s.o32))) v := by
  have hw := bits_div_pos s.o32
  have hd' := State.can_bytes hd
  rw [← bits_div] at hr
  cases f with
  | evGv rm r =>
    exact like_getW h (runs_bind (like_readG h _ r) fun x v ⟨hx, hv⟩ => hx ▸ like_writeRm hv _ hw hd')
  | gvEv r rm =>
    refine like_getW h (runs_bind (like_readRm h hw hr) fun x v ⟨hx, hv⟩ => ?_)
    simpa only [MovV.dst, MovV.src, wrote_reg, hx] using like_writeReg hv _ r _
  | evIv rm k => exact like_getW h (like_writeRm h _ hw hd')
  | rIv r k => exact like_getW h (like_writeRm h _ hw hd')
  | axOv off =>
    refine like_getW h (like_movAccOff h _ hw off (can_moffs (ρ := Reg) hr) fun v hv => ?_)
    simpa only [MovV.dst, MovV.src, wrote_reg, State.val, ea_moffs] using like_writeAcc hv _ (bits_ne_8 _) _
  | ovAx off =>
    refine like_getW h ?_
    have hx := like_movOffAcc h (bits s.o32) hw off (can_moffs hd') (fun v hv => like_readAcc hv _ (bits_ne_8 _))
    simpa only [MovV.dst, MovV.src, wrote_moffs] using hx

/-- An instruction whose body writes one byte operand completes with it. -/
theorem completes_wrote8 {i : Instr} {lockOk : Bool} {body : M Unit} {s : State} {rm : Rm8} {v : Byte}
    (hi : exec i s = instr lockOk body s) (hs : s.ready) (hl : s.lockOk lockOk = true)
    (hb : Runs body s.start fun _ u => Like (s.start.wrote8 rm v) u) :
    Completes i s fun t => Wrote8 s t rm v ∧ FlagsSame s t ∧ Falls s t :=
  completes_of_like hi hs hl hb ((calm_start s).trans (calm_wrote8 _ _ _)) rfl fun _ hg hm hf ht =>
    ⟨wrote8_of_start hs.1 hg hm, hf, ht⟩

/-- An instruction whose body writes one operand completes with it. -/
theorem completes_wrote {i : Instr} {lockOk : Bool} {body : M Unit} {s : State} {w : Nat} {rm : Rm} {v : BitVec w}
    (hi : exec i s = instr lockOk body s) (hs : s.ready) (hl : s.lockOk lockOk = true)
    (hb : Runs body s.start fun _ u => Like (s.start.wrote w rm v) u) :
    Completes i s fun t => Wrote s t w rm v ∧ FlagsSame s t ∧ Falls s t :=
  completes_of_like hi hs hl hb ((calm_start s).trans (calm_wrote _ _ _ _)) rfl fun _ hg hm hf ht =>
    ⟨wrote_of_start hs.1 hg hm, hf, ht⟩

theorem moffs_start (s : State) (off : Word) : s.start.moffs off = s.moffs off := rfl

theorem mov8_start (f : Mov8) (s : State) : f.dst s.start = f.dst s ∧ f.src s.start = f.src s ∧ f.srcOk s.start = f.srcOk s := by
  cases f <;> simp [Mov8.dst, Mov8.src, Mov8.srcOk, moffs_start]

theorem movV_start (f : MovV) (s : State) (w : Nat) :
    f.dst s.start = f.dst s ∧ f.src s.start w = f.src s w ∧ f.srcOk s.start w = f.srcOk s w := by
  cases f <;> simp [MovV.dst, MovV.src, MovV.srcOk, moffs_start]

/-- Settles O7. -/
theorem moves : Obligations.Moves := by
  refine ⟨fun f s hs hl hr hd => ?bytes, fun f s hs hl hr hd => ?words⟩
  case bytes =>
    obtain ⟨hdst, hsrc, hok⟩ := mov8_start f s
    have hb := like_mov8 (Like.refl s.start) (hok.trans hr) (by rw [hdst, start_can]; exact hd)
    rw [hdst, hsrc] at hb
    exact completes_wrote8 (exec_mov8 f s) hs hl hb
  case words =>
    obtain ⟨hdst, -, hok⟩ := movV_start f s (bytes s.o32)
    obtain ⟨-, hsrc, -⟩ := movV_start f s (bits s.o32)
    have hb := like_movV (Like.refl s.start) (hok.trans hr) (by rw [hdst, start_can]; exact hd)
    rw [hdst] at hb
    exact completes_wrote (exec_movV f s) hs hl (hsrc ▸ hb)

theorem exec_movx8 {r : Reg} {rm : Rm8} {i : Instr} {s : State} {v : BitVec (bits s.o32)}
    (h : i = .movzxGvEb r rm ∧ v = (s.val8 rm).setWidth (bits s.o32) ∨
      i = .movsxGvEb r rm ∧ v = (s.val8 rm).signExtend (bits s.o32)) :
    ∃ signed : Bool, exec i s = instr false (movxByte signed r rm) s ∧
      v = if signed then (s.val8 rm).signExtend (bits s.o32) else (s.val8 rm).setWidth (bits s.o32) := by
  obtain ⟨rfl, rfl⟩ | ⟨rfl, rfl⟩ := h
  · exact ⟨false, rfl, rfl⟩
  · exact ⟨true, rfl, rfl⟩

theorem exec_movx16 {r : Reg} {rm : Rm} {i : Instr} {s : State} {v : BitVec (bits s.o32)}
    (h : i = .movzxGvEw r rm ∧ v = (s.val 16 rm).setWidth (bits s.o32) ∨
      i = .movsxGvEw r rm ∧ v = (s.val 16 rm).signExtend (bits s.o32)) :
    ∃ signed : Bool, exec i s = instr false (movxWord signed r rm) s ∧
      v = if signed then (s.val 16 rm).signExtend (bits s.o32) else (s.val 16 rm).setWidth (bits s.o32) := by
  obtain ⟨rfl, rfl⟩ | ⟨rfl, rfl⟩ := h
  · exact ⟨false, rfl, rfl⟩
  · exact ⟨true, rfl, rfl⟩

/-- A body that writes a register at the operand size, last. -/
theorem like_wroteReg {s u : State} (h : Like s u) (r : Reg) (v : BitVec (bits s.o32)) :
    Runs (writeLoc (bits s.o32) (.reg r) v) u fun _ t => Like (s.wrote (bits s.o32) (.reg r) v) t := by
  simpa only [wrote_reg] using like_writeReg h _ r v

/-- The accumulator after CBW or CWDE. -/
theorem wrote_cbw (s : State) (o : Bool) (x : Half) (y : Byte) :
    s.wrote (bits o) (.reg .eax) (if o then x.signExtend (bits o) else y.signExtend (bits o)) =
      if o then s.setR32 .eax (sx32 x) else s.setR16 .eax (y.signExtend 16) := by
  rw [wrote_reg]
  cases o
  · show s.setRw 16 .eax (y.signExtend 16) = s.setR16 .eax (y.signExtend 16)
    rw [State.setRw, if_neg (by decide), BitVec.setWidth_eq]
  · show s.setRw 32 .eax (x.signExtend 32) = s.setR32 .eax (sx32 x)
    rw [State.setRw, if_pos rfl, BitVec.setWidth_eq, sx32]

theorem msb_setWidth_bits (x : Word) (o : Bool) : msb (x.setWidth (bits o)) = bit x (bits o - 1) := by
  cases o <;> simp [msb, bits, bit, BitVec.msb_eq_getLsbD_last]

/-- The four bytes of a register in reverse order. -/
def byteSwap (x : Word) : Word := field x 0 8 ++ field x 8 8 ++ field x 16 8 ++ field x 24 8

theorem bit_byteSwap (x : Word) {k b : Nat} (hk : k < 8) (hb : b < 4) :
    bit (byteSwap x) (8 * b + k) = bit x (8 * (3 - b) + k) := by
  simp only [byteSwap, bit, field, BitVec.getLsbD_append, BitVec.getLsbD_extractLsb']
  interval_cases b
  · simp [hk]
  · simp [hk, show ¬8 + k < 8 by omega]
  · simp [hk, show ¬16 + k < 8 by omega, show ¬16 + k - 8 < 8 by omega, show 16 + k - 8 - 8 = k by omega]
  · simp [hk, show ¬24 + k < 8 by omega, show ¬24 + k - 8 < 8 by omega, show ¬24 + k - 8 - 8 < 8 by omega,
      show 24 + k - 8 - 8 - 8 = k by omega]

theorem wrote_reg32 (s : State) (r : Reg) (v : Word) : s.wrote 32 (.reg r) v = s.setR32 r v := by
  rw [wrote_reg, State.setRw, if_pos rfl, BitVec.setWidth_eq]

/-- What BSWAP leaves in the register. -/
theorem like_bswap {s u : State} (h : Like s u) (r : Reg) :
    Runs (bswapBody r) u fun _ v => ∃ x : Word, (s.o32 = true → x = byteSwap (s.r32 r)) ∧
      Like (s.wrote 32 (.reg r) x) v := by
  refine like_get_bind h fun k st n b => ?_
  simp only [noisy_r32, noisy_o32]
  cases s.o32 with
  | true =>
    exact runs_mono (like_putR32 (like_noisy s k st n b) r _) fun _ v hv =>
      ⟨_, fun _ => rfl, by rw [wrote_reg32]; exact hv⟩
  | false =>
    refine runs_bind (like_draw (like_noisy s k st n b) 32) fun f v hv => ?_
    exact runs_mono (like_putR32 hv r f) fun _ w hw => ⟨f, fun hc => absurd hc (by decide), by rw [wrote_reg32]; exact hw⟩

theorem like_lea {s u : State} (h : Like s u) (r : Reg) (m : Ea) :
    Runs (leaBody r m) u fun _ v => Like (s.wrote (bits s.o32) (.reg r) ((eaOffset s m).setWidth _)) v :=
  like_getW h (like_get_bind h fun k st n b => by
    rw [noisy_eaOffset]; exact like_wroteReg (like_noisy s k st n b) r _)

theorem like_xlat {s u : State} (h : Like s u) :
    let off := cutAddr s.a32 (s.r32 .ebx + zx32 (s.r8 .al))
    s.reaches (s.segOr .ds) off 1 1 .read = true →
    Runs xlatBody u fun _ v =>
      Like (s.wrote8 (.reg .al) (BitVec.ofNat 8 (s.num (s.lin (s.segOr .ds) off) 1))) v := by
  intro off hr
  refine like_get_bind h fun k st n b => ?_
  simp only [noisy_r32, noisy_r8, noisy_a32, noisy_segOr]
  refine runs_bind (like_segRead (like_noisy s k st n b) hr (by decide)) fun x v ⟨hx, hv⟩ => ?_
  rw [wrote8_reg, hx]
  exact like_putR8 hv .al _

theorem like_cbw {s u : State} (h : Like s u) :
    Runs cbwBody u fun _ v => Like (s.wrote (bits s.o32) (.reg .eax)
      (if s.o32 then (s.r16 .eax).signExtend (bits s.o32) else (s.r8 .al).signExtend (bits s.o32))) v := by
  refine like_get_bind h fun k st n b => ?_
  rw [wrote_cbw]
  simp only [noisy_r16, noisy_r8, noisy_o32]
  cases s.o32 with
  | true => exact like_putR32 (like_noisy s k st n b) _ _
  | false => exact like_putR16 (like_noisy s k st n b) _ _

theorem like_cwd {s u : State} (h : Like s u) :
    Runs cwdBody u fun _ v => Like (s.wrote (bits s.o32) (.reg .edx)
      (if bit (s.r32 .eax) (bits s.o32 - 1) then BitVec.allOnes (bits s.o32) else 0)) v :=
  like_getW h (runs_bind (like_readG h _ .eax) fun x v ⟨hx, hv⟩ => by
    rw [hx, msb_setWidth_bits]; exact like_wroteReg hv _ _)

theorem like_movxByte {s u : State} (h : Like s u) (signed : Bool) (r : Reg) {rm : Rm8} (hc : s.can rm 1 .read = true) :
    Runs (movxByte signed r rm) u fun _ v => Like (s.wrote (bits s.o32) (.reg r)
      (if signed then (s.val8 rm).signExtend (bits s.o32) else (s.val8 rm).setWidth (bits s.o32))) v :=
  like_getW h (runs_bind (like_readRm8 h hc) fun x v ⟨hx, hv⟩ => by rw [hx]; exact like_wroteReg hv _ _)

theorem like_movxWord {s u : State} (h : Like s u) (signed : Bool) (r : Reg) {rm : Rm} (hc : s.can rm 2 .read = true) :
    Runs (movxWord signed r rm) u fun _ v => Like (s.wrote (bits s.o32) (.reg r)
      (if signed then (s.val 16 rm).signExtend (bits s.o32) else (s.val 16 rm).setWidth (bits s.o32))) v :=
  like_getW h (runs_bind (like_readRm h (w := 16) (by decide) hc) fun x v ⟨hx, hv⟩ => by
    rw [hx]; exact like_wroteReg hv _ _)

/-- Settles O8. -/
theorem conversions : Obligations.Conversions := by
  refine ⟨?movx8, ?movx16, ?lea, ?xlat, ?cbw, ?cwd, ?bswap⟩
  case movx8 =>
    intro r rm i s v hi hs hl hc
    obtain ⟨signed, hx, rfl⟩ := exec_movx8 hi
    have hb := like_movxByte (Like.refl s.start) signed r (rm := rm) (by simpa using hc)
    rw [start_val8] at hb
    exact completes_wrote hx hs hl hb
  case movx16 =>
    intro r rm i s v hi hs hl hc
    obtain ⟨signed, hx, rfl⟩ := exec_movx16 hi
    have hb := like_movxWord (Like.refl s.start) signed r (rm := rm) (by simpa using hc)
    rw [start_val] at hb
    exact completes_wrote hx hs hl hb
  case lea =>
    intro r m s hs hl
    have hb := like_lea (Like.refl s.start) r m
    rw [start_eaOffset] at hb
    exact completes_wrote rfl hs hl hb
  case xlat =>
    intro s hs hl off hr
    have hb := like_xlat (Like.refl s.start)
    simp only [start_a32, start_r32, start_r8, start_segOr, start_reaches, start_num, start_lin] at hb
    exact completes_wrote8 (i := .xlatXlatb) (body := xlatBody) rfl hs hl (hb hr)
  case cbw => exact fun s hs hl => completes_wrote (i := .cbwCwde) (body := cbwBody) rfl hs hl (like_cbw (Like.refl s.start))
  case cwd => exact fun s hs hl => completes_wrote (i := .cwdCdq) (body := cwdBody) rfl hs hl (like_cwd (Like.refl s.start))
  case bswap =>
    intro r s hs hl
    refine completes_of_some_like (body := bswapBody r) rfl hs hl (runs_mono (like_bswap (Like.refl s.start) r) ?_)
    rintro _ u ⟨x, hx, h⟩
    refine ⟨_, h, (calm_start s).trans (calm_wrote _ _ _ _), rfl, fun t hg hm hf ht =>
      ⟨x, fun ho k hk b hb => ?_, wrote_of_start hs.1 hg hm, hf, ht⟩⟩
    rw [hx ho]
    exact bit_byteSwap _ hk hb

end Sys2Proof.Machine

/-! SUPPORT. Decoding inverts encoding: the parsers of the parts, then the instructions. -/
namespace Sys2Proof
open Host

@[simp] theorem parse_pure {α : Type} (a : α) (bs : List Byte) : (pure a : Parser α) bs = .ok (a, bs) := rfl

@[simp] theorem parse_bind {α β : Type} (p : Parser α) (f : α → Parser β) (bs : List Byte) :
    (p >>= f) bs = (match p bs with
      | .ok (a, rest) => f a rest
      | .error e => .error e) := by
  show (p bs >>= fun x => f x.1 x.2) = _
  cases p bs <;> rfl

theorem parse_ite {α : Type} (c : Prop) [Decidable c] (p q : Parser α) (bs : List Byte) :
    (if c then p else q) bs = if c then p bs else q bs := by
  split <;> rfl

@[simp] theorem byte1_cons (b : Byte) (rest : List Byte) : byte1 (b :: rest) = .ok (b, rest) := rfl

theorem half_of_bytes (h : Half) : h.extractLsb' 8 8 ++ h.extractLsb' 0 8 = h := by
  apply BitVec.eq_of_getLsbD_eq
  intro i hi
  rw [BitVec.getLsbD_append]
  by_cases h8 : i < 8
  · simp [h8]
  · simp [h8]
    grind

theorem dword_of_bytes (w : Word) :
    w.extractLsb' 24 8 ++ w.extractLsb' 16 8 ++ w.extractLsb' 8 8 ++ w.extractLsb' 0 8 = w := by
  apply BitVec.eq_of_getLsbD_eq
  intro i hi
  simp only [BitVec.getLsbD_append, BitVec.getLsbD_extractLsb']
  by_cases h8 : i < 8
  · simp [h8]
  by_cases h16 : i - 8 < 8
  · simp [h8, h16]; grind
  by_cases h24 : i - 8 - 8 < 8
  · simp [h8, h16, h24]; grind
  · simp [h8, h16, h24]; grind

@[simp] theorem half_half16 (h : Half) (rest : List Byte) : half (half16 h ++ rest) = .ok (h, rest) := by
  simp only [half, half16, List.cons_append, List.nil_append, parse_bind, byte1_cons, parse_pure]
  rw [half_of_bytes]

@[simp] theorem dword_dword32 (w : Word) (rest : List Byte) : dword (dword32 w ++ rest) = .ok (w, rest) := by
  simp only [dword, dword32, List.cons_append, List.nil_append, parse_bind, byte1_cons, parse_pure]
  rw [dword_of_bytes]

theorem sized_sizedBytes {wide : Bool} {w : Word} (h : fits wide w = true) (rest : List Byte) :
    sized wide (sizedBytes wide w ++ rest) = .ok (w, rest) := by
  cases wide with
  | true => simp [sized, sizedBytes]
  | false =>
    have hw : w.toNat < 65536 := by simpa [fits] using h
    simp only [sized, sizedBytes, Bool.false_eq_true, if_false, parse_bind, half_half16, parse_pure]
    congr 2
    apply BitVec.eq_of_toNat_eq
    simp [BitVec.toNat_setWidth]
    omega

/-! ### The numbers of the registers -/

@[simp] theorem Reg.ofNum_num (r : Reg) : Reg.ofNum r.num = r := by cases r <;> rfl
@[simp] theorem Reg8.ofNum_num (r : Reg8) : Reg8.ofNum r.num = r := by cases r <;> rfl
@[simp] theorem Base16.ofNum_num (b : Base16) : Base16.ofNum b.num = b := by cases b <;> rfl
theorem Reg.num_lt (r : Reg) : r.num < 8 := by cases r <;> decide
theorem Reg8.num_lt (r : Reg8) : r.num < 8 := by cases r <;> decide
theorem SegReg.num_lt (r : SegReg) : r.num < 8 := by cases r <;> decide
theorem Base16.num_lt (b : Base16) : b.num < 8 := by cases b <;> decide
@[simp] theorem digit_val (d : Fin 8) : digit d.val = d := Fin.ext (Nat.mod_eq_of_lt d.isLt)

/-! ### The modR/M and SIB bytes -/

section
variable {md d r : Nat}

theorem toNat_modrmByte (hm : md < 4) (hd : d < 8) (hr : r < 8) :
    (modrmByte md d r).toNat = md * 64 + d * 8 + r := by
  rw [modrmByte, BitVec.toNat_ofNat]
  omega

theorem modrmByte_mod (hm : md < 4) (hd : d < 8) (hr : r < 8) : (modrmByte md d r).toNat / 64 = md := by
  rw [toNat_modrmByte hm hd hr]
  omega

theorem modrmByte_reg (hm : md < 4) (hd : d < 8) (hr : r < 8) : (modrmByte md d r).toNat / 8 % 8 = d := by
  rw [toNat_modrmByte hm hd hr]
  omega

theorem modrmByte_rm (hm : md < 4) (hd : d < 8) (hr : r < 8) : (modrmByte md d r).toNat % 8 = r := by
  rw [toNat_modrmByte hm hd hr]
  omega

end

/-- The mod field of a memory operand. -/
def Ea.md : Ea → Nat
  | .base16 _ .none | .abs16 _ | .base32 _ .none | .abs32 _ | .sib _ _ _ .none | .sibAbs _ _ _ => 0
  | .base16 _ (.d8 _) | .base32 _ (.d8 _) | .sib _ _ _ (.d8 _) => 1
  | .base16 _ (.d16 _) | .base32 _ (.d32 _) | .sib _ _ _ (.d32 _) => 2

/-- The r/m field of a memory operand. -/
def Ea.rm : Ea → Nat
  | .base16 b _ => b.num
  | .abs16 _ => 6
  | .base32 b _ => b.num
  | .abs32 _ => 5
  | .sib _ _ _ _ | .sibAbs _ _ _ => 4

theorem Ea.md_lt (m : Ea) : m.md < 3 := by
  unfold Ea.md
  split <;> decide

theorem Ea.rm_lt (m : Ea) : m.rm < 8 := by
  cases m <;> simp only [Ea.rm, Nat.reduceLT, Reg.num_lt, Base16.num_lt]

/-- The bytes after the modR/M byte of a memory operand. -/
def Ea.tail : Ea → List Byte
  | .base16 _ .none | .base32 _ .none => []
  | .base16 _ (.d8 x) | .base32 _ (.d8 x) => [x]
  | .base16 _ (.d16 x) | .abs16 x => half16 x
  | .base32 _ (.d32 x) | .abs32 x => dword32 x
  | .sib s i b .none => [modrmByte s.val i.num b.num]
  | .sib s i b (.d8 x) => [modrmByte s.val i.num b.num, x]
  | .sib s i b (.d32 x) => modrmByte s.val i.num b.num :: dword32 x
  | .sibAbs s i x => modrmByte s.val i.num 5 :: dword32 x

theorem encodeEa_eq (d : Nat) (m : Ea) : encodeEa d m = modrmByte m.md d m.rm :: m.tail := by
  rcases m with ⟨_, _ | _ | _⟩ | _ | ⟨_, _ | _ | _⟩ | _ | ⟨_, _, _, _ | _ | _⟩ | _ <;> rfl

/-- The mod field that a displacement asks for. -/
def Disp32.md : Disp32 → Nat
  | .none => 0
  | .d8 _ => 1
  | .d32 _ => 2

/-- The bytes of a displacement. -/
def Disp32.bytes : Disp32 → List Byte
  | .none => []
  | .d8 x => [x]
  | .d32 x => dword32 x

@[simp] theorem parseDisp32_bytes (x : Disp32) (rest : List Byte) :
    parseDisp32 x.md (x.bytes ++ rest) = .ok (x, rest) := by
  cases x <;> simp [parseDisp32, Disp32.md, Disp32.bytes]

theorem Disp32.md_eq_zero {x : Disp32} : x.md = 0 ↔ x = .none := by cases x <;> simp [Disp32.md]

theorem Ea.base32_md (b : Reg) (x : Disp32) : (Ea.base32 b x).md = x.md := by cases x <;> rfl
theorem Ea.base32_tail (b : Reg) (x : Disp32) : (Ea.base32 b x).tail = x.bytes := by cases x <;> rfl
theorem Ea.sib_md (s : Fin 4) (i b : Reg) (x : Disp32) : (Ea.sib s i b x).md = x.md := by cases x <;> rfl
theorem Ea.sib_tail (s : Fin 4) (i b : Reg) (x : Disp32) :
    (Ea.sib s i b x).tail = modrmByte s.val i.num b.num :: x.bytes := by cases x <;> rfl

theorem Reg.num_eq_four {r : Reg} : r.num = 4 ↔ r = .esp := by cases r <;> decide
theorem Reg.num_eq_five {r : Reg} : r.num = 5 ↔ r = .ebp := by cases r <;> decide
theorem Base16.num_eq_six {b : Base16} : b.num = 6 ↔ b = .bp := by cases b <;> decide

theorem parseEa16_tail {m : Ea} (h : m.wf false = true) (rest : List Byte) :
    parseEa16 m.md m.rm (m.tail ++ rest) = .ok (m, rest) := by
  rcases m with ⟨b, _ | x | x⟩ | x | _ | _ | _ | _
  case base16.none =>
    have hb : b ≠ .bp := by simpa [Ea.wf] using h
    simp [parseEa16, Ea.md, Ea.rm, Ea.tail, Base16.num_eq_six, hb]
  case base16.d8 => simp [parseEa16, Ea.md, Ea.rm, Ea.tail]
  case base16.d16 => simp [parseEa16, Ea.md, Ea.rm, Ea.tail]
  case abs16 => simp [parseEa16, Ea.md, Ea.rm, Ea.tail]
  all_goals simp [Ea.wf] at h

/-- The SIB byte with its displacement. -/
theorem parseEa32_sib {md : Nat} {s : Fin 4} {i : Reg} {r : Nat} (hr : r < 8) (rest : List Byte) :
    parseEa32 md 4 (modrmByte s.val i.num r :: rest) =
      (if md = 0 ∧ r = 5 then dword >>= fun d => pure (.sibAbs s i d)
       else parseDisp32 md >>= fun d => pure (.sib s i (Reg.ofNum r) d)) rest := by
  have hs : Fin.ofNat 4 s.val = s := Fin.ext (Nat.mod_eq_of_lt s.isLt)
  simp only [parseEa32, if_true, parse_bind, byte1_cons, modrmByte_mod s.isLt i.num_lt hr,
    modrmByte_reg s.isLt i.num_lt hr, modrmByte_rm s.isLt i.num_lt hr, Reg.ofNum_num, hs]

theorem parseEa32_tail {m : Ea} (h : m.wf true = true) (rest : List Byte) :
    parseEa32 m.md m.rm (m.tail ++ rest) = .ok (m, rest) := by
  cases m with
  | base16 | abs16 => simp [Ea.wf] at h
  | base32 b x =>
    obtain ⟨hsp, hbp⟩ : b ≠ .esp ∧ (¬b = .ebp ∨ ¬x = .none) := by simpa [Ea.wf] using h
    have hdisp : ¬(x.md = 0 ∧ b = .ebp) := fun ⟨h0, hb⟩ => hbp.elim (· hb) (· (Disp32.md_eq_zero.mp h0))
    rw [Ea.base32_md, Ea.base32_tail]
    rw [← Reg.num_eq_five] at hdisp
    rw [Ea.rm, parseEa32, if_neg (mt Reg.num_eq_four.mp hsp), if_neg hdisp]
    simp only [parse_bind, parseDisp32_bytes, parse_pure, Reg.ofNum_num]
  | abs32 x => simp [parseEa32, Ea.md, Ea.rm, Ea.tail]
  | sib s i b x =>
    have hbp : ¬b = .ebp ∨ ¬x = .none := by simpa [Ea.wf] using h
    have hdisp : ¬(x.md = 0 ∧ b = .ebp) := fun ⟨h0, hb⟩ => hbp.elim (· hb) (· (Disp32.md_eq_zero.mp h0))
    rw [Ea.sib_md, Ea.sib_tail, Ea.rm, List.cons_append, parseEa32_sib b.num_lt]
    rw [← Reg.num_eq_five] at hdisp
    simp only [parse_ite, if_neg hdisp, parse_bind, parseDisp32_bytes, parse_pure, Reg.ofNum_num]
  | sibAbs s i x =>
    rw [Ea.tail, List.cons_append, Ea.rm, parseEa32_sib (by decide)]
    simp [Ea.md]

theorem parseEa_tail {a32 : Bool} {m : Ea} (h : m.wf a32 = true) (rest : List Byte) :
    parseEa a32 m.md m.rm (m.tail ++ rest) = .ok (m, rest) := by
  cases a32 with
  | false => exact parseEa16_tail h rest
  | true => exact parseEa32_tail h rest

/-- An E operand with its reg field comes back. -/
theorem parseE_encodeE {ρ : Type} {a32 : Bool} {reg : Nat → ρ} {num : ρ → Nat} (hreg : ∀ r, reg (num r) = r)
    (hnum : ∀ r, num r < 8) {d : Nat} (hd : d < 8) {rm : RegMem ρ} (h : rm.wf a32 = true) (rest : List Byte) :
    parseE a32 reg (encodeE d num rm ++ rest) = .ok ((d, rm), rest) := by
  cases rm with
  | reg r =>
    simp only [parseE, encodeE, List.cons_append, List.nil_append, parse_bind, byte1_cons,
      modrmByte_mod (by decide : 3 < 4) hd (hnum r), modrmByte_reg (by decide : 3 < 4) hd (hnum r),
      modrmByte_rm (by decide : 3 < 4) hd (hnum r), if_true, parse_pure, hreg]
  | mem m =>
    have hm : m.md < 4 := m.md_lt.trans (by decide)
    simp only [parseE, encodeE, encodeEa_eq, List.cons_append, parse_bind, byte1_cons, modrmByte_mod hm hd m.rm_lt,
      modrmByte_reg hm hd m.rm_lt, modrmByte_rm hm hd m.rm_lt, m.md_lt.ne, if_false, parseEa_tail h, parse_pure]

@[simp] theorem parseE_rm {a32 : Bool} {d : Nat} (hd : d < 8) {rm : Rm} (h : rm.wf a32 = true) (rest : List Byte) :
    parseE a32 Reg.ofNum (encodeE d Reg.num rm ++ rest) = .ok ((d, rm), rest) :=
  parseE_encodeE Reg.ofNum_num Reg.num_lt hd h rest

@[simp] theorem parseE_rm8 {a32 : Bool} {d : Nat} (hd : d < 8) {rm : Rm8} (h : rm.wf a32 = true) (rest : List Byte) :
    parseE a32 Reg8.ofNum (encodeE d Reg8.num rm ++ rest) = .ok ((d, rm), rest) :=
  parseE_encodeE Reg8.ofNum_num Reg8.num_lt hd h rest

/-- A memory operand read as an E operand. -/
@[simp] theorem parseE_encodeEa {a32 : Bool} {d : Nat} (hd : d < 8) {m : Ea} (h : m.wf a32 = true) (rest : List Byte) :
    parseE a32 Reg.ofNum (encodeEa d m ++ rest) = .ok ((d, .mem m), rest) :=
  parseE_rm (rm := .mem m) hd h rest

@[simp] theorem parseM_encodeEa {a32 : Bool} {d : Nat} (hd : d < 8) {m : Ea} (h : m.wf a32 = true) (rest : List Byte) :
    parseM a32 (encodeEa d m ++ rest) = .ok ((d, m), rest) := by
  simp only [parseM, parse_bind, parseE_encodeEa hd h, memOnly, parse_pure]

@[simp] theorem parse_map {α β : Type} (f : α → β) (p : Parser α) (bs : List Byte) :
    (f <$> p) bs = (match p bs with
      | .ok (a, rest) => .ok (f a, rest)
      | .error e => .error e) := by
  show (p bs >>= fun x => pure (f x.1, x.2)) = _
  cases p bs <;> rfl

@[simp] theorem parseRd_modrmByte {d : Fin 8} {r : Reg} (rest : List Byte) :
    parseRd (modrmByte 3 d.val r.num :: rest) = .ok ((d.val, r), rest) := by
  simp only [parseRd, parse_bind, byte1_cons, modrmByte_reg (by decide : 3 < 4) d.isLt r.num_lt,
    modrmByte_rm (by decide : 3 < 4) d.isLt r.num_lt, Reg.ofNum_num, parse_pure]

@[simp] theorem parseSegAny_num (sr : SegReg) (rest : List Byte) : parseSegAny sr.num rest = .ok (sr, rest) := by
  cases sr <;> rfl

theorem parseSegLoad_num {sr : SegReg} (h : sr ≠ .cs) (rest : List Byte) :
    parseSegLoad sr.num rest = .ok (sr, rest) := by
  cases sr <;> first | rfl | exact absurd rfl h

end Sys2Proof

namespace Sys2Proof
open Host

/-- The parser that the first byte of an instruction leads to. -/
noncomputable def oneByte (z : Sizes) (b : Byte) : Parser Instr :=
  match b.toNat / 16 with
  | 0 => oneByte0 z (b.toNat % 16)
  | 1 => oneByte1 z (b.toNat % 16)
  | 2 => oneByte2 z (b.toNat % 16)
  | 3 => oneByte3 z (b.toNat % 16)
  | 4 => oneByte4 z (b.toNat % 16)
  | 5 => oneByte5 z (b.toNat % 16)
  | 6 => oneByte6 z (b.toNat % 16)
  | 7 => oneByte7 z (b.toNat % 16)
  | 8 => oneByte8 z (b.toNat % 16)
  | 9 => oneByte9 z (b.toNat % 16)
  | 10 => oneByteA z (b.toNat % 16)
  | 11 => oneByteB z (b.toNat % 16)
  | 12 => oneByteC z (b.toNat % 16)
  | 13 => oneByteD z (b.toNat % 16)
  | 14 => oneByteE z (b.toNat % 16)
  | _ => oneByteF z (b.toNat % 16)

theorem decode_cons (z : Sizes) (b : Byte) (bs : List Byte) : decode z (b :: bs) = oneByte z b bs := rfl

theorem decode_of_oneByte {z : Sizes} {i : Instr} {b : Byte} {bs rest : List Byte} (hb : encode z i = b :: bs)
    (h : oneByte z b (bs ++ rest) = .ok (i, rest)) : decode z (encode z i ++ rest) = .ok (i, rest) := by
  rw [hb]
  exact h

/-- The bytes of an instruction of the two-byte map. -/
theorem decode_of_twoByte {z : Sizes} {i : Instr} {b : Byte} {bs rest : List Byte} (hb : encode z i = 0x0F#8 :: b :: bs)
    (h : twoByte z b.toNat (bs ++ rest) = .ok (i, rest)) : decode z (encode z i ++ rest) = .ok (i, rest) := by
  rw [hb]
  exact h

/-- The bytes of an escape opcode. -/
theorem decode_of_escape {z : Sizes} {i : Instr} {b : Byte} {bs rest : List Byte} (hb : encode z i = b :: bs)
    (hrow : oneByte z b = escape z (b.toNat % 16 - 8)) (h : escape z (b.toNat % 16 - 8) (bs ++ rest) = .ok (i, rest)) :
    decode z (encode z i ++ rest) = .ok (i, rest) :=
  decode_of_oneByte hb (hrow ▸ h)

/-! ### A parser that starts with an operand, on the bytes of the operand -/

section
variable {a32 : Bool} {d : Nat} {more bs : List Byte} {r : Except DecodeErr (Instr × List Byte)}

theorem parse_rm {rm : Rm} {f : Nat × Rm → Parser Instr} (h : rm.wf a32 = true) (hf : f (d, rm) bs = r)
    (hd : d < 8 := by decide) : (parseE a32 Reg.ofNum >>= f) (encodeE d Reg.num rm ++ bs) = r := by
  rw [parse_bind, parseE_rm hd h]
  exact hf

theorem parse_rm8 {rm : Rm8} {f : Nat × Rm8 → Parser Instr} (h : rm.wf a32 = true) (hf : f (d, rm) bs = r)
    (hd : d < 8 := by decide) : (parseE a32 Reg8.ofNum >>= f) (encodeE d Reg8.num rm ++ bs) = r := by
  rw [parse_bind, parseE_rm8 hd h]
  exact hf

theorem parse_rm_then {rm : Rm} {f : Nat × Rm → Parser Instr} (h : rm.wf a32 = true) (hf : f (d, rm) (more ++ bs) = r)
    (hd : d < 8 := by decide) : (parseE a32 Reg.ofNum >>= f) (encodeE d Reg.num rm ++ more ++ bs) = r := by
  rw [List.append_assoc]
  exact parse_rm h hf hd

theorem parse_rm8_then {rm : Rm8} {f : Nat × Rm8 → Parser Instr} (h : rm.wf a32 = true)
    (hf : f (d, rm) (more ++ bs) = r) (hd : d < 8 := by decide) :
    (parseE a32 Reg8.ofNum >>= f) (encodeE d Reg8.num rm ++ more ++ bs) = r := by
  rw [List.append_assoc]
  exact parse_rm8 h hf hd

theorem parse_ea {m : Ea} {f : Nat × Rm → Parser Instr} (h : m.wf a32 = true) (hf : f (d, .mem m) bs = r)
    (hd : d < 8 := by decide) : (parseE a32 Reg.ofNum >>= f) (encodeEa d m ++ bs) = r :=
  parse_rm (rm := .mem m) h hf hd

theorem parse_mem {m : Ea} {f : Nat × Ea → Parser Instr} (h : m.wf a32 = true) (hf : f (d, m) bs = r)
    (hd : d < 8 := by decide) : (parseM a32 >>= f) (encodeEa d m ++ bs) = r := by
  rw [parse_bind, parseM_encodeEa hd h]
  exact hf

theorem parse_sized {wide : Bool} {w : Word} {f : Word → Parser Instr} (h : fits wide w = true) (hf : f w bs = r) :
    (sized wide >>= f) (sizedBytes wide w ++ bs) = r := by
  rw [parse_bind, sized_sizedBytes h]
  exact hf

theorem parse_sized_then {wide : Bool} {w : Word} {f : Word → Parser Instr} (h : fits wide w = true)
    (hf : f w (more ++ bs) = r) : (sized wide >>= f) (sizedBytes wide w ++ more ++ bs) = r := by
  rw [List.append_assoc]
  exact parse_sized h hf

theorem parse_half {v : Half} {f : Half → Parser Instr} (hf : f v bs = r) : (half >>= f) (half16 v ++ bs) = r := by
  rw [parse_bind, half_half16]
  exact hf

theorem parse_rd {k : Fin 8} {q : Reg} {f : Nat × Reg → Parser Instr} (hf : f (k.val, q) bs = r) :
    (parseRd >>= f) (modrmByte 3 k.val q.num :: bs) = r := by
  rw [parse_bind, parseRd_modrmByte]
  exact hf

end

theorem and_of_wf {a b : Bool} (h : (a && b) = true) : a = true ∧ b = true := Bool.and_eq_true _ _ ▸ h

/-! ### The escape opcodes -/

/-- What the memory form of an escape opcode leads to. -/
noncomputable def escMem (e d : Nat) (m : Ea) : Parser Instr :=
  match e with
  | 0 => escMemD8 d m
  | 1 => escMemD9 d m
  | 2 => escMemDA d m
  | 3 => escMemDB d m
  | 4 => escMemDC d m
  | 5 => escMemDD d m
  | 6 => escMemDE d m
  | _ => escMemDF d m

/-- What the register form of an escape opcode leads to. -/
noncomputable def escReg (e d : Nat) (i : Fin 8) : Parser Instr :=
  match e with
  | 0 => escRegD8 d i
  | 1 => escRegD9 d i
  | 2 => escRegDA d i
  | 3 => escRegDB d i
  | 4 => escRegDC d i
  | 5 => escRegDD d i
  | 6 => escRegDE d i
  | _ => escRegDF d i

theorem escape_cons (z : Sizes) (e : Nat) (b : Byte) (bs : List Byte) :
    escape z e (b :: bs) = (if b.toNat / 64 = 3 then escReg e (b.toNat / 8 % 8) (digit (b.toNat % 8))
      else parseEa z.a32 (b.toNat / 64) (b.toNat % 8) >>= fun m => escMem e (b.toNat / 8 % 8) m) bs := rfl

theorem escape_mem {z : Sizes} {e d : Nat} {m : Ea} {bs : List Byte} {r : Except DecodeErr (Instr × List Byte)}
    (h : m.wf z.a32 = true) (hf : escMem e d m bs = r) (hd : d < 8 := by decide) :
    escape z e (encodeEa d m ++ bs) = r := by
  have hm : m.md < 4 := m.md_lt.trans (by decide)
  rw [encodeEa_eq, List.cons_append, escape_cons, modrmByte_mod hm hd m.rm_lt, modrmByte_reg hm hd m.rm_lt,
    modrmByte_rm hm hd m.rm_lt, if_neg m.md_lt.ne, parse_bind, parseEa_tail h]
  exact hf

theorem escape_reg {z : Sizes} {e k : Nat} (i : Fin 8) {bs : List Byte} {r : Except DecodeErr (Instr × List Byte)}
    (hf : escReg e ((k - 192) / 8) i bs = r) (hk : 192 ≤ k ∧ k < 256 ∧ k % 8 = 0 := by decide) :
    escape z e (BitVec.ofNat 8 (k + i.val) :: bs) = r := by
  obtain ⟨hlo, hhi, h8⟩ := hk
  have hi := i.isLt
  have hb : (BitVec.ofNat 8 (k + i.val)).toNat = k + i.val := by
    rw [BitVec.toNat_ofNat]
    omega
  have hmod : (k + i.val) / 64 = 3 := by omega
  have hreg : (k + i.val) / 8 % 8 = (k - 192) / 8 := by omega
  have hrm : (k + i.val) % 8 = i.val := by omega
  rw [escape_cons, hb, hmod, hreg, hrm, if_pos rfl, digit_val]
  exact hf

/-! ### Every instruction -/

/-- Instructions of one form share the argument: the operands come back, and the opcode map has the constructor. -/
theorem decode_encode {z : Sizes} {i : Instr} (rest : List Byte) (h : i.wf z = true) :
    decode z (encode z i ++ rest) = .ok (i, rest) := by
  cases i with
  | addEbGb rm r | orEbGb rm r | adcEbGb rm r | sbbEbGb rm r | andEbGb rm r | subEbGb rm r | xorEbGb rm r
  | cmpEbGb rm r | testEbGb rm r | xchgEbGb rm r | movEbGb rm r =>
    exact decode_of_oneByte rfl (parse_rm8 h (by cases r <;> rfl) r.num_lt)
  | addEvGv rm r | orEvGv rm r | adcEvGv rm r | sbbEvGv rm r | andEvGv rm r | subEvGv rm r | xorEvGv rm r
  | cmpEvGv rm r | arplEwGw rm r | testEvGv rm r | xchgEvGv rm r | movEvGv rm r | movEwSw rm r =>
    exact decode_of_oneByte rfl (parse_rm h (by cases r <;> rfl) r.num_lt)
  | addGbEb r rm | orGbEb r rm | adcGbEb r rm | sbbGbEb r rm | andGbEb r rm | subGbEb r rm | xorGbEb r rm
  | cmpGbEb r rm | movGbEb r rm =>
    exact decode_of_oneByte rfl (parse_rm8 h (by cases r <;> rfl) r.num_lt)
  | addGvEv r rm | orGvEv r rm | adcGvEv r rm | sbbGvEv r rm | andGvEv r rm | subGvEv r rm | xorGvEv r rm
  | cmpGvEv r rm | movGvEv r rm =>
    exact decode_of_oneByte rfl (parse_rm h (by cases r <;> rfl) r.num_lt)
  | addALIb _ | orALIb _ | adcALIb _ | sbbALIb _ | andALIb _ | subALIb _ | xorALIb _ | cmpALIb _ | pushIb _
  | testALIb _ | intIb _ | aamIb _ | aadIb _ | loopneLoopnzJb _ | loopeLoopzJb _ | loopJb _ | jcxzJecxzJb _
  | inALIb _ | ineAXIb _ | outIbAL _ | outIbeAX _ | jmpJb _ =>
    rfl
  | addeAXIv imm | oreAXIv imm | adceAXIv imm | sbbeAXIv imm | andeAXIv imm | subeAXIv imm | xoreAXIv imm
  | cmpeAXIv imm | pushIv imm | testeAXIv imm | callJv imm | jmpJv imm =>
    exact decode_of_oneByte rfl (parse_sized h rfl)
  | addEbIb rm _ | orEbIb rm _ | adcEbIb rm _ | sbbEbIb rm _ | andEbIb rm _ | subEbIb rm _ | xorEbIb rm _
  | cmpEbIb rm _ | rolEbIb rm _ | rorEbIb rm _ | rclEbIb rm _ | rcrEbIb rm _ | shlSalEbIb rm _ | shrEbIb rm _
  | sarEbIb rm _ | movEbIb rm _ | testEbIb rm _ =>
    exact decode_of_oneByte rfl (parse_rm8_then h rfl)
  | addEvIv rm imm | orEvIv rm imm | adcEvIv rm imm | sbbEvIv rm imm | andEvIv rm imm | subEvIv rm imm
  | xorEvIv rm imm | cmpEvIv rm imm | movEvIv rm imm | testEvIv rm imm =>
    obtain ⟨hrm, himm⟩ := and_of_wf h
    exact decode_of_oneByte rfl (parse_rm_then hrm (parse_sized himm rfl))
  | addEvIb rm _ | orEvIb rm _ | adcEvIb rm _ | sbbEvIb rm _ | andEvIb rm _ | subEvIb rm _ | xorEvIb rm _
  | cmpEvIb rm _ | rolEvIb rm _ | rorEvIb rm _ | rclEvIb rm _ | rcrEvIb rm _ | shlSalEvIb rm _ | shrEvIb rm _
  | sarEvIb rm _ =>
    exact decode_of_oneByte rfl (parse_rm_then h rfl)
  | pushEs | popEs | pushCs | pushSs | popSs | pushDs | popDs | daa | das | aaa | aas | pushaPushad | popaPopad
  | insbYbDX | inswInsdYvDX | outsbDXXb | outswOutsdDXXv | nop | cbwCwde | cwdCdq | waitFwait | pushfPushfd
  | popfPopfd | sahf | lahf | movsbYbXb | movswMovsdYvXv | cmpsbXbYb | cmpswCmpsdXvYv | stosbYbAL
  | stoswStosdYveAX | lodsbALXb | lodswLodsdeAXXv | scasbALYb | scaswScasdeAXYv | retNear | leave | retFar
  | int3 | into | iretIretd | reservedD6 | xlatXlatb | inALDX | ineAXDX | outDXAL | outDXeAX | reservedF1 | hlt
  | cmc | clc | stc | cli | sti | cld | std | prefixSegEs | prefixSegCs | prefixSegSs | prefixSegDs
  | prefixSegFs | prefixSegGs | prefixOperandSize | prefixAddressSize | prefixLock | prefixRepneRepnz
  | prefixRepRepeRepz =>
    rfl
  | pushFs | popFs | pushGs | popGs | clts | invd | wbinvd | ud2 | wrmsr | rdtsc | rdmsr | rdpmc | cpuid
  | reserved0FA6 | reserved0FA7 | rsm =>
    rfl
  | incRv r | decRv r | pushRv r | popRv r =>
    cases r <;> rfl
  | boundGvMa r _ | leaGvM r _ | lesGvMp r _ | ldsGvMp r _ =>
    exact decode_of_oneByte rfl (parse_mem h (by cases r <;> rfl) r.num_lt)
  | imulGvEvIv r _ _ =>
    obtain ⟨hrm, himm⟩ := and_of_wf h
    exact decode_of_oneByte rfl (parse_rm_then hrm (parse_sized himm (by cases r <;> rfl)) r.num_lt)
  | imulGvEvIb r _ _ =>
    exact decode_of_oneByte rfl (parse_rm_then h (by cases r <;> rfl) r.num_lt)
  | jccJb r _ | movR8Ib r _ =>
    cases r <;> rfl
  | reserved82 =>
    rfl
  | movSwEw r rm =>
    obtain ⟨hrm, hr⟩ := and_of_wf h
    exact decode_of_oneByte rfl (parse_rm hrm (by cases r <;> first | rfl | exact absurd hr (by decide)) r.num_lt)
  | popEv rm | rolEv1 rm | rorEv1 rm | rclEv1 rm | rcrEv1 rm | shlSalEv1 rm | shrEv1 rm | sarEv1 rm | rolEvCL rm
  | rorEvCL rm | rclEvCL rm | rcrEvCL rm | shlSalEvCL rm | shrEvCL rm | sarEvCL rm | notEv rm | negEv rm
  | mulEv rm | imulEv rm | divEv rm | idivEv rm | incEv rm | decEv rm | callEv rm | jmpEv rm | pushEv rm =>
    exact decode_of_oneByte rfl (parse_rm h rfl)
  | xchgEAXRv r =>
    cases r <;> first | rfl | exact absurd h Bool.false_ne_true
  | callAp _ _ | jmpAp _ _ =>
    exact decode_of_oneByte rfl (parse_sized_then h (parse_half rfl))
  | movALOb _ | moveAXOv _ | movObAL _ | movOveAX _ =>
    exact decode_of_oneByte rfl (parse_sized h rfl)
  | movRvIv r _ =>
    cases r <;> exact decode_of_oneByte rfl (parse_sized h rfl)
  | rolEb1 rm | rorEb1 rm | rclEb1 rm | rcrEb1 rm | shlSalEb1 rm | shrEb1 rm | sarEb1 rm | rolEbCL rm
  | rorEbCL rm | rclEbCL rm | rcrEbCL rm | shlSalEbCL rm | shrEbCL rm | sarEbCL rm | notEb rm | negEb rm
  | mulEb rm | imulEb rm | divEb rm | idivEb rm | incEb rm | decEb rm =>
    exact decode_of_oneByte rfl (parse_rm8 h rfl)
  | retNearIw _ | retFarIw _ =>
    exact decode_of_oneByte rfl (parse_half rfl)
  | enterIwIb _ _ =>
    exact decode_of_oneByte rfl (parse_half rfl)
  | callEp m | jmpEp m =>
    exact decode_of_oneByte rfl (parse_ea h rfl)
  | sldtEw rm | strEw rm | lldtEw rm | ltrEw rm | verrEw rm | verwEw rm | smswEw rm | lmswEw rm =>
    exact decode_of_twoByte rfl (parse_rm h rfl)
  | sgdtMs m | sidtMs m | lgdtMs m | lidtMs m | invlpgM m | cmpxchg8bMq m =>
    exact decode_of_twoByte rfl (parse_ea h rfl)
  | larGvEw r _ | lslGvEw r _ | imulGvEv r _ | movzxGvEw r _ | bsfGvEv r _ | bsrGvEv r _ | movsxGvEw r _ =>
    exact decode_of_twoByte rfl (parse_rm h (by cases r <;> rfl) r.num_lt)
  | movRdCd r d | movRdDd r d =>
    exact decode_of_twoByte rfl (parse_rd (by simp))
  | movCdRd d r | movDdRd d r | reserved0F24 d r | reserved0F26 d r =>
    exact decode_of_twoByte rfl (parse_rd (by simp))
  | cmovccGvEv c r _ =>
    cases c <;> exact decode_of_twoByte rfl (parse_rm h (by cases r <;> rfl) r.num_lt)
  | jccJv c _ =>
    cases c <;> exact decode_of_twoByte rfl (parse_sized h rfl)
  | setccEb c _ =>
    cases c <;> exact decode_of_twoByte rfl (parse_rm8 h rfl)
  | btEvGv _ r | shldEvGvCL _ r | btsEvGv _ r | shrdEvGvCL _ r | cmpxchgEvGv _ r | btrEvGv _ r | btcEvGv _ r
  | xaddEvGv _ r =>
    exact decode_of_twoByte rfl (parse_rm h (by cases r <;> rfl) r.num_lt)
  | shldEvGvIb _ r _ | shrdEvGvIb _ r _ =>
    exact decode_of_twoByte rfl (parse_rm_then h (by cases r <;> rfl) r.num_lt)
  | cmpxchgEbGb _ r | xaddEbGb _ r =>
    exact decode_of_twoByte rfl (parse_rm8 h (by cases r <;> rfl) r.num_lt)
  | lssGvMp r _ | lfsGvMp r _ | lgsGvMp r _ =>
    exact decode_of_twoByte rfl (parse_mem h (by cases r <;> rfl) r.num_lt)
  | movzxGvEb r _ | movsxGvEb r _ =>
    exact decode_of_twoByte rfl (parse_rm8 h (by cases r <;> rfl) r.num_lt)
  | btEvIb _ _ | btsEvIb _ _ | btrEvIb _ _ | btcEvIb _ _ =>
    exact decode_of_twoByte rfl (parse_rm_then h rfl)
  | bswap r =>
    cases r <;> rfl
  | faddM32 _ | fmulM32 _ | fcomM32 _ | fcompM32 _ | fsubM32 _ | fsubrM32 _ | fdivM32 _ | fdivrM32 _ | fldM32 _
  | fstM32 _ | fstpM32 _ | fldenv _ | fldcw _ | fstenvFnstenv _ | fstcwFnstcw _ | fiaddI32 _ | fimulI32 _
  | ficomI32 _ | ficompI32 _ | fisubI32 _ | fisubrI32 _ | fidivI32 _ | fidivrI32 _ | fildI32 _ | fistI32 _
  | fistpI32 _ | fldM80 _ | fstpM80 _ | faddM64 _ | fmulM64 _ | fcomM64 _ | fcompM64 _ | fsubM64 _ | fsubrM64 _
  | fdivM64 _ | fdivrM64 _ | fldM64 _ | fstM64 _ | fstpM64 _ | frstor _ | fsaveFnsave _ | fstswFnstsw _
  | fiaddI16 _ | fimulI16 _ | ficomI16 _ | ficompI16 _ | fisubI16 _ | fisubrI16 _ | fidivI16 _ | fidivrI16 _
  | fildI16 _ | fistI16 _ | fistpI16 _ | fbld _ | fildI64 _ | fbstp _ | fistpI64 _ =>
    exact decode_of_escape rfl rfl (escape_mem h rfl)
  | faddSTSTi i | fmulSTSTi i | fcomSTSTi i | fcompSTSTi i | fsubSTSTi i | fsubrSTSTi i | fdivSTSTi i
  | fdivrSTSTi i | fldSTSTi i | fxchSTSTi i | faddSTiST i | fmulSTiST i | fsubrSTiST i | fsubSTiST i
  | fdivrSTiST i | fdivSTiST i | ffreeSTi i | fstSTi i | fstpSTi i | fucomSTiST i | fucompSTi i | faddpSTiST i
  | fmulpSTiST i | fsubrpSTiST i | fsubpSTiST i | fdivrpSTiST i | fdivpSTiST i | fcmovbSTSTi i | fcmoveSTSTi i
  | fcmovbeSTSTi i | fcmovuSTSTi i | fcmovnbSTSTi i | fcmovneSTSTi i | fcmovnbeSTSTi i | fcmovnuSTSTi i
  | fucomiSTSTi i | fcomiSTSTi i | fucomipSTSTi i | fcomipSTSTi i =>
    exact decode_of_escape rfl rfl (escape_reg i rfl)
  | fnop | fchs | fabs | ftst | fxam | fld1 | fldl2t | fldl2e | fldpi | fldlg2 | fldln2 | fldz | f2xm1 | fyl2x
  | fptan | fpatan | fxtract | fprem1 | fdecstp | fincstp | fprem | fyl2xp1 | fsqrt | fsincos | frndint | fscale
  | fsin | fcos | fucompp | fclexFnclex | finitFninit | fcompp | fstswAxFnstswAx =>
    rfl

end Sys2Proof

/-! SUPPORT. What the decoder answers is well-formed and takes its bytes from the front. -/
namespace Sys2Proof
open Host

/-- What the parser answers satisfies `Q`, and the bytes that it leaves are at the end of those it was given. -/
def Parses {α : Type} (Q : α → Prop) (p : Parser α) : Prop :=
  ∀ bs a rest, p bs = .ok (a, rest) → Q a ∧ rest <:+ bs

section
variable {α β : Type} {P : α → Prop} {Q : β → Prop}

theorem parses_pure {b : β} (h : Q b) : Parses Q (pure b) := by
  intro bs a rest hp
  obtain ⟨rfl, rfl⟩ : b = a ∧ bs = rest := by simpa using hp
  exact ⟨h, List.suffix_rfl⟩

theorem parses_bind {p : Parser α} {f : α → Parser β} (hp : Parses P p) (hf : ∀ a, P a → Parses Q (f a)) :
    Parses Q (p >>= f) := by
  intro bs b rest h
  rw [parse_bind] at h
  cases hx : p bs with
  | error e => simp [hx] at h
  | ok x =>
    obtain ⟨a, mid⟩ := x
    rw [hx] at h
    obtain ⟨ha, hmid⟩ := hp bs a mid hx
    obtain ⟨hb, hrest⟩ := hf a ha mid b rest h
    exact ⟨hb, hrest.trans hmid⟩

theorem parses_weaken {p : Parser β} {R : β → Prop} (hp : Parses Q p) (h : ∀ b, Q b → R b) : Parses R p :=
  fun bs a rest hx => ⟨h a (hp bs a rest hx).1, (hp bs a rest hx).2⟩

theorem parses_error {e : DecodeErr} : Parses Q (fun _ => .error e : Parser β) := fun _ _ _ h => by simp at h

theorem parses_undefinedOp : Parses Q (undefinedOp : Parser β) := parses_error
theorem parses_undefinedEsc : Parses Q (undefinedEsc : Parser β) := parses_error

end

theorem byte1_ok {bs rest : List Byte} {b : Byte} (h : byte1 bs = .ok (b, rest)) : bs = b :: rest := by
  cases bs with
  | nil => simp [byte1] at h
  | cons c cs => simp_all

theorem parses_byte1 : Parses (fun _ => True) byte1 := by
  intro bs a rest h
  rw [byte1_ok h]
  exact ⟨trivial, List.suffix_cons a rest⟩

theorem parses_half : Parses (fun _ => True) half :=
  parses_bind parses_byte1 fun _ _ => parses_bind parses_byte1 fun _ _ => parses_pure trivial

theorem parses_dword : Parses (fun _ => True) dword :=
  parses_bind parses_byte1 fun _ _ => parses_bind parses_byte1 fun _ _ => parses_bind parses_byte1 fun _ _ =>
    parses_bind parses_byte1 fun _ _ => parses_pure trivial

theorem fits_setWidth (h : Half) : fits false (h.setWidth 32) = true := by
  have := h.isLt
  simp [fits, BitVec.toNat_setWidth]
  omega

theorem parses_sized (wide : Bool) : Parses (fun w => fits wide w = true) (sized wide) := by
  cases wide with
  | true => exact parses_weaken parses_dword fun _ _ => rfl
  | false => exact parses_bind parses_half fun h _ => parses_pure (fits_setWidth h)

theorem parses_undefinedAfter {ι β : Type} {P : ι → Prop} {Q : β → Prop} {p : Parser ι} (h : Parses P p) :
    Parses Q (undefinedAfter p : Parser β) :=
  parses_bind h fun _ _ => parses_undefinedOp

/-! ### Operands -/

theorem Base16.ofNum_ne_bp {r : Nat} (h : r ≠ 6) : Base16.ofNum r ≠ .bp := by
  unfold Base16.ofNum
  split <;> simp_all

theorem Reg.ofNum_ne_esp {r : Nat} (h : r ≠ 4) : Reg.ofNum r ≠ .esp := by
  unfold Reg.ofNum
  split <;> simp_all

theorem Reg.ofNum_ne_ebp {r : Nat} (h : r ≠ 5) : Reg.ofNum r ≠ .ebp := by
  unfold Reg.ofNum
  split <;> simp_all

theorem parses_ea16 (md r : Nat) : Parses (fun m => m.wf false = true) (parseEa16 md r) := by
  unfold parseEa16
  split
  · split
    · exact parses_bind parses_half fun _ _ => parses_pure rfl
    · next h => exact parses_pure (by simp [Ea.wf, Base16.ofNum_ne_bp h])
  · exact parses_bind parses_byte1 fun _ _ => parses_pure (by simp [Ea.wf])
  · exact parses_bind parses_half fun _ _ => parses_pure (by simp [Ea.wf])

theorem parses_disp32 (md : Nat) : Parses (fun x => x = .none → md = 0) (parseDisp32 md) := by
  unfold parseDisp32
  split
  · exact parses_pure fun _ => rfl
  · exact parses_bind parses_byte1 fun _ _ => parses_pure (by simp)
  · exact parses_bind parses_dword fun _ _ => parses_pure (by simp)

theorem parses_ea32 (md r : Nat) : Parses (fun m => m.wf true = true) (parseEa32 md r) := by
  unfold parseEa32
  split
  · refine parses_bind parses_byte1 fun s _ => ?_
    dsimp only
    split
    · exact parses_bind parses_dword fun _ _ => parses_pure rfl
    · next h =>
      refine parses_bind (parses_disp32 md) fun x hx => parses_pure ?_
      by_cases h5 : s.toNat % 8 = 5
      · have hx : x ≠ .none := fun h0 => h ⟨hx h0, h5⟩
        simp [Ea.wf, hx]
      · simp [Ea.wf, Reg.ofNum_ne_ebp h5]
  · next h4 =>
    split
    · exact parses_bind parses_dword fun _ _ => parses_pure rfl
    · next h =>
      refine parses_bind (parses_disp32 md) fun x hx => parses_pure ?_
      by_cases h5 : r = 5
      · have hx : x ≠ .none := fun h0 => h ⟨hx h0, h5⟩
        simp [Ea.wf, hx, Reg.ofNum_ne_esp h4]
      · simp [Ea.wf, Reg.ofNum_ne_esp h4, Reg.ofNum_ne_ebp h5]

theorem parses_ea (a32 : Bool) (md r : Nat) : Parses (fun m => m.wf a32 = true) (parseEa a32 md r) := by
  cases a32 with
  | true => exact parses_ea32 md r
  | false => exact parses_ea16 md r

theorem parses_e {ρ : Type} (a32 : Bool) (reg : Nat → ρ) :
    Parses (fun x => x.2.wf a32 = true) (parseE a32 reg) := by
  refine parses_bind parses_byte1 fun b _ => ?_
  split
  · exact parses_pure rfl
  · exact parses_bind (parses_ea _ _ _) fun _ h => parses_pure h

theorem parses_memOnly {ρ : Type} {a32 : Bool} {rm : RegMem ρ} (h : rm.wf a32 = true) :
    Parses (fun m => m.wf a32 = true) (memOnly rm) := by
  cases rm with
  | reg => exact parses_undefinedOp
  | mem => exact parses_pure h

theorem parses_memPriv {ρ : Type} {a32 : Bool} {rm : RegMem ρ} (h : rm.wf a32 = true) :
    Parses (fun m => m.wf a32 = true) (memPriv rm) := by
  cases rm with
  | reg => exact parses_error
  | mem => exact parses_pure h

theorem parses_m (a32 : Bool) : Parses (fun x => x.2.wf a32 = true) (parseM a32) :=
  parses_bind (parses_e _ _) fun _ h => parses_bind (parses_memOnly h) fun _ h => parses_pure h

theorem parses_rd : Parses (fun _ => True) parseRd := parses_bind parses_byte1 fun _ _ => parses_pure trivial

theorem parses_segAny (d : Nat) : Parses (fun sr => d ≠ 1 → sr ≠ .cs) (parseSegAny d) := by
  unfold parseSegAny
  split
  case h_2 => exact parses_pure fun h => absurd rfl h
  case h_7 => exact parses_undefinedOp
  all_goals exact parses_pure fun _ => by decide

theorem parses_segLoad (d : Nat) : Parses (fun sr => sr ≠ .cs) (parseSegLoad d) := by
  unfold parseSegLoad
  split
  · exact parses_undefinedOp
  · next h => exact parses_weaken (parses_segAny d) fun _ hsr => hsr h

end Sys2Proof

namespace Sys2Proof
open Host

/-! ### The rows of the opcode map -/

theorem parses_escMem {z : Sizes} {m : Ea} (h : m.wf z.a32 = true) (e d : Nat) :
    Parses (fun i => i.wf z = true) (escMem e d m) := by
  delta escMem escMemD8 escMemD9 escMemDA escMemDB escMemDC escMemDD escMemDE escMemDF
  repeat' split
  all_goals first | exact parses_undefinedEsc | exact parses_pure h

theorem parses_escReg (z : Sizes) (e d : Nat) (i : Fin 8) : Parses (fun i => i.wf z = true) (escReg e d i) := by
  delta escReg escRegD8 escRegD9 escRegDA escRegDB escRegDC escRegDD escRegDE escRegDF
  repeat' split
  all_goals first | exact parses_undefinedEsc | exact parses_pure rfl

theorem parses_escape (z : Sizes) (e : Nat) : Parses (fun i => i.wf z = true) (escape z e) := by
  refine parses_bind (P := fun _ => True) parses_byte1 fun b _ => ?_
  show Parses _ (if b.toNat / 64 = 3 then escReg e (b.toNat / 8 % 8) (digit (b.toNat % 8))
      else parseEa z.a32 (b.toNat / 64) (b.toNat % 8) >>= fun m => escMem e (b.toNat / 8 % 8) m)
  split
  · exact parses_escReg z _ _ _
  · exact parses_bind (parses_ea _ _ _) fun _ h => parses_escMem h _ _

theorem wf_and {a b : Bool} (ha : a = true) (hb : b = true) : (a && b) = true :=
  (Bool.and_eq_true _ _).mpr ⟨ha, hb⟩

theorem parses_twoByte (z : Sizes) (b : Nat) : Parses (fun i => i.wf z = true) (twoByte z b) := by
  delta twoByte twoByte0 twoByte2 twoByte3 twoByte4 twoByte8 twoByte9 twoByteA twoByteB twoByteC
  repeat' first
    | with_reducible exact parses_undefinedOp
    | split
    | (with_reducible refine parses_bind (parses_e _ _) ?_; rintro ⟨d, rm⟩ hrm; dsimp only at hrm ⊢)
    | (with_reducible refine parses_bind (parses_m _) ?_; rintro ⟨d, m⟩ hm; dsimp only at hm ⊢)
    | with_reducible refine parses_bind (parses_sized _) fun imm himm => ?_
    | with_reducible refine parses_bind parses_byte1 fun _ _ => ?_
    | with_reducible refine parses_bind (parses_memOnly hrm) fun _ hm => ?_
    | with_reducible refine parses_bind (parses_memPriv hrm) fun _ hm => ?_
    | with_reducible refine parses_bind parses_rd fun _ _ => ?_
    | with_reducible exact parses_undefinedAfter parses_byte1
    | with_reducible refine parses_pure ?_
    | rfl
    | assumption

theorem parses_oneByte (z : Sizes) (b : Byte) : Parses (fun i => i.wf z = true) (oneByte z b) := by
  delta oneByte oneByte0 oneByte1 oneByte2 oneByte3 oneByte4 oneByte5 oneByte6 oneByte7 oneByte8 oneByte9 oneByteA
    oneByteB oneByteC oneByteD oneByteE oneByteF
  repeat' first
    | with_reducible exact parses_undefinedOp
    | with_reducible exact parses_escape z _
    | split
    | (with_reducible refine parses_bind (parses_e _ _) ?_; rintro ⟨d, rm⟩ hrm; dsimp only at hrm ⊢)
    | (with_reducible refine parses_bind (parses_m _) ?_; rintro ⟨d, m⟩ hm; dsimp only at hm ⊢)
    | with_reducible refine parses_bind (parses_sized _) fun imm himm => ?_
    | with_reducible refine parses_bind parses_byte1 fun _ _ => ?_
    | with_reducible refine parses_bind parses_half fun _ _ => ?_
    | with_reducible refine parses_bind (parses_memOnly hrm) fun _ hm => ?_
    | with_reducible refine parses_bind (parses_segAny _) fun _ _ => ?_
    | with_reducible refine parses_bind (parses_segLoad _) fun _ hsr => ?_
    | with_reducible exact parses_twoByte z _
    | with_reducible exact parses_undefinedAfter parses_byte1
    | with_reducible exact parses_undefinedAfter (parses_sized _)
    | with_reducible refine parses_pure ?_
    | rfl
    | assumption
    | exact wf_and hrm himm
    | exact wf_and hrm (bne_iff_ne.mpr hsr)

theorem decode_wf {z : Sizes} {i : Instr} {bs rest : List Byte} (h : decode z bs = .ok (i, rest)) :
    i.wf z = true ∧ ∃ b front, bs = b :: front ++ rest := by
  cases bs with
  | nil => cases h
  | cons b bs =>
    obtain ⟨hwf, front, hfront⟩ := parses_oneByte z b bs i rest h
    exact ⟨hwf, b, front, by rw [← hfront]; rfl⟩

namespace Machine

/-- Settles O37: form by form the operands come back from their bytes; and each parser of the map answers only what it
has read. -/
theorem decodeEncode : Obligations.DecodeEncode :=
  ⟨fun _ _ rest h => decode_encode rest h, fun _ _ _ _ h => decode_wf h⟩

end Machine
end Sys2Proof

/-! SUPPORT. Exchanges, compare-and-exchange, and the conditional instructions. -/
namespace Sys2Proof.Machine
open Host

/-- A located operand, as a state like `s` finds it. -/
theorem Located.like_read {s u : State} {w : Nat} {l : Loc} {x : BitVec w} {g m} (hl : Located s w l x g m)
    (h : Like s u) : Runs (readLoc w l) u fun y v => y = x ∧ Like s v := by
  obtain ⟨k, st, n, b, rfl⟩ := h
  exact ⟨_, _, hl.read _ (by constructor <;> rfl) rfl rfl, rfl, k, st, n, b, rfl⟩

theorem like_locRm8 {s u : State} (h : Like s u) {rm : Rm8} {write : Bool} (hc : s.can rm 1 (kindOf write) = true) :
    Runs (locRm8 rm write) u fun l v =>
      Located s 8 l (s.val8 rm) (gprAfter8 s rm) (memAfter8 s rm) ∧ Like s v := by
  obtain ⟨k, st, n, b, rfl⟩ := h
  obtain ⟨l, j, hj, hl⟩ := locRm8_can (s := s.noisy k st n b) (rm := rm) (write := write) (by simpa using hc)
  refine ⟨l, _, hj, ?_, (like_noisy s k st n b).withHit j⟩
  have hat : At s s.eip s.gpr s.mem s.eflags (s.noisy k st n b) := (like_noisy s k st n b).at (Calm.refl s)
  rw [noisy_val8] at hl
  exact hl.of hat (noisy_gprAfter8 s k st n b rm) (noisy_memAfter8 s k st n b rm) hat.calm.symm

theorem like_locRm {s u : State} (h : Like s u) {rm : Rm} {w : Nat} {write : Bool} (hw : 0 < w / 8)
    (hc : s.can rm (w / 8) (kindOf write) = true) :
    Runs (locRm rm (w / 8) write) u fun l v =>
      Located s w l (s.val w rm) (gprAfter s w rm) (memAfter s w rm) ∧ Like s v := by
  obtain ⟨k, st, n, b, rfl⟩ := h
  obtain ⟨l, j, hj, hl⟩ := locRm_can (s := s.noisy k st n b) (rm := rm) (write := write) hw (by simpa using hc)
  refine ⟨l, _, hj, ?_, (like_noisy s k st n b).withHit j⟩
  have hat : At s s.eip s.gpr s.mem s.eflags (s.noisy k st n b) := (like_noisy s k st n b).at (Calm.refl s)
  rw [noisy_val] at hl
  exact hl.of hat (noisy_gprAfter s k st n b w rm) (noisy_memAfter s k st n b w rm) hat.calm.symm

/-- A located operand written, as a state like `s` has it. -/
theorem Located.like_write {s u : State} {w : Nat} {l : Loc} {x : BitVec w} {g m} (hl : Located s w l x g m) (h : Like s u)
    (y : BitVec w) : Runs (writeLoc w l y) u fun _ v => Like { s with gpr := g y, mem := m y } v := by
  obtain ⟨k, st, n, b, rfl⟩ := h
  obtain ⟨st', n', hw⟩ := hl.write _ y ((like_noisy s k st n b).at (Calm.refl s)).calm rfl rfl
  exact ⟨_, _, hw, k, st', n', b, rfl⟩

/-- A byte operand and then a byte register have been written. -/
theorem wrote8_then_reg {s t : State} {rm : Rm8} {r : Reg8} {x y : Byte} (hs : Memory.wf s.mem = true)
    (hg : t.gpr = ((s.start.wrote8 rm x).setR8 r y).gpr) (hm : t.mem = ((s.start.wrote8 rm x).setR8 r y).mem) :
    ∃ u, Wrote8 s u rm x ∧ Wrote8 u t (.reg r) y :=
  ⟨s.start.wrote8 rm x, wrote8_of_start hs rfl rfl, hg, memSame_of (by rw [hm, setR8_eq])⟩

/-- An operand and then a register have been written. -/
theorem wrote_then_reg {s t : State} {w : Nat} {rm : Rm} {r : Reg} {x y : BitVec w} (hs : Memory.wf s.mem = true)
    (hg : t.gpr = ((s.start.wrote w rm x).setRw w r y).gpr) (hm : t.mem = ((s.start.wrote w rm x).setRw w r y).mem) :
    ∃ u, Wrote s u w rm x ∧ Wrote u t w (.reg r) y :=
  ⟨s.start.wrote w rm x, wrote_of_start hs rfl rfl, hg, memSame_of (by rw [hm, setRw_eq])⟩

theorem calm_wrote8_setR8 (s : State) (rm : Rm8) (r : Reg8) (x y : Byte) : Calm s ((s.start.wrote8 rm x).setR8 r y) :=
  ((calm_start s).trans (calm_wrote8 _ _ _)).trans (calm_setR8 _ _ _)
theorem calm_wrote_setRw (s : State) (w : Nat) (rm : Rm) (r : Reg) (x y : BitVec w) :
    Calm s ((s.start.wrote w rm x).setRw w r y) :=
  ((calm_start s).trans (calm_wrote _ _ _ _)).trans (calm_setRw _ _ _ _)

@[simp] theorem setR8_eip (s : State) (r : Reg8) (v : Byte) : (s.setR8 r v).eip = s.eip := by rw [setR8_eq]
@[simp] theorem setR8_eflags (s : State) (r : Reg8) (v : Byte) : (s.setR8 r v).eflags = s.eflags := by rw [setR8_eq]
@[simp] theorem setR8_mem (s : State) (r : Reg8) (v : Byte) : (s.setR8 r v).mem = s.mem := by rw [setR8_eq]
@[simp] theorem setRw_eip (s : State) (w : Nat) (r : Reg) (v : BitVec w) : (s.setRw w r v).eip = s.eip := by rw [setRw_eq]
@[simp] theorem setRw_eflags (s : State) (w : Nat) (r : Reg) (v : BitVec w) : (s.setRw w r v).eflags = s.eflags := by
  rw [setRw_eq]
@[simp] theorem setRw_mem (s : State) (w : Nat) (r : Reg) (v : BitVec w) : (s.setRw w r v).mem = s.mem := by rw [setRw_eq]
@[simp] theorem wrote8_eip (s : State) (rm : Rm8) (v : Byte) : (s.wrote8 rm v).eip = s.eip := rfl
@[simp] theorem wrote8_eflags (s : State) (rm : Rm8) (v : Byte) : (s.wrote8 rm v).eflags = s.eflags := rfl
@[simp] theorem wrote_eip (s : State) (w : Nat) (rm : Rm) (v : BitVec w) : (s.wrote w rm v).eip = s.eip := rfl
@[simp] theorem wrote_eflags (s : State) (w : Nat) (rm : Rm) (v : BitVec w) : (s.wrote w rm v).eflags = s.eflags := rfl

/-- XCHG of a located operand with a byte register. -/
theorem like_xchg8 {s u : State} (h : Like s u) {l : Loc} {rm : Rm8} (r : Reg8)
    (hl : Located s 8 l (s.val8 rm) (gprAfter8 s rm) (memAfter8 s rm)) :
    Runs (xchgLoc 8 l (.reg8 r)) u fun _ v => Like ((s.wrote8 rm (s.r8 r)).setR8 r (s.val8 rm)) v := by
  refine runs_mono (like_locked (q := fun _ => True) h fun v hv => ?_) fun _ _ ⟨_, hv⟩ => hv
  refine runs_bind (hl.like_read hv) fun a v1 ⟨ha, h1⟩ => runs_bind (like_readReg8 h1 r) fun b v2 ⟨hb, h2⟩ => ?_
  subst ha hb
  refine runs_bind (hl.like_write h2 _) fun _ v3 h3 => runs_mono (like_writeReg8 h3 r _) fun _ v4 h4 => ⟨trivial, h4⟩

/-- XCHG of a located operand with a register. -/
theorem like_xchg {s u : State} (h : Like s u) {w : Nat} {l : Loc} {rm : Rm} (r : Reg)
    (hl : Located s w l (s.val w rm) (gprAfter s w rm) (memAfter s w rm)) :
    Runs (xchgLoc w l (.reg r)) u fun _ v =>
      Like ((s.wrote w rm ((s.r32 r).setWidth w)).setRw w r (s.val w rm)) v := by
  refine runs_mono (like_locked (q := fun _ => True) h fun v hv => ?_) fun _ _ ⟨_, hv⟩ => hv
  refine runs_bind (hl.like_read hv) fun a v1 ⟨ha, h1⟩ => runs_bind (like_readReg h1 w r) fun b v2 ⟨hb, h2⟩ => ?_
  subst ha hb
  refine runs_bind (hl.like_write h2 _) fun _ v3 h3 => runs_mono (like_writeReg h3 w r _) fun _ v4 h4 => ⟨trivial, h4⟩

/-- XADD of a located operand with a byte register. -/
theorem like_xadd8 {s u : State} (h : Like s u) {l : Loc} {rm : Rm8} (r : Reg8)
    (hl : Located s 8 l (s.val8 rm) (gprAfter8 s rm) (memAfter8 s rm)) :
    Runs (xaddLoc 8 l (.reg8 r)) u fun _ v =>
      Like (((s.wrote8 rm (s.val8 rm + s.r8 r)).setR8 r (s.val8 rm)).flagged arithMask
        (addFlags (s.val8 rm) (s.r8 r) false).2.word) v := by
  refine runs_bind (hl.like_read h) fun a v1 ⟨ha, h1⟩ => runs_bind (like_readReg8 h1 r) fun b v2 ⟨hb, h2⟩ => ?_
  subst ha hb
  refine runs_bind (hl.like_write h2 _) fun _ v3 h3 => runs_bind (like_writeReg8 h3 r _) fun _ v4 h4 => ?_
  have hsum : (addFlags (s.val8 rm) (s.r8 r) false).1 = s.val8 rm + s.r8 r := by simp [addFlags, ofBool]
  exact runs_mono (like_putArith h4 _) fun _ x hx => by rw [← hsum]; exact hx

/-- XADD of a located operand with a register. -/
theorem like_xadd {s u : State} (h : Like s u) {w : Nat} {l : Loc} {rm : Rm} (r : Reg)
    (hl : Located s w l (s.val w rm) (gprAfter s w rm) (memAfter s w rm)) :
    Runs (xaddLoc w l (.reg r)) u fun _ v =>
      Like (((s.wrote w rm (s.val w rm + (s.r32 r).setWidth w)).setRw w r (s.val w rm)).flagged arithMask
        (addFlags (s.val w rm) ((s.r32 r).setWidth w) false).2.word) v := by
  refine runs_bind (hl.like_read h) fun a v1 ⟨ha, h1⟩ => runs_bind (like_readReg h1 w r) fun b v2 ⟨hb, h2⟩ => ?_
  subst ha hb
  refine runs_bind (hl.like_write h2 _) fun _ v3 h3 => runs_bind (like_writeReg h3 w r _) fun _ v4 h4 => ?_
  have hsum : (addFlags (s.val w rm) ((s.r32 r).setWidth w) false).1 = s.val w rm + (s.r32 r).setWidth w := by
    simp [addFlags, ofBool]
  exact runs_mono (like_putArith h4 _) fun _ x hx => by rw [← hsum]; exact hx

/-- Settles O9. -/
theorem exchanges : Obligations.Exchanges := by
  refine ⟨?xchg8, ?xchg, ?acc, ?nop, ?xadd8, ?xadd⟩
  case xchg8 =>
    intro rm r s hs hl hc
    have hb := runs_bind (like_locRm8 (Like.refl s.start) (rm := rm) (write := true) ((start_can s rm 1 .write).trans hc))
      fun l v ⟨hl, hv⟩ => like_xchg8 hv r hl
    rw [start_r8, start_val8] at hb
    exact completes_of_like (body := xchgEbGb rm r) rfl hs hl hb (calm_wrote8_setR8 _ _ _ _ _) (by simp [State.start])
      fun t hg hm hf ht => ⟨wrote8_then_reg hs.1 hg hm, hf.trans (by simp), ht⟩
  case xchg =>
    intro rm r s hs hl hc
    have hb := runs_bind (like_locRm (Like.refl s.start) (rm := rm) (write := true) (bits_div_pos s.o32)
      ((start_can s rm _ .write).trans (State.can_bytes hc))) fun l v ⟨hl, hv⟩ => like_xchg hv r hl
    rw [start_r32, start_val] at hb
    exact completes_of_like (body := xchgEvGv rm r) rfl hs hl (like_getW (Like.refl s.start) hb)
      (calm_wrote_setRw _ _ _ _ _ _) (by simp [State.start])
      fun t hg hm hf ht => ⟨wrote_then_reg hs.1 hg hm, hf.trans (by simp), ht⟩
  case acc =>
    intro r s hs hl
    have hb := like_xchg (Like.refl s.start) (w := bits s.o32) (rm := .reg .eax) r (located_reg s.start _ .eax)
    rw [start_r32, start_val] at hb
    exact completes_of_like (body := xchgAcc r) rfl hs hl (like_getW (Like.refl s.start) hb)
      (calm_wrote_setRw _ _ _ _ _ _) (by simp [State.start])
      fun t hg hm hf ht => ⟨wrote_then_reg hs.1 hg hm, hf.trans (by simp), ht⟩
  case nop =>
    intro s hs hl
    exact completes_of_like (body := pure ()) rfl hs hl (runs_pure (Like.refl s.start)) (calm_start s) rfl
      fun t hg hm hf ht => ⟨untouched_of hg hm, hf, ht⟩
  case xadd8 =>
    intro rm r s hs hl hc
    have hb := runs_bind (like_locRm8 (Like.refl s.start) (rm := rm) (write := true) ((start_can s rm 1 .write).trans hc))
      fun l v ⟨hl, hv⟩ => like_xadd8 hv r hl
    rw [start_r8, start_val8] at hb
    exact completes_of_like (body := xaddEbGb rm r) rfl hs hl hb ((calm_wrote8_setR8 _ _ _ _ _).trans (calm_flagged _ _ _))
      (by simp [State.start])
      fun t hg hm hf ht => ⟨wrote8_then_reg hs.1 hg hm, hf.trans (by simp [flagsAfter]), ht⟩
  case xadd =>
    intro rm r s hs hl hc
    have hb := runs_bind (like_locRm (Like.refl s.start) (rm := rm) (write := true) (bits_div_pos s.o32)
      ((start_can s rm _ .write).trans (State.can_bytes hc))) fun l v ⟨hl, hv⟩ => like_xadd hv r hl
    rw [start_r32, start_val] at hb
    exact completes_of_like (body := xaddEvGv rm r) rfl hs hl (like_getW (Like.refl s.start) hb)
      ((calm_wrote_setRw _ _ _ _ _ _).trans (calm_flagged _ _ _)) (by simp [State.start])
      fun t hg hm hf ht => ⟨wrote_then_reg hs.1 hg hm, hf.trans (by simp [flagsAfter]), ht⟩

/-- Writing one value to AL and to another byte register, in either order. -/
theorem setR8_al_comm (s : State) (q : Reg8) (x : Byte) : (s.setR8 .al x).setR8 q x = (s.setR8 q x).setR8 .al x := by
  cases q with
  | ah => exact (setR8_ah_al s x x).symm
  | al | cl | dl | bl | ch | dh | bh => rfl

/-- Writing one value to the accumulator and to another register, in either order. -/
theorem setRw_eax_comm (s : State) (w : Nat) (q : Reg) (x : BitVec w) :
    (s.setRw w .eax x).setRw w q x = (s.setRw w q x).setRw w .eax x := by
  unfold State.setRw
  cases q <;> split <;> rfl

theorem setR8_flagged (s : State) (r : Reg8) (v : Byte) (m f : Word) :
    (s.flagged m f).setR8 r v = (s.setR8 r v).flagged m f := by
  cases r <;> rfl

theorem setRw_flagged (s : State) (w : Nat) (r : Reg) (v : BitVec w) (m f : Word) :
    (s.flagged m f).setRw w r v = (s.setRw w r v).flagged m f := by
  unfold State.setRw
  split <;> rfl

theorem wrote_mem (s : State) (w : Nat) (m : Ea) (v : BitVec w) :
    s.wrote w (.mem m) v = s.stored (s.ea m) (w / 8) v.toNat := rfl

theorem setRw_stored (s : State) (w : Nat) (r : Reg) (x : BitVec w) (a n v : Nat) :
    (s.stored a n v).setRw w r x = (s.setRw w r x).stored a n v := by
  unfold State.setRw
  split <;> rfl

/-- The registers and memory after CMPXCHG of a byte. -/
def State.cmpxchg8 (s : State) (rm : Rm8) (r : Reg8) : State :=
  if s.r8 .al = s.val8 rm then s.wrote8 rm (s.r8 r) else (s.wrote8 rm (s.val8 rm)).setR8 .al (s.val8 rm)

/-- The registers and memory after CMPXCHG. -/
def State.cmpxchg (s : State) (w : Nat) (rm : Rm) (r : Reg) : State :=
  if (s.r32 .eax).setWidth w = s.val w rm then s.wrote w rm ((s.r32 r).setWidth w)
  else (s.wrote w rm (s.val w rm)).setRw w .eax (s.val w rm)

/-- CMPXCHG reads its operand, its register and the accumulator, and writes by their comparison. -/
theorem like_cmpxchgLoc {s u : State} (h : Like s u) {w : Nat} {l g : Loc} {e a b : BitVec w} {q : Unit → State → Prop}
    (he : ∀ v, Like s v → Runs (readLoc w l) v fun y t => y = e ∧ Like s t)
    (hb : ∀ v, Like s v → Runs (readLoc w g) v fun y t => y = b ∧ Like s t)
    (ha : ∀ v, Like s v → Runs (readLoc w (accLoc w)) v fun y t => y = a ∧ Like s t)
    (heq : a = e → ∀ v, Like (s.flagged arithMask (subFlags a e false).2.word) v → Runs (writeLoc w l b) v q)
    (hne : a ≠ e → ∀ v, Like (s.flagged arithMask (subFlags a e false).2.word) v →
      Runs (do writeLoc w (accLoc w) e; writeLoc w l e) v q) :
    Runs (cmpxchgLoc w l g) u q := by
  refine runs_bind (he u h) fun e' v1 ⟨he', h1⟩ => runs_bind (hb v1 h1) fun b' v2 ⟨hb', h2⟩ => ?_
  refine runs_bind (ha v2 h2) fun a' v3 ⟨ha', h3⟩ => runs_bind (like_putArith h3 _) fun _ v4 h4 => ?_
  subst he' hb' ha'
  by_cases hae : a' = e'
  · rw [if_pos hae]
    exact heq hae v4 h4
  · rw [if_neg hae]
    exact hne hae v4 h4

theorem like_cmpxchgEb {s u : State} (h : Like s u) {rm : Rm8} (r : Reg8) (hc : s.can rm 1 .write = true) :
    Runs (cmpxchgEbGb rm r) u fun _ v =>
      Like ((s.cmpxchg8 rm r).flagged arithMask (subFlags (s.r8 .al) (s.val8 rm) false).2.word) v := by
  unfold State.cmpxchg8
  cases rm with
  | reg q =>
    refine like_cmpxchgLoc h (fun _ => (like_readReg8 · q)) (fun _ => (like_readReg8 · r)) (fun _ => (like_readReg8 · .al))
      (fun heq v hv => ?_) fun hne v hv => ?_
    · rw [State.val8, if_pos heq, wrote8_reg, ← setR8_flagged]
      exact like_writeReg8 hv q _
    · rw [State.val8, if_neg hne, wrote8_reg, ← setR8_al_comm, ← setR8_flagged, ← setR8_flagged]
      exact runs_bind (like_writeReg8 hv .al _) fun _ _ h1 => like_writeReg8 h1 q _
  | mem m =>
    have hp := State.plain_of_reaches hc
    refine runs_bind (like_locMem h (write := true) (by decide) hc) fun l u1 ⟨hl, h1⟩ => ?_
    subst hl
    refine like_cmpxchgLoc h1 (fun _ => (like_readMem · hp 8 _ 1)) (fun _ => (like_readReg8 · r))
      (fun _ => (like_readReg8 · .al)) (fun heq v hv => ?_) fun hne v hv => ?_
    · rw [if_pos (show s.r8 .al = s.val8 (.mem m) from heq)]
      exact like_writeMem hv hp rfl _
    · rw [if_neg (show ¬s.r8 .al = s.val8 (.mem m) from hne), ← setR8_flagged]
      exact runs_bind (like_writeReg8 hv .al _) fun _ _ h2 => like_writeMem h2 hp rfl _

theorem like_cmpxchgEv {s u : State} (h : Like s u) {rm : Rm} (r : Reg) (hc : s.can rm (bytes s.o32) .write = true) :
    Runs (cmpxchgEvGv rm r) u fun _ v =>
      Like ((s.cmpxchg (bits s.o32) rm r).flagged arithMask
        (subFlags ((s.r32 .eax).setWidth (bits s.o32)) (s.val (bits s.o32) rm) false).2.word) v := by
  have hacc (v : State) (hv : Like s v) := like_readAcc hv (bits s.o32) (bits_ne_8 _)
  refine like_getW h ?_
  unfold State.cmpxchg
  cases rm with
  | reg q =>
    refine like_cmpxchgLoc h (fun _ => (like_readReg · _ q)) (fun _ => (like_readReg · _ r)) hacc
      (fun heq v hv => ?_) fun hne v hv => ?_
    · rw [State.val, if_pos heq, wrote_reg, ← setRw_flagged]
      exact like_writeReg hv _ q _
    · rw [State.val, if_neg hne, wrote_reg, ← setRw_eax_comm, ← setRw_flagged, ← setRw_flagged]
      exact runs_bind (like_writeAcc hv _ (bits_ne_8 _) _) fun _ _ h1 => like_writeReg h1 _ q _
  | mem m =>
    have hp := State.plain_of_reaches hc
    refine runs_bind (like_locMem h (write := true) (bits_div_pos s.o32) (State.can_bytes hc)) fun l u1 ⟨hl, h1⟩ => ?_
    subst hl
    refine like_cmpxchgLoc h1 (fun _ => (like_readMem · hp _ _ _)) (fun _ => (like_readReg · _ r)) hacc
      (fun heq v hv => ?_) fun hne v hv => ?_
    · rw [if_pos (show _ = s.val _ (.mem m) from heq)]
      exact like_writeMem hv hp rfl _
    · rw [if_neg (show ¬_ = s.val _ (.mem m) from hne), wrote_mem, setRw_stored]
      refine runs_bind (like_writeAcc hv _ (bits_ne_8 _) _) fun _ _ h2 => ?_
      rw [setRw_flagged] at h2
      exact like_writeMem h2 (by rw [setRw_eq]; exact hp) rfl _

theorem start_cmpxchg8 (s : State) (rm : Rm8) (r : Reg8) :
    s.start.cmpxchg8 rm r = if s.r8 .al = s.val8 rm then s.start.wrote8 rm (s.r8 r)
      else (s.start.wrote8 rm (s.val8 rm)).setR8 .al (s.val8 rm) := by simp only [State.cmpxchg8, start_r8, start_val8]

theorem start_cmpxchg (s : State) (w : Nat) (rm : Rm) (r : Reg) :
    s.start.cmpxchg w rm r = if (s.r32 .eax).setWidth w = s.val w rm then s.start.wrote w rm ((s.r32 r).setWidth w)
      else (s.start.wrote w rm (s.val w rm)).setRw w .eax (s.val w rm) := by
  simp only [State.cmpxchg, start_r32, start_val]

/-- What CMPXCHG8B leaves of registers and memory. -/
def State.cmpxchg8b (s : State) (m : Ea) (x : BitVec 64) : State :=
  if x = s.r32 .edx ++ s.r32 .eax then s.stored (s.ea m) 8 (s.r32 .ecx ++ s.r32 .ebx : BitVec 64).toNat
  else ((s.setR32 .edx (field x 32 32)).setR32 .eax (field x 0 32)).stored (s.ea m) 8 x.toNat

/-- Writing one flag is writing EFLAGS under a mask of it. -/
theorem setBit_eq_blend (x : Word) (i : Nat) (b : Bool) :
    setBit x i b = blend (BitVec.twoPow 32 i) x (if b then BitVec.twoPow 32 i else 0) := by
  apply BitVec.eq_of_getLsbD_eq
  intro j hj
  by_cases hij : i = j
  · subst hij
    cases b <;> simp [setBit, blend, hj]
  · cases b <;> simp [setBit, blend, hj, Ne.symm hij]

theorem setFlag_zf (s : State) (b : Bool) : s.setFlag fZF b = s.flagged 0x40#32 (if b then 0x40#32 else 0) :=
  congrArg (fun f => { s with eflags := f }) (setBit_eq_blend s.eflags fZF b)

theorem like_cmpxchg8bBody {s u : State} (h : Like s u) {m : Ea} (hc : s.can (.mem m : Rm) 8 .write = true)
    {x : BitVec 64} (hx : x = BitVec.ofNat 64 (s.num (s.ea m) 8)) :
    Runs (cmpxchg8bBody m) u fun _ v => Like ((s.cmpxchg8b m x).setFlag fZF (x = s.r32 .edx ++ s.r32 .eax)) v := by
  have hp := State.plain_of_reaches hc
  refine runs_bind (like_locMem h (write := true) (by decide) hc) fun l u1 ⟨hl, h1⟩ => ?_
  subst hl
  refine runs_bind (like_readMem h1 hp 64 _ 8) fun y u2 ⟨hy, h2⟩ => like_get_bind h2 fun k st n b => ?_
  obtain rfl := hy.trans hx.symm
  simp only [noisy_r32]
  unfold State.cmpxchg8b
  by_cases heq : y = s.r32 .edx ++ s.r32 .eax
  · rw [if_pos heq, if_pos heq, decide_eq_true heq]
    refine runs_bind (like_putFlag (like_noisy s k st n b) fZF true) fun _ u3 h3 => ?_
    exact like_writeMem h3 hp rfl _
  · rw [if_neg heq, if_neg heq, decide_eq_false heq]
    refine runs_bind (like_putFlag (like_noisy s k st n b) fZF false) fun _ u3 h3 => ?_
    refine runs_bind (like_putR32 h3 .edx _) fun _ u4 h4 => runs_bind (like_putR32 h4 .eax _) fun _ u5 h5 => ?_
    exact like_writeMem h5 hp rfl _

theorem calm_cmpxchg8b (s : State) (m : Ea) (x : BitVec 64) : Calm s (s.cmpxchg8b m x) := by
  unfold State.cmpxchg8b
  split
  · exact calm_stored _ _ _ _
  · exact ((calm_setR32 _ _ _).trans (calm_setR32 _ _ _)).trans (calm_stored _ _ _ _)

theorem cmpxchg8b_frame (s : State) (m : Ea) (x : BitVec 64) :
    (s.cmpxchg8b m x).eip = s.eip ∧ (s.cmpxchg8b m x).eflags = s.eflags := by
  unfold State.cmpxchg8b
  split <;> exact ⟨rfl, rfl⟩

/-- Settles O10. -/
theorem compareExchange : Obligations.CompareExchange := by
  refine ⟨fun rm r s hs hl hc => ?eb, fun rm r s hs hl hc => ?ev, fun m s hs hl hc => ?mq⟩
  case eb =>
    have hb := like_cmpxchgEb (Like.refl s.start) r ((start_can s rm 1 .write).trans hc)
    rw [start_r8, start_val8, start_cmpxchg8] at hb
    by_cases heq : s.r8 .al = s.val8 rm
    · simp only [if_pos heq] at hb ⊢
      exact completes_of_like (body := cmpxchgEbGb rm r) rfl hs hl hb
        (((calm_start s).trans (calm_wrote8 _ _ _)).trans (calm_flagged _ _ _)) rfl
        fun t hg hm hf ht => ⟨wrote8_of_start hs.1 hg hm, hf, ht⟩
    · simp only [if_neg heq] at hb ⊢
      exact completes_of_like (body := cmpxchgEbGb rm r) rfl hs hl hb
        ((calm_wrote8_setR8 _ _ _ _ _).trans (calm_flagged _ _ _)) (by simp [State.start])
        fun t hg hm hf ht => ⟨wrote8_then_reg hs.1 hg hm, hf.trans (by simp [flagsAfter]), ht⟩
  case ev =>
    have hb := like_cmpxchgEv (Like.refl s.start) r ((start_can s rm _ .write).trans hc)
    rw [start_o32, start_r32, start_val, start_cmpxchg] at hb
    by_cases heq : (s.r32 .eax).setWidth (bits s.o32) = s.val (bits s.o32) rm
    · simp only [if_pos heq] at hb ⊢
      exact completes_of_like (body := cmpxchgEvGv rm r) rfl hs hl hb
        (((calm_start s).trans (calm_wrote _ _ _ _)).trans (calm_flagged _ _ _)) rfl
        fun t hg hm hf ht => ⟨wrote_of_start hs.1 hg hm, hf, ht⟩
    · simp only [if_neg heq] at hb ⊢
      exact completes_of_like (body := cmpxchgEvGv rm r) rfl hs hl hb
        ((calm_wrote_setRw _ _ _ _ _ _).trans (calm_flagged _ _ _)) (by simp [State.start])
        fun t hg hm hf ht => ⟨wrote_then_reg hs.1 hg hm, hf.trans (by simp [flagsAfter]), ht⟩
  case mq =>
    obtain ⟨x, hx⟩ : ∃ x, x = BitVec.ofNat 64 (s.num (s.ea m) 8) := ⟨_, rfl⟩
    have hb := like_cmpxchg8bBody (Like.refl s.start) (x := x) ((start_can s (.mem m : Rm) 8 .write).trans hc) (by simp [hx])
    rw [setFlag_zf, start_r32, start_r32] at hb
    simp only [← hx]
    obtain ⟨heip, hflags⟩ := cmpxchg8b_frame s.start m x
    refine completes_of_like (body := cmpxchg8bBody m) rfl hs hl hb
      (((calm_start s).trans (calm_cmpxchg8b _ m x)).trans (calm_flagged _ _ _)) heip fun t hg hm hf ht => ⟨?_, ?_, ht⟩
    · simp only [flagged_gpr, flagged_mem, State.cmpxchg8b, start_r32, start_ea] at hg hm
      by_cases heq : x = s.r32 .edx ++ s.r32 .eax
      · rw [if_pos heq] at hg hm
        simp only [decide_eq_true heq]
        exact ⟨hg, stored_memWriteList hs.1 hm⟩
      · rw [if_neg heq] at hg hm
        simp only [decide_eq_false heq]
        exact ⟨hg, stored_memWriteList hs.1 hm⟩
    · rw [hf, flagged_eflags, hflags]
      simp [flagsAfter]

end Sys2Proof.Machine

/-! SUPPORT. Conditional instructions, bit tests and scans. -/
namespace Sys2Proof.Machine
open Host

theorem like_setcc {s u : State} (h : Like s u) (c : Cond) {rm : Rm8} (hc : s.can rm 1 .write = true) :
    Runs (setccBody c rm) u fun _ v => Like (s.wrote8 rm (if s.cond c then 1 else 0)) v :=
  like_get_bind h fun k st n b => by
    simp only [noisy_cond]
    exact like_writeRm8 (like_noisy s k st n b) _ hc

theorem like_cmov {s u : State} (h : Like s u) (c : Cond) (r : Reg) {rm : Rm} (hc : s.can rm (bytes s.o32) .read = true) :
    Runs (cmovBody c r rm) u fun _ v =>
      Like (if s.cond c then s.wrote (bits s.o32) (.reg r) (s.val (bits s.o32) rm) else s) v := by
  refine like_getW h (runs_bind (like_readRm h (bits_div_pos _) (State.can_bytes hc)) fun x v ⟨hx, hv⟩ => ?_)
  refine like_get_bind hv fun k st n b => ?_
  rw [noisy_cond, hx]
  cases s.cond c with
  | true => exact like_wroteReg (like_noisy s k st n b) r _
  | false => exact runs_pure (like_noisy s k st n b)

/-- Settles O11. -/
theorem conditional : Obligations.Conditional := by
  refine ⟨fun c rm s hs hl hc => ?set, fun c r rm s hs hl hc => ?cmov⟩
  case set =>
    have hb := like_setcc (Like.refl s.start) c (rm := rm) (by simpa using hc)
    rw [start_cond] at hb
    exact completes_wrote8 rfl hs hl hb
  case cmov =>
    have hb := like_cmov (Like.refl s.start) c r (rm := rm) (by simpa using hc)
    rw [start_cond, start_o32, start_val] at hb
    cases hcond : s.cond c with
    | true =>
      rw [hcond] at hb
      exact completes_wrote (body := cmovBody c r rm) rfl hs hl hb
    | false =>
      rw [hcond] at hb
      exact completes_of_like (body := cmovBody c r rm) rfl hs hl hb (calm_start s) rfl fun t hg hm hf ht =>
        ⟨untouched_of hg hm, hf, ht⟩

/-! ### Bit tests -/

theorem bitOp_result_eq {w : Nat} (op : BitOp) (x : BitVec w) (i : Nat) : op.result x i = bitRule op x i := by
  cases op with
  | bt | bts | btr => rfl
  | btc =>
    apply BitVec.eq_of_getLsbD_eq
    intro j hj
    by_cases hij : i = j
    · subst hij
      cases hx : x[i] <;> simp [BitOp.result, bitRule, setBit, bit, hj, hx]
    · simp only [BitOp.result, bitRule, setBit]
      split <;> simp [hj, Ne.symm hij]

/-- A bit test of an item read as `x`, which leaves `s'` where it stores its result. -/
theorem like_bitLoc {s s' u : State} (h : Like s u) (op : BitOp) {w : Nat} {l : Loc} {x : BitVec w} (i : Nat)
    (hr : ∀ v, Like s v → Runs (readLoc w l) v fun y t => y = x ∧ Like s t)
    (hw : ∀ v, Like s v → Runs (whenM op.writes (writeLoc w l (bitRule op x i))) v fun _ t => Like s' t) :
    Runs (bitLoc op w l i) u fun _ v => ∃ f : Word, Like (s'.flagged 0x895#32 (setBit f fCF (bit x i))) v := by
  refine runs_bind (hr u h) fun y v ⟨hy, hv⟩ => runs_bind (like_draw hv 32) fun f v1 h1 => ?_
  rw [hy, bitOp_result_eq]
  exact runs_bind (hw v1 h1) fun _ v2 h2 => runs_mono (like_putFlagsMasked h2 _ _) fun _ _ h3 => ⟨f, h3⟩

/-- An operand is written, or the state stays. -/
def State.wroteIf (s : State) (b : Bool) (w : Nat) (rm : Rm) (v : BitVec w) : State := if b then s.wrote w rm v else s

theorem like_whenM_write {s u : State} (h : Like s u) {w : Nat} {l : Loc} {rm : Rm} {x : BitVec w} (b : Bool)
    (hl : Located s w l x (gprAfter s w rm) (memAfter s w rm)) (y : BitVec w) :
    Runs (whenM b (writeLoc w l y)) u fun _ v => Like (s.wroteIf b w rm y) v := by
  cases b with
  | true => exact hl.like_write h y
  | false => exact runs_pure h

theorem like_bitLocated {s u : State} (h : Like s u) (op : BitOp) {w : Nat} {l : Loc} {rm : Rm} (i : Nat)
    (hl : Located s w l (s.val w rm) (gprAfter s w rm) (memAfter s w rm)) :
    Runs (bitLoc op w l i) u fun _ v => ∃ f : Word,
      Like ((s.wroteIf op.writes w rm (bitRule op (s.val w rm) i)).flagged 0x895#32 (setBit f fCF (bit (s.val w rm) i))) v :=
  like_bitLoc h op i (fun _ => hl.like_read) fun _ hv => like_whenM_write hv op.writes hl _

theorem like_bitEvIb {s u : State} (h : Like s u) (op : BitOp) {rm : Rm} (k : Byte)
    (hc : s.can rm (bytes s.o32) (if op.writes then .write else .read) = true) :
    Runs (bitEvIb op rm k) u fun _ v => ∃ f : Word,
      let w := bits s.o32
      Like ((s.wroteIf op.writes w rm (bitRule op (s.val w rm) (k.toNat % w))).flagged 0x895#32
        (setBit f fCF (bit (s.val w rm) (k.toNat % w)))) v :=
  like_getW h (runs_bind (like_locRm h (write := op.writes) (bits_div_pos _) (State.can_bytes hc)) fun _ _ ⟨hl, hv⟩ =>
    like_bitLocated hv op _ hl)

theorem setWidth_toNat_mod_bits (x : Word) (o : Bool) : (x.setWidth (bits o)).toNat % bits o = x.toNat % bits o := by
  have hd : bits o ∣ 2 ^ bits o := by cases o <;> decide
  rw [BitVec.toNat_setWidth, Nat.mod_mod_of_dvd _ hd]

theorem like_bitEvGv_reg {s u : State} (h : Like s u) (op : BitOp) (d r : Reg) :
    Runs (bitEvGv op (.reg d) r) u fun _ v => ∃ f : Word,
      let w := bits s.o32
      let x := (s.r32 d).setWidth w
      let i := (s.r32 r).toNat % w
      Like ((s.wroteIf op.writes w (.reg d) (bitRule op x i)).flagged 0x895#32 (setBit f fCF (bit x i))) v := by
  refine like_getW h (runs_bind (like_readG h _ r) fun i v ⟨hi, hv⟩ => ?_)
  subst hi
  rw [setWidth_toNat_mod_bits]
  exact like_bitLocated (rm := .reg d) hv op _ (located_reg s _ d)

/-- The place of the item that a signed bit index selects. -/
def bitOffset (s : State) (m : Ea) (r : Reg) : Word :=
  eaMoved s m (BitVec.ofInt 32 (((s.r32 r).setWidth (bits s.o32)).toInt / bits s.o32 * bytes s.o32))

/-- A number is stored, or the state stays. -/
def State.storedIf (s : State) (b : Bool) (a n v : Nat) : State := if b then s.stored a n v else s

theorem noisy_eaMoved (s : State) (k : BitVec 4) (st : List StaleByte) (n : Nat) (b : Bool) (m : Ea) (d : Word) :
    eaMoved (s.noisy k st n b) m d = eaMoved s m d := by cases m <;> rfl

theorem like_bitEvGv_mem {s u : State} (h : Like s u) (op : BitOp) (m : Ea) (r : Reg)
    (hr : s.reaches (eaSeg s m) (bitOffset s m r) (bytes s.o32) (bytes s.o32) (if op.writes then .write else .read) = true) :
    Runs (bitEvGv op (.mem m) r) u fun _ v => ∃ f : Word,
      let w := bits s.o32
      let a := s.lin (eaSeg s m) (bitOffset s m r)
      let x := BitVec.ofNat w (s.num a (bytes s.o32))
      let i := (s.r32 r).toNat % w
      Like ((s.storedIf op.writes a (bytes s.o32) (bitRule op x i).toNat).flagged 0x895#32 (setBit f fCF (bit x i))) v := by
  have hn : 0 < bytes s.o32 := by cases s.o32 <;> decide
  have hp := State.plain_of_reaches hr
  have hoff : bitOffset s m r = eaMoved s m (BitVec.ofInt 32
      (((s.r32 r).setWidth (bits s.o32)).toInt / bits s.o32 * (bits s.o32 / 8))) := by
    unfold bitOffset
    cases s.o32 <;> rfl
  refine like_getW h (runs_bind (like_readG h _ r) fun i v ⟨hi, hv⟩ => ?_)
  subst hi
  rw [setWidth_toNat_mod_bits]
  refine runs_bind (q := fun l t => l = .mem (spansAt (s.lin (eaSeg s m) (bitOffset s m r)) (bytes s.o32)) ∧ Like s t) ?_ ?_
  · refine like_get_bind hv fun k st n b => ?_
    simp only [noisy_eaSeg, noisy_eaMoved, ← hoff, bits_div]
    exact runs_bind (like_access (like_noisy s k st n b) (write := op.writes) hr hn) fun ps t ⟨hps, ht⟩ =>
      runs_pure ⟨by rw [hps], ht⟩
  · rintro _ t ⟨rfl, ht⟩
    refine like_bitLoc ht op _ (fun v hv => like_readMem hv hp _ _ _) fun v hv => ?_
    unfold State.storedIf
    cases op.writes with
    | true => exact like_writeMem hv hp (bits_div _) _
    | false => exact runs_pure hv

theorem exec_bitInsI (op : BitOp) (rm : Rm) (k : Byte) (s : State) :
    exec (bitInsI op rm k) s = instr (op.writes && isMem rm) (bitEvIb op rm k) s := by cases op <;> rfl

theorem exec_bitInsR (op : BitOp) (rm : Rm) (r : Reg) (s : State) :
    exec (bitInsR op rm r) s = instr (op.writes && isMem rm) (bitEvGv op rm r) s := by cases op <;> rfl

/-- A body that may write an operand and then writes flags. -/
theorem completes_wroteIf {i : Instr} {lockOk : Bool} {body : M Unit} {s : State} {w : Nat} {rm : Rm} {v : BitVec w} {b : Bool}
    {m : Word} {g : Word → Word} (hi : exec i s = instr lockOk body s) (hs : s.ready) (hl : s.lockOk lockOk = true)
    (hb : Runs body s.start fun _ u => ∃ f, Like ((s.start.wroteIf b w rm v).flagged m (g f)) u) :
    Completes i s fun t => ∃ f,
      (if b then Wrote s t w rm v else Untouched s t) ∧ t.eflags = flagsAfter s m (g f) ∧ Falls s t := by
  refine completes_of_some_like hi hs hl (runs_mono hb ?_)
  rintro _ u ⟨f, h⟩
  refine ⟨_, h, Calm.trans ?_ (calm_flagged _ _ _), ?_, fun t hg hm hf ht => ⟨f, ?_, ?_, ht⟩⟩
  · cases b with
    | true => exact (calm_start s).trans (calm_wrote _ _ _ _)
    | false => exact calm_start s
  · cases b <;> rfl
  · cases b with
    | true => exact wrote_of_start hs.1 hg hm
    | false => exact untouched_of hg hm
  · rw [hf]
    cases b <;> rfl

theorem testsBits : TestsBits := by
  refine ⟨fun op rm k s hs hl hc => ?imm, fun op d r s hs hl => ?reg, fun op m r s hs hl => ?mem⟩
  case imm =>
    have hb := like_bitEvIb (Like.refl s.start) op k (rm := rm) (by simpa using hc)
    simp only [start_val, start_o32] at hb
    exact completes_wroteIf (g := fun f => setBit f fCF _) (exec_bitInsI op rm k s) hs hl hb
  case reg =>
    have hb := like_bitEvGv_reg (Like.refl s.start) op d r
    simp only [start_r32, start_o32] at hb
    have hl' : s.lockOk (op.writes && isMem (.reg d : Rm)) = true := by simpa [isMem] using hl
    exact completes_wroteIf (g := fun f => setBit f fCF _) (exec_bitInsR op (.reg d) r s) hs hl' hb
  case mem =>
    intro w n index off a hr
    have hoff : bitOffset s.start m r = off := by cases m <;> rfl
    have hb := like_bitEvGv_mem (Like.refl s.start) op m r (by simpa [hoff] using hr)
    simp only [hoff, start_r32, start_o32, start_eaSeg, start_lin, start_num] at hb
    have hl' : s.lockOk (op.writes && isMem (.mem m : Rm)) = true := by simpa [isMem] using hl
    refine completes_of_some_like (exec_bitInsR op (.mem m) r s) hs hl' (runs_mono hb ?_)
    rintro _ u ⟨f, h⟩
    cases hop : op.writes with
    | true =>
      rw [hop] at h
      exact ⟨_, h, by constructor <;> rfl, rfl, fun t hg hm hf ht =>
        ⟨f, hg, stored_memWriteList hs.1 hm, hf, ht⟩⟩
    | false =>
      rw [hop] at h
      exact ⟨_, h, by constructor <;> rfl, rfl, fun t hg hm hf ht => ⟨f, hg, memSame_of hm, hf, ht⟩⟩

/-! ### Bit scans -/

theorem lowestBit_spec {w : Nat} (x : BitVec w) (i n : Nat) :
    match lowestBit x i n with
    | some k => i ≤ k ∧ k < i + n ∧ bit x k = true ∧ ∀ j, i ≤ j → j < k → bit x j = false
    | none => ∀ j, i ≤ j → j < i + n → bit x j = false := by
  induction n generalizing i with
  | zero => intro j h1 h2; omega
  | succ n ih =>
    rw [lowestBit]
    cases hb : bit x i with
    | true => exact ⟨le_refl i, by omega, hb, fun j h1 h2 => by omega⟩
    | false =>
      have hstep (j : Nat) (h : i ≤ j) : j = i ∨ i + 1 ≤ j := by omega
      have hrec := ih (i + 1)
      simp only [Bool.false_eq_true, if_false]
      cases hl : lowestBit x (i + 1) n with
      | some k =>
        rw [hl] at hrec
        obtain ⟨h1, h2, h3, h4⟩ := hrec
        refine ⟨by omega, by omega, h3, fun j hj hk => ?_⟩
        rcases hstep j hj with rfl | hj'
        · exact hb
        · exact h4 j hj' hk
      | none =>
        rw [hl] at hrec
        intro j hj hk
        rcases hstep j hj with rfl | hj'
        · exact hb
        · exact hrec j hj' (by omega)

theorem highestBit_spec {w : Nat} (x : BitVec w) (n : Nat) :
    match highestBit x n with
    | some k => k < n ∧ bit x k = true ∧ ∀ j, k < j → j < n → bit x j = false
    | none => ∀ j, j < n → bit x j = false := by
  induction n with
  | zero => intro j h; omega
  | succ n ih =>
    rw [highestBit]
    cases hb : bit x n with
    | true => exact ⟨by omega, hb, fun j h1 h2 => by omega⟩
    | false =>
      have hstep (j : Nat) (h : j < n + 1) : j = n ∨ j < n := by omega
      simp only [Bool.false_eq_true, if_false]
      cases hl : highestBit x n with
      | some k =>
        rw [hl] at ih
        obtain ⟨h1, h2, h3⟩ := ih
        refine ⟨by omega, h2, fun j hj hk => ?_⟩
        rcases hstep j hk with rfl | hk'
        · exact hb
        · exact h3 j hj hk'
      | none =>
        rw [hl] at ih
        intro j hj
        rcases hstep j hj with rfl | hj'
        · exact hb
        · exact ih j hj'

theorem bit_false_iff_zero {w : Nat} (x : BitVec w) : (∀ j < w, bit x j = false) ↔ x = 0 := by
  constructor
  · intro h
    apply BitVec.eq_of_getLsbD_eq
    intro j hj
    simpa [bit] using h j hj
  · rintro rfl j -
    simp [bit]

/-- The scan of BSF or BSR. -/
def scanBit {w : Nat} (low : Bool) (x : BitVec w) : Option Nat := if low then lowestBit x 0 w else highestBit x w

theorem scanBit_spec {w : Nat} (low : Bool) (x : BitVec w) :
    match scanBit low x with
    | some k => x ≠ 0 ∧ isScan low x k
    | none => x = 0 := by
  have hne {k : Nat} (hk : k < w) (hb : bit x k = true) : x ≠ 0 := fun h0 => by
    rw [(bit_false_iff_zero x).2 h0 k hk] at hb
    cases hb
  cases low with
  | true =>
    have hs := lowestBit_spec x 0 w
    rw [scanBit, if_pos rfl]
    cases hl : lowestBit x 0 w with
    | some k =>
      rw [hl] at hs
      obtain ⟨-, h2, h3, h4⟩ := hs
      exact ⟨hne (by omega) h3, by omega, h3, fun j _ hk => h4 j (by omega) hk⟩
    | none =>
      rw [hl] at hs
      exact (bit_false_iff_zero x).1 fun j hj => hs j (by omega) (by omega)
  | false =>
    have hs := highestBit_spec x w
    rw [scanBit, if_neg (by decide)]
    cases hl : highestBit x w with
    | some k =>
      rw [hl] at hs
      obtain ⟨h1, h2, h3⟩ := hs
      exact ⟨hne h1 h2, h1, h2, fun j hj hk => h3 j hk hj⟩
    | none =>
      rw [hl] at hs
      exact (bit_false_iff_zero x).1 hs

/-- What a bit scan of `x` leaves of registers and flags. -/
def State.scanned (s : State) {w : Nat} (low : Bool) (r : Reg) (x : BitVec w) (f : Word) : State :=
  let s' := s.flagged arithMask (setBit f fZF (decide (x = 0)))
  match scanBit low x with
  | some k => s'.wrote w (.reg r) (BitVec.ofNat w k)
  | none => s'

theorem like_bitScan {s u : State} (h : Like s u) (low : Bool) (r : Reg) {rm : Rm}
    (hc : s.can rm (bytes s.o32) .read = true) {x : BitVec (bits s.o32)} (hx : s.val (bits s.o32) rm = x) :
    Runs (bitScan low r rm) u fun _ v => ∃ f : Word, Like (s.scanned low r x f) v := by
  refine like_getW h (runs_bind (like_readRm h (bits_div_pos _) (State.can_bytes hc)) fun y v ⟨hy, hv⟩ => ?_)
  obtain rfl := hy.trans hx
  refine runs_bind (like_draw hv 32) fun f v1 h1 => runs_bind (like_putFlagsMasked h1 _ _) fun _ v2 h2 => ?_
  change Runs (match scanBit low y with
    | some k => writeLoc (bits s.o32) (.reg r) (BitVec.ofNat (bits s.o32) k)
    | none => pure ()) v2 _
  simp only [State.scanned]
  cases scanBit low y with
  | some k => exact runs_mono (like_wroteReg h2 r _) fun _ _ h3 => ⟨f, h3⟩
  | none => exact runs_pure ⟨f, h2⟩

theorem exec_bitScan (low : Bool) (r : Reg) (rm : Rm) (s : State) :
    exec (if low then .bsfGvEv r rm else .bsrGvEv r rm) s = instr false (bitScan low r rm) s := by cases low <;> rfl

theorem scansBits : ScansBits := by
  intro low r rm s hs hl hc
  have hb : Runs (bitScan low r rm) s.start fun _ u =>
      ∃ f, Like (s.start.scanned (w := bits s.o32) low r (s.val (bits s.o32) rm) f) u :=
    like_bitScan (Like.refl s.start) low r (by simpa using hc) (start_val s (bits s.o32) rm)
  refine completes_of_some_like (exec_bitScan low r rm s) hs hl (runs_mono hb ?_)
  rintro _ u ⟨f, h⟩
  have hspec := scanBit_spec low (s.val (bits s.o32) rm)
  simp only [State.scanned] at h
  cases hsc : scanBit low (s.val (bits s.o32) rm) with
  | some k =>
    rw [hsc] at h hspec
    obtain ⟨hne, hk⟩ := hspec
    refine ⟨_, h, ((calm_start s).trans (calm_flagged _ _ _)).trans (calm_wrote _ _ _ _), rfl,
      fun t hg hm hf ht => ⟨f, ?_, hf, ht⟩⟩
    rw [if_neg hne]
    refine ⟨k, hk, wrote_of_start hs.1 (hg.trans ?_) hm⟩
    dsimp only
    rw [wrote_reg, wrote_reg, setRw_flagged]
    rfl
  | none =>
    rw [hsc] at h hspec
    refine ⟨_, h, (calm_start s).trans (calm_flagged _ _ _), rfl, fun t hg hm hf ht => ⟨f, ?_, hf, ht⟩⟩
    rw [if_pos hspec]
    exact untouched_of hg hm

/-- Settles O57. -/
theorem bitTests : Obligations.BitTests := ⟨testsBits, scansBits⟩

end Sys2Proof.Machine

/-! SUPPORT. Flag instructions, and completion in full. -/
namespace Sys2Proof.Machine
open Host

/-- A body that ends normally completes with the state it ends in, completed. -/
theorem completes_of_ends {i : Instr} {lockOk : Bool} {body : M Unit} {s : State} {q : State → Prop}
    (hi : exec i s = instr lockOk body s) (hl : s.lockOk lockOk = true)
    (hb : Runs body s.start fun _ u => (u.tr.branched = true → u.noLbr = true) ∧ q (u.completed s)) :
    Completes i s q := by
  obtain ⟨_, u, hx, hbr, hq⟩ := hb
  exact ⟨_, hi.trans (instr_next hl hx hbr), hq⟩

theorem falls_completed {s u : State} (hc : Calm s u) (he : u.eip = s.nextEip) : Falls s (u.completed s) := ⟨he, hc.quiet⟩

/-- EFLAGS after a body that has marked nothing. -/
theorem Calm.completed_eflags {s u : State} (hs : s.ready) (hc : Calm s u) :
    (u.completed s).eflags = setBit u.eflags fRF false :=
  Machine.completed_eflags (by rw [hc.keepRf, hs.2]; rfl) (by rw [hc.repeats, hs.2]; rfl)

theorem Calm.branched_lbr {s u : State} (hs : s.ready) (hc : Calm s u) : u.tr.branched = true → u.noLbr = true := by
  intro hb
  rw [hc.branched, hs.2] at hb
  cases hb

theorem Like.calm {s s' u : State} (h : Like s' u) (hc : Calm s s') : Calm s u := (h.at hc).calm

/-- An instruction whose body sets one flag completes with it. -/
theorem completes_setFlag {i : Instr} {body : M Unit} {s : State} {k : Nat} {b : Bool}
    (hi : exec i s = instr false body s) (hs : s.ready) (hl : s.lockOk false = true)
    (hb : Runs body s.start fun _ u => Like (s.start.setFlag k b) u) :
    Completes i s fun t => Untouched s t ∧ t.eflags = setBit (setBit s.eflags k b) fRF false ∧ Falls s t :=
  completes_of_like hi hs hl hb ((calm_start s).trans (calm_setFlag _ _ _)) rfl fun _ hg hm hf ht =>
    ⟨untouched_of hg hm, hf, ht⟩

theorem like_lahf {s u : State} (h : Like s u) :
    Runs lahfBody u fun _ v => Like (s.setR8 .ah ((s.eflags.setWidth 8 &&& 0xD5#8) ||| 2#8)) v :=
  like_get_bind h fun k st n b => by
    have hf : field s.eflags 0 8 = s.eflags.setWidth 8 := BitVec.eq_of_toNat_eq (by simp [field])
    rw [noisy_eflags, hf]
    exact like_putR8 (like_noisy s k st n b) .ah _

theorem like_sahf {s u : State} (h : Like s u) :
    Runs sahfBody u fun _ v => Like (s.flagged 0xD5#32 ((s.r8 .ah).setWidth 32)) v :=
  like_get_bind h fun k st n b => by
    rw [noisy_r8]
    exact like_putFlagsMasked (like_noisy s k st n b) _ _

theorem like_cmc {s u : State} (h : Like s u) : Runs cmcBody u fun _ v => Like (s.setFlag fCF (!s.flag fCF)) v :=
  like_get_bind h fun k st n b => by
    rw [noisy_flag]
    exact like_putFlag (like_noisy s k st n b) _ _

theorem movesFlags : MovesFlags := by
  refine ⟨fun s hs hl => ?lahf, fun s hs hl => ?sahf, fun i k b s hi hs hl => ?one⟩
  case lahf =>
    have hb := like_lahf (Like.refl s.start)
    rw [← wrote8_reg] at hb
    exact completes_wrote8 (i := .lahf) (body := lahfBody) rfl hs hl hb
  case sahf =>
    have hb := like_sahf (Like.refl s.start)
    rw [start_r8] at hb
    exact completes_of_like (i := .sahf) (body := sahfBody) rfl hs hl hb ((calm_start s).trans (calm_flagged _ _ _)) rfl
      fun t hg hm hf ht => ⟨untouched_of hg hm, hf, ht⟩
  case one =>
    have hput (i : Instr) (k : Nat) (b : Bool) (hi : exec i s = instr false (putFlag k b) s) :=
      completes_setFlag hi hs hl (like_putFlag (Like.refl s.start) k b)
    rcases hi with ⟨rfl, rfl, rfl⟩ | ⟨rfl, rfl, rfl⟩ | ⟨rfl, rfl, rfl⟩ | ⟨rfl, rfl, rfl⟩ | ⟨rfl, rfl, rfl⟩
    · exact hput .clc _ _ rfl
    · exact hput .stc _ _ rfl
    · have hb := like_cmc (Like.refl s.start)
      rw [start_flag] at hb
      exact completes_setFlag (i := .cmc) rfl hs hl hb
    · exact hput .cld _ _ rfl
    · exact hput .std _ _ rfl

/-- CLI and STI find their flag or raise #GP(0). -/
theorem run_interruptFlag (s : State) :
    interruptFlag s = match iflagTarget s with | some k => .ok k s | none => raise 13 (some 0) s := by
  simp only [interruptFlag, iflagTarget, run_bind, run_get]
  cases s.prot with
  | false => rfl
  | true =>
    cases s.flag fVM with
    | false =>
      by_cases hc : s.cpl ≤ s.iopl
      · simp only [Bool.not_true, Bool.not_false, if_true, if_pos hc]; rfl
      · simp only [Bool.not_true, Bool.not_false, if_true, if_neg hc]
        cases (bit s.sys.cr4 1 && decide (s.cpl = 3)) <;> rfl
    | true =>
      by_cases hc : s.iopl = 3
      · simp only [Bool.not_true, if_pos hc]; rfl
      · simp only [Bool.not_true, if_neg hc]
        cases bit s.sys.cr4 0 <;> rfl

theorem iflagTarget_start (s : State) : iflagTarget s.start = iflagTarget s := rfl

theorem iflagTarget_cases {s : State} {k : Nat} (h : iflagTarget s = some k) : k = 9 ∨ k = 19 := by
  unfold iflagTarget at h
  split at h
  · simp_all
  · split at h
    · split at h
      · simp_all
      · split at h <;> simp_all
    · split at h
      · simp_all
      · split at h <;> simp_all

/-- What STI leaves. -/
def State.stiSet (s : State) (k : Nat) : State :=
  if k = fVIF then s.setFlag fVIF true else ({ s with tr := { s.tr with sti := !s.flag fIF } } : State).setFlag fIF true

theorem run_stiBody {s : State} {k : Nat} (h : iflagTarget s = some k) (hv : k = 19 → s.flag fVIP = false) :
    stiBody s = .ok () (s.stiSet k) := by
  simp only [stiBody, run_bind, run_interruptFlag, h, run_get, State.stiSet]
  by_cases hk : k = fVIF
  · rw [if_pos hk, if_pos hk, hv hk]
    rfl
  · rw [if_neg hk, if_neg hk]
    rfl

theorem calm_stiSet (s : State) (k : Nat) : Calm s (s.stiSet k) := by
  unfold State.stiSet
  split <;> constructor <;> rfl

theorem stiSet_eflags {s : State} {k : Nat} (hk : k = 9 ∨ k = 19) : (s.stiSet k).eflags = setBit s.eflags k true := by
  rcases hk with rfl | rfl <;> rfl

theorem stiSet_sti {s : State} {k : Nat} (hs : s.tr = Trans.clear) (hk : k = 9 ∨ k = 19) :
    (s.stiSet k).tr.sti = (decide (k = 9) && !s.flag fIF) ∧ (s.stiSet k).tr.ssLoad = false := by
  rcases hk with rfl | rfl
  · exact ⟨rfl, by rw [show (s.stiSet 9).tr.ssLoad = s.tr.ssLoad from rfl, hs]; rfl⟩
  · exact ⟨by rw [show (s.stiSet 19).tr.sti = s.tr.sti from rfl, hs]; rfl,
      by rw [show (s.stiSet 19).tr.ssLoad = s.tr.ssLoad from rfl, hs]; rfl⟩

theorem setsInterruptFlag : SetsInterruptFlag := by
  refine ⟨fun k s hs hl hk => ?cli, fun k s hs hl hk hv => ?sti, fun s hl hk => ⟨?noCli, ?noSti⟩, fun s hl hk hv => ?vip⟩
  case cli =>
    refine completes_setFlag (i := .cli) (body := cliBody) rfl hs hl ⟨(), s.start.setFlag k false, ?_, Like.refl _⟩
    simp only [cliBody, run_bind, run_interruptFlag, iflagTarget_start, hk]
    rfl
  case sti =>
    have hk' := iflagTarget_cases hk
    have hcalm := (calm_start s).trans (calm_stiSet s.start k)
    obtain ⟨hsti, hss⟩ := stiSet_sti (s := s.start) hs.2 hk'
    have hrep : (s.start.stiSet k).tr.repeats = false := by rw [hcalm.repeats, hs.2]; rfl
    refine completes_of_ends (i := .sti) (body := stiBody) rfl hl
      ⟨(), _, run_stiBody (s := s.start) hk hv, hcalm.branched_lbr hs, ?_⟩
    refine ⟨untouched_of ?_ ?_, ?_, falls_completed hcalm ?_, ?_, ?_⟩
    · rcases hk' with rfl | rfl <;> rfl
    · rcases hk' with rfl | rfl <;> rfl
    · rw [hcalm.completed_eflags hs, stiSet_eflags hk']
      rfl
    · rcases hk' with rfl | rfl <;> rfl
    · simp [State.completed, hrep, hsti]
    · simp [State.completed, hrep, hss]
  case noCli =>
    exact raises_of_body (i := .cli) (body := cliBody) rfl hl
      (run_bind_raise _ (by rw [run_interruptFlag, iflagTarget_start, hk]))
  case noSti =>
    exact raises_of_body (i := .sti) (body := stiBody) rfl hl
      (run_bind_raise _ (by rw [run_interruptFlag, iflagTarget_start, hk]))
  case vip =>
    refine raises_of_body (i := .sti) (body := stiBody) rfl hl ?_
    simp only [stiBody, run_bind, run_interruptFlag, iflagTarget_start, hk, run_get, start_flag, hv]
    rfl

/-- Settles O58. -/
theorem flagMoves : Obligations.FlagMoves := ⟨movesFlags, setsInterruptFlag⟩

end Sys2Proof.Machine

/-! SUPPORT. The stack: one rule for a push and one for a pop, and the instructions made of them. -/
namespace Sys2Proof.Machine
open Host

/-! ### Stack offsets -/

theorem Seg.cutSp_add (g : Seg) (x y : Word) : g.cutSp (g.cutSp x + y) = g.cutSp (x + y) := by
  unfold Seg.cutSp
  split
  · rfl
  · apply BitVec.eq_of_toNat_eq
    have hm (a : Nat) : a &&& 65535 = a % 65536 := Nat.and_two_pow_sub_one_eq_mod a 16
    simp only [BitVec.toNat_and, BitVec.toNat_add, BitVec.toNat_ofNat]
    norm_num [hm]

theorem Seg.cutSp_idem (g : Seg) (x : Word) : g.cutSp (g.cutSp x) = g.cutSp x := by
  simpa using g.cutSp_add x 0

theorem Seg.cutSp_sub (g : Seg) (x y : Word) : g.cutSp (g.cutSp x - y) = g.cutSp (x - y) := by
  simpa only [BitVec.sub_eq_add_neg] using g.cutSp_add x (-y)

theorem sp_eq_cutSp (s : State) : s.sp = s.seg.ss.cutSp (s.r32 .esp) := rfl

theorem cutSp_sp (s : State) : s.seg.ss.cutSp s.sp = s.sp := s.seg.ss.cutSp_idem _

theorem popOff_zero (s : State) : s.popOff 0 = s.sp := by
  simpa [State.popOff] using cutSp_sp s

@[simp] theorem setSp_seg (s : State) (x : Word) : (s.setSp x).seg = s.seg := by rw [setSp_eq]
@[simp] theorem setSp_mem (s : State) (x : Word) : (s.setSp x).mem = s.mem := by rw [setSp_eq]
@[simp] theorem setSp_eip (s : State) (x : Word) : (s.setSp x).eip = s.eip := by rw [setSp_eq]
@[simp] theorem setSp_eflags (s : State) (x : Word) : (s.setSp x).eflags = s.eflags := by rw [setSp_eq]
@[simp] theorem setSp_reaches (s : State) (x : Word) (r : SegReg) (off : Word) (i j : Nat) (a : Access) :
    (s.setSp x).reaches r off i j a = s.reaches r off i j a := by rw [setSp_eq]; rfl
@[simp] theorem setSp_lin (s : State) (x : Word) (r : SegReg) (off : Word) : (s.setSp x).lin r off = s.lin r off := by
  rw [setSp_eq]; rfl
@[simp] theorem setSp_num (s : State) (x : Word) (a n : Nat) : (s.setSp x).num a n = s.num a n := by rw [setSp_eq]; rfl
@[simp] theorem setSp_o32 (s : State) (x : Word) : (s.setSp x).o32 = s.o32 := by rw [setSp_eq]; rfl
@[simp] theorem setSp_plain (s : State) (x : Word) : (s.setSp x).plain = s.plain := by rw [setSp_eq]; rfl

theorem low16_blend (x y : Word) : blend 0xFFFF#32 x (zx32 (field y 0 16 : Half)) &&& 0xFFFF#32 = y &&& 0xFFFF#32 := by
  apply BitVec.eq_of_getLsbD_eq
  intro i hi
  have hm : (0xFFFF#32).getLsbD i = decide (i < 16) := by
    have hones : 0xFFFF#32 = (BitVec.allOnes 16).setWidth 32 := by decide
    rw [hones, BitVec.getLsbD_setWidth, BitVec.getLsbD_allOnes]
    simp [hi]
  simp only [blend, zx32, field, BitVec.getLsbD_and, BitVec.getLsbD_or, BitVec.getLsbD_not, BitVec.getLsbD_setWidth,
    BitVec.getLsbD_extractLsb', hm, hi]
  by_cases h : i < 16 <;> simp [h]

@[simp] theorem setSp_sp (s : State) (x : Word) : (s.setSp x).sp = s.seg.ss.cutSp x := by
  simp only [State.sp, setSp_seg, Seg.cutSp]
  cases hdb : s.seg.ss.db with
  | true => simp [State.setSp, hdb, State.setR32, Gprs.set]
  | false =>
    simp only [State.setSp, hdb, State.setR16, State.setR32, Gprs.set, Bool.false_eq_true, if_false]
    exact low16_blend _ x

theorem blend_blend (m x y z : Word) : blend m (blend m x y) z = blend m x z := by
  apply BitVec.eq_of_getLsbD_eq
  intro i hi
  simp only [blend, BitVec.getLsbD_or, BitVec.getLsbD_and, BitVec.getLsbD_not, hi, decide_true, Bool.true_and]
  cases m.getLsbD i <;> simp

@[simp] theorem setSp_setSp (s : State) (x y : Word) : (s.setSp x).setSp y = s.setSp y := by
  cases hdb : s.seg.ss.db with
  | true => simp [State.setSp, hdb, State.setR32, Gprs.set]
  | false =>
    simp only [State.setSp, hdb, State.setR16, State.setR32, Gprs.set, Gprs.get, Bool.false_eq_true, if_false]
    rw [blend_blend]

@[simp] theorem setSp_popOff (s : State) (x : Word) (n : Nat) :
    (s.setSp x).popOff n = s.seg.ss.cutSp (x + BitVec.ofNat 32 n) := by
  simp only [State.popOff, setSp_seg, setSp_sp, Seg.cutSp_add]

@[simp] theorem setSp_pushOff (s : State) (x : Word) (n : Nat) :
    (s.setSp x).pushOff n = s.seg.ss.cutSp (x - BitVec.ofNat 32 n) := by
  simp only [State.pushOff, setSp_seg, setSp_sp, Seg.cutSp_sub]

theorem setSp_stored (s : State) (x : Word) (a n v : Nat) : (s.stored a n v).setSp x = (s.setSp x).stored a n v := by
  unfold State.setSp
  rw [stored_seg]
  split <;> rfl

theorem start_setSp (s : State) (x : Word) : s.start.setSp x = (s.setSp x).start := by
  unfold State.setSp
  rw [State.start_seg]
  split <;> rfl

/-! ### Push and pop -/

/-- The state with an item pushed. -/
def State.pushed (s : State) (n v : Nat) : State := (s.stored (s.lin .ss (s.pushOff n)) n v).setSp (s.pushOff n)

theorem pushed_eq (s : State) (n v : Nat) :
    s.pushed n v = { s with gpr := (s.setSp (s.pushOff n)).gpr, mem := (s.stored (s.lin .ss (s.pushOff n)) n v).mem } := by
  rw [State.pushed, setSp_stored, setSp_eq]
  rfl

@[simp] theorem pushed_seg (s : State) (n v : Nat) : (s.pushed n v).seg = s.seg := by rw [pushed_eq]
@[simp] theorem pushed_eip (s : State) (n v : Nat) : (s.pushed n v).eip = s.eip := by rw [pushed_eq]
@[simp] theorem pushed_eflags (s : State) (n v : Nat) : (s.pushed n v).eflags = s.eflags := by rw [pushed_eq]
@[simp] theorem pushed_o32 (s : State) (n v : Nat) : (s.pushed n v).o32 = s.o32 := by rw [pushed_eq]; rfl
theorem pushed_gpr (s : State) (n v : Nat) : (s.pushed n v).gpr = (s.setSp (s.pushOff n)).gpr := by rw [pushed_eq]
theorem pushed_mem (s : State) (n v : Nat) : (s.pushed n v).mem = (s.stored (s.lin .ss (s.pushOff n)) n v).mem := by
  rw [pushed_eq]
@[simp] theorem pushed_reaches (s : State) (n v : Nat) (r : SegReg) (off : Word) (i j : Nat) (a : Access) :
    (s.pushed n v).reaches r off i j a = s.reaches r off i j a := by rw [pushed_eq]; rfl
@[simp] theorem pushed_lin (s : State) (n v : Nat) (r : SegReg) (off : Word) : (s.pushed n v).lin r off = s.lin r off := by
  rw [pushed_eq]; rfl
theorem pushed_wf {s : State} (h : Memory.wf s.mem = true) (n v : Nat) : Memory.wf (s.pushed n v).mem = true := by
  rw [pushed_mem]
  exact wf_memWriteList h

theorem calm_pushed (s : State) (n v : Nat) : Calm s (s.pushed n v) := by rw [pushed_eq]; constructor <;> rfl

theorem pushed_sp (s : State) (n v : Nat) : (s.pushed n v).sp = s.pushOff n := by
  rw [State.pushed, setSp_sp, stored_seg]
  exact s.seg.ss.cutSp_idem _

/-- What a push leaves. -/
theorem pushed_of {s t : State} {n v : Nat} (hs : Memory.wf s.mem = true) (hseg : t.seg = s.seg)
    (hg : t.gpr = (s.pushed n v).gpr) (hm : t.mem = (s.pushed n v).mem) : Pushed s t n v :=
  ⟨hseg, hg.trans (pushed_gpr s n v), stored_memWriteList hs (hm.trans (pushed_mem s n v))⟩

theorem noisy_setSp (s : State) (k : BitVec 4) (st : List StaleByte) (n : Nat) (b : Bool) (x : Word) :
    (s.noisy k st n b).setSp x = (s.setSp x).noisy k st n b := blind_setSp x s k st n b

theorem like_push {s u : State} (h : Like s u) {n : Nat} (v : Nat) (hn : 0 < n) (hc : s.canPush n = true) :
    Runs (push n v) u fun _ t => Like (s.pushed n v) t := by
  refine like_get_bind h fun k st c b => ?_
  simp only [noisy_seg, noisy_sp]
  refine runs_bind (like_segWrite (like_noisy s k st c b) v hc hn) fun _ t ht => ?_
  exact like_modify ht (blind_setSp (s.pushOff n))

theorem like_addSp {s u : State} (h : Like s u) (k : Word) :
    Runs (addSp k) u fun _ t => Like (s.setSp (s.seg.ss.cutSp (s.sp + k))) t := by
  obtain ⟨j, st, c, b, rfl⟩ := h
  exact ⟨_, _, rfl, j, st, c, b, by simp only [noisy_seg, noisy_sp, noisy_setSp]⟩

theorem like_pop {s u : State} (h : Like s u) {n : Nat} (hn : 0 < n) (hc : s.canPop 0 n = true) :
    Runs (pop n) u fun x t => x = s.item 0 n ∧ Like (s.setSp (s.popOff n)) t := by
  rw [State.canPop, popOff_zero] at hc
  rw [State.item, popOff_zero]
  refine like_get_bind h fun k st c b => ?_
  rw [noisy_sp]
  refine runs_bind (like_segRead (like_noisy s k st c b) hc hn) fun x t ⟨hx, ht⟩ => ?_
  exact runs_bind (like_addSp ht _) fun _ v hv => runs_pure ⟨hx, hv⟩

theorem like_peek {s u : State} (h : Like s u) {j n : Nat} (hn : 0 < n) (hc : s.canPop j n = true) :
    Runs (peek j n) u fun x t => x = s.item j n ∧ Like s t := by
  refine like_get_bind h fun k st c b => ?_
  simp only [noisy_seg, noisy_sp]
  exact like_segRead (like_noisy s k st c b) hc hn

theorem bytes_pos (o : Bool) : 0 < bytes o := by cases o <;> decide

/-- The stack operations at the state a body starts from are those of the instruction. -/
theorem start_pushed_gpr (s : State) (n v : Nat) : (s.start.pushed n v).gpr = (s.pushed n v).gpr := by
  rw [pushed_gpr, pushed_gpr, start_pushOff, start_setSp]
  rfl
theorem start_pushed_mem (s : State) (n v : Nat) : (s.start.pushed n v).mem = (s.pushed n v).mem := by
  rw [pushed_mem, pushed_mem, start_pushOff, start_lin]
  rfl

/-- An instruction whose body pushes one item completes with it. -/
theorem completes_pushed {i : Instr} {lockOk : Bool} {body : M Unit} {s : State} {n v : Nat}
    (hi : exec i s = instr lockOk body s) (hs : s.ready) (hl : s.lockOk lockOk = true)
    (hb : Runs body s.start fun _ u => Like (s.start.pushed n v) u) :
    Completes i s fun t => Pushed s t n v ∧ FlagsSame s t ∧ Falls s t :=
  completes_of_like hi hs hl hb ((calm_start s).trans (calm_pushed _ _ _)) (pushed_eip _ _ _) fun t hg hm hf ht =>
    ⟨pushed_of hs.1 ht.2.2 (hg.trans (start_pushed_gpr s n v)) (hm.trans (start_pushed_mem s n v)),
     hf.trans (by rw [pushed_eflags]; rfl), ht⟩

/-- The body of a PUSH. -/
def PushSrc.body : PushSrc → M Unit
  | .reg r => pushReg r
  | .iv k => pushImm k
  | .ib k => pushImm (k.signExtend 32)
  | .seg r => pushSeg r

theorem exec_push (p : PushSrc) (s : State) : exec p.instr s = Machine.instr false p.body s := by
  cases p with
  | reg | iv | ib => rfl
  | seg r => cases r <;> rfl

theorem like_pushW {s u : State} (h : Like s u) (o : Bool) (v : BitVec (bits o)) (hc : s.canPush (bytes o) = true) :
    Runs (pushW (bits o) v) u fun _ t => Like (s.pushed (bytes o) v.toNat) t := by
  rw [pushW, bits_div]
  exact like_push h _ (bytes_pos o) hc

theorem signExtend_setWidth_bits (k : Byte) (o : Bool) : (k.signExtend 32).setWidth (bits o) = k.signExtend (bits o) := by
  cases o with
  | true => simp [bits]
  | false =>
    apply BitVec.eq_of_getLsbD_eq
    intro i hi
    have hi' : i < 16 := hi
    have hi32 : i < 32 := by omega
    simp only [bits, BitVec.getLsbD_setWidth, BitVec.getLsbD_signExtend, Bool.false_eq_true, if_false, hi', hi32,
      decide_true, Bool.true_and]

theorem like_pushSrc {s u : State} (h : Like s u) (p : PushSrc) (hc : s.canPush (bytes s.o32) = true) :
    Runs p.body u fun _ t => Like (s.pushed (bytes s.o32) (p.value s (bits s.o32)).toNat) t := by
  cases p with
  | reg r => exact like_getW h (runs_bind (like_readG h _ r) fun x v ⟨hx, hv⟩ => hx ▸ like_pushW hv _ _ hc)
  | iv k => exact like_getW h (like_pushW h _ _ hc)
  | ib k =>
    refine like_getW h ?_
    rw [signExtend_setWidth_bits]
    exact like_pushW h _ _ hc
  | seg r =>
    refine like_get_bind h fun k st c b => ?_
    simp only [noisy_o32, noisy_seg]
    have hv : (PushSrc.value s (bits s.o32) (.seg r)).toNat = (s.seg.get r).sel.toNat := by
      have hlt := (s.seg.get r).sel.isLt
      have hle : 2 ^ 16 ≤ 2 ^ bits s.o32 := by cases s.o32 <;> decide
      simp only [PushSrc.value, BitVec.toNat_setWidth]
      exact Nat.mod_eq_of_lt (by omega)
    rw [hv]
    exact like_push (like_noisy s k st c b) _ (bytes_pos _) hc

theorem like_pushEv {s u : State} (h : Like s u) {rm : Rm} (hc : s.canPush (bytes s.o32) = true)
    (hr : s.can rm (bytes s.o32) .read = true) :
    Runs (pushEvBody rm) u fun _ t => Like (s.pushed (bytes s.o32) (s.val (bits s.o32) rm).toNat) t :=
  like_getW h (runs_bind (like_readRm h (bits_div_pos _) (State.can_bytes hr)) fun _ _ ⟨hx, hv⟩ => hx ▸ like_pushW hv _ _ hc)

/-- Settles O12. -/
theorem pushes : Obligations.Pushes := by
  refine ⟨fun p s hs hl hc => ?src, fun rm s hs hl hc hr => ?ev⟩
  case src =>
    have hb := like_pushSrc (Like.refl s.start) p (by simpa using hc)
    have hv : p.value s.start (bits s.start.o32) = p.value s (bits s.o32) := by cases p <;> rfl
    rw [hv] at hb
    exact completes_pushed (exec_push p s) hs hl hb
  case ev =>
    have hb := like_pushEv (Like.refl s.start) (rm := rm) (by simpa using hc) (by simpa using hr)
    have hv : (s.start.val (bits s.start.o32) rm).toNat = (s.val (bits s.o32) rm).toNat :=
      congrArg BitVec.toNat (start_val s (bits s.o32) rm)
    rw [hv] at hb
    exact completes_pushed (i := .pushEv rm) (body := pushEvBody rm) rfl hs hl hb

end Sys2Proof.Machine

/-! SUPPORT. Pops, and the instructions that push or pop several items. -/
namespace Sys2Proof.Machine
open Host

/-- An instruction whose body moves the stack pointer and then writes one operand. -/
theorem completes_setSp_wrote {i : Instr} {lockOk : Bool} {body : M Unit} {s : State} {x : Word} {w : Nat} {rm : Rm}
    {v : BitVec w} (hi : exec i s = instr lockOk body s) (hs : s.ready) (hl : s.lockOk lockOk = true)
    (hb : Runs body s.start fun _ u => Like ((s.start.setSp x).wrote w rm v) u) :
    Completes i s fun t => Wrote (s.setSp x) t w rm v ∧ FlagsSame s t ∧ Falls s t := by
  have hwf : Memory.wf (s.setSp x).mem = true := by simpa using hs.1
  refine completes_of_like hi hs hl hb (((calm_start s).trans (calm_setSp _ _)).trans (calm_wrote _ _ _ _))
    (by simp [State.start]) fun t hg hm hf ht => ⟨?_, hf.trans (by simp), ht⟩
  rw [start_setSp] at hg hm
  exact wrote_of_start hwf hg hm

theorem like_popReg {s u : State} (h : Like s u) (r : Reg) (hc : s.canPop 0 (bytes s.o32) = true) :
    Runs (popReg r) u fun _ t => Like ((s.setSp (s.popOff (bytes s.o32))).wrote (bits s.o32) (.reg r)
      (BitVec.ofNat _ (s.item 0 (bytes s.o32)))) t := by
  refine like_getW h ?_
  rw [bits_div]
  exact runs_bind (like_pop h (bytes_pos _) hc) fun x v ⟨hx, hv⟩ => by
    rw [wrote_reg, ← hx]
    exact like_writeReg hv _ r _

theorem like_popEv {s u : State} (h : Like s u) {rm : Rm} (hc : s.canPop 0 (bytes s.o32) = true)
    (hr : (s.setSp (s.popOff (bytes s.o32))).can rm (bytes s.o32) .write = true) :
    Runs (popEvBody rm) u fun _ t => Like ((s.setSp (s.popOff (bytes s.o32))).wrote (bits s.o32) rm
      (BitVec.ofNat _ (s.item 0 (bytes s.o32)))) t := by
  refine like_getW h ?_
  refine runs_bind (q := fun x t => x = s.item 0 (bytes s.o32) ∧ Like (s.setSp (s.popOff (bytes s.o32))) t) ?_ ?_
  · rw [bits_div]
    exact like_pop h (bytes_pos _) hc
  · rintro _ t ⟨rfl, ht⟩
    exact like_writeRm ht _ (bits_div_pos _) (by rw [bits_div]; exact hr)

/-- Settles O13. -/
theorem pops : Obligations.Pops := by
  refine ⟨fun r s hs hl hc => ?reg, fun rm s hs hl hc hr => ?ev⟩
  case reg =>
    have hb := like_popReg (Like.refl s.start) r (by simpa using hc)
    rw [start_popOff, start_item] at hb
    exact completes_setSp_wrote (i := .popRv r) (body := popReg r) rfl hs hl hb
  case ev =>
    have hb := like_popEv (Like.refl s.start) (rm := rm) (by simpa using hc)
      (by rw [start_o32, start_popOff, start_setSp, start_can]; exact hr)
    rw [start_popOff, start_item] at hb
    exact completes_setSp_wrote (i := .popEv rm) (body := popEvBody rm) rfl hs hl hb

/-! ### PUSHA and POPA -/

theorem canPushAll_stored (n k a m v : Nat) (s : State) : canPushAll n k (s.stored a m v) = canPushAll n k s := by
  induction k generalizing s with
  | zero => rfl
  | succ k ih => simp only [canPushAll]; rw [setSp_stored]; exact congrArg (s.canPush n && ·) (ih _)

theorem canPushAll_start (n k : Nat) (s : State) : canPushAll n k s.start = canPushAll n k s := by
  induction k generalizing s with
  | zero => rfl
  | succ k ih => simp only [canPushAll, start_canPush, start_pushOff, start_setSp, ih]

theorem canPushAll_succ {n k : Nat} {s : State} (h : canPushAll n (k + 1) s = true) (v : Nat) :
    s.canPush n = true ∧ canPushAll n k (s.pushed n v) = true := by
  simp only [canPushAll, Bool.and_eq_true] at h
  rw [State.pushed, setSp_stored, canPushAll_stored]
  exact h

/-- The state with items pushed one after another. -/
def State.pushedAll (n : Nat) : List Nat → State → State
  | [], s => s
  | v :: vs, s => State.pushedAll n vs (s.pushed n v)

theorem like_pushEach {n : Nat} (hn : 0 < n) (vs : List Nat) {s u : State} (h : Like s u)
    (hc : canPushAll n vs.length s = true) : Runs (pushEach n vs) u fun _ t => Like (State.pushedAll n vs s) t := by
  induction vs generalizing s u with
  | nil => exact runs_pure h
  | cons v vs ih =>
    obtain ⟨h1, h2⟩ := canPushAll_succ hc v
    exact runs_bind (like_push h v hn h1) fun _ t ht => ih ht h2

theorem calm_pushedAll (n : Nat) (vs : List Nat) (s : State) : Calm s (State.pushedAll n vs s) := by
  induction vs generalizing s with
  | nil => exact Calm.refl s
  | cons v vs ih => exact (calm_pushed s n v).trans (ih _)

theorem pushedAll_frame (n : Nat) (vs : List Nat) (s : State) :
    (State.pushedAll n vs s).eip = s.eip ∧ (State.pushedAll n vs s).eflags = s.eflags := by
  induction vs generalizing s with
  | nil => exact ⟨rfl, rfl⟩
  | cons v vs ih => simpa [State.pushedAll] using ih (s.pushed n v)

theorem start_pushed (s : State) (n v : Nat) : s.start.pushed n v = (s.pushed n v).start := by
  rw [State.pushed, start_pushOff, start_lin, show s.start.stored _ n v = (s.stored _ n v).start from rfl, start_setSp]
  rfl

theorem start_pushedAll (n : Nat) (vs : List Nat) (s : State) :
    State.pushedAll n vs s.start = (State.pushedAll n vs s).start := by
  induction vs generalizing s with
  | nil => rfl
  | cons v vs ih => simp only [State.pushedAll, start_pushed, ih]

theorem pushedAll_of {n : Nat} {vs : List Nat} {s t : State} (hs : Memory.wf s.mem = true) (hseg : t.seg = s.seg)
    (hg : t.gpr = (State.pushedAll n vs s).gpr) (hm : t.mem = (State.pushedAll n vs s).mem) : PushedAll n vs s t := by
  induction vs generalizing s with
  | nil => exact ⟨untouched_of hg hm, hseg⟩
  | cons v vs ih =>
    exact ⟨s.pushed n v, pushed_of hs (pushed_seg s n v) rfl rfl,
      ih (pushed_wf hs n v) (hseg.trans (pushed_seg s n v).symm) hg hm⟩

/-- Registers loaded one after another, where no register discards the item. -/
def State.loadedRegs (w : Nat) : List (Option Reg × BitVec w) → State → State
  | [], s => s
  | (some r, v) :: l, s => State.loadedRegs w l (s.setRw w r v)
  | (none, _) :: l, s => State.loadedRegs w l s

theorem setRw_setSp (s : State) {w : Nat} {r : Reg} (hr : r ≠ .esp) (v : BitVec w) (x : Word) :
    (s.setRw w r v).setSp x = (s.setSp x).setRw w r v := by
  unfold State.setSp State.setRw
  split <;> split <;> split <;> first | contradiction | (cases r <;> first | contradiction | rfl)

theorem withGpr_setSp (s : State) (g : Gprs) (x : Word) :
    ({ s with gpr := g } : State).setSp x = { s with gpr := (({ s with gpr := g } : State).setSp x).gpr } := by
  rw [setSp_eq]

theorem loadedRegs_setSp {w : Nat} {l : List (Option Reg × BitVec w)} (hl : ∀ p ∈ l, p.1 ≠ some .esp) (s : State) (x : Word) :
    (State.loadedRegs w l s).setSp x = State.loadedRegs w l (s.setSp x) := by
  induction l generalizing s with
  | nil => rfl
  | cons p l ih =>
    obtain ⟨r, v⟩ := p
    have hrest (q) (hq : q ∈ l) := hl q (List.mem_cons_of_mem _ hq)
    cases r with
    | none => exact ih hrest s
    | some r =>
      have hr : r ≠ .esp := fun he => hl (some r, v) (List.mem_cons_self ..) (congrArg some he)
      simp only [State.loadedRegs]
      rw [ih hrest, setRw_setSp s hr]

theorem loadedRegs_eq (w : Nat) (l : List (Option Reg × BitVec w)) (s : State) :
    State.loadedRegs w l s = { s with gpr := (State.loadedRegs w l s).gpr } := by
  induction l generalizing s with
  | nil => rfl
  | cons p l ih =>
    obtain ⟨r, v⟩ := p
    cases r with
    | none => exact ih s
    | some r =>
      simp only [State.loadedRegs]
      rw [ih, setRw_eq]

/-- The items above the top of the stack from the `j`th on, each with where it goes. -/
def State.popItems (s : State) (w n : Nat) : Nat → List (Option Reg) → List (Option Reg × BitVec w)
  | _, [] => []
  | j, r :: rs => (r, BitVec.ofNat w (s.item (n * j) n)) :: s.popItems w n (j + 1) rs

/-- The `j`th item lies at the top after `j` pops. -/
theorem popOff_next (s : State) (n j : Nat) :
    s.seg.ss.cutSp (s.popOff (n * j) + BitVec.ofNat 32 n) = s.popOff (n * (j + 1)) := by
  rw [State.popOff, Seg.cutSp_add, BitVec.add_assoc, ← BitVec.ofNat_add, State.popOff, Nat.mul_add, Nat.mul_one]

theorem like_popNext {s T u : State} {n : Nat} (hn : 0 < n) (j : Nat) (hT : T = { s with gpr := T.gpr })
    (h : Like (T.setSp (s.popOff (n * j))) u) (hc : s.canPop (n * j) n = true) :
    Runs (pop n) u fun x t => x = s.item (n * j) n ∧ Like (T.setSp (s.popOff (n * (j + 1)))) t := by
  have hseg : T.seg = s.seg := by rw [hT]
  have htop : (T.setSp (s.popOff (n * j))).popOff 0 = s.popOff (n * j) := by
    rw [popOff_zero, setSp_sp, hseg, State.popOff, Seg.cutSp_idem]
  have hreach (off : Word) : T.reaches .ss off n n .read = s.reaches .ss off n n .read := by rw [hT]; rfl
  have hnum (off : Word) : T.num (T.lin .ss off) n = s.num (s.lin .ss off) n := by rw [hT]; rfl
  have hpop := like_pop h hn (by rw [State.canPop, htop, setSp_reaches, hreach]; exact hc)
  rw [State.item, htop, setSp_lin, setSp_num, hnum, setSp_setSp, setSp_popOff, hseg, popOff_next] at hpop
  exact hpop

theorem like_popEach {s u g : State} {o : Bool} (rs : List (Option Reg)) (hesp : ∀ r ∈ rs, r ≠ some .esp) (j : Nat)
    (hg : g = { s with gpr := g.gpr }) (h : Like (g.setSp (s.popOff (bytes o * j))) u)
    (hc : ∀ k, j ≤ k → k < j + rs.length → s.canPop (bytes o * k) (bytes o) = true) :
    Runs (popEach (bits o) rs) u fun _ t =>
      Like ((State.loadedRegs _ (s.popItems (bits o) (bytes o) j rs) g).setSp (s.popOff (bytes o * (j + rs.length)))) t := by
  induction rs generalizing u g j with
  | nil => exact runs_pure h
  | cons r rs ih =>
    have hrest (q) (hq : q ∈ rs) := hesp q (List.mem_cons_of_mem _ hq)
    have hlen : j + (r :: rs).length = j + 1 + rs.length := by simp only [List.length_cons]; omega
    rw [hlen] at hc ⊢
    have hpop := like_popNext (bytes_pos o) j hg h (hc j (le_refl j) (by omega))
    rw [← bits_div] at hpop
    refine runs_bind hpop fun x t ⟨hx, ht⟩ => ?_
    subst hx
    rw [bits_div] at ht ⊢
    cases r with
    | none => exact ih hrest (j + 1) hg ht fun k h1 h2 => hc k (by omega) h2
    | some r =>
      have hr : r ≠ .esp := fun he => hesp (some r) (List.mem_cons_self ..) (congrArg some he)
      refine runs_bind (like_writeReg ht _ r _) fun _ v hv => ?_
      rw [← setRw_setSp g hr] at hv
      exact ih hrest (j + 1) (by rw [setRw_eq, hg]) hv fun k h1 h2 => hc k (by omega) h2

/-- Where POPA puts its items. -/
def popaRegs : List (Option Reg) := [some .edi, some .esi, some .ebp, none, some .ebx, some .edx, some .ecx, some .eax]

/-- A register as a blend of itself. -/
theorem blend_low16_self (x : Word) : blend 0xFFFF#32 x (zx32 (field (x &&& 0xFFFF#32) 0 16 : Half)) = x := by
  have hlow : zx32 (field (x &&& 0xFFFF#32) 0 16 : Half) = x &&& 0xFFFF#32 := by
    apply BitVec.eq_of_toNat_eq
    have hm : x.toNat &&& 65535 = x.toNat % 65536 := Nat.and_two_pow_sub_one_eq_mod x.toNat 16
    simp only [zx32, field, BitVec.toNat_setWidth, BitVec.extractLsb'_toNat, BitVec.toNat_and, BitVec.toNat_ofNat]
    norm_num [hm]
    omega
  rw [hlow]
  apply BitVec.eq_of_getLsbD_eq
  intro i hi
  simp only [blend, BitVec.getLsbD_or, BitVec.getLsbD_and, BitVec.getLsbD_not, hi, decide_true, Bool.true_and]
  cases (0xFFFF#32).getLsbD i <;> simp

theorem setSp_sp_self (s : State) : s.setSp s.sp = s := by
  cases hdb : s.seg.ss.db with
  | true => simp [State.setSp, State.sp, hdb, State.setR32, Gprs.set]
  | false =>
    simp only [State.setSp, State.sp, hdb, State.setR16, State.setR32, Gprs.set, Gprs.get, Bool.false_eq_true, if_false]
    rw [blend_low16_self]

theorem like_popa {s u : State} (h : Like s u) (hc : ∀ k < 8, s.canPop (bytes s.o32 * k) (bytes s.o32) = true) :
    Runs popaBody u fun _ t => Like (State.loadedRegs _ (s.popItems (bits s.o32) (bytes s.o32) 0 popaRegs)
      (s.setSp (s.popOff (bytes s.o32 * 8)))) t := by
  have hself : s.setSp (s.popOff (bytes s.o32 * 0)) = s := by rw [Nat.mul_zero, popOff_zero, setSp_sp_self]
  refine like_getW h ?_
  have hpop := like_popEach (o := s.o32) popaRegs (by decide) 0 rfl (by rw [hself]; exact h) fun k _ hk => hc k (by simpa [popaRegs] using hk)
  rw [loadedRegs_setSp (by simp [State.popItems, popaRegs])] at hpop
  exact hpop

theorem start_loadedRegs (s : State) {w : Nat} (l : List (Option Reg × BitVec w)) :
    State.loadedRegs w l s.start = (State.loadedRegs w l s).start := by
  induction l generalizing s with
  | nil => rfl
  | cons p l ih =>
    obtain ⟨r, v⟩ := p
    cases r with
    | none => exact ih s
    | some r =>
      have hset : s.start.setRw w r v = (s.setRw w r v).start := by
        unfold State.setRw
        split <;> rfl
      simp only [State.loadedRegs, hset, ih]

theorem calm_loadedRegs {w : Nat} (l : List (Option Reg × BitVec w)) (s : State) : Calm s (State.loadedRegs w l s) := by
  rw [loadedRegs_eq]
  exact calm_gpr _ _

/-- What PUSHA pushes. -/
def pushaItems (s : State) : List Nat :=
  [(s.r32 .eax).toNat, (s.r32 .ecx).toNat, (s.r32 .edx).toNat, (s.r32 .ebx).toNat, (s.r32 .esp).toNat,
    (s.r32 .ebp).toNat, (s.r32 .esi).toNat, (s.r32 .edi).toNat]

theorem like_pusha {s u : State} (h : Like s u) (hc : canPushAll (bytes s.o32) 8 s = true) :
    Runs pushaBody u fun _ t => Like (State.pushedAll (bytes s.o32) (pushaItems s) s) t :=
  like_get_bind h fun k st n b => like_pushEach (bytes_pos s.o32) (pushaItems s) (like_noisy s k st n b) hc

/-- Settles O14. -/
theorem pushPopAll : Obligations.PushPopAll := by
  refine ⟨fun s hs hl hc => ?pusha, fun s hs hl hc => ?popa⟩
  case pusha =>
    have hb := like_pusha (Like.refl s.start) ((canPushAll_start _ _ s).trans hc)
    obtain ⟨heip, hflags⟩ := pushedAll_frame (bytes s.o32) (pushaItems s) s.start
    have hstart := start_pushedAll (bytes s.o32) (pushaItems s) s
    have hgpr := congrArg State.gpr hstart
    have hmem := congrArg State.mem hstart
    exact completes_of_like (i := .pushaPushad) (body := pushaBody) rfl hs hl hb
      ((calm_start s).trans (calm_pushedAll _ _ _)) heip fun t hg hm hf ht =>
      ⟨pushedAll_of hs.1 ht.2.2 (hg.trans hgpr) (hm.trans hmem),
       hf.trans (congrArg (setBit · fRF false) hflags), ht⟩
  case popa =>
    have hb := like_popa (Like.refl s.start) (by simpa using hc)
    have hitems : s.start.popItems (bits s.start.o32) (bytes s.start.o32) 0 popaRegs =
      s.popItems (bits s.o32) (bytes s.o32) 0 popaRegs := rfl
    have hregs := loadedRegs_eq (bits s.o32) (s.popItems (bits s.o32) (bytes s.o32) 0 popaRegs)
      (s.start.setSp (s.popOff (bytes s.o32 * 8)))
    have hstart := congrArg State.gpr (start_loadedRegs (s.setSp (s.popOff (bytes s.o32 * 8)))
      (s.popItems (bits s.o32) (bytes s.o32) 0 popaRegs))
    rw [hitems, start_popOff] at hb
    refine completes_of_like (i := .popaPopad) (body := popaBody) rfl hs hl hb
      (((calm_start s).trans (calm_setSp _ _)).trans (calm_loadedRegs _ _)) ?_ fun t hg hm hf ht =>
      ⟨hg.trans ?_, memSame_of (hm.trans ?_), hf.trans ?_, ht⟩
    · exact (congrArg State.eip hregs).trans (setSp_eip _ _)
    · rw [← start_setSp] at hstart
      exact hstart
    · exact (congrArg State.mem hregs).trans (setSp_mem _ _)
    · exact congrArg (setBit · fRF false) ((congrArg State.eflags hregs).trans (setSp_eflags _ _))

end Sys2Proof.Machine

/-! SUPPORT. Stack frames, and the flags on the stack. -/
namespace Sys2Proof.Machine
open Host

/-- The state with the frame pointers of the levels `j + 1` to `j + k` of the frame of `s0` copied. -/
def State.copied (s0 : State) (n : Nat) : Nat → Nat → State → State
  | _, 0, s => s
  | j, k + 1, s => State.copied s0 n (j + 1) k (s.pushed n (s.num (s0.lin .ss (s0.frameOff n (j + 1))) n))

theorem frameOff_next (s : State) (n j : Nat) :
    s.seg.ss.cutSp (s.frameOff n j - BitVec.ofNat 32 n) = s.frameOff n (j + 1) := by
  have hsub : s.r32 .ebp - BitVec.ofNat 32 (n * j) - BitVec.ofNat 32 n = s.r32 .ebp - BitVec.ofNat 32 (n * (j + 1)) := by
    rw [Nat.mul_add, Nat.mul_one, BitVec.ofNat_add]
    simp only [BitVec.sub_eq_add_neg, BitVec.neg_add, BitVec.add_assoc]
  rw [State.frameOff, Seg.cutSp_sub, hsub, State.frameOff]

theorem frameOff_zero (s : State) (n : Nat) : s.frameOff n 0 = s.seg.ss.cutSp (s.r32 .ebp) := by simp [State.frameOff]

/-- The places in which `s` and `s0` are the same to a read of the stack. -/
def SameStack (s0 s : State) : Prop :=
  s.seg = s0.seg ∧ (∀ off n align k, s.reaches .ss off n align k = s0.reaches .ss off n align k)

theorem SameStack.pushed {s0 s : State} (h : SameStack s0 s) (n v : Nat) : SameStack s0 (s.pushed n v) := by
  obtain ⟨hseg, hreach⟩ := h
  exact ⟨(pushed_seg s n v).trans hseg, fun off m align k => (pushed_reaches s n v .ss off m align k).trans (hreach off m align k)⟩

theorem SameStack.lin {s0 s : State} (h : SameStack s0 s) (off : Word) : s.lin .ss off = s0.lin .ss off := by
  rw [State.lin, h.1, State.lin]

theorem like_copyFrames {s0 : State} {n : Nat} (hn : 0 < n) (j k : Nat) {s u : State} (h : Like s u) (hst : SameStack s0 s)
    (hr : ∀ i, j ≤ i → i < j + k → s0.reaches .ss (s0.frameOff n (i + 1)) n n .read = true) (hc : canPushAll n k s = true) :
    Runs (copyFrames n k (s0.frameOff n j)) u fun _ t => Like (State.copied s0 n j k s) t := by
  induction k generalizing j s u with
  | zero => exact runs_pure h
  | succ k ih =>
    refine like_get_bind h fun i st c b => ?_
    simp only [noisy_seg, hst.1, frameOff_next]
    have hread : s.reaches .ss (s0.frameOff n (j + 1)) n n .read = true :=
      (hst.2 _ _ _ _).trans (hr j (le_refl j) (by omega))
    refine runs_bind (like_segRead (like_noisy s i st c b) hread hn) fun x t ⟨hx, ht⟩ => ?_
    rw [hst.lin] at hx
    subst hx
    obtain ⟨h1, h2⟩ := canPushAll_succ hc (s.num (s0.lin .ss (s0.frameOff n (j + 1))) n)
    refine runs_bind (like_push ht _ hn h1) fun _ v hv => ?_
    exact ih (j + 1) hv (hst.pushed _ _) (fun i h1 h2 => hr i (by omega) (by omega)) h2

/-- What holds of a state and is kept by a push holds after frame pointers have been copied. -/
theorem copied_induct {s0 : State} {n : Nat} {P : State → Prop} (hP : ∀ s v, P s → P (s.pushed n v)) (j k : Nat) {s : State}
    (h : P s) : P (State.copied s0 n j k s) := by
  induction k generalizing j s with
  | zero => exact h
  | succ k ih => exact ih (j + 1) (hP _ _ h)

theorem calm_copied (s0 s : State) (n j k : Nat) : Calm s (State.copied s0 n j k s) :=
  copied_induct (P := Calm s) (fun t v ht => ht.trans (calm_pushed t n v)) j k (Calm.refl s)

theorem copied_frame (s0 s : State) (n j k : Nat) :
    (State.copied s0 n j k s).eip = s.eip ∧ (State.copied s0 n j k s).eflags = s.eflags :=
  copied_induct (P := fun t => t.eip = s.eip ∧ t.eflags = s.eflags)
    (fun t v ⟨h1, h2⟩ => ⟨(pushed_eip t n v).trans h1, (pushed_eflags t n v).trans h2⟩) j k ⟨rfl, rfl⟩

theorem Seg.cutSp_sub_sub (g : Seg) (x : Word) (a b : Nat) :
    g.cutSp (g.cutSp (x - BitVec.ofNat 32 a) - BitVec.ofNat 32 b) = g.cutSp (x - BitVec.ofNat 32 (a + b)) := by
  rw [Seg.cutSp_sub, BitVec.ofNat_add]
  simp only [BitVec.sub_eq_add_neg, BitVec.neg_add, BitVec.add_assoc]

theorem copied_sp (s0 s : State) (n j k : Nat) :
    (State.copied s0 n j k s).sp = s.seg.ss.cutSp (s.sp - BitVec.ofNat 32 (n * k)) := by
  induction k generalizing j s with
  | zero => simpa [State.copied] using (cutSp_sp s).symm
  | succ k ih =>
    rw [State.copied, ih, pushed_sp, pushed_seg, State.pushOff, Seg.cutSp_sub_sub, Nat.mul_add, Nat.mul_one, Nat.add_comm]

theorem canPushAll_copied {s0 s : State} {n : Nat} (a b j : Nat) (h : canPushAll n (a + b) s = true) :
    canPushAll n a s = true ∧ canPushAll n b (State.copied s0 n j a s) = true := by
  induction a generalizing j s with
  | zero => exact ⟨rfl, by rw [Nat.zero_add] at h; exact h⟩
  | succ a ih =>
    rw [Nat.add_right_comm] at h
    obtain ⟨h1, h2⟩ := canPushAll_succ h (s.num (s0.lin .ss (s0.frameOff n (j + 1))) n)
    obtain ⟨h3, h4⟩ := ih (j + 1) h2
    refine ⟨?_, h4⟩
    rw [State.pushed, setSp_stored, canPushAll_stored] at h3
    simp only [canPushAll, h1, h3, Bool.and_self]

theorem canReadFrames_iff (s : State) (n k : Nat) :
    canReadFrames s n k = true ↔ ∀ i < k, s.reaches .ss (s.frameOff n (i + 1)) n n .read = true := by
  induction k with
  | zero => simp [canReadFrames]
  | succ k ih =>
    rw [canReadFrames, Bool.and_eq_true, ih]
    constructor
    · rintro ⟨h1, h2⟩ i hi
      rcases Nat.lt_succ_iff_lt_or_eq.1 hi with hlt | rfl
      · exact h2 i hlt
      · exact h1
    · exact fun h => ⟨h k (by omega), fun i hi => h i (by omega)⟩

/-- The new frame pointer is pushed unless the level is 0. -/
def State.pushedIf (s : State) (b : Bool) (n v : Nat) : State := if b then s.pushed n v else s

/-- The test of a new top of the stack. -/
theorem like_topTest {s u : State} (h : Like s u) {n : Nat} (hn : 0 < n) (hr : s.reaches .ss s.sp n 1 .write = true) :
    Runs (do
      let u ← get
      let la ← segLinear .ss u.seg.ss u.sp n .write
      let _ ← linearSpans la n true (u.cpl = 3)
      : M Unit) u fun _ t => Like s t := by
  refine like_get_bind h fun k st c b => ?_
  have hp : (s.noisy k st c b).plain = true := by simpa using State.plain_of_reaches hr
  simp only [State.reaches, Bool.and_eq_true, decide_eq_true_eq] at hr
  obtain ⟨⟨⟨⟨-, hallow⟩, hlim⟩, -⟩, hapic⟩ := hr
  have hla : segLinear .ss s.seg.ss s.sp n .write (s.noisy k st c b) = .ok (s.seg.ss.base + s.sp) (s.noisy k st c b) := by
    have h1 : s.seg.ss.allows .ss .write s.prot = true := hallow
    have h2 : s.seg.ss.inLimit s.sp n = true := hlim
    simp [segLinear, h1, h2]
  simp only [noisy_seg, noisy_sp, noisy_cpl]
  refine runs_bind (q := fun la t => la = s.seg.ss.base + s.sp ∧ t = s.noisy k st c b) ⟨_, _, hla, rfl, rfl⟩ ?_
  rintro _ _ ⟨rfl, rfl⟩
  refine runs_bind (q := fun _ t => t = s.noisy k st c b) ⟨_, _, linearSpans_plain hp _ _ _ _ hn hapic, rfl⟩ ?_
  rintro _ _ rfl
  exact runs_pure (like_noisy s k st c b)

theorem like_pushIf {s u : State} (h : Like s u) {n : Nat} (hn : 0 < n) (b : Bool) (v : Nat)
    (hc : canPushAll n (if b then 1 else 0) s = true) :
    Runs (whenM b (push n v)) u fun _ t => Like (s.pushedIf b n v) t := by
  cases b with
  | true => exact like_push h v hn (canPushAll_succ hc v).1
  | false => exact runs_pure h

theorem pushedIf_sp (s : State) (b : Bool) (n v : Nat) :
    (s.pushedIf b n v).sp = s.seg.ss.cutSp (s.sp - BitVec.ofNat 32 (if b then n else 0)) := by
  cases b with
  | true => exact pushed_sp s n v
  | false => simpa [State.pushedIf] using (cutSp_sp s).symm

theorem pushedIf_seg (s : State) (b : Bool) (n v : Nat) : (s.pushedIf b n v).seg = s.seg := by
  cases b with
  | true => exact pushed_seg s n v
  | false => rfl

theorem calm_pushedIf (s : State) (b : Bool) (n v : Nat) : Calm s (s.pushedIf b n v) := by
  cases b with
  | true => exact calm_pushed s n v
  | false => exact Calm.refl s

theorem setRw_sp (s : State) {w : Nat} {r : Reg} (hr : r ≠ .esp) (v : BitVec w) : (s.setRw w r v).sp = s.sp := by
  unfold State.setRw State.sp
  cases r with
  | esp => exact absurd rfl hr
  | eax | ecx | edx | ebx | ebp | esi | edi => split <;> rfl

/-- The stack of ENTER with a level: the old frame pointer, those of the enclosing levels, and the new one. -/
def State.framed (s : State) (k : Nat) : State :=
  (State.copied s (bytes s.o32) 0 (k - 1) (s.pushed (bytes s.o32) ((s.r32 .ebp).setWidth (bits s.o32)).toNat)).pushedIf
    (decide (0 < k)) (bytes s.o32) (s.pushOff (bytes s.o32)).toNat

theorem calm_framed (s : State) (k : Nat) : Calm s (s.framed k) :=
  ((calm_pushed _ _ _).trans (calm_copied _ _ _ _ _)).trans (calm_pushedIf _ _ _ _)

theorem framed_sp (s : State) (k : Nat) :
    (s.framed k).sp = s.seg.ss.cutSp (s.sp - BitVec.ofNat 32 (bytes s.o32 * (k + 1))) := by
  have hlen (n : Nat) : n + (n * (k - 1) + (if decide (0 < k) then n else 0)) = n * (k + 1) := by
    rcases Nat.eq_zero_or_pos k with rfl | h0
    · simp
    · obtain ⟨j, rfl⟩ := Nat.exists_eq_add_of_le h0
      rw [if_pos (by simp), Nat.add_sub_cancel_left]
      ring
  rw [State.framed, pushedIf_sp, copied_sp, (calm_copied _ _ _ _ _).seg, pushed_seg, pushed_sp, State.pushOff,
    Seg.cutSp_sub_sub, Seg.cutSp_sub_sub, hlen]

/-- Where ENTER leaves the stack pointer. -/
def State.enterTop (s : State) (size : Half) (k : Nat) : Word :=
  s.seg.ss.cutSp (s.sp - BitVec.ofNat 32 (bytes s.o32 * (k + 1)) - zx32 size)

/-- What ENTER leaves. -/
def State.entered (s : State) (size : Half) (k : Nat) : State :=
  ((s.framed k).setRw (bits s.o32) .ebp ((s.pushOff (bytes s.o32)).setWidth _)).setSp (s.enterTop size k)

theorem calm_entered (s : State) (size : Half) (k : Nat) : Calm s (s.entered size k) :=
  ((calm_framed s k).trans (calm_setRw _ _ _ _)).trans (calm_setSp _ _)

theorem entered_sp (s : State) (size : Half) (k : Nat) : (s.entered size k).sp = s.enterTop size k := by
  rw [State.entered, setSp_sp, (calm_setRw _ _ _ _).seg, (calm_framed s k).seg]
  exact s.seg.ss.cutSp_idem _

/-- States in which nothing that a check of an access looks at differs. -/
theorem Calm.reaches {s t : State} (h : Calm s t) (hf : t.eflags = s.eflags) (r : SegReg) (off : Word) (n align : Nat)
    (k : Access) : t.reaches r off n align k = s.reaches r off n align k := by
  simp only [State.reaches, State.plain, State.paging, State.prot, State.alignOn, State.flag, State.lin, h.seg, h.sys, h.msr,
    h.lat, h.map, h.others, h.cpl, hf]
  rfl

theorem framed_frame (s : State) (k : Nat) : (s.framed k).eip = s.eip ∧ (s.framed k).eflags = s.eflags := by
  obtain ⟨h1, h2⟩ := copied_frame s (s.pushed (bytes s.o32) ((s.r32 .ebp).setWidth (bits s.o32)).toNat) (bytes s.o32) 0 (k - 1)
  unfold State.framed State.pushedIf
  split
  · exact ⟨(pushed_eip _ _ _).trans (h1.trans (pushed_eip _ _ _)), (pushed_eflags _ _ _).trans (h2.trans (pushed_eflags _ _ _))⟩
  · exact ⟨h1.trans (pushed_eip _ _ _), h2.trans (pushed_eflags _ _ _)⟩

theorem entered_frame (s : State) (size : Half) (k : Nat) :
    (s.entered size k).eip = s.eip ∧ (s.entered size k).eflags = s.eflags := by
  obtain ⟨h1, h2⟩ := framed_frame s k
  exact ⟨by rw [State.entered, setSp_eip, setRw_eip, h1], by rw [State.entered, setSp_eflags, setRw_eflags, h2]⟩

/-- The pushes of ENTER, and what follows with the new frame pointer. -/
theorem runs_framed {s u : State} (h : Like s u) {k : Nat} (hc : canPushAll (bytes s.o32) (k + 1) s = true)
    (hr : canReadFrames s (bytes s.o32) (k - 1) = true) {rest : Word → M Unit} {q : Unit → State → Prop}
    (hq : ∀ t, Like (s.framed k) t → Runs (rest (s.pushOff (bytes s.o32))) t q) :
    Runs (do
      pushW (bits s.o32) ((s.r32 .ebp).setWidth (bits s.o32))
      let t ← get
      copyFrames (bytes s.o32) (k - 1) (s.seg.ss.cutSp (s.r32 .ebp))
      whenM (decide (0 < k)) (push (bytes s.o32) t.sp.toNat)
      rest t.sp : M Unit) u q := by
  obtain ⟨hc0, hc1⟩ := canPushAll_succ hc ((s.r32 .ebp).setWidth (bits s.o32)).toNat
  have hk : k = k - 1 + (if decide (0 < k) then 1 else 0) := by
    rcases Nat.eq_zero_or_pos k with rfl | h0
    · rfl
    · rw [if_pos (decide_eq_true h0)]; omega
  rw [hk] at hc1
  obtain ⟨hc2, hc3⟩ := canPushAll_copied (s0 := s) (k - 1) _ 0 hc1
  refine runs_bind (like_pushW h s.o32 _ hc0) fun _ v1 h1 => like_get_bind h1 fun i st c b => ?_
  rw [noisy_sp, pushed_sp, ← frameOff_zero s (bytes s.o32)]
  refine runs_bind (like_copyFrames (bytes_pos _) 0 (k - 1) (like_noisy _ i st c b)
    (SameStack.pushed ⟨rfl, fun _ _ _ _ => rfl⟩ _ _)
    (fun i _ hi => (canReadFrames_iff s _ (k - 1)).1 hr i (by omega)) hc2) fun _ v2 h2 => ?_
  exact runs_bind (like_pushIf h2 (bytes_pos _) (decide (0 < k)) _ hc3) fun _ v3 h3 => hq v3 h3

theorem like_enter {s u : State} (h : Like s u) (size : Half) (level : Byte)
    (hc : canPushAll (bytes s.o32) (level.toNat % 32 + 1) s = true)
    (hr : canReadFrames s (bytes s.o32) (level.toNat % 32 - 1) = true)
    (hlow : s.reaches .ss (s.enterTop size (level.toNat % 32)) (bytes s.o32) 1 .write = true) :
    Runs (enterBody size level) u fun _ t => Like (s.entered size (level.toNat % 32)) t := by
  refine like_getW h (like_get_bind h fun i st c b => ?_)
  simp only [noisy_r32, noisy_seg, bits_div]
  refine runs_framed (rest := fun frame => do
      writeLoc (bits s.o32) (.reg .ebp) (frame.setWidth (bits s.o32))
      addSp (-(zx32 size))
      let u ← get
      let la ← segLinear .ss u.seg.ss u.sp (bytes s.o32) .write
      let _ ← linearSpans la (bytes s.o32) true (u.cpl = 3)) (like_noisy s i st c b) hc hr fun t ht => ?_
  refine runs_bind (like_writeReg ht (bits s.o32) .ebp _) fun _ v4 h4 => runs_bind (like_addSp h4 _) fun _ v5 h5 => ?_
  have htop : (s.framed (level.toNat % 32)).seg.ss.cutSp ((s.framed (level.toNat % 32)).sp + -(zx32 size)) =
      s.enterTop size (level.toNat % 32) := by
    rw [(calm_framed _ _).seg, framed_sp, Seg.cutSp_add, ← BitVec.sub_eq_add_neg, State.enterTop]
  rw [setRw_sp _ (by decide), (calm_setRw _ _ _ _).seg, htop] at h5
  refine like_topTest (s := s.entered size (level.toNat % 32)) h5 (bytes_pos _) ?_
  rw [entered_sp, (calm_entered _ _ _).reaches (entered_frame _ _ _).2]
  exact hlow

theorem copiedFrames_of {s0 : State} {n : Nat} (j k : Nat) {s t : State} (hs : Memory.wf s.mem = true) (hseg : t.seg = s.seg)
    (hg : t.gpr = (State.copied s0 n j k s).gpr) (hm : t.mem = (State.copied s0 n j k s).mem) : CopiedFrames s0 n j k s t := by
  induction k generalizing j s with
  | zero => exact ⟨untouched_of hg hm, hseg⟩
  | succ k ih =>
    exact ⟨_, pushed_of hs (pushed_seg s n _) rfl rfl,
      ih (j + 1) (pushed_wf hs n _) (hseg.trans (pushed_seg s n _).symm) hg hm⟩

/-- ENTER at the state a body starts from. -/
theorem start_copied (s0 s : State) (n j k : Nat) : State.copied s0.start n j k s.start = (State.copied s0 n j k s).start := by
  induction k generalizing j s with
  | zero => rfl
  | succ k ih =>
    have hv : s.start.num (s0.start.lin .ss (s0.start.frameOff n (j + 1))) n =
      s.num (s0.lin .ss (s0.frameOff n (j + 1))) n := rfl
    rw [State.copied, State.copied, hv, start_pushed, ih]

theorem start_setRw (s : State) (w : Nat) (r : Reg) (v : BitVec w) : s.start.setRw w r v = (s.setRw w r v).start := by
  unfold State.setRw
  split <;> rfl

theorem start_pushedIf (s : State) (b : Bool) (n v : Nat) : s.start.pushedIf b n v = (s.pushedIf b n v).start := by
  cases b with
  | true => exact start_pushed s n v
  | false => rfl

theorem start_entered (s : State) (size : Half) (k : Nat) : s.start.entered size k = (s.entered size k).start := by
  have hframed : s.start.framed k = (s.framed k).start := by
    rw [State.framed, start_o32, start_r32, start_pushOff, start_pushed, start_copied, start_pushedIf]
    rfl
  have htop : s.start.enterTop size k = s.enterTop size k := by
    rw [State.enterTop, State.start_seg, start_sp, start_o32, State.enterTop]
  have hset : s.start.entered size k = ((s.framed k).start.setRw (bits s.o32) .ebp
      ((s.pushOff (bytes s.o32)).setWidth _)).setSp (s.enterTop size k) := by
    rw [← hframed, ← htop]
    rfl
  rw [hset, start_setRw, start_setSp]
  rfl

theorem like_leave {s u : State} (h : Like s u) (hc : (s.setSp (s.r32 .ebp)).canPop 0 (bytes s.o32) = true) :
    let v := s.setSp (s.r32 .ebp)
    Runs leaveBody u fun _ t => Like ((v.setSp (v.popOff (bytes s.o32))).wrote (bits s.o32) (.reg .ebp)
      (BitVec.ofNat _ (v.item 0 (bytes s.o32)))) t := by
  intro v
  have ho : v.o32 = s.o32 := setSp_o32 _ _
  refine runs_bind (q := fun _ t => Like v t) ?_ fun _ t ht => ?_
  · refine like_modify h fun s k st n b => ?_
    rw [noisy_r32, noisy_setSp]
  · have hpop := like_popReg ht .ebp (by rw [ho]; exact hc)
    rw [ho] at hpop
    exact hpop

theorem pushedIf_of {s : State} (hs : Memory.wf s.mem = true) {k n v : Nat} :
    if 0 < k then Pushed s (s.pushedIf (decide (0 < k)) n v) n v
    else Untouched s (s.pushedIf (decide (0 < k)) n v) ∧ (s.pushedIf (decide (0 < k)) n v).seg = s.seg := by
  split
  · next h =>
    rw [decide_eq_true h]
    exact pushed_of hs (pushed_seg s n v) rfl rfl
  · next h =>
    rw [decide_eq_false h]
    exact ⟨untouched_of rfl rfl, rfl⟩

/-- Settles O15. -/
theorem frames : Obligations.Frames := by
  refine ⟨fun size level s hs hl hc hr hlow => ?enter, fun s hs hl hc => ?leave⟩
  case enter =>
    have hreads : canReadFrames s.start (bytes s.start.o32) (level.toNat % 32 - 1) = true :=
      (canReadFrames_iff _ _ _).2 fun i hi => (start_reaches _ _ _ _ _ _).trans ((canReadFrames_iff s _ _).1 hr i hi)
    have hb := like_enter (Like.refl s.start) size level ((canPushAll_start _ _ s).trans hc) hreads
      ((start_reaches _ _ _ _ _ _).trans hlow)
    have hstart := start_entered s size (level.toNat % 32)
    obtain ⟨heip, hflags⟩ := entered_frame s.start size (level.toNat % 32)
    refine completes_of_like (i := .enterIwIb size level) (body := enterBody size level) rfl hs hl hb
      ((calm_start s).trans (calm_entered _ _ _)) heip fun t hg hm hf ht => ?_
    have hgpr := congrArg State.gpr hstart
    have hmem := congrArg State.mem hstart
    have hnew : (s.setSp (s.pushOff (bytes s.o32))).sp = s.pushOff (bytes s.o32) :=
      (setSp_sp _ _).trans (s.seg.ss.cutSp_idem _)
    have hwf := pushed_wf hs.1 (bytes s.o32) ((s.r32 .ebp).setWidth (bits s.o32)).toNat
    refine ⟨s.pushed (bytes s.o32) ((s.r32 .ebp).setWidth (bits s.o32)).toNat, State.copied s _ 0 (level.toNat % 32 - 1) _,
      s.framed (level.toNat % 32), pushed_of hs.1 (pushed_seg _ _ _) rfl rfl,
      copiedFrames_of 0 _ hwf (calm_copied _ _ _ _ _).seg rfl rfl, ?_, ?_, hf.trans (congrArg (setBit · fRF false) hflags), ht⟩
    · rw [hnew]
      exact pushedIf_of (copied_induct (P := fun t => Memory.wf t.mem = true) (fun _ v ht => pushed_wf ht _ v) 0 _ hwf)
    · rw [hnew]
      exact untouched_of (hg.trans hgpr) (hm.trans hmem)
  case leave =>
    have hb := like_leave (Like.refl s.start) (by
      rw [start_r32, start_setSp, start_canPop, start_o32]
      exact hc)
    dsimp only at hb
    rw [start_r32, start_setSp, start_popOff, start_item, ← start_setSp, setSp_setSp] at hb
    rw [setSp_setSp]
    exact completes_setSp_wrote (i := .leave) (body := leaveBody) rfl hs hl hb

end Sys2Proof.Machine

/-! SUPPORT. PUSHF, POPF, and stores of segment registers. -/
namespace Sys2Proof.Machine
open Host

theorem v86Low_eq (s : State) : s.v86Low = (s.prot && s.flag fVM && decide (s.iopl ≠ 3)) := by
  simp [State.v86Low, State.v86]

theorem field_low16 (x : Word) : (field x 0 16 : Half) = x.setWidth 16 := BitVec.eq_of_toNat_eq (by simp [field])

theorem toNat_and_low16 (x : Word) : (x &&& 0xFFFF#32).toNat = (x.setWidth 16 : Half).toNat := by
  have hm : x.toNat &&& 65535 = x.toNat % 65536 := Nat.and_two_pow_sub_one_eq_mod x.toNat 16
  simpa using hm

/-- What PUSHF does, by what it pushes. -/
theorem run_pushfBody (s : State) :
    pushfBody s = match pushfValue s with
      | some v => push (bytes s.o32) v s
      | none => raise 13 (some 0) s := by
  simp only [pushfBody, pushfValue, run_bind, run_get, run_ite, ← v86Low_eq]
  cases s.v86Low with
  | true =>
    cases ho : s.o32 with
    | true => cases bit s.sys.cr4 0 <;> rfl
    | false =>
      rw [State.v86Image, field_low16]
      cases bit s.sys.cr4 0 <;> rfl
  | false =>
    cases ho : s.o32 with
    | true => rfl
    | false =>
      rw [if_neg Bool.false_ne_true, if_neg Bool.false_ne_true, field_low16, ← toNat_and_low16]
      rfl

theorem setSp_gpr_congr {s t : State} (hg : t.gpr = s.gpr) (hs : t.seg = s.seg) (x : Word) :
    (t.setSp x).gpr = (s.setSp x).gpr := by
  unfold State.setSp
  rw [hs]
  split
  · exact congrArg (·.set .esp x) hg
  · simp only [State.setR16, State.setR32, hg]

theorem like_pushf {s u : State} (h : Like s u) {v : Nat} (hv : pushfValue s = some v) (hc : s.canPush (bytes s.o32) = true) :
    Runs pushfBody u fun _ t => Like (s.pushed (bytes s.o32) v) t := by
  obtain ⟨x, t, hrun, ht⟩ := like_push h v (bytes_pos _) hc
  obtain ⟨k, st, n, b, rfl⟩ := h
  refine ⟨x, t, ?_, ht⟩
  have hvn : pushfValue (s.noisy k st n b) = some v := hv
  rw [run_pushfBody, hvn]
  exact hrun

theorem like_popf {s u : State} (h : Like s u) (hm : s.v86Low = false) (hc : s.canPop 0 (bytes s.o32) = true) :
    Runs popfBody u fun _ t => Like ((s.setSp (s.popOff (bytes s.o32))).flagged (popfWrites s)
      (BitVec.ofNat 32 (s.item 0 (bytes s.o32)))) t := by
  refine like_get_bind h fun k st n b => ?_
  simp only [noisy_v86Low, hm, noisy_o32, noisy_popfMask, Bool.false_eq_true, if_false]
  refine runs_bind (like_pop (like_noisy s k st n b) (bytes_pos _) hc) fun x t ⟨hx, ht⟩ => ?_
  subst hx
  exact like_putFlagsMasked ht _ _

theorem like_popfVirtual {s u : State} (h : Like s u) (hm : s.v86Low = true) (hvme : bit s.sys.cr4 0 = true)
    (ho : s.o32 = false) (hc : s.canPop 0 2 = true) {f : Word} (hf : f = BitVec.ofNat 32 (s.item 0 2))
    (htf : bit f fTF = false) (hvip : (bit f fIF && s.flag fVIP) = false) :
    Runs popfBody u fun _ t => Like (((s.flagged 0x4DD5#32 f).setFlag fVIF (bit f fIF)).setSp (s.popOff 2)) t := by
  refine like_get_bind h fun k st n b => ?_
  simp only [noisy_v86Low, hm, noisy_o32, ho, noisy_sys, hvme, Bool.not_false, Bool.and_self, if_true, noisy_flag]
  refine runs_bind (like_peek (like_noisy s k st n b) (by decide) hc) fun x t ⟨hx, ht⟩ => ?_
  subst hx
  simp only [← hf, htf, hvip, Bool.or_self, Bool.false_eq_true, if_false]
  refine runs_bind (like_putFlagsMasked ht _ _) fun _ v1 h1 => runs_bind (like_putFlag h1 fVIF _) fun _ v2 h2 => ?_
  exact like_addSp h2 _

theorem popf_raises {s : State} (h : pushfValue s = none) : popfBody s = raise 13 (some 0) s := by
  unfold pushfValue at h
  split at h
  · next hm =>
    rw [← v86Low_eq] at hm
    split at h
    · cases h
    · next hb =>
      simp only [popfBody, run_bind, run_get, hm, if_true, if_neg hb]
      rfl
  · cases h

/-- Settles O16. -/
theorem flagStack : Obligations.FlagStack := by
  refine ⟨fun v s hs hl hv hc => ?pushf, fun s hl hv => ⟨?raisePush, ?raisePop⟩, fun s hs hl hc hm => ?popf,
    fun s hs hl hc hm hvme ho htf hvip => ?virtual⟩
  case pushf =>
    have hb := like_pushf (Like.refl s.start) (v := v) hv ((start_canPush _ _).trans hc)
    exact completes_pushed (i := .pushfPushfd) (body := pushfBody) rfl hs hl hb
  case raisePush =>
    have hv' : pushfValue s.start = none := hv
    exact raises_of_body (i := .pushfPushfd) (body := pushfBody) rfl hl (by rw [run_pushfBody, hv'])
  case raisePop => exact raises_of_body (i := .popfPopfd) (body := popfBody) rfl hl (popf_raises (s := s.start) hv)
  case popf =>
    have hb := like_popf (Like.refl s.start) hm ((start_canPop _ _ _).trans hc)
    rw [start_popOff, start_setSp, start_item] at hb
    refine completes_of_like (i := .popfPopfd) (body := popfBody) rfl hs hl hb ?_ ?_ fun t hg hm hf ht =>
      ⟨hg, memSame_of (hm.trans ?_), hf.trans ?_, ht⟩
    · exact ((calm_setSp _ _).trans (calm_start _)).trans (calm_flagged _ _ _)
    · rw [← start_setSp, flagged_eip, setSp_eip]; rfl
    · rw [← start_setSp, flagged_mem, setSp_mem]; rfl
    · rw [← start_setSp, flagged_eflags, setSp_eflags]; rfl
  case virtual =>
    have hb := like_popfVirtual (Like.refl s.start) hm hvme ho ((start_canPop _ _ _).trans hc) rfl htf hvip
    refine completes_of_like (i := .popfPopfd) (body := popfBody) rfl hs hl hb ?_ ?_ fun t hg hm hf ht =>
      ⟨hg.trans ?_, memSame_of (hm.trans ?_), hf.trans ?_, ht⟩
    · exact (((calm_start s).trans (calm_flagged _ _ _)).trans (calm_setFlag _ _ _)).trans (calm_setSp _ _)
    · rw [setSp_eip]; rfl
    · rw [start_popOff]
      exact setSp_gpr_congr (s := s) (t := (s.start.flagged _ _).setFlag _ _) rfl rfl _
    · rw [setSp_mem]; rfl
    · rw [setSp_eflags]; rfl

/-! ### Stores of a segment register -/

/-- Settles O17. -/
theorem segmentStores : Obligations.SegmentStores := by
  refine ⟨fun r d s hs hl => ?reg, fun r m s hs hl hc => ?mem, fun rm s => ?cs⟩
  case reg =>
    refine completes_wrote (body := movEwSwBody (.reg d) r) rfl hs hl ?_
    exact like_get_bind (Like.refl s.start) fun k st n b => like_wroteReg (like_noisy s.start k st n b) d _
  case mem =>
    have hb : Runs (movEwSwBody (.mem m) r) s.start fun _ u => Like (s.start.wrote 16 (.mem m) (s.seg.get r).sel) u :=
      like_get_bind (Like.refl s.start) fun k st n b => by
        rw [noisy_seg]
        exact like_writeRm (like_noisy s.start k st n b) _ (by decide) ((start_can _ _ _ _).trans hc)
    obtain ⟨t, ht, ⟨hg, hst⟩, hf⟩ := completes_wrote (i := .movEwSw (.mem m) r) rfl hs hl hb
    exact ⟨t, ht, hg, hst, hf⟩
  case cs =>
    cases hl : s.lockOk false with
    | true => exact raises_of_body (body := movSwEwBody .cs rm) rfl hl rfl
    | false => exact raises_of_lock (body := movSwEwBody .cs rm) rfl hl

end Sys2Proof.Machine

/-! SUPPORT. Descriptors in plain memory, and the loads of segment registers. -/
namespace Sys2Proof.Machine
open Host

/-! ### Reads and writes of the processor itself -/

/-- The processor can reach `n` bytes at a linear address of plain memory. -/
def State.sysReach (s : State) (a n : Nat) : Prop := s.plain = true ∧ a + n ≤ 0xFEE00000

theorem run_sysRead {s : State} {a : Word} {n : Nat} (h : s.sysReach a.toNat n) (hn : 0 < n) :
    sysRead a n s = .ok (s.num a.toNat n) s := by
  obtain ⟨hp, hle⟩ := h
  simp only [sysRead, run_bind, linearSpans_plain hp a n false false hn hle, readSpans_plain hp]

theorem like_sysRead {s u : State} (h : Like s u) {a : Word} {n : Nat} (hr : s.sysReach a.toNat n) (hn : 0 < n) :
    Runs (sysRead a n) u fun x t => x = s.num a.toNat n ∧ Like s t := by
  obtain ⟨k, st, c, b, rfl⟩ := h
  exact ⟨_, _, run_sysRead (s := s.noisy k st c b) ⟨by simpa using hr.1, hr.2⟩ hn, noisy_num .., like_noisy s k st c b⟩

theorem like_sysWrite {s u : State} (h : Like s u) {a : Word} {n : Nat} (v : Nat) (hr : s.sysReach a.toNat n) (hn : 0 < n) :
    Runs (sysWrite a n v) u fun _ t => Like (s.stored a.toNat n v) t := by
  obtain ⟨k, st, c, b, rfl⟩ := h
  obtain ⟨hp, hle⟩ := hr
  have hp' : (s.noisy k st c b).plain = true := by simpa using hp
  exact runs_bind (q := fun ps t => ps = spansAt a.toNat n ∧ t = s.noisy k st c b)
    ⟨_, _, linearSpans_plain hp' a n true false hn hle, rfl, rfl⟩ fun ps t ⟨hps, ht⟩ => by
      rw [hps, ht]
      exact like_writeSpans (like_noisy s k st c b) hp _ _ _

theorem leNat_append (bs cs : List Byte) : leNat (bs ++ cs) = leNat bs + 256 ^ bs.length * leNat cs := by
  induction bs with
  | nil => simp [leNat]
  | cons b bs ih => simp only [List.cons_append, leNat, ih, List.length_cons, pow_succ]; ring

/-- A number in memory is that of its parts. -/
theorem num_add (s : State) (a i j : Nat) : s.num a (i + j) = s.num a i + 256 ^ i * s.num (a + i) j := by
  rw [State.num, memBytes_add, leNat_append, memBytes_length]
  rfl

/-! ### Descriptors -/

theorem toNat_add_lt {a : Word} {k n : Nat} (hle : a.toNat + n ≤ 0xFEE00000) (hk : k ≤ n) :
    (a + BitVec.ofNat 32 k).toNat = a.toNat + k := by
  rw [BitVec.toNat_add, BitVec.toNat_ofNat]
  omega

theorem run_readDesc {s : State} {a : Word} (h : s.sysReach a.toNat 8) :
    readDesc a s = .ok (BitVec.ofNat 64 (s.num a.toNat 8)) s := by
  obtain ⟨hp, hle⟩ := h
  have ha : (a + 4).toNat = a.toNat + 4 := toNat_add_lt (k := 4) hle (by decide)
  have hlo := run_sysRead (s := s) (a := a) (n := 4) ⟨hp, by omega⟩ (by decide)
  have hhi := run_sysRead (s := s) (a := a + 4) (n := 4) ⟨hp, by omega⟩ (by decide)
  have hsum : s.num a.toNat 8 = s.num a.toNat 4 + 0x100000000 * s.num (a.toNat + 4) 4 := num_add s a.toNat 4 4
  simp only [readDesc, run_bind, hlo, hhi, ha, hsum]
  rfl

/-- A descriptor that is in plain memory lies inside its table at an address of its own. -/
theorem State.descriptor_eq_some {s : State} {sel : Half} {a : Nat} {d : Desc} :
    s.descriptor sel = some (a, d) ↔
      ∃ w, s.descAddr sel = some w ∧ w.toNat = a ∧ s.sysReach a 8 ∧ d = BitVec.ofNat 64 (s.num a 8) := by
  unfold State.descriptor State.sysReach
  cases s.descAddr sel with
  | none => simp
  | some w =>
    by_cases hp : s.plain = true <;> by_cases hle : w.toNat + 8 ≤ 0xFEE00000 <;> simp [hp, hle] <;> grind

theorem run_fetchDesc {s : State} {sel : Half} {a : Nat} {d : Desc} (h : s.descriptor sel = some (a, d)) :
    ∃ w, w.toNat = a ∧ fetchDesc sel s = .ok (some (w, d)) s := by
  obtain ⟨w, hw, rfl, hr, rfl⟩ := State.descriptor_eq_some.1 h
  exact ⟨w, rfl, by simp only [fetchDesc, run_bind, run_get, hw, run_readDesc hr, run_pure]⟩

theorem run_needDesc {s : State} {sel : Half} {a : Nat} {d : Desc} (v : Nat) (h : s.descriptor sel = some (a, d)) :
    ∃ w, w.toNat = a ∧ needDesc v sel s = .ok (w, d) s := by
  obtain ⟨w, hw, hf⟩ := run_fetchDesc h
  exact ⟨w, hw, by simp only [needDesc, run_bind, hf, run_pure]⟩

theorem run_needDesc_none {s : State} {sel : Half} (v : Nat) (h : s.descAddr sel = none) :
    needDesc v sel s = raise v (some (sel &&& 0xFFFC#16)) s := by
  simp only [needDesc, fetchDesc, run_bind, run_get, h, run_pure]
  rfl

@[simp] theorem noisy_descriptor (s : State) (k : BitVec 4) (st : List StaleByte) (n : Nat) (b : Bool) (sel : Half) :
    (s.noisy k st n b).descriptor sel = s.descriptor sel := by
  simp only [State.descriptor, noisy_descAddr, noisy_plain, noisy_num]

theorem like_needDesc {s u : State} (h : Like s u) {sel : Half} {a : Nat} {d : Desc} (v : Nat)
    (hd : s.descriptor sel = some (a, d)) :
    Runs (needDesc v sel) u fun p t => p.1.toNat = a ∧ p.2 = d ∧ Like s t := by
  obtain ⟨k, st, n, b, rfl⟩ := h
  obtain ⟨w, hw, hr⟩ := run_needDesc (s := s.noisy k st n b) v (by simpa using hd)
  exact ⟨_, _, hr, hw, rfl, like_noisy s k st n b⟩

theorem like_fetchDesc {s u : State} (h : Like s u) {sel : Half} {a : Nat} {d : Desc}
    (hd : s.descriptor sel = some (a, d)) :
    Runs (fetchDesc sel) u fun p t => (∃ w, p = some (w, d) ∧ w.toNat = a) ∧ Like s t := by
  obtain ⟨k, st, n, b, rfl⟩ := h
  obtain ⟨w, hw, hr⟩ := run_fetchDesc (s := s.noisy k st n b) (by simpa using hd)
  exact ⟨_, _, hr, ⟨w, rfl, hw⟩, like_noisy s k st n b⟩

/-- The state with the accessed flag of a descriptor set. -/
def State.markedAcc (s : State) : Option Nat → State
  | none => s
  | some a => s.stored a 1 (s.num a 1 ||| 1)

theorem markedAcc_eq (s : State) (o : Option Nat) : s.markedAcc o = { s with mem := (s.markedAcc o).mem } := by
  cases o <;> rfl

theorem accessed_of {s t : State} {o : Option Nat} (hs : Memory.wf s.mem = true) (hm : t.mem = (s.markedAcc o).mem) :
    Accessed s t o := by
  cases o with
  | none => exact memSame_of hm
  | some a => exact stored_memWriteList hs hm

theorem like_accessedSpan {s u : State} (h : Like s u) {w : Word} {a : Nat} {d : Desc} (hw : w.toNat = a)
    (hr : s.sysReach a 8) :
    Runs (accessedSpan w d) u fun ps t =>
      ps = (match accessedByte a d with | some b => spansAt b 1 | none => []) ∧ Like s t := by
  obtain ⟨hp, hle⟩ := hr
  obtain ⟨k, st, n, b, rfl⟩ := h
  unfold accessedSpan accessedByte
  split
  · have ha : (w + 5).toNat = a + 5 := hw ▸ toNat_add_lt (k := 5) (hw ▸ hle) (by decide)
    refine ⟨_, _, linearSpans_plain (s := s.noisy k st n b) (by simpa using hp) (w + 5) 1 true false (by decide) (by omega),
      ?_, like_noisy s k st n b⟩
    rw [ha]
  · exact runs_pure ⟨rfl, like_noisy s k st n b⟩

theorem spansAt_ne_nil (a n : Nat) : (spansAt a n).isEmpty = false := by
  unfold spansAt
  split <;> rfl

theorem like_markAccessed {s u : State} (h : Like s u) (hp : s.plain = true) (o : Option Nat) :
    Runs (markAccessed (match o with | some b => spansAt b 1 | none => [])) u fun _ t => Like (s.markedAcc o) t := by
  cases o with
  | none => exact runs_pure h
  | some a =>
    unfold markAccessed
    rw [spansAt_ne_nil, if_neg Bool.false_ne_true]
    refine runs_bind (q := fun _ t => Like s t) ?_ fun _ v hv => ?_
    · obtain ⟨k, st, n, b, rfl⟩ := h
      exact ⟨_, _, accessGap_plain (s := s.noisy k st n b) (by simpa using hp), like_noisy s k st n b⟩
    · refine runs_mono (like_locked (q := fun _ => True) hv fun v1 h1 => ?_) fun _ _ ⟨_, ht⟩ => ht
      refine runs_bind (like_readSpans h1 hp a 1) fun x v2 ⟨hx, h2⟩ => ?_
      subst hx
      exact runs_mono (like_writeSpans h2 hp _ _ _) fun _ _ ht => ⟨trivial, ht⟩

theorem like_setDescAccessed {s u : State} (h : Like s u) {w : Word} {a : Nat} {d : Desc} (hw : w.toNat = a)
    (hr : s.sysReach a 8) :
    Runs (setDescAccessed w d) u fun _ t => Like (s.markedAcc (accessedByte a d)) t :=
  runs_bind (like_accessedSpan h hw hr) fun ps v ⟨hps, hv⟩ => by
    rw [hps]
    exact like_markAccessed hv hr.1 _

/-! ### Loads of a segment register -/

/-- The state with a segment register written. -/
def State.withSeg (s : State) (r : SegReg) (g : Seg) : State := { s with seg := s.seg.set r g }

theorem like_putSeg {s u : State} (h : Like s u) (r : SegReg) (g : Seg) :
    Runs (putSeg r g) u fun _ t => Like (s.withSeg r g) t :=
  like_modify h fun _ _ _ _ _ => rfl

section
variable (d : Desc)

/-- The present flag of a descriptor says nothing about its other fields. -/
theorem descS_present : descS (d ||| 0x800000000000#64) = descS d := by simp [descS, bit]
theorem descP_present : descP (d ||| 0x800000000000#64) = true := by simp [descP, bit]
theorem descType_present : descType (d ||| 0x800000000000#64) = descType d := by
  simp [descType, field, BitVec.extractLsb'_or]
theorem descDpl_present : descDpl (d ||| 0x800000000000#64) = descDpl d := by
  simp [descDpl, field, BitVec.extractLsb'_or]

end

theorem dataLoadable_present (sel : Half) (d : Desc) (cpl : BitVec 2) :
    dataLoadable sel d cpl = (dataLoadable sel (d ||| 0x800000000000#64) cpl && descP d) := by
  simp only [dataLoadable, descConforming, descS_present, descP_present, descType_present, descDpl_present, Bool.and_true]

theorem stackLoadable_present (sel : Half) (d : Desc) (cpl : BitVec 2) :
    stackLoadable sel d cpl = (stackLoadable sel (d ||| 0x800000000000#64) cpl && descP d) := by
  simp only [stackLoadable, descS_present, descP_present, descType_present, descDpl_present, Bool.and_true]

/-- The checks of a load of a data segment register. -/
theorem checkDataSeg_eq (sel : Half) (d : Desc) (cpl : BitVec 2) :
    checkDataSeg sel d cpl =
      if dataLoadable sel (d ||| 0x800000000000#64) cpl then (if descP d then pure () else raiseNP sel) else raiseGP sel := by
  have hload : dataLoadable sel (d ||| 0x800000000000#64) cpl = (isReadable (descS d) (descType d) &&
      (descConforming d || (decide (cpl ≤ descDpl d) && decide (rpl sel ≤ descDpl d)))) := by
    simp only [dataLoadable, descConforming, descS_present, descP_present, descType_present, descDpl_present, Bool.and_true]
  have hlevel : (!descConforming d && (decide (descDpl d < cpl) || decide (descDpl d < rpl sel))) =
      !(descConforming d || (decide (cpl ≤ descDpl d) && decide (rpl sel ≤ descDpl d))) := by
    simp only [Bool.not_or, Bool.not_and, ← BitVec.not_le, decide_not]
  unfold checkDataSeg
  simp only [hlevel, hload]
  generalize (descConforming d || (decide (cpl ≤ descDpl d) && decide (rpl sel ≤ descDpl d))) = level
  cases hread : isReadable (descS d) (descType d) with
  | false => cases descS d <;> rfl
  | true =>
    have hs : descS d = true := by
      cases hs : descS d with
      | true => rfl
      | false => simp [isReadable, isData, isCode, hs] at hread
    rw [hs]
    cases level <;> cases descP d <;> rfl

/-- The checks of a load of SS. -/
theorem checkStackSeg_eq (sel : Half) (d : Desc) (cpl : BitVec 2) :
    checkStackSeg 13 sel d cpl =
      if stackLoadable sel (d ||| 0x800000000000#64) cpl then (if descP d then pure () else raiseSS sel) else raiseGP sel := by
  simp only [checkStackSeg, stackLoadable, descS_present, descP_present, descType_present, descDpl_present, Bool.and_true]
  by_cases h1 : rpl sel = cpl
  · cases h2 : isWritable (descS d) (descType d) with
    | false => simp [h1, raiseGP]
    | true =>
      by_cases h3 : descDpl d = cpl
      · cases h4 : descP d <;> simp [h1, h3]
      · simp [h1, h3, raiseGP]
  · simp [h1, raiseGP]

/-- A load through a descriptor: the checks, the accessed flag, the register. -/
theorem like_descLoad {s u : State} (h : Like s u) {r : SegReg} {sel : Half} {a : Nat} {d : Desc} {check : Desc → M Unit}
    (hd : s.descriptor sel = some (a, d)) (hc : check d = pure ()) :
    Runs (do
      let (a, d) ← needDesc 13 sel
      check d
      setDescAccessed a d
      putSeg r (Seg.ofDesc sel d)) u fun _ t =>
        Like ((s.markedAcc (accessedByte a d)).withSeg r (Seg.ofDesc sel d)) t := by
  obtain ⟨w, -, -, hr, -⟩ := State.descriptor_eq_some.1 hd
  refine runs_bind (like_needDesc h 13 hd) fun p v ⟨hw, hd', hv⟩ => ?_
  obtain ⟨w', d'⟩ := p
  obtain rfl : d' = d := hd'
  dsimp only
  rw [hc]
  exact runs_bind (runs_pure hv) fun _ v1 h1 => runs_bind (like_setDescAccessed h1 hw hr) fun _ v2 h2 => like_putSeg h2 r _

/-- What a load that completes leaves. -/
theorem like_loadSeg {s u : State} (h : Like s u) {r : SegReg} {sel : Half} {g : Seg × Option Nat}
    (hg : s.segLoad r sel = some g) :
    Runs (loadSeg r sel) u fun _ t => Like ((s.markedAcc g.2).withSeg r g.1) t := by
  refine like_get_bind h fun k st n b => ?_
  have h' := like_noisy s k st n b
  simp only [noisy_prot, noisy_flag, noisy_seg]
  unfold State.segLoad at hg
  cases hp : s.prot with
  | false =>
    rw [hp] at hg
    obtain rfl := Option.some.inj hg
    exact like_putSeg h' r _
  | true =>
    rw [hp] at hg
    cases hvm : s.flag fVM with
    | true =>
      rw [hvm] at hg
      obtain rfl := Option.some.inj hg
      exact like_putSeg h' r _
    | false =>
      simp only [hvm, Bool.not_true, Bool.false_eq_true, if_false] at hg ⊢
      cases hn : isNull sel with
      | true =>
        rw [hn, if_pos rfl] at hg
        by_cases hr : r = .ss
        · rw [if_pos hr] at hg; cases hg
        · rw [if_neg hr] at hg
          obtain rfl := Option.some.inj hg
          rw [if_neg hr]
          refine like_get_bind h' fun k st n b => ?_
          rw [hn, noisy_seg]
          exact like_putSeg (like_noisy s k st n b) r _
      | false =>
        rw [hn, if_neg Bool.false_ne_true] at hg
        cases hd : s.descriptor sel with
        | none => rw [hd] at hg; cases hg
        | some p =>
          obtain ⟨a, d⟩ := p
          rw [hd] at hg
          dsimp only at hg
          by_cases hr : r = .ss
          · subst hr
            rw [if_pos rfl] at hg ⊢
            split at hg
            · next hload =>
              obtain rfl := Option.some.inj hg
              rw [stackLoadable_present, Bool.and_eq_true] at hload
              refine like_get_bind h' fun k st n b => ?_
              rw [hn, noisy_cpl]
              exact like_descLoad (check := fun d => checkStackSeg 13 sel d s.cpl) (like_noisy s k st n b) hd (by
                rw [checkStackSeg_eq, if_pos hload.1, if_pos hload.2])
            · cases hg
          · rw [if_neg hr] at hg ⊢
            split at hg
            · next hload =>
              obtain rfl := Option.some.inj hg
              rw [dataLoadable_present, Bool.and_eq_true] at hload
              refine like_get_bind h' fun k st n b => ?_
              rw [hn, noisy_cpl]
              exact like_descLoad (check := fun d => checkDataSeg sel d s.cpl) (like_noisy s k st n b) hd (by
                rw [checkDataSeg_eq, if_pos hload.1, if_pos hload.2])
            · cases hg

end Sys2Proof.Machine

/-! SUPPORT. The instructions that load a segment register. -/
namespace Sys2Proof.Machine
open Host

theorem markedAcc_frame (s : State) (o : Option Nat) :
    (s.markedAcc o).gpr = s.gpr ∧ (s.markedAcc o).eip = s.eip ∧ (s.markedAcc o).eflags = s.eflags ∧
      (s.markedAcc o).tr = s.tr ∧ (s.markedAcc o).seg = s.seg := by
  rw [markedAcc_eq]
  exact ⟨rfl, rfl, rfl, rfl, rfl⟩

theorem calm_markedAcc (s : State) (o : Option Nat) : Calm s (s.markedAcc o) := by
  cases o with
  | none => exact Calm.refl s
  | some a => exact calm_stored _ _ _ _

/-- What is left alone but for the segment registers is left alone at completion. -/
theorem Calm.quietButSeg {s u : State} {g : Segs} (h : Calm { s with seg := g } u) : QuietButSeg s (u.completed s) :=
  ⟨completed_apart h.cpl h.msr h.apic h.map h.events h.bus h.smm h.lat h.cached h.others h.noReturn, h.sys, h.fpu, h.tlb,
   completed_dbg h.dbg⟩

/-- The state with the mark of a load of SS. -/
def State.withSsLoad (s : State) (b : Bool) : State := { s with tr := { s.tr with ssLoad := b } }

theorem like_markSsLoad {s u : State} (h : Like s u) (r : SegReg) (hs : s.tr.ssLoad = false) :
    Runs (markSsLoad r) u fun _ t => Like (s.withSsLoad (decide (r = .ss))) t := by
  have hm := like_modify (f := fun s => { s with tr := { s.tr with ssLoad := s.tr.ssLoad || decide (r = .ss) } }) h
    fun _ _ _ _ _ => rfl
  rw [show s.withSsLoad (decide (r = .ss)) = { s with tr := { s.tr with ssLoad := s.tr.ssLoad || decide (r = .ss) } } by
    rw [hs, Bool.false_or]; rfl]
  exact hm

/-- The registers and memory of an instruction that has loaded a segment register: `x` has other general registers and
perhaps a mark of a load of SS. -/
structure LoadedTo (s : State) (r : SegReg) (g : Seg × Option Nat) (inhibits : Bool) (x : State) : Prop where
  calm : Calm { s with seg := s.seg.set r g.1 } x
  mem : x.mem = (s.markedAcc g.2).mem
  eip : x.eip = s.nextEip
  eflags : x.eflags = s.eflags
  ssLoad : x.tr.ssLoad = (inhibits && decide (r = .ss))
  sti : x.tr.sti = false

theorem completes_segLoaded {i : Instr} {body : M Unit} {s x : State} {r : SegReg} {g : Seg × Option Nat} {inhibits : Bool}
    (hi : exec i s = instr false body s) (hs : s.ready) (hl : s.lockOk false = true)
    (hb : Runs body s.start fun _ u => Like x u) (hx : LoadedTo s r g inhibits x) :
    Completes i s fun t => t.gpr = x.gpr ∧ SegLoaded s t r g inhibits ∧ FlagsSame s t := by
  refine completes_of_ends hi hl (runs_mono hb ?_)
  rintro _ u ⟨k, st, n, b, rfl⟩
  have hcalm : Calm { s with seg := s.seg.set r g.1 } (x.noisy k st n b) := (like_noisy x k st n b).calm hx.calm
  have htr : s.tr = Trans.clear := hs.2
  have hbr : (x.noisy k st n b).tr.branched = false := by rw [hcalm.branched]; exact congrArg Trans.branched htr
  have hrep : (x.noisy k st n b).tr.repeats = false := by rw [hcalm.repeats]; exact congrArg Trans.repeats htr
  have hrf : (x.noisy k st n b).tr.keepRf = false := by rw [hcalm.keepRf]; exact congrArg Trans.keepRf htr
  refine ⟨fun hb => absurd (hbr.symm.trans hb) Bool.false_ne_true, noisy_gpr x k st n b, ⟨hcalm.seg, accessed_of hs.1 ?_, ?_, hcalm.quietButSeg, ?_, ?_⟩, ?_⟩
  · exact (noisy_mem x k st n b).trans hx.mem
  · exact (noisy_eip x k st n b).trans hx.eip
  · rw [State.completed, hrep]
    simp [hx.ssLoad]
  · rw [State.completed, hrep, noisy_tr_sti, hx.sti]
    rfl
  · rw [FlagsSame, completed_eflags hrf hrep, noisy_eflags, hx.eflags]

theorem segLoad_start (s : State) (r : SegReg) (sel : Half) : s.start.segLoad r sel = s.segLoad r sel := rfl

theorem markedAcc_start (s : State) (o : Option Nat) : s.start.markedAcc o = (s.markedAcc o).start := by
  cases o <;> rfl

/-- MOV to a segment register. -/
theorem like_movSwEw {s u : State} (h : Like s u) {r : SegReg} {rm : Rm} {g : Seg × Option Nat} (hr : r ≠ .cs)
    (hss : s.tr.ssLoad = false) (hc : s.can rm 2 .read = true) (hg : s.segLoad r (s.val 16 rm) = some g) :
    Runs (movSwEwBody r rm) u fun _ t => Like (((s.markedAcc g.2).withSeg r g.1).withSsLoad (decide (r = .ss))) t := by
  unfold movSwEwBody
  rw [if_neg hr]
  refine runs_bind (like_readRm h (w := 16) (by decide) hc) fun x v ⟨hx, hv⟩ => ?_
  subst hx
  refine runs_bind (like_loadSeg hv hg) fun _ v2 h2 => like_markSsLoad h2 r ?_
  rw [State.withSeg, markedAcc_eq]
  exact hss

theorem withSp_eq_setSp (s : State) (x : Word) :
    ({ s with gpr := s.gpr.set .esp (s.seg.ss.withSp s.gpr.esp (s.seg.ss.cutSp x)) } : State) = s.setSp x := by
  unfold State.setSp Seg.withSp Seg.cutSp
  cases s.seg.ss.db with
  | true => rfl
  | false =>
    have hz : zx32 (field x 0 16 : Half) = x &&& 0xFFFF#32 := by
      apply BitVec.eq_of_toNat_eq
      have hm : x.toNat &&& 65535 = x.toNat % 65536 := Nat.and_two_pow_sub_one_eq_mod x.toNat 16
      simp only [zx32, field, BitVec.toNat_setWidth, BitVec.extractLsb'_toNat, BitVec.toNat_and, BitVec.toNat_ofNat]
      norm_num [hm]
      omega
    simp only [Bool.false_eq_true, if_false, State.setR16, State.setR32, hz]
    rfl

theorem setSp_cutSp (s : State) (x : Word) : s.setSp (s.seg.ss.cutSp x) = s.setSp x := by
  rw [← withSp_eq_setSp, ← withSp_eq_setSp, Seg.cutSp_idem]

/-- POP of a segment register. -/
theorem like_popSeg {s u : State} (h : Like s u) {r : SegReg} {g : Seg × Option Nat} (hss : s.tr.ssLoad = false)
    (hc : s.canPop 0 (bytes s.o32) = true) (hg : s.segLoad r (BitVec.ofNat 16 (s.item 0 (bytes s.o32))) = some g) :
    Runs (popSeg r) u fun _ t => Like ((((s.markedAcc g.2).withSeg r g.1).setR32 .esp
      (s.seg.ss.withSp s.gpr.esp (s.popOff (bytes s.o32)))).withSsLoad (decide (r = .ss))) t := by
  refine like_get_bind h fun k st n b => ?_
  simp only [noisy_o32, noisy_seg, noisy_sp, noisy_gpr]
  refine runs_bind (like_peek (like_noisy s k st n b) (bytes_pos _) hc) fun x v ⟨hx, hv⟩ => ?_
  subst hx
  refine runs_bind (like_loadSeg hv hg) fun _ v2 h2 => runs_bind (like_putR32 h2 .esp _) fun _ v3 h3 => ?_
  refine like_markSsLoad h3 r ?_
  rw [State.withSeg, markedAcc_eq]
  exact hss

theorem like_readEa {s u : State} (h : Like s u) {m : Ea} {k : Word} {n align : Nat} (hn : 0 < n) (hf : eaFits s m k = true)
    (hr : s.reaches (eaSeg s m) (eaPlus s m k) n align .read = true) :
    Runs (readEa m k n align) u fun x t => x = s.num (s.lin (eaSeg s m) (eaPlus s m k)) n ∧ Like s t := by
  have hp := State.plain_of_reaches hr
  refine runs_bind (q := fun ps t => ps = spansAt (s.lin (eaSeg s m) (eaPlus s m k)) n ∧ Like s t) ?_ ?_
  · refine runs_bind (q := fun _ t => Like s t) ?_ fun _ t ht => ?_
    · refine like_get_bind h fun j st c b => ?_
      rw [eaFits, noisy_eaOffset, ← eaFits, hf, if_pos rfl]
      exact runs_pure (like_noisy s j st c b)
    · refine like_get_bind ht fun j st c b => ?_
      rw [noisy_eaSeg, eaPlus, noisy_eaOffset]
      exact like_access (like_noisy s j st c b) (write := false) hr hn
  · rintro _ t ⟨rfl, ht⟩
    exact like_readSpans ht hp _ _

/-- LES, LDS, LSS, LFS and LGS. -/
theorem like_loadFar {s u : State} (h : Like s u) {sr : SegReg} {r : Reg} {m : Ea} {g : Seg × Option Nat}
    (hf : eaFits s m (BitVec.ofNat 32 (bytes s.o32)) = true)
    (h1 : s.reaches (eaSeg s m) (eaPlus s m 0) (bytes s.o32) (bytes s.o32) .read = true)
    (h2 : s.reaches (eaSeg s m) (eaPlus s m (BitVec.ofNat 32 (bytes s.o32))) 2 2 .read = true)
    (hg : s.segLoad sr (BitVec.ofNat 16 (s.num (s.lin (eaSeg s m) (eaPlus s m (BitVec.ofNat 32 (bytes s.o32)))) 2)) = some g) :
    Runs (loadFar sr r m) u fun _ t => Like (((s.markedAcc g.2).withSeg sr g.1).setRw (bits s.o32) r
      (BitVec.ofNat _ (s.num (s.lin (eaSeg s m) (eaPlus s m 0)) (bytes s.o32)))) t := by
  have hf0 : eaFits s m 0 = true := decide_eq_true (eaOffset s m).isLt
  refine like_getW h ?_
  rw [bits_div]
  refine runs_bind (like_readEa h (bytes_pos _) hf0 h1) fun x v ⟨hx, hv⟩ => ?_
  refine runs_bind (like_readEa hv (by decide) hf h2) fun y v2 ⟨hy, hv2⟩ => ?_
  subst hx hy
  exact runs_bind (like_loadSeg hv2 hg) fun _ v3 h3 => like_writeReg h3 _ r _

theorem setRw_gpr_congr {s t : State} (h : t.gpr = s.gpr) (w : Nat) (r : Reg) (v : BitVec w) :
    (t.setRw w r v).gpr = (s.setRw w r v).gpr := by rw [setRw_congr h]

theorem loadsSegment : LoadsSegment := by
  refine ⟨fun r rm g s hs hl hr hc hg => ?mov, fun r i g s hs hl hi hc hg => ?pop,
    fun sr r m i g s hs hl hi hf h1 h2 hg => ?far⟩
  case mov =>
    have hss : s.tr.ssLoad = false := congrArg Trans.ssLoad hs.2
    have hb := like_movSwEw (Like.refl s.start) hr hss ((start_can _ _ _ _).trans hc)
      (by rw [start_val, segLoad_start]; exact hg)
    rw [markedAcc_start, markedAcc_eq] at hb
    obtain ⟨t, ht, hq⟩ := completes_segLoaded (i := .movSwEw r rm) rfl hs hl hb
      ⟨by constructor <;> rfl, rfl, rfl, rfl, (Bool.true_and _).symm, congrArg Trans.sti hs.2⟩
    exact ⟨t, ht, hq⟩
  case pop =>
    have hss : s.tr.ssLoad = false := congrArg Trans.ssLoad hs.2
    have hb := like_popSeg (Like.refl s.start) hss ((start_canPop _ _ _).trans hc)
      (by rw [start_item, segLoad_start]; exact hg)
    rw [start_popOff, markedAcc_start, markedAcc_eq] at hb
    have hexec : exec i s = instr false (popSeg r) s := by cases r <;> cases hi <;> rfl
    obtain ⟨t, ht, hgpr, hq⟩ := completes_segLoaded hexec hs hl hb
      ⟨by constructor <;> rfl, rfl, rfl, rfl, (Bool.true_and _).symm, congrArg Trans.sti hs.2⟩
    refine ⟨t, ht, hgpr.trans ?_, hq⟩
    have hpop : s.setSp (s.popOff (bytes s.o32)) = s.setSp (s.sp + BitVec.ofNat 32 (bytes s.o32)) := setSp_cutSp s _
    rw [hpop, ← withSp_eq_setSp]
    rfl
  case far =>
    have hfits (k : Word) : eaFits s.start m k = eaFits s m k := by rw [eaFits, start_eaOffset, eaFits]
    have hplus (k : Word) : eaPlus s.start m k = eaPlus s m k := by rw [eaPlus, start_eaOffset, eaPlus]
    have hb := like_loadFar (Like.refl s.start) (m := m) (r := r) (sr := sr) (g := g) ((hfits _).trans hf)
      (by rw [start_eaSeg, hplus, start_reaches]; exact h1) (by rw [start_eaSeg, hplus, start_reaches]; exact h2)
      (by rw [start_eaSeg, hplus, start_lin, start_num, segLoad_start]; exact hg)
    rw [start_eaSeg, hplus, start_lin, start_num, markedAcc_start, markedAcc_eq, setRw_eq] at hb
    have hexec : exec i s = instr false (loadFar sr r m) s := by cases sr <;> cases hi <;> rfl
    obtain ⟨t, ht, hgpr, hq⟩ := completes_segLoaded (g := g) (inhibits := false) (r := sr) hexec hs hl hb
      ⟨by constructor <;> rfl, rfl, rfl, rfl, congrArg Trans.ssLoad hs.2, congrArg Trans.sti hs.2⟩
    refine ⟨t, ht, hgpr.trans ?_, hq⟩
    refine setRw_gpr_congr (s := s) ?_ _ r _
    rfl

/-! ### Loads that are refused -/

theorem raiseGP_eq (α : Type) (sel : Half) (s : State) : (raiseGP sel : M α) s = raise 13 (some (sel &&& 0xFFFC#16)) s := rfl

/-- What follows a computation that ends normally starts where it ends. -/
theorem run_bind_ok {α β : Type} {x : M α} {s t : State} {a : α} (f : α → M β) (h : x s = .ok a t) :
    (x >>= f) s = f a t := by rw [run_bind, h]

/-- MOV to a segment register raises what its load raises. -/
theorem raises_movSwEw {r : SegReg} {rm : Rm} {s : State} {v : Nat} {c : Option Half} (hl : s.lockOk false = true)
    (hr : r ≠ .cs) (hc : s.can rm 2 .read = true)
    (hb : ∀ k, loadSeg r (s.val 16 rm) (s.start.withHit k) = raise v c (s.start.withHit k)) : Raises (.movSwEw r rm) s v c := by
  obtain ⟨k, hk⟩ := readRm_can (s := s.start) (w := 16) (rm := rm) (by decide) ((start_can _ _ _ _).trans hc)
  rw [start_val] at hk
  refine raises_of_body_withHit (i := .movSwEw r rm) (body := movSwEwBody r rm) (k := k) rfl hl ?_
  unfold movSwEwBody
  rw [if_neg hr]
  exact (run_bind_ok _ hk).trans (run_bind_raise _ (hb k))

/-- A load through a descriptor raises what its checks raise. -/
theorem run_descLoad_raise {s : State} {sel : Half} {a : Nat} {d : Desc} {v : Nat} {c : Option Half} {check : Desc → M Unit}
    {rest : Word → Desc → M Unit} (hd : s.descriptor sel = some (a, d)) (hc : check d s = raise v c s) :
    (do
      let (a, d) ← needDesc 13 sel
      check d
      rest a d) s = raise v c s := by
  obtain ⟨w, -, hn⟩ := run_needDesc 13 hd
  exact (run_bind_ok _ hn).trans (run_bind_raise _ hc)

theorem run_loadSeg_prot {s : State} (hp : s.prot = true) (hv : s.flag fVM = false) (r : SegReg) (sel : Half) :
    loadSeg r sel s = if r = .ss then loadSS sel s else loadDataSeg r sel s := by
  simp only [loadSeg, run_bind, run_get, hp, hv, run_ite]
  rfl

theorem run_loadSS {s : State} {sel : Half} (hn : isNull sel = false) :
    loadSS sel s = (do
      let (a, d) ← needDesc 13 sel
      checkStackSeg 13 sel d s.cpl
      setDescAccessed a d
      putSeg .ss (Seg.ofDesc sel d)) s := by
  rw [loadSS, run_bind, run_get]
  dsimp only
  rw [hn, if_neg Bool.false_ne_true]

theorem run_loadDataSeg {s : State} {r : SegReg} {sel : Half} (hn : isNull sel = false) :
    loadDataSeg r sel s = (do
      let (a, d) ← needDesc 13 sel
      checkDataSeg sel d s.cpl
      setDescAccessed a d
      putSeg r (Seg.ofDesc sel d)) s := by
  rw [loadDataSeg, run_bind, run_get]
  dsimp only
  rw [hn, if_neg Bool.false_ne_true]

theorem not_stackLoadable {sel : Half} {d : Desc} {cpl : BitVec 2}
    (h : rpl sel ≠ cpl ∨ isWritable (descS d) (descType d) = false ∨ descDpl d ≠ cpl) :
    stackLoadable sel (d ||| 0x800000000000#64) cpl = false := by
  simp only [stackLoadable, descS_present, descP_present, descType_present, descDpl_present, Bool.and_true]
  rcases h with h | h | h <;> simp [h]

/-- A load through a descriptor in protected mode raises what its checks raise. -/
theorem raises_descLoad {r : SegReg} {rm : Rm} {s : State} {v : Nat} {a : Nat} {d : Desc} (hl : s.lockOk false = true)
    (hr : r ≠ .cs) (hc : s.can rm 2 .read = true) (hp : s.prot = true) (hv : s.flag fVM = false)
    (hn : isNull (s.val 16 rm) = false) (hd : s.descriptor (s.val 16 rm) = some (a, d))
    (hcheck : (if r = .ss then checkStackSeg 13 (s.val 16 rm) d s.cpl else checkDataSeg (s.val 16 rm) d s.cpl) =
      raiseSel v (s.val 16 rm)) :
    Raises (.movSwEw r rm) s v (some (s.val 16 rm &&& 0xFFFC#16)) := by
  refine raises_movSwEw hl hr hc fun k => ?_
  rw [run_loadSeg_prot (s := s.start.withHit k) hp hv]
  have hd' : (s.start.withHit k).descriptor (s.val 16 rm) = some (a, d) := hd
  by_cases hss : r = .ss
  · rw [if_pos hss] at hcheck ⊢
    rw [run_loadSS hn]
    exact run_descLoad_raise (check := fun d => checkStackSeg 13 (s.val 16 rm) d s.cpl)
      (rest := fun a d => do setDescAccessed a d; putSeg .ss (Seg.ofDesc _ d)) hd' (by rw [hcheck]; rfl)
  · rw [if_neg hss] at hcheck ⊢
    rw [run_loadDataSeg hn]
    exact run_descLoad_raise (check := fun d => checkDataSeg (s.val 16 rm) d s.cpl)
      (rest := fun a d => do setDescAccessed a d; putSeg r (Seg.ofDesc _ d)) hd' (by rw [hcheck]; rfl)

theorem loadsSegmentFaults : LoadsSegmentFaults := by
  intro r rm s hl hr hc hp hv sel
  have hload (v : Nat) (c : Option Half) := raises_movSwEw (v := v) (c := c) hl hr hc
  refine ⟨fun hn hss => ?null, fun hn hd => ?outside, fun a d hn hd => ?inside⟩
  case null =>
    refine hload 13 (some 0) fun k => ?_
    rw [run_loadSeg_prot (s := s.start.withHit k) hp hv, if_pos hss, loadSS, run_bind, run_get]
    dsimp only
    rw [hn]
    rfl
  case outside =>
    refine hload 13 _ fun k => ?_
    have hnone := run_needDesc_none (s := s.start.withHit k) 13 hd
    rw [run_loadSeg_prot (s := s.start.withHit k) hp hv]
    split
    · rw [run_loadSS hn]
      exact run_bind_raise _ hnone
    · rw [run_loadDataSeg hn]
      exact run_bind_raise _ hnone
  case inside =>
    have hraise (v : Nat) := raises_descLoad (v := v) hl hr hc hp hv hn hd
    refine ⟨fun hss hbad => hraise 13 ?_, fun hss hok hpr => hraise 12 ?_, fun hss hbad => hraise 13 ?_,
      fun hss hok hpr => hraise 11 ?_⟩
    · rw [if_pos hss, checkStackSeg_eq, not_stackLoadable hbad]; rfl
    · rw [if_pos hss, checkStackSeg_eq, hok, hpr]; rfl
    · rw [if_neg hss, checkDataSeg_eq, hbad]; rfl
    · rw [if_neg hss, checkDataSeg_eq, hok, hpr]; rfl

/-- Settles O54. -/
theorem segmentLoads : Obligations.SegmentLoads := ⟨loadsSegment, loadsSegmentFaults⟩

end Sys2Proof.Machine

/-! SUPPORT. Near transfers. -/
namespace Sys2Proof.Machine
open Host

/-! ### Completion of an instruction that marks what it has done -/

/-- What a body has left alone, whatever it has marked. -/
structure Still (s u : State) : Prop where
  cpl : u.cpl = s.cpl
  seg : u.seg = s.seg
  sys : u.sys = s.sys
  dbg : u.dbg = s.dbg
  fpu : u.fpu = s.fpu
  msr : u.msr = s.msr
  apic : u.apic = s.apic
  smm : u.smm = s.smm
  lat : u.lat = s.lat
  tlb : u.tlb = s.tlb
  map : u.map = s.map
  events : u.events = s.events
  bus : u.bus = s.bus
  cached : u.cached = s.cached
  others : u.others = s.others
  noReturn : u.noReturn = s.noReturn

theorem Calm.still {s u : State} (h : Calm s u) : Still s u :=
  ⟨h.cpl, h.seg, h.sys, h.dbg, h.fpu, h.msr, h.apic, h.smm, h.lat, h.tlb, h.map, h.events, h.bus, h.cached, h.others, h.noReturn⟩

theorem Still.like {s x u : State} (h : Still s x) (hu : Like x u) : Still s u := by
  obtain ⟨k, st, n, b, rfl⟩ := hu
  obtain ⟨⟩ := h
  constructor <;> assumption

/-- At completion nothing else has changed, whatever instruction it was. -/
theorem Still.quiet {s u : State} (h : Still s u) (s0 : State) : Quiet s (u.completed s0) := by
  refine ⟨⟨?_, h.sys, h.fpu, h.tlb, ?_⟩, h.seg⟩
  · simp [Apart, State.completed, h.cpl, h.msr, h.apic, h.map, h.events, h.bus, h.smm, h.lat, h.cached, h.others, h.noReturn,
      Latches.same]
  · simp [Dbg.same, State.completed, h.dbg]

/-- An instruction completes with the state that its body leaves, completed. -/
theorem completes_of_like_ends {i : Instr} {lockOk : Bool} {body : M Unit} {s x : State} {q : State → Prop}
    (hi : exec i s = instr lockOk body s) (hl : s.lockOk lockOk = true) (hb : Runs body s.start fun _ u => Like x u)
    (hbr : x.tr.branched = true → x.noLbr = true) (hq : ∀ u, Like x u → q (u.completed s)) : Completes i s q := by
  refine completes_of_ends hi hl (runs_mono hb fun _ u hu => ⟨?_, hq u hu⟩)
  obtain ⟨k, st, n, b, rfl⟩ := hu
  simpa only [noisy_tr_branched, noisy_noLbr] using hbr

/-- The state with EIP at the target of a branch. -/
def State.jumped (s : State) (t : Word) : State := { s with eip := t, tr := { s.tr with branched := true } }

/-- What a jump leaves, when its instruction is complete. -/
theorem jumps_completed {s x u s0 : State} {t : Word} (hx : Still s x) (hf : x.eflags = s.eflags)
    (hk : x.tr.keepRf = false) (hr : x.tr.repeats = false) (hu : Like (x.jumped t) u) : Jumps s (u.completed s0) t := by
  have hstill : Still s (x.jumped t) := by
    obtain ⟨⟩ := hx
    constructor <;> assumption
  refine ⟨?_, ?_, (hstill.like hu).quiet s0⟩
  · obtain ⟨k, st, n, b, rfl⟩ := hu
    rfl
  · obtain ⟨k, st, n, b, rfl⟩ := hu
    exact (completed_eflags (s := s0) (u := (x.jumped t).noisy k st n b) hk hr).trans (congrArg (setBit · fRF false) hf)

theorem like_jumpTo {s u : State} (h : Like s u) (t : Word) : Runs (jumpTo t) u fun _ v => Like (s.jumped t) v :=
  like_modify h fun _ _ _ _ _ => rfl

/-! ### Near targets -/

theorem cutTarget_eq (s : State) (t : Word) : s.cutTarget t = if s.o32 then t else t &&& 0xFFFF#32 := rfl

theorem run_nearTarget (s : State) (t : Word) :
    nearTarget t s = if s.nearOk t then .ok (s.cutTarget t) s else raise 13 (some 0) s := by
  simp only [nearTarget, State.nearOk, run_bind, run_get, run_ite, decide_eq_true_eq]
  split
  · rw [if_neg (by omega)]
    rfl
  · rw [if_pos (by omega)]
    rfl

@[simp] theorem noisy_cutTarget (s : State) (k : BitVec 4) (st : List StaleByte) (n : Nat) (b : Bool) (t : Word) :
    (s.noisy k st n b).cutTarget t = s.cutTarget t := by rw [cutTarget_eq, noisy_o32, cutTarget_eq]

@[simp] theorem noisy_nearOk (s : State) (k : BitVec 4) (st : List StaleByte) (n : Nat) (b : Bool) (t : Word) :
    (s.noisy k st n b).nearOk t = s.nearOk t := by simp only [State.nearOk, noisy_cutTarget, noisy_seg]

theorem like_nearTarget {s u : State} (h : Like s u) {t : Word} (ht : s.nearOk t = true) :
    Runs (nearTarget t) u fun x v => x = s.cutTarget t ∧ Like s v := by
  obtain ⟨k, st, n, b, rfl⟩ := h
  refine ⟨s.cutTarget t, _, ?_, rfl, like_noisy s k st n b⟩
  rw [run_nearTarget, noisy_nearOk, ht, noisy_cutTarget]
  rfl

theorem like_nearBranch {s u : State} (h : Like s u) {t : Word} (ht : s.nearOk t = true) :
    Runs (nearBranch t) u fun _ v => Like (s.jumped (s.cutTarget t)) v :=
  runs_bind (like_nearTarget h ht) fun x _ ⟨hx, hv⟩ => hx ▸ like_jumpTo hv x

theorem like_branchBy {s u : State} (h : Like s u) {d : Word} (ht : s.nearOk (s.eip + d) = true) :
    Runs (branchBy d) u fun _ v => Like (s.jumped (s.cutTarget (s.eip + d))) v :=
  like_get_bind h fun k st n b => by
    rw [noisy_eip]
    exact like_nearBranch (like_noisy s k st n b) ht

/-- The state after a branch that is taken or not. -/
def State.branched (s : State) (taken : Bool) (t : Word) : State := if taken then s.jumped (s.cutTarget t) else s

theorem like_branchIf {s u : State} (h : Like s u) {taken : Bool} {d : Word} (ht : taken = true → s.nearOk (s.eip + d) = true) :
    Runs (whenM taken (branchBy d)) u fun _ v => Like (s.branched taken (s.eip + d)) v := by
  cases taken with
  | true => exact like_branchBy h (ht rfl)
  | false => exact runs_pure h

/-! ### Instructions that jump -/

/-- An instruction whose body ends with a jump completes at its target. -/
theorem completes_jump {i : Instr} {lockOk : Bool} {body : M Unit} {s x : State} {t : Word} {q : State → Prop}
    (hi : exec i s = instr lockOk body s) (hs : s.ready) (hl : s.lockOk lockOk = true) (hlbr : s.noLbr = true)
    (hx : Calm s x) (hf : x.eflags = s.eflags) (hb : Runs body s.start fun _ u => Like (x.jumped t) u)
    (hq : ∀ u : State, u.gpr = x.gpr → u.mem = x.mem → Jumps s u t → q u) : Completes i s q := by
  have hmsr : x.noLbr = s.noLbr := by unfold State.noLbr; rw [hx.msr]
  refine completes_of_like_ends hi hl hb (fun _ => hmsr.trans hlbr) fun u hu => hq _ ?_ ?_ ?_
  · obtain ⟨k, st, n, b, rfl⟩ := hu
    rfl
  · obtain ⟨k, st, n, b, rfl⟩ := hu
    rfl
  · exact jumps_completed hx.still hf (by rw [hx.keepRf, hs.2]; rfl) (by rw [hx.repeats, hs.2]; rfl) hu

/-- The displacement of a branch. -/
def BranchForm.disp : BranchForm → Word
  | .jb d | .ccb _ d | .cxz d | .loop d | .loope d | .loopne d => d.signExtend 32
  | .jv d | .ccv _ d => d

/-- The body of a branch. -/
def BranchForm.body : BranchForm → M Unit
  | .jb d => branchBy (d.signExtend 32)
  | .jv d => branchBy d
  | .ccb c d => jccBody c (d.signExtend 32)
  | .ccv c d => jccBody c d
  | .cxz d => jcxzBody (d.signExtend 32)
  | .loop d => loopBody none (d.signExtend 32)
  | .loope d => loopBody (some true) (d.signExtend 32)
  | .loopne d => loopBody (some false) (d.signExtend 32)

theorem exec_branch (f : BranchForm) (s : State) : exec (f.branch s).instr s = instr false f.body s := by
  cases f <;> rfl

theorem branch_target (f : BranchForm) (s : State) : (f.branch s).target = s.nextEip + f.disp := by
  cases f <;> rfl

theorem addA_eq (s : State) (r : Reg) (d : Word) : s.addA r d = { s with gpr := (s.addA r d).gpr } := by
  unfold State.addA State.setRv
  split <;> rfl

theorem start_addA (s : State) (r : Reg) (d : Word) : s.start.addA r d = { s.start with gpr := (s.addA r d).gpr } := by
  have hrv (u : State) (b : Bool) (v : BitVec (bits b)) (hg : u.gpr = s.gpr) :
      u.setRv b r v = { u with gpr := (s.setRv b r v).gpr } := by
    cases b <;> simp [State.setRv, State.setR32, State.setR16, hg]
  exact hrv s.start s.a32 _ rfl

/-- The state of a branch where it is taken or not. -/
noncomputable def BranchForm.counted (s : State) (f : BranchForm) : State := { s.start with gpr := (f.branch s).gpr }

/-- What a loop asks of ZF. -/
def State.loopZf (s : State) : Option Bool → Bool
  | none => true
  | some z => s.flag fZF == z

theorem loopBody_start (s : State) (zf : Option Bool) (d : Word) {taken : Bool}
    (hk : taken = (decide ((s.addA .ecx (-1)).aReg .ecx ≠ 0) && s.loopZf zf)) :
    loopBody zf d s.start = whenM taken (branchBy d) { s.start with gpr := (s.addA .ecx (-1)).gpr } := by
  subst hk
  rw [← start_addA]
  have hf : (s.start.addA .ecx (-1)).flag fZF = s.flag fZF := by rw [start_addA]; rfl
  have hc : (s.start.addA .ecx (-1)).aReg .ecx = (s.addA .ecx (-1)).aReg .ecx := by
    rw [start_addA, addA_eq s]; rfl
  simp only [loopBody, run_bind, run_modify, run_get, hf, hc]
  cases zf <;> rfl

/-- A branch counts, if it is a loop, and then goes to its target or not. -/
theorem branch_body (f : BranchForm) (s : State) :
    f.body s.start = whenM (f.branch s).taken (branchBy f.disp) (f.counted s) := by
  cases f with
  | jb | jv | ccb | ccv | cxz => rfl
  | loop d => exact loopBody_start s none _ (by simp [BranchForm.branch, State.loopZf])
  | loope d => exact loopBody_start s (some true) _ (by simp [BranchForm.branch, State.loopZf])
  | loopne d => exact loopBody_start s (some false) _ (by simp [BranchForm.branch, State.loopZf])

theorem calm_counted (f : BranchForm) (s : State) : Calm s (f.counted s) := by
  obtain ⟨⟩ := calm_start s
  constructor <;> assumption

theorem branchBy_counted (f : BranchForm) (s : State) (d : Word) :
    branchBy d (f.counted s) = nearBranch (s.nextEip + d) (f.counted s) := rfl

theorem falls_counted (f : BranchForm) {s u : State} (hs : s.ready) (hu : Like (f.counted s) u) :
    Jumps s (u.completed s) s.nextEip := by
  have hc : Calm s u := hu.calm (calm_counted f s)
  obtain ⟨k, st, n, b, rfl⟩ := hu
  exact ⟨rfl, hc.completed_eflags hs, (hc.still).quiet s⟩

theorem memSame_of_eq {s t : State} (h : t.mem = s.mem) : MemSame s t := fun k => by rw [h]

theorem completes_branch (f : BranchForm) {s : State} (hs : s.ready) (hl : s.lockOk false = true) (hlbr : s.noLbr = true)
    (ht : (f.branch s).taken = true → s.nearOk (f.branch s).target = true) :
    Completes (f.branch s).instr s fun t => t.gpr = (f.branch s).gpr ∧ MemSame s t ∧
      Jumps s t (if (f.branch s).taken then s.cutTarget (f.branch s).target else s.nextEip) := by
  cases htk : (f.branch s).taken with
  | true =>
    refine completes_jump (exec_branch f s) hs hl hlbr (calm_counted f s) rfl (t := s.cutTarget (f.branch s).target) ?_
      fun u hg hm hj => ⟨hg, memSame_of_eq hm, hj⟩
    rw [Runs, branch_body, htk, branch_target]
    exact like_nearBranch (Like.refl (f.counted s)) (branch_target f s ▸ ht htk)
  | false =>
    refine completes_of_like_ends (exec_branch f s) hl (x := f.counted s) ?_ (fun _ => hlbr)
      fun u hu => ⟨?_, ?_, falls_counted f hs hu⟩
    · rw [Runs, branch_body, htk]
      exact runs_pure (Like.refl _)
    · obtain ⟨k, st, n, b, rfl⟩ := hu
      rfl
    · obtain ⟨k, st, n, b, rfl⟩ := hu
      exact memSame_of_eq rfl

theorem start_cutTarget (s : State) (t : Word) : s.start.cutTarget t = s.cutTarget t := rfl

theorem start_nearOk (s : State) (t : Word) : s.start.nearOk t = s.nearOk t := rfl

theorem branchesNear : BranchesNear := by
  refine ⟨fun f s hs hl hlbr => completes_branch f hs hl hlbr, fun rm s hs hl hlbr hc ht => ?_⟩
  have hb : Runs (jmpEvBody rm) s.start fun _ u => Like (s.start.jumped (s.cutTarget ((s.val (bits s.o32) rm).setWidth 32))) u :=
    like_getW (Like.refl s.start) (runs_bind (like_readRm (Like.refl s.start) (bits_div_pos _) (State.can_bytes hc))
      fun x v ⟨hx, hv⟩ => by
        subst hx
        rw [start_val]
        exact like_nearBranch hv ht)
  exact completes_jump (i := .jmpEv rm) rfl hs hl hlbr (calm_start s) rfl hb fun u hg hm hj => ⟨⟨hg, memSame_of_eq hm⟩, hj⟩

/-! ### CALL and RET -/

theorem like_callNear {s u : State} (h : Like s u) {t : Word} (hc : s.canPush (bytes s.o32) = true) (ht : s.nearOk t = true) :
    Runs (callNear t) u fun _ v => Like ((s.pushed (bytes s.o32) s.eip.toNat).jumped (s.cutTarget t)) v := by
  refine like_get_bind h fun k st n b => ?_
  rw [noisy_eip, noisy_o32]
  refine runs_bind (like_nearTarget (like_noisy s k st n b) ht) fun x v ⟨hx, hv⟩ => ?_
  subst hx
  exact runs_bind (like_push hv _ (bytes_pos _) hc) fun _ w hw => like_jumpTo hw _

theorem completes_callNear {i : Instr} {body : M Unit} {s : State} {t : Word} (hi : exec i s = instr false body s)
    (hs : s.ready) (hl : s.lockOk false = true) (hlbr : s.noLbr = true)
    (hb : Runs body s.start fun _ u => Like ((s.start.pushed (bytes s.o32) s.nextEip.toNat).jumped t) u) :
    Completes i s fun u => Pushed s u (bytes s.o32) s.nextEip.toNat ∧ Jumps s u t :=
  completes_jump hi hs hl hlbr ((calm_start s).trans (calm_pushed _ _ _)) (pushed_eflags _ _ _) hb fun _ hg hm hj =>
    ⟨pushed_of hs.1 hj.2.2.2 (hg.trans (start_pushed_gpr _ _ _)) (hm.trans (start_pushed_mem _ _ _)), hj⟩

theorem like_retNear {s u : State} (h : Like s u) {k : Half} (hc : s.canPop 0 (bytes s.o32) = true)
    (ht : s.nearOk (BitVec.ofNat 32 (s.item 0 (bytes s.o32))) = true) :
    Runs (retNearBody k) u fun _ v => Like ((s.setSp (s.popOff (bytes s.o32 + k.toNat))).jumped
      (s.cutTarget (BitVec.ofNat 32 (s.item 0 (bytes s.o32))))) v := by
  refine like_get_bind h fun j st n b => ?_
  rw [noisy_o32]
  refine runs_bind (like_peek (like_noisy s j st n b) (bytes_pos _) hc) fun x v ⟨hx, hv⟩ => ?_
  subst hx
  refine runs_bind (like_nearTarget hv ht) fun x w ⟨hx, hw⟩ => ?_
  subst hx
  have hk : BitVec.ofNat 32 (bytes s.o32) + zx32 k = BitVec.ofNat 32 (bytes s.o32 + k.toNat) := by
    apply BitVec.eq_of_toNat_eq
    simp [zx32]
  refine runs_bind (like_addSp hw _) fun _ z hz => ?_
  rw [hk] at hz
  exact like_jumpTo hz _

/-- Settles O21. -/
theorem nearCalls : Obligations.NearCalls := by
  refine ⟨fun d s hs hl hlbr hc ht => ?jv, fun rm s hs hl hlbr hc hr ht => ?ev,
    fun i k s hi hs hl hlbr hc ht => ?ret⟩
  case jv =>
    refine completes_callNear (i := .callJv d) (body := callBy d) rfl hs hl hlbr ?_
    exact like_get_bind (Like.refl s.start) fun j st n b => by
      rw [noisy_eip]
      exact like_callNear (like_noisy s.start j st n b) (by simpa using hc) ht
  case ev =>
    refine completes_callNear (i := .callEv rm) (body := callEvBody rm) rfl hs hl hlbr ?_
    exact like_getW (Like.refl s.start) (runs_bind (like_readRm (Like.refl s.start) (bits_div_pos _) (State.can_bytes hr))
      fun x v ⟨hx, hv⟩ => by
        subst hx
        rw [start_val]
        exact like_callNear hv (by simpa using hc) ht)
  case ret =>
    have hexec : exec i s = instr false (retNearBody k) s := by
      rcases hi with ⟨rfl, rfl⟩ | rfl <;> rfl
    have hb := like_retNear (Like.refl s.start) (k := k) (by simpa using hc) (by rwa [start_item, start_o32, start_nearOk])
    rw [start_item, start_o32, start_cutTarget] at hb
    refine completes_jump hexec hs hl hlbr ((calm_start s).trans (calm_setSp _ _)) (setSp_eflags _ _) hb fun u hg hm hj =>
      ⟨?_, memSame_of_eq (hm.trans (setSp_mem _ _)), ?_⟩
    · rw [hg, start_setSp]
      rfl
    · exact hj

/-! ### A target beyond the limit -/

theorem run_nearBranch_beyond {s : State} {t : Word} (h : s.nearOk t = false) : nearBranch t s = raise 13 (some 0) s := by
  rw [nearBranch, run_bind, run_nearTarget, h]
  rfl

theorem run_callNear_beyond {s : State} {t : Word} (h : s.nearOk t = false) : callNear t s = raise 13 (some 0) s := by
  rw [callNear, run_bind, run_get]
  dsimp only
  rw [run_bind, run_nearTarget, h]
  rfl

/-- An instruction whose body raises raises, if the body has changed registers alone. -/
theorem raises_of_gpr {i : Instr} {lockOk : Bool} {body : M Unit} {s : State} {g : Gprs} {v : Nat} {c : Option Half}
    (hi : exec i s = instr lockOk body s) (hl : s.lockOk lockOk = true)
    (hb : body s.start = raise v c { s.start with gpr := g }) : Raises i s v c := by
  have hlock : (s.ins.lock && !lockOk) = false := by
    simpa [State.lockOk] using congrArg not hl
  refine ⟨{ s.start with gpr := g }, ?_, rfl, rfl, rfl, rfl, rfl, rfl, rfl, rfl, rfl, rfl, rfl⟩
  unfold State.start at hb ⊢
  simp only [hi, instr, hlock, Bool.false_eq_true, if_false, run_bind, hb, raise, run_throw]

theorem run_nearEv_beyond {s : State} {rm : Rm} (hc : s.can rm (bits s.o32 / 8) .read = true)
    (ht : s.nearOk ((s.val (bits s.o32) rm).setWidth 32) = false) :
    ∃ k, jmpEvBody rm s = raise 13 (some 0) (s.withHit k) ∧ callEvBody rm s = raise 13 (some 0) (s.withHit k) := by
  obtain ⟨k, hk⟩ := readRm_can (bits_div_pos s.o32) hc
  have ht' : (s.withHit k).nearOk ((s.val (bits s.o32) rm).setWidth 32) = false := ht
  refine ⟨k, ?_, ?_⟩
  · simp only [jmpEvBody, run_bind, run_getW, hk]
    exact run_nearBranch_beyond ht'
  · simp only [callEvBody, run_bind, run_getW, hk]
    exact run_callNear_beyond ht'

theorem branch_beyond (f : BranchForm) {s : State} (htk : (f.branch s).taken = true)
    (ht : s.nearOk (f.branch s).target = false) :
    f.body s.start = raise 13 (some 0) { s.start with gpr := (f.branch s).gpr } := by
  rw [branch_target] at ht
  rw [branch_body, htk]
  exact (branchBy_counted f s f.disp).trans (run_nearBranch_beyond ht)

theorem callBy_beyond {s : State} {d : Word} (ht : s.nearOk (s.eip + d) = false) : callBy d s = raise 13 (some 0) s := by
  simp only [callBy, run_bind, run_get]
  exact run_callNear_beyond ht

theorem branchLimit : BranchLimit := by
  refine ⟨fun f s hl htk ht => ?branch, fun d s hl ht => ?call, fun rm s hl hc ht => ?ev⟩
  case branch => exact raises_of_gpr (exec_branch f s) hl (branch_beyond f htk ht)
  case call => exact raises_of_body (i := .callJv d) (body := callBy d) rfl hl (callBy_beyond ht)
  case ev =>
    have ht' : s.start.nearOk ((s.start.val (bits s.start.o32) rm).setWidth 32) = false :=
      (congrArg s.nearOk (congrArg (BitVec.setWidth 32) (start_val s (bits s.o32) rm))).trans ht
    obtain ⟨k, hj, hk⟩ := run_nearEv_beyond (s := s.start) (State.can_bytes (s := s.start) ((start_can _ _ _ _).trans hc)) ht'
    exact ⟨raises_of_body_withHit (i := .jmpEv rm) rfl hl hj, raises_of_body_withHit (i := .callEv rm) rfl hl hk⟩

/-- Settles O53. -/
theorem nearBranches : Obligations.NearBranches := ⟨branchesNear, branchLimit⟩

end Sys2Proof.Machine

/-! SUPPORT. The prefixes, the words of the opcode map, and the step of a decoded instruction. -/
namespace Sys2Proof.Machine
open Host

/-! ### Prefixes and words of the opcode map -/

/-- Settles O40. -/
theorem prefixes : Obligations.Prefixes := by
  refine fun s => ⟨fun i r hi => ?_, rfl, rfl, rfl, rfl, rfl⟩
  rcases hi with ⟨rfl, rfl⟩ | ⟨rfl, rfl⟩ | ⟨rfl, rfl⟩ | ⟨rfl, rfl⟩ | ⟨rfl, rfl⟩ | ⟨rfl, rfl⟩ <;> rfl

/-- Settles O38: each word is the encoding of its instruction, but for the last, which has no instruction. -/
theorem decodeWords : Obligations.DecodeWords := by
  have hdec := decodeEncode.1
  exact ⟨hdec ⟨false, false⟩ (.addEbGb (.reg .al) .bl) [] rfl,
    hdec ⟨true, true⟩ (.movGvEv .eax (.mem (.sib 2 .ecx .edx (.d8 0x10#8)))) [] rfl,
    hdec ⟨false, false⟩ (.movEvGv (.mem (.base16 .bpSi (.d8 0xFE#8))) .eax) [] rfl,
    hdec ⟨true, true⟩ (.callJv 0x12345678#32) [] rfl, hdec ⟨true, true⟩ (.intIb 0x80#8) [] rfl,
    hdec ⟨true, true⟩ (.shrdEvGvIb (.reg .ebx) .ecx 4#8) [] rfl, hdec ⟨true, true⟩ (.fmulSTSTi 2) [] rfl,
    hdec ⟨true, true⟩ .prefixRepRepeRepz [0xA4#8] rfl, hdec ⟨true, true⟩ .ud2 [] rfl, rfl⟩

/-! ### What goes on before every step -/

/-- The state after something that concerns the caches, the held translations and the time-stamp counter. -/
def State.idled (s : State) (m : List Cell) (st : List StaleByte) (c : Bool) (n : Nat) (tl : List TlbEntry) (t : QWord) :
    State :=
  { s with mem := m, stale := st, cached := c, free := n, tlb := tl, msr := { s.msr with tsc := t } }

/-- The states that differ from a state in that. -/
def Idles (s u : State) : Prop := ∃ m st c n tl t, u = s.idled m st c n tl t

theorem Idles.refl (s : State) : Idles s s := ⟨_, _, _, _, _, _, rfl⟩

theorem Idles.trans {s t u : State} (h : Idles s t) (h' : Idles t u) : Idles s u := by
  obtain ⟨m, st, c, n, tl, x, rfl⟩ := h
  obtain ⟨m', st', c', n', tl', x', rfl⟩ := h'
  exact ⟨m', st', c', n', tl', x', rfl⟩

theorem idles_foldl {α : Type} {f : State → α → State} (hf : ∀ s a, Idles s (f s a)) (as : List α) (s : State) :
    Idles s (as.foldl f s) := by
  induction as generalizing s with
  | nil => exact Idles.refl s
  | cons a as ih => exact (hf s a).trans (ih _)

theorem idles_settleByte (s : State) (c : StaleByte) : Idles s (s.settleByte c) := by
  unfold State.settleByte
  split <;> exact ⟨_, _, _, _, _, _, rfl⟩

theorem idles_settleLines (s : State) : Idles s s.settleLines := by
  unfold State.settleLines
  split
  · exact Idles.refl s
  · exact Idles.trans (t := { s with cached := true }) ⟨_, _, _, _, _, _, rfl⟩ (idles_foldl idles_settleByte _ _)

theorem idles_speculateAt (s : State) (la : Word) : Idles s (s.speculateAt la) := by
  unfold State.speculateAt
  split
  · split
    · split
      · exact ⟨_, _, _, _, _, _, rfl⟩
      · exact Idles.refl s
    · exact Idles.refl s
  · exact Idles.refl s

theorem idles_speculate (s : State) : Idles s s.speculate := by
  unfold State.speculate
  split
  · exact Idles.trans (t := { s with free := s.free + 1 }) ⟨_, _, _, _, _, _, rfl⟩ (idles_foldl idles_speculateAt _ _)
  · exact Idles.refl s

theorem idles_prelude (s : State) : Idles s s.prelude := by
  have htick : Idles s s.tick := ⟨_, _, _, _, _, _, rfl⟩
  unfold State.prelude
  split
  · exact htick
  · exact htick.trans ((idles_settleLines _).trans (idles_speculate _))

/-! ### A boundary at which nothing arrives -/

theorem setBit_self {w : Nat} {x : BitVec w} {i : Nat} (h : bit x i = false) : setBit x i false = x := by
  apply BitVec.eq_of_getLsbD_eq
  intro j hj
  have hx : x.getLsbD i = false := h
  simp only [setBit, Bool.false_eq_true, if_false, BitVec.getLsbD_and, BitVec.getLsbD_not, BitVec.getLsbD_twoPow, hj,
    decide_true, Bool.true_and]
  by_cases hij : i = j
  · subst hij
    simp [hx]
  · simp [hij]

theorem retry_idle {a : Apic} {l : Lvt} (h : bit (a.lvt l) 12 = false) : a.retry l = a := by
  simp [Apic.retry, h]

theorem setStatus_idle {a : Apic} {l : Lvt} (h : bit (a.lvt l) 12 = false) : a.setStatus l false = a := by
  rw [Apic.setStatus, setBit_self h]
  cases l <;> rfl

/-- A pin that does not request leaves its entry as it is. -/
theorem levelPin_idle {a : Apic} {l : Lvt} {pin : Bool} (hp : l.isPin = true) (h : bit (a.lvt l) 12 = false)
    (ha : levelActive (a.lvt l) pin = false) : a.levelPin l pin = a := by
  have hor : (bit (a.lvt l) 16 || !l.levelMode (a.lvt l)) = true ∨ pin = bit (a.lvt l) 13 := by
    by_cases hpin : pin = bit (a.lvt l) 13
    · exact .inr hpin
    · left
      have hne : (pin != bit (a.lvt l) 13) = true := by simpa using hpin
      rw [levelActive, hne, Bool.and_true] at ha
      simp only [Lvt.levelMode, hp, Bool.true_and]
      cases hmask : bit (a.lvt l) 16 with
      | true => rfl
      | false => simpa [hmask, imp_iff_not_or] using ha
  unfold Apic.levelPin
  rcases hor with hmode | hpin
  · rw [if_pos hmode]
  · simp only [if_pos hpin, setStatus_idle h, ite_self]

theorem settle_idle {a : Apic} (h0 : levelActive a.lvtLint0 a.lint0 = false) (h1 : levelActive a.lvtLint1 a.lint1 = false)
    (h : ∀ l : Lvt, bit (a.lvt l) 12 = false) : a.settle = a := by
  simp only [Apic.settle, levelPin_idle (l := .lint0) rfl (h _) h0, levelPin_idle (l := .lint1) rfl (h _) h1, retry_idle (h _)]

theorem settleApic_idle {s : State} (h : s.apicIdle = true) : settleApic s = .ok () s := by
  cases hon : s.apicOn with
  | false => simp only [settleApic, run_bind, run_get, hon]; rfl
  | true =>
    simp only [State.apicIdle, hon, Bool.not_true, Bool.false_or, Bool.and_eq_true, Bool.not_eq_true', List.all_cons,
      List.all_nil, Bool.and_true, Option.isNone_iff_eq_none] at h
    obtain ⟨⟨⟨hout, h0⟩, h1⟩, ht, hpf, hl0, hl1, he⟩ := h
    have hsettle : s.apic.settle = s.apic := settle_idle h0 h1 fun l => by cases l <;> assumption
    simp only [settleApic, run_bind, run_get, hon, retryOutgoing, hout, whenM, if_true, run_pure, modifyApic, run_modify,
      hsettle]

/-- Where nothing but an interrupt can be pending, the boundary asks for an interrupt. -/
theorem boundary_idle {s : State} (h : s.onlyInterrupts = true) (hb : s.booting = false) :
    boundary s = attendInterrupt { s with smm := { s.smm with ioRec := none } } := by
  simp only [State.onlyInterrupts, Bool.and_eq_true, Bool.not_eq_true', decide_eq_true_eq, List.isEmpty_iff] at h
  obtain ⟨⟨⟨⟨⟨⟨⟨hev, hapic⟩, hT⟩, hS⟩, hB⟩, hstop⟩, hsmi⟩, hinit⟩ := h
  have hnext : nextEvent s = .ok .idle s := by
    simp only [nextEvent, run_bind, run_get, hev, State.upcoming, run_set, run_pure]
    rw [← hev]
  simp only [boundary, run_bind, run_get, hnext, hb, arrive, run_ite, Bool.false_eq_true, if_false, run_pure,
    settleApic_idle hapic, attend, hT, Bool.and_false, hstop, State.takesSmi, hsmi, State.takesInit, hinit, Bool.false_and,
    run_modify, State.trapsHeld, hS, hB, ne_eq, not_true_eq_false, decide_false, Bool.or_false]

theorem attendInterrupt_running {s : State} (hact : s.lat.activity = .running) (hnmi : s.takesNmi = false)
    (hintr : (s.takesIntr && (s.lat.intr.isSome || s.apic.wants && s.apicOn)) = false) : attendInterrupt s = .ok .run s := by
  have hi : (s.takesIntr && s.lat.intr.isSome) = false := by
    revert hintr; cases s.takesIntr <;> cases s.lat.intr.isSome <;> simp
  have ha : (s.takesIntr && s.apic.wants && s.apicOn) = false := by
    revert hintr; cases s.takesIntr <;> cases s.lat.intr.isSome <;> simp
  simp only [attendInterrupt, run_bind, run_get, run_ite, hnmi, hi, ha, hact, Bool.false_eq_true, if_false,
    if_true, run_pure]

/-- Where nothing is pending, the next instruction is fetched. -/
theorem boundary_undisturbed {s : State} (h : s.undisturbed = true) :
    boundary s = .ok .run { s with smm := { s.smm with ioRec := none } } := by
  simp only [State.undisturbed, Bool.and_eq_true, decide_eq_true_eq, Bool.not_eq_true'] at h
  obtain ⟨⟨⟨⟨hidle, hact⟩, hnmi⟩, hintr⟩, -⟩ := h
  rw [boundary_idle hidle (by simp [State.booting, hact])]
  refine attendInterrupt_running hact (by simp [State.takesNmi, hnmi]) ?_
  have hflag : ({ s with smm := { s.smm with ioRec := none } } : State).flag fIF = s.flag fIF := rfl
  simp only [State.takesIntr, hflag]
  rcases Bool.or_eq_true_iff.1 hintr with hif | hnone
  · have hf : s.flag fIF = false := by simpa using hif
    simp [hf]
  · simp only [Bool.and_eq_true, Option.isNone_iff_eq_none, Bool.or_eq_true, Bool.not_eq_true'] at hnone
    obtain ⟨hn, ha⟩ := hnone
    have hreq : (s.apic.wants && s.apicOn) = false := by
      rcases ha with ha | ha <;> simp [ha]
    have hapicOn : ({ s with smm := { s.smm with ioRec := none } } : State).apicOn = s.apicOn := rfl
    simp [hn, hapicOn, hreq]

/-! ### The instruction that is fetched -/

theorem checkCodeBreakpoint_off {s : State} (h : field s.dbg.dr7 0 8 = 0) : checkCodeBreakpoint s = .ok () s := by
  have hbit (j : Nat) (hj : j < 8) : bit s.dbg.dr7 j = false := by
    have hget := congrArg (fun x : BitVec 8 => x.getLsbD j) h
    simpa [field, hj, bit] using hget
  have hoff (n : Nat) (hn : n < 4) : bpEnabled s.dbg.dr7 n = false := by
    rw [bpEnabled, hbit _ (by omega), hbit _ (by omega)]
    rfl
  have hbad (de : Bool) (n : Nat) (hn : n < 4) : s.dbg.badSetting de n = false := by rw [Dbg.badSetting, hoff n hn, Bool.false_and]
  have hset : s.dbg.enabledSet = 0 := by
    simp only [Dbg.enabledSet, hoff 0, hoff 1, hoff 2, hoff 3, Nat.reduceLT]
    rfl
  simp only [checkCodeBreakpoint, run_bind, run_get, run_ite, hbad _ 0, hbad _ 1, hbad _ 2, hbad _ 3, Nat.reduceLT, hset,
    Bool.or_false, Bool.false_eq_true, if_false]
  simp

theorem fetchBytes_plain {s : State} (h : s.plain = true) {la : Word} {n : Nat} {user : Bool} (hn : 0 < n)
    (hl : la.toNat + n ≤ 0xFEE00000) : fetchBytes la n user s = .ok (memBytes s.mem la.toNat n) s := by
  have hothers : s.others.isEmpty = true := by
    simp only [State.plain, Bool.and_eq_true] at h
    exact h.2
  simp only [fetchBytes, run_bind, linearSpans_plain h la n _ _ hn hl, anyApic_spansAt, Bool.false_eq_true, if_false, run_get,
    hothers, if_true, loadSpans_plain h]

theorem decodeFrom_ok {s : State} {bs rest : List Byte} {i : Instr} (h : decode s.sizes bs = .ok (i, rest)) :
    decodeFrom bs s = .ok (some (i, bs.length - rest.length)) s := by
  simp only [decodeFrom, run_bind, run_get, h]
  rfl

theorem decodeFrom_short {s : State} {bs : List Byte} (h : decode s.sizes bs = .error .short) :
    decodeFrom bs s = .ok none s := by
  simp only [decodeFrom, run_bind, run_get, h]
  rfl

theorem fetchInstr_plain {s : State} {i : Instr} {k : Nat} {rest : List Byte} (h : s.plain = true)
    (hl : (s.seg.cs.base + s.fetchOff).toNat + insideCode s.seg.cs s.fetchOff (15 - s.ins.len) ≤ 0xFEE00000)
    (hm : 0 < insideCode s.seg.cs s.fetchOff (15 - s.ins.len))
    (hk : k = min (insideCode s.seg.cs s.fetchOff (15 - s.ins.len)) (0x1000 - (s.seg.cs.base + s.fetchOff).toNat % 0x1000) ∨
      (k = insideCode s.seg.cs s.fetchOff (15 - s.ins.len) ∧
        decode s.sizes (memBytes s.mem (s.seg.cs.base + s.fetchOff).toNat
          (min (insideCode s.seg.cs s.fetchOff (15 - s.ins.len)) (0x1000 - (s.seg.cs.base + s.fetchOff).toNat % 0x1000))) =
          .error .short))
    (hd : decode s.sizes (memBytes s.mem (s.seg.cs.base + s.fetchOff).toNat k) = .ok (i, rest)) :
    fetchInstr s = .ok (i, k - rest.length) s := by
  have hmax : Config.maxInstr = 15 := rfl
  rw [fetchInstr, run_bind, run_get]
  dsimp only
  rw [hmax]
  generalize insideCode s.seg.cs s.fetchOff (15 - s.ins.len) = m at *
  generalize s.seg.cs.base + s.fetchOff = la at *
  generalize hf : min m (0x1000 - la.toNat % 0x1000) = f at *
  have hf0 : 0 < f := by omega
  rw [run_ite, if_neg (by omega), run_bind, fetchBytes_plain h hf0 (by omega)]
  dsimp only
  rw [run_bind]
  rcases hk with rfl | ⟨rfl, hshort⟩
  · rw [decodeFrom_ok hd, memBytes_length]
    rfl
  · have hfk : f ≠ k := by
      rintro rfl
      simp [hshort] at hd
    have hla : (la + BitVec.ofNat 32 f).toNat = la.toNat + f := by
      rw [BitVec.toNat_add, BitVec.toNat_ofNat]
      omega
    have hsplit : memBytes s.mem la.toNat f ++ memBytes s.mem (la.toNat + f) (k - f) = memBytes s.mem la.toNat k := by
      rw [← memBytes_add]
      congr 1
      omega
    rw [decodeFrom_short hshort]
    dsimp only
    rw [run_ite, if_neg hfk, run_bind, fetchBytes_plain h (by omega) (by omega), hla]
    dsimp only
    rw [hsplit, run_bind, decodeFrom_ok hd, memBytes_length]
    rfl

theorem fetchAndRun_plain {s : State} {i : Instr} {k : Nat} {t : State} (h : fetchInstr s = .ok (i, k) t)
    (hb : s.ins.len ≠ 0 ∨ field s.dbg.dr7 0 8 = 0) : fetchAndRun s = exec i (t.decoded k) := by
  have hcheck : whenM (decide (s.ins.len = 0)) checkCodeBreakpoint s = .ok () s := by
    by_cases hlen : s.ins.len = 0
    · simp only [whenM, hlen, decide_true, if_true]
      exact checkCodeBreakpoint_off (hb.resolve_left (not_not.2 hlen))
    · simp only [whenM, hlen, decide_false, Bool.false_eq_true, if_false, run_pure]
  simp only [fetchAndRun, fetchNext, run_bind, run_get, hcheck, h]

/-- Settles O39. -/
theorem stepRunsDecoded : Obligations.StepRunsDecoded := by
  intro s i k rest
  dsimp only
  intro hp hl hb hm hk _ hd
  obtain ⟨m, st, c, n, tl, x, hpre⟩ := idles_prelude s
  unfold step State.fetched
  rw [hpre] at hd hk ⊢
  by_cases hlen : s.ins.len = 0
  · have hun : (s.idled m st c n tl x).undisturbed = true := hb.resolve_left (not_not.2 hlen)
    have hlen' : ¬ (s.idled m st c n tl x).ins.len ≠ 0 := not_not.2 hlen
    dsimp only
    rw [if_neg hlen', boundary_undisturbed hun, if_pos hlen]
    have hdr7 : field s.dbg.dr7 0 8 = 0 := by
      simp only [State.undisturbed, Bool.and_eq_true, decide_eq_true_eq] at hun
      exact hun.2
    have hfetch := fetchInstr_plain (s := { s.idled m st c n tl x with smm := { s.smm with ioRec := none } }) hp hl hm hk hd
    exact fetchAndRun_plain hfetch (.inr hdr7)
  · have hlen' : (s.idled m st c n tl x).ins.len ≠ 0 := hlen
    dsimp only
    rw [if_pos hlen', if_neg hlen]
    exact fetchAndRun_plain (fetchInstr_plain (s := s.idled m st c n tl x) hp hl hm hk hd) (.inl hlen')

end Sys2Proof.Machine

/-! SUPPORT. The state after reset, and the boot protocol. -/
namespace Sys2Proof.Machine
open Host

/-! ### One step of the boot protocol -/

/-- A step of a processor that boots is what the protocol makes of the event that arrives. -/
theorem step_booting {b : State} {e : Event} {q : State → Prop} (hlen : b.ins.len = 0) (hboot : b.booting = true)
    (h : ∀ w, Idles b w → ∃ t u, nextEvent w = .ok e t ∧ bootStep e t = .ok () u ∧ q u) :
    ∃ u, step b = .next u ∧ q u := by
  have hidle := idles_prelude b
  obtain ⟨t, u, hnext, hrun, hq⟩ := h _ hidle
  obtain ⟨m, st, c, n, tl, x, hpre⟩ := hidle
  refine ⟨u, ?_, hq⟩
  have hlen' : ¬ b.prelude.ins.len ≠ 0 := by
    rw [hpre]
    exact not_not.2 hlen
  have hboot' : b.prelude.booting = true := by
    rw [hpre]
    exact hboot
  have hb : boundary b.prelude = .ok .stay u := by
    simp only [boundary, run_bind, run_get, hnext, hboot', if_true, hrun]
    rfl
  simp only [step, if_neg hlen', hb]

theorem nextEvent_none {s : State} (h : s.events = []) : nextEvent s = .ok .idle s := by
  simp only [nextEvent, run_bind, run_get, h, State.upcoming, run_set, run_pure]
  rw [← h]

theorem nextEvent_apic {s : State} {m : ApicMsg} {rest : List Event} (h : s.events = .apic m :: rest) :
    nextEvent s = .ok (.apic m) { s with events := rest } := by
  simp only [nextEvent, run_bind, run_get, h, State.upcoming, State.count, run_set, run_pure]

/-- A message of the protocol has been sent. -/
def State.bootSent (s : State) (g : BitVec 4) (a : Activity) : State :=
  { s with bus := .apic (bootIpi g s.apic.id s.apic.arbId) 2 :: s.bus, apic := { s.apic with arbId := 0 },
           lat := { s.lat with activity := a } }

theorem bootIpi_fields (g id : BitVec 4) : field (g ++ id : BitVec 8) 4 4 = g ∧ field (g ++ id : BitVec 8) 0 4 = id := by
  revert g id
  decide

theorem bootIpi_isBoot {g id arb : BitVec 4} (hg : g = 4 ∨ g = 1) : (bootIpi g id arb).isBoot = true := by
  have hf : field (bootIpi g id arb).vector 4 4 = g := (bootIpi_fields g id).1
  rw [ApicMsg.isBoot, hf]
  rcases hg with rfl | rfl <;> rfl

theorem run_sendBoot (s : State) (g : BitVec 4) (a : Activity) :
    (do sendBoot g; setActivity a) s = .ok () (s.bootSent g a) := rfl

theorem run_bootTurn {s : State} (hs : s.lat.stopClock = false) :
    bootTurn s = (if s.lat.activity = Activity.boot then do
        sendBoot 4
        setActivity .elected
      else if s.lat.activity = Activity.elected then do
        sendBoot 1
        modify State.bootWon
      else pure ()) s := by
  rw [bootTurn, run_bind, run_get]
  dsimp only
  rw [hs, run_ite, if_neg Bool.false_ne_true]

theorem bootStep_elect {s : State} (ha : s.lat.activity = .boot) (hs : s.lat.stopClock = false) :
    bootStep .idle s = .ok () (s.bootSent 4 .elected) := by
  have hturn : bootStep .idle s = bootTurn s := rfl
  rw [hturn, run_bootTurn hs, if_pos ha, run_sendBoot]

theorem bootStep_win {s : State} (ha : s.lat.activity = .elected) (hs : s.lat.stopClock = false) :
    bootStep .idle s = .ok () (s.bootSent 1 .elected).bootWon := by
  have hturn : bootStep .idle s = bootTurn s := rfl
  rw [hturn, run_bootTurn hs, if_neg (by rw [ha]; decide), if_pos ha]
  rfl

/-- What a booting processor does with a message of the protocol. -/
theorem bootStep_hears {s : State} {g other arb : BitVec 4} (hg : g = 4 ∨ g = 1) (hs : s.lat.stopClock = false) :
    bootStep (.apic (bootIpi g other arb)) s = (if s.lat.activity = .boot && g = 4 && other ≠ s.apic.id then do
        sendBoot 4
        setActivity .passedOver
      else if s.lat.activity = .passedOver && g = 1 then setActivity .waitSipi
      else pure ()) { s with apic := s.apic.rotate arb } := by
  have hv : field (bootIpi g other arb).vector 4 4 = g := (bootIpi_fields g other).1
  have ho : field (bootIpi g other arb).vector 0 4 = other := (bootIpi_fields g other).2
  rw [bootStep, run_bind, run_get]
  dsimp only
  rw [hs, run_ite, if_neg Bool.false_ne_true, bootMessage, run_bind, run_get]
  dsimp only
  rw [bootIpi_isBoot hg, run_ite, if_pos rfl, bootHears, hv, ho]
  rfl

theorem bootStep_passed {s : State} {other arb : BitVec 4} (ha : s.lat.activity = .boot) (hs : s.lat.stopClock = false)
    (hid : other ≠ s.apic.id) :
    bootStep (.apic (bootIpi 4 other arb)) s = .ok () (({ s with apic := s.apic.rotate arb } : State).bootSent 4 .passedOver) := by
  rw [bootStep_hears (.inl rfl) hs, if_pos (by simp [ha, hid]), run_sendBoot]

theorem bootStep_final {s : State} {winner arb : BitVec 4} (ha : s.lat.activity = .passedOver) (hs : s.lat.stopClock = false) :
    bootStep (.apic (bootIpi 1 winner arb)) s =
      .ok () { s with apic := s.apic.rotate arb, lat := { s.lat with activity := .waitSipi } } := by
  rw [bootStep_hears (.inr rfl) hs, if_neg (by simp), if_pos (by simp [ha])]
  rfl

theorem bit_setBit_same {w i : Nat} {x : BitVec w} (hi : i < w) : bit (setBit x i true) i = true := by
  simp [bit, setBit, hi]

/-! ### The values after reset -/

theorem resetEdx_fields : field resetEdx 8 4 = 6#4 ∧ field resetEdx 16 16 = 0#16 := by
  unfold resetEdx
  generalize Config.signatureType = t
  generalize Config.signatureLow = l
  constructor
  · apply BitVec.eq_of_getLsbD_eq
    intro i hi
    have hl : ¬ 8 + i < 8 := by omega
    simp only [field, BitVec.getLsbD_extractLsb', BitVec.truncate_eq_setWidth, BitVec.getLsbD_setWidth, BitVec.getLsbD_append]
    simp [hi]
    omega
  · apply BitVec.eq_of_getLsbD_eq
    intro i hi
    simp [field]

theorem reset_segments (r : SegReg) : (r ≠ .cs → (State.reset.seg.get r).sel = 0 ∧ (State.reset.seg.get r).base = 0 ∧
    (State.reset.seg.get r).limit = 0xFFFF#32) ∧ (State.reset.seg.get r).p = true ∧
    isWritable (State.reset.seg.get r).s (State.reset.seg.get r).type = true := by
  cases r <;> decide

/-- Settles O35. -/
theorem resetState : Obligations.ResetState := by
  refine ⟨⟨rfl, rfl, by decide, by decide, by decide, by decide⟩, rfl, rfl, rfl, rfl, rfl, rfl, rfl, rfl, rfl, rfl, fun r => (reset_segments r).1, fun r => (reset_segments r).2,
    rfl, rfl, rfl, rfl, rfl, rfl, rfl, resetEdx_fields.1, resetEdx_fields.2, rfl, rfl, rfl, rfl, rfl, rfl, rfl, rfl, rfl, rfl,
    rfl, rfl, rfl, rfl, ?elect, ?win, ?passed, ?final⟩
  case elect =>
    intro b ha hlen hs hev
    refine step_booting (e := .idle) hlen (by simp [State.booting, ha]) ?_
    rintro _ ⟨m, st, c, n, tl, x, rfl⟩
    exact ⟨_, _, nextEvent_none hev, bootStep_elect ha hs, rfl, rfl, rfl, rfl, rfl, rfl, rfl⟩
  case win =>
    intro b ha hlen hs hev
    refine step_booting (e := .idle) hlen (by simp [State.booting, ha]) ?_
    rintro _ ⟨m, st, c, n, tl, x, rfl⟩
    exact ⟨_, _, nextEvent_none hev, bootStep_win ha hs, rfl, bit_setBit_same (by decide), rfl, rfl, rfl, rfl, rfl⟩
  case passed =>
    intro b other arb rest ha hlen hs hev hid
    refine step_booting (e := .apic (bootIpi 4 other arb)) hlen (by simp [State.booting, ha]) ?_
    rintro _ ⟨m, st, c, n, tl, x, rfl⟩
    exact ⟨_, _, nextEvent_apic hev, bootStep_passed ha hs hid, rfl, rfl, rfl, rfl, rfl, rfl, _, rfl⟩
  case final =>
    intro b winner arb rest ha hlen hs hev
    refine step_booting (e := .apic (bootIpi 1 winner arb)) hlen (by simp [State.booting, ha]) ?_
    rintro _ ⟨m, st, c, n, tl, x, rfl⟩
    exact ⟨_, _, nextEvent_apic hev, bootStep_final ha hs, rfl, rfl, rfl, rfl, rfl, rfl, rfl⟩

end Sys2Proof.Machine

/-! SUPPORT. Input and output. -/
namespace Sys2Proof.Machine
open Host

/-! ### The permission of a port -/

/-- The offset of the byte of the permission bit map that a port's bit lies in. -/
def State.ioMapAt (s : State) (port : Nat) : Nat := s.num (s.sys.tr.base + 102).toNat 2 + port / 8

theorem run_ioPermitted {s : State} {port n : Nat} {ok : Bool} (h1 : s.sys.tr.type ≠ 1) (h3 : s.sys.tr.type ≠ 3)
    (hl : 103 ≤ s.sys.tr.limit.toNat) (hb : s.plainAt (s.sys.tr.base + 102) 2 = true)
    (hok : if s.sys.tr.limit.toNat < s.ioMapAt port + 1 then ok = false
      else s.plainAt (s.sys.tr.base + BitVec.ofNat 32 (s.ioMapAt port)) 2 = true ∧
        ok = decide (s.num (s.sys.tr.base + BitVec.ofNat 32 (s.ioMapAt port)).toNat 2 / 2 ^ (port % 8) % 2 ^ n = 0)) :
    ioPermitted port n s = .ok ok s := by
  have hreach (a : Word) (h : s.plainAt a 2 = true) : s.sysReach a.toNat 2 := by
    simp only [State.plainAt, Bool.and_eq_true, decide_eq_true_eq] at h
    exact h
  have hmap : s.num (s.sys.tr.base + 102).toNat 2 + port / 8 = s.ioMapAt port := rfl
  rw [ioPermitted, run_bind, run_get]
  dsimp only
  rw [run_ite, if_neg (not_or.2 ⟨h1, h3⟩), run_ite, if_neg (by omega), run_bind, run_sysRead (hreach _ hb) (by decide)]
  dsimp only
  rw [hmap, run_ite]
  split
  · next hlim =>
    rw [if_pos hlim] at hok
    rw [hok]
    rfl
  · next hlim =>
    rw [if_neg hlim] at hok
    obtain ⟨hp, rfl⟩ := hok
    rw [run_bind, run_sysRead (hreach _ hp) (by decide)]
    simp only [Nat.shiftRight_eq_div_pow]
    rfl

theorem run_checkIO_allowed {s : State} {port n : Nat} (h : s.ioAllowed port n = true) : checkIO port n s = .ok () s := by
  rw [State.ioAllowed] at h
  rw [checkIO, run_bind, run_get]
  dsimp only
  rw [run_ite]
  split at h
  · next hc =>
    simp only [Bool.and_eq_true, decide_eq_true_eq] at h
    obtain ⟨⟨⟨⟨⟨⟨h1, h3⟩, hl⟩, hb⟩, ho⟩, hp⟩, hz⟩ := h
    have ho' : ¬ s.sys.tr.limit.toNat < s.ioMapAt port + 1 := not_lt.2 ho
    rw [if_pos hc, run_bind, run_ioPermitted (ok := true) h1 h3 hl hb (by rw [if_neg ho']; exact ⟨hp, (decide_eq_true hz).symm⟩)]
    rfl
  · next hc => rw [if_neg hc]; rfl

theorem run_checkIO_denied {s : State} {port n : Nat} (h : s.ioDenied port n = true) :
    checkIO port n s = raise 13 (some 0) s := by
  simp only [State.ioDenied, Bool.and_eq_true, Bool.or_eq_true, decide_eq_true_eq] at h
  obtain ⟨hc, hwhy⟩ := h
  have hperm : ioPermitted port n s = .ok false s := by
    by_cases h1 : s.sys.tr.type = 1 ∨ s.sys.tr.type = 3
    · simp only [ioPermitted, run_bind, run_get, run_ite, if_pos h1, run_pure]
    by_cases hl : s.sys.tr.limit.toNat < 103
    · simp only [ioPermitted, run_bind, run_get, run_ite, if_neg h1, if_pos hl, run_pure]
    have hlast := (hwhy.resolve_left fun hx => hx.elim h1 hl)
    obtain ⟨hb, hlast⟩ := hlast
    refine run_ioPermitted (fun hx => h1 (.inl hx)) (fun hx => h1 (.inr hx)) (not_lt.1 hl) hb ?_
    split
    · rfl
    · next ho =>
      obtain ⟨hp, hz⟩ := hlast.resolve_left ho
      exact ⟨hp, (decide_eq_false hz).symm⟩
  rw [checkIO, run_bind, run_get]
  dsimp only
  rw [run_ite, if_pos (by simpa using hc), run_bind, hperm]
  rfl

/-! ### IN and OUT -/

/-- What an I/O instruction notes for a restart. -/
def State.ioNoted (s : State) (io : Option IoRec) : State := { s with tr := { s.tr with io := io } }

/-- The record of an I/O instruction at an offset. -/
def State.ioRecord (s : State) (cur : Word) : IoRec :=
  { eip := cur, eax := s.gpr.eax, ecx := s.gpr.ecx, esi := s.gpr.esi, edi := s.gpr.edi }

/-- The state with a message sent on the bus. -/
def State.sent (s : State) (m : BusMsg) : State := { s with bus := m :: s.bus }

theorem like_emit {s u : State} (h : Like s u) (m : BusMsg) : Runs (emit m) u fun _ v => Like (s.sent m) v :=
  like_modify h fun _ _ _ _ _ => rfl

theorem like_noteHits {s u : State} (h : Like s u) (f : Dbg → BitVec 4) : Runs (noteHits f) u fun _ v => Like s v := by
  obtain ⟨k, st, n, b, rfl⟩ := h
  exact ⟨_, _, rfl, _, st, n, b, rfl⟩

theorem noisy_ioAllowed (s : State) (k : BitVec 4) (st : List StaleByte) (c : Nat) (b : Bool) (port n : Nat) :
    (s.noisy k st c b).ioAllowed port n = s.ioAllowed port n := rfl

theorem like_checkPort {s u : State} (h : Like s u) {cur : Word} {port n : Nat} (ha : s.ioAllowed port n = true) :
    Runs (checkPort cur port n) u fun _ v => ∃ io, Like (s.ioNoted io) v := by
  obtain ⟨k, st, c, b, rfl⟩ := h
  have hnote : noteIo cur (s.noisy k st c b) = .ok () ((s.ioNoted (some (s.ioRecord cur))).noisy k st c b) := rfl
  refine runs_bind (q := fun _ v => ∃ io, Like (s.ioNoted io) v) ⟨_, _, hnote, _, like_noisy _ k st c b⟩ fun _ v ⟨io, hv⟩ => ?_
  have hio : Runs (checkIO port n) v fun _ w => Like (s.ioNoted io) w := by
    obtain ⟨k', st', c', b', rfl⟩ := hv
    have ha' : ((s.ioNoted io).noisy k' st' c' b').ioAllowed port n = true := ha
    exact ⟨_, _, run_checkIO_allowed ha', like_noisy _ _ _ _ _⟩
  refine runs_bind hio fun _ w hw => like_get_bind hw fun k' st' c' b' => ?_
  unfold whenM
  split
  · exact runs_mono (like_noteHits (like_noisy _ _ _ _ _) _) fun _ x hx => ⟨io, hx⟩
  · exact runs_pure ⟨io, like_noisy _ _ _ _ _⟩

theorem run_checkPort_denied {s : State} {cur : Word} {port n : Nat} (h : s.ioDenied port n = true) :
    ∃ io, checkPort cur port n s = raise 13 (some 0) (s.ioNoted io) := by
  have hnote : noteIo cur s = .ok () (s.ioNoted (some (s.ioRecord cur))) := rfl
  refine ⟨some (s.ioRecord cur), ?_⟩
  rw [checkPort, run_bind, hnote]
  exact run_bind_raise _ (run_checkIO_denied h)

/-- The accumulator at a width of 8, 16 or 32. -/
theorem like_readAccAny {s u : State} (h : Like s u) (w : Nat) :
    Runs (readLoc w (accLoc w)) u fun x v => x = s.strAcc w ∧ Like s v := by
  obtain ⟨k, st, c, b, rfl⟩ := h
  unfold accLoc State.strAcc
  split
  · exact ⟨_, _, rfl, by rw [noisy_r8], like_noisy s k st c b⟩
  · exact ⟨_, _, rfl, by rw [noisy_r32], like_noisy s k st c b⟩

/-- The state with the accumulator written at a width of 8, 16 or 32. -/
def State.accSet (s : State) (w : Nat) (v : BitVec w) : State :=
  if w = 8 then s.setR8 .al (v.setWidth 8) else s.setRw w .eax v

theorem like_writeAccAny {s u : State} (h : Like s u) (w : Nat) (v : BitVec w) :
    Runs (writeLoc w (accLoc w) v) u fun _ t => Like (s.accSet w v) t := by
  unfold accLoc State.accSet
  split
  · exact like_putR8 h .al _
  · exact like_writeReg h w .eax v

theorem like_in {s u : State} (h : Like s u) {cur : Word} {port w : Nat} (ha : s.ioAllowed port (w / 8) = true) :
    Runs (inBody cur port w) u fun _ t => ∃ (v : Word) (io : Option IoRec),
      Like (((s.ioNoted io).sent (.ioRead port (w / 8))).accSet w (v.setWidth w)) t := by
  refine runs_bind (like_checkPort h ha) fun _ u1 ⟨io, h1⟩ => ?_
  refine runs_bind (runs_bind (like_emit h1 _) fun _ u2 h2 => like_draw h2 32) fun v u3 h3 => ?_
  exact runs_mono (like_writeAccAny h3 w _) fun _ t ht => ⟨v, io, ht⟩

theorem like_out {s u : State} (h : Like s u) {cur : Word} {port w : Nat} (ha : s.ioAllowed port (w / 8) = true) :
    Runs (outBody cur port w) u fun _ t => ∃ io : Option IoRec,
      Like ((s.ioNoted io).sent (.ioWrite port (w / 8) ((s.strAcc w).setWidth 32))) t := by
  refine runs_bind (like_checkPort h ha) fun _ u1 ⟨io, h1⟩ => ?_
  refine runs_bind (like_readAccAny h1 w) fun v u2 ⟨hv, h2⟩ => ?_
  subst hv
  exact runs_mono (like_emit h2 _) fun _ t ht => ⟨io, ht⟩

/-! ### Completion of an instruction that has sent on the bus -/

/-- What the body of an instruction that falls through leaves, where it may have marked, noted and sent. -/
structure Passed (s x : State) : Prop extends Still s x where
  eip : x.eip = s.nextEip
  branched : x.tr.branched = false
  keepRf : x.tr.keepRf = false
  repeats : x.tr.repeats = false

theorem Passed.falls {s x u : State} (h : Passed s x) (hu : Like x u) (s0 : State) : Falls s (u.completed s0) := by
  refine ⟨?_, (h.toStill.like hu).quiet s0⟩
  obtain ⟨k, st, n, b, rfl⟩ := hu
  exact h.eip

theorem Passed.eflags {s x u : State} (h : Passed s x) (hu : Like x u) (s0 : State) :
    (u.completed s0).eflags = setBit x.eflags fRF false := by
  obtain ⟨k, st, n, b, rfl⟩ := hu
  exact completed_eflags (s := s0) (u := x.noisy k st n b) h.keepRf h.repeats

/-- An instruction completes with what its body leaves, compared with a state that has sent the same. -/
theorem completes_passed {i : Instr} {lockOk : Bool} {body : M Unit} {s : State} {q : State → Prop}
    (hi : exec i s = instr lockOk body s) (hl : s.lockOk lockOk = true)
    (hb : Runs body s.start fun _ u => ∃ s' x, Like x u ∧ Passed s' x ∧
      ∀ t : State, t.gpr = x.gpr → t.mem = x.mem → t.eflags = setBit x.eflags fRF false → Falls s' t → q t) :
    Completes i s q := by
  refine completes_of_ends hi hl (runs_mono hb ?_)
  rintro _ u ⟨s', x, hu, hx, hq⟩
  refine ⟨fun hbr => ?_, hq _ ?_ ?_ (hx.eflags hu s) (hx.falls hu s)⟩
  · obtain ⟨k, st, n, b, rfl⟩ := hu
    rw [noisy_tr_branched, hx.branched] at hbr
    exact absurd hbr Bool.false_ne_true
  · obtain ⟨k, st, n, b, rfl⟩ := hu
    rfl
  · obtain ⟨k, st, n, b, rfl⟩ := hu
    rfl

theorem passed_sent {s : State} (hs : s.ready) (io : Option IoRec) (m : BusMsg) :
    Passed { s with bus := m :: s.bus } ((s.start.ioNoted io).sent m) := by
  have htr : (s.start.ioNoted io).tr = { Trans.clear with io := io } := congrArg (fun t : Trans => { t with io := io }) hs.2
  refine ⟨by constructor <;> rfl, rfl, ?_, ?_, ?_⟩ <;> exact congrArg _ htr

theorem Passed.gpr {s x : State} (h : Passed s x) (g : Gprs) : Passed s { x with gpr := g } := by
  obtain ⟨⟨⟩⟩ := h
  constructor <;> try assumption
  constructor <;> assumption

theorem accSet_eq (s : State) (w : Nat) (v : BitVec w) : s.accSet w v = { s with gpr := (s.accSet w v).gpr } := by
  unfold State.accSet
  split
  · exact setR8_eq s .al _
  · exact setRw_eq s w .eax v

/-- The accumulator has been written, as its instruction shows it. -/
theorem accSet_wrote {s x t : State} {byte : Bool} {v : Word} (hx : x.gpr = s.gpr)
    (hg : t.gpr = (x.accSet (s.strBits byte) (v.setWidth _)).gpr) (hm : t.mem = s.mem) :
    if byte then Wrote8 s t (.reg .al) (v.setWidth 8) else Wrote s t (bits s.o32) (.reg .eax) (v.setWidth _) := by
  cases byte with
  | true =>
    refine ⟨hg.trans ?_, memSame_of hm⟩
    simp [State.accSet, State.strBits, State.setR8, State.setR32, reg8Parent, hx]
  | false =>
    refine ⟨hg.trans ?_, memSame_of hm⟩
    have hne : bits s.o32 ≠ 8 := bits_ne_8 _
    simp only [State.accSet, State.strBits, Bool.false_eq_true, if_false, hne]
    exact setRw_gpr_congr hx _ _ _

/-- Which instruction reads a port. -/
theorem exec_in {i : Instr} {byte : Bool} {k : Byte} {port : Nat} {s : State}
    (h : i = (if byte then .inALIb k else .ineAXIb k) ∧ port = k.toNat ∨
      i = (if byte then .inALDX else .ineAXDX) ∧ port = (s.r16 .edx).toNat) :
    ∃ body, exec i s = instr false body s ∧ body s.start = inBody s.eip port (s.strBits byte) s.start := by
  cases byte with
  | true =>
    rcases h with ⟨rfl, rfl⟩ | ⟨rfl, rfl⟩
    · exact ⟨_, rfl, rfl⟩
    · exact ⟨inDx s.eip 8, rfl, rfl⟩
  | false =>
    rcases h with ⟨rfl, rfl⟩ | ⟨rfl, rfl⟩
    · exact ⟨portV (inBody s.eip k.toNat), rfl, rfl⟩
    · exact ⟨portV (inDx s.eip), rfl, rfl⟩

/-- Which instruction writes a port. -/
theorem exec_out {i : Instr} {byte : Bool} {k : Byte} {port : Nat} {s : State}
    (h : i = (if byte then .outIbAL k else .outIbeAX k) ∧ port = k.toNat ∨
      i = (if byte then .outDXAL else .outDXeAX) ∧ port = (s.r16 .edx).toNat) :
    ∃ body, exec i s = instr false body s ∧ body s.start = outBody s.eip port (s.strBits byte) s.start := by
  cases byte with
  | true =>
    rcases h with ⟨rfl, rfl⟩ | ⟨rfl, rfl⟩
    · exact ⟨_, rfl, rfl⟩
    · exact ⟨outDx s.eip 8, rfl, rfl⟩
  | false =>
    rcases h with ⟨rfl, rfl⟩ | ⟨rfl, rfl⟩
    · exact ⟨portV (outBody s.eip k.toNat), rfl, rfl⟩
    · exact ⟨portV (outDx s.eip), rfl, rfl⟩

/-- An instruction whose body raises raises, if the body has marked and noted alone. -/
theorem raises_of_marked {i : Instr} {lockOk : Bool} {body : M Unit} {s : State} {tr : Trans} {v : Nat} {c : Option Half}
    (hi : exec i s = instr lockOk body s) (hl : s.lockOk lockOk = true)
    (hb : body s.start = raise v c { s.start with tr := tr }) : Raises i s v c := by
  have hlock : (s.ins.lock && !lockOk) = false := by
    simpa [State.lockOk] using congrArg not hl
  refine ⟨{ s.start with tr := tr }, ?_, rfl, rfl, rfl, rfl, rfl, rfl, rfl, rfl, rfl, rfl, rfl⟩
  unfold State.start at hb ⊢
  simp only [hi, instr, hlock, Bool.false_eq_true, if_false, run_bind, hb, raise, run_throw]

theorem run_bind_raised {α β : Type} {x : M α} {s t : State} {v : Nat} {c : Option Half} (f : α → M β)
    (h : x s = raise v c t) : (x >>= f) s = raise v c t := by
  rw [run_bind, h]
  rfl

theorem raises_ioDenied {i : Instr} {body rest : M Unit} {s : State} {port n : Nat} (hi : exec i s = instr false body s)
    (hb : body s.start = (checkPort s.eip port n >>= fun _ => rest) s.start) (hl : s.lockOk false = true)
    (h : s.ioDenied port n = true) : Raises i s 13 (some 0) := by
  obtain ⟨io, hio⟩ := run_checkPort_denied (s := s.start) (cur := s.eip) h
  exact raises_of_marked hi hl (hb.trans (run_bind_raised _ hio))

/-- Settles O20. -/
theorem portAccess : Obligations.PortAccess := by
  refine ⟨fun i byte k port s hi hs hl ha => ?read, fun i byte k port s hi hs hl ha => ?write,
    fun i byte k port s hi hl hd => ?denied⟩
  case read =>
    obtain ⟨body, hex, hbody⟩ := exec_in hi
    refine completes_passed hex hl ?_
    rw [Runs, hbody]
    refine runs_mono (like_in (Like.refl s.start) (cur := s.eip) (port := port) (w := s.strBits byte) ha) ?_
    rintro _ u ⟨v, io, hu⟩
    rw [accSet_eq] at hu
    exact ⟨_, _, hu, (passed_sent hs io _).gpr _, fun t hg hm hf ht => ⟨v, accSet_wrote (x := (s.start.ioNoted io).sent (.ioRead port (s.strBits byte / 8))) rfl hg hm, hf, ht⟩⟩
  case write =>
    obtain ⟨body, hex, hbody⟩ := exec_out hi
    refine completes_passed hex hl ?_
    rw [Runs, hbody]
    refine runs_mono (like_out (Like.refl s.start) (cur := s.eip) (port := port) (w := s.strBits byte) ha) ?_
    rintro _ u ⟨io, hu⟩
    exact ⟨_, _, hu, passed_sent hs io _, fun t hg hm hf ht => ⟨untouched_of hg hm, hf, ht⟩⟩
  case denied =>
    have hin (h : i = (if byte then .inALIb k else .ineAXIb k) ∧ port = k.toNat ∨
        i = (if byte then .inALDX else .ineAXDX) ∧ port = (s.r16 .edx).toNat) : Raises i s 13 (some 0) := by
      obtain ⟨body, hex, hbody⟩ := exec_in h
      exact raises_ioDenied hex hbody hl hd
    have hout (h : i = (if byte then .outIbAL k else .outIbeAX k) ∧ port = k.toNat ∨
        i = (if byte then .outDXAL else .outDXeAX) ∧ port = (s.r16 .edx).toNat) : Raises i s 13 (some 0) := by
      obtain ⟨body, hex, hbody⟩ := exec_out h
      exact raises_ioDenied hex hbody hl hd
    rcases hi with ⟨hi | hi, hp⟩ | ⟨hi | hi, hp⟩
    · exact hin (.inl ⟨hi, hp⟩)
    · exact hout (.inl ⟨hi, hp⟩)
    · exact hin (.inr ⟨hi, hp⟩)
    · exact hout (.inr ⟨hi, hp⟩)

end Sys2Proof.Machine

/-! SUPPORT. The string instructions. -/
namespace Sys2Proof.Machine
open Host

/-! ### The operands of an iteration -/

/-- The widths of a string item. -/
def StrWidth (w : Nat) : Prop := w = 8 ∨ w = 16 ∨ w = 32

theorem StrWidth.pos {w : Nat} (h : StrWidth w) : 0 < w / 8 := by
  rcases h with rfl | rfl | rfl <;> decide

theorem strBits_width (s : State) (byte : Bool) : StrWidth (s.strBits byte) := by
  cases byte with
  | true => exact .inl rfl
  | false => cases h : s.o32 <;> simp [State.strBits, bits, h, StrWidth]

/-- A number read from memory at a width fits into it. -/
theorem num_fits {w : Nat} (h : StrWidth w) (s : State) (a : Nat) : (BitVec.ofNat w (s.num a (w / 8))).toNat = s.num a (w / 8) := by
  have hlt : s.num a (w / 8) < 256 ^ (w / 8) := by
    have := leNat_lt (memBytes s.mem a (w / 8))
    rwa [memBytes_length] at this
  rw [BitVec.toNat_ofNat]
  apply Nat.mod_eq_of_lt
  rcases h with rfl | rfl | rfl <;> exact hlt

theorem setWidth_num {w : Nat} (h : StrWidth w) (s : State) (a : Nat) :
    (BitVec.ofNat w (s.num a (w / 8))).setWidth 32 = BitVec.ofNat 32 (s.num a (w / 8)) := by
  rw [← BitVec.ofNat_toNat, num_fits h]

theorem like_strAccess {s u : State} (h : Like s u) {r : SegReg} {off : Word} {n : Nat} {write : Bool}
    (hr : s.reaches r off n n (kindOf write) = true) (hn : 0 < n) :
    Runs (strAccess r off n write) u fun ps v => ps = spansAt (s.lin r off) n ∧ Like s v := by
  refine runs_bind (like_access h hr hn) fun ps v ⟨hps, hv⟩ => ?_
  subst hps
  rw [anyApic_spansAt]
  exact runs_pure ⟨rfl, hv⟩

theorem like_strSource {s u : State} (h : Like s u) {w : Nat} (hw : StrWidth w)
    (hr : s.reaches (s.segOr .ds) (s.aReg .esi) (w / 8) (w / 8) .read = true) :
    Runs (strSource w) u fun x v => x = BitVec.ofNat w (s.num s.strFrom (w / 8)) ∧ Like s v := by
  refine like_get_bind h fun k st c b => ?_
  refine runs_bind (like_strAccess (write := false) (like_noisy s k st c b) hr hw.pos) fun ps v ⟨hps, hv⟩ => ?_
  subst hps
  refine runs_bind (like_readSpans hv (State.plain_of_reaches hr) _ _) fun x t ⟨hx, ht⟩ => ?_
  subst hx
  exact runs_pure ⟨rfl, ht⟩

theorem like_strDest {s u : State} (h : Like s u) {w : Nat} {write : Bool} (hw : StrWidth w)
    (hr : s.reaches .es (s.aReg .edi) (w / 8) (w / 8) (kindOf write) = true) :
    Runs (strDest w write) u fun l v => l = .mem (spansAt s.strTo (w / 8)) ∧ Like s v := by
  refine like_get_bind h fun k st c b => ?_
  refine runs_bind (like_strAccess (like_noisy s k st c b) hr hw.pos) fun ps v ⟨hps, hv⟩ => ?_
  subst hps
  exact runs_pure ⟨rfl, hv⟩

/-- The state with an index register moved by one item. -/
def State.advanced (s : State) (r : Reg) (w : Nat) : State := s.addA r (s.strStep w)

theorem blind_addA (r : Reg) (d : Word) : Blind (·.addA r d) := by
  intro s k st n b
  have ha : (s.noisy k st n b).a32 = s.a32 := rfl
  cases h : s.a32 <;> simp [State.addA, State.setRv, ha, h] <;> rfl

theorem like_advance {s u : State} (h : Like s u) (r : Reg) (w : Nat) :
    Runs (advance r (w / 8)) u fun _ v => Like (s.advanced r w) v :=
  like_modify h fun s k st n b => blind_addA r (s.strStep w) s k st n b

/-! ### One iteration -/

/-- Memory after an iteration; `v` is what a port has answered. -/
def strMemAfter (op : StrOp) (w : Nat) (s : State) (v : BitVec w) : List Cell :=
  match op with
  | .movs => memWriteList s.mem s.strTo (leBytes (w / 8) (s.num s.strFrom (w / 8)))
  | .stos => memWriteList s.mem s.strTo (leBytes (w / 8) (s.strAcc w).toNat)
  | .ins => memWriteList s.mem s.strTo (leBytes (w / 8) v.toNat)
  | _ => s.mem

/-- The state after an iteration. -/
def strAfter (op : StrOp) (w : Nat) (s : State) (v : BitVec w) (io : Option IoRec) : State :=
  { s with gpr := strGpr op w s, mem := strMemAfter op w s v, eflags := strFlags op w s, bus := strBus op w s,
           tr := { s.tr with io := io } }

/-- An iteration of a string instruction that lies at `cur`. -/
def StrOp.iter (cur : Word) (w : Nat) : StrOp → M Unit
  | .movs => movsIter w
  | .cmps => cmpsIter w
  | .stos => stosIter w
  | .lods => lodsIter w
  | .scas => scasIter w
  | .ins => insIter cur w
  | .outs => outsIter cur w

theorem addA_a32 (s : State) (r : Reg) (d : Word) : (s.addA r d).a32 = s.a32 := by rw [addA_eq]; rfl

theorem addA_gpr_congr {x y : State} (hg : x.gpr = y.gpr) (ha : x.a32 = y.a32) (r : Reg) (d : Word) :
    (x.addA r d).gpr = (y.addA r d).gpr := by
  have hrv (b : Bool) (v : BitVec (bits b)) : (x.setRv b r v).gpr = (y.setRv b r v).gpr := by
    cases b <;> simp [State.setRv, State.setR32, State.setR16, hg]
  rw [State.addA, hrv, State.addA]
  simp only [State.r32, hg]
  rw [ha]

/-- An index register is moved as in any state with the same registers and the same direction. -/
theorem advanced_eq {s x y : State} (hg : x.gpr = y.gpr) (ha : x.a32 = y.a32) (hd : x.flag fDF = s.flag fDF) (r : Reg) (w : Nat) :
    x.advanced r w = { x with gpr := (y.addA r (s.strStep w)).gpr } := by
  have hstep : x.strStep w = s.strStep w := by simp only [State.strStep, hd]
  rw [State.advanced, hstep, addA_eq, addA_gpr_congr hg ha]

/-- One index register is moved, at the end of an iteration. -/
theorem like_advanceTo {s x y u z : State} (h : Like x u) {r : Reg} {w : Nat} (hg : x.gpr = y.gpr) (ha : x.a32 = y.a32)
    (hd : x.flag fDF = s.flag fDF) (hz : { x with gpr := (y.addA r (s.strStep w)).gpr } = z) :
    Runs (advance r (w / 8)) u fun _ v => Like z v := by
  have hrun := like_advance h r w
  rwa [(advanced_eq hg ha hd r w).trans hz] at hrun

/-- Both index registers are moved, at the end of an iteration. -/
theorem like_advanceBoth {s x u z : State} (h : Like x u) {w : Nat} (hg : x.gpr = s.gpr) (ha : x.a32 = s.a32)
    (hd : x.flag fDF = s.flag fDF)
    (hz : { x with gpr := ((s.addA .esi (s.strStep w)).addA .edi (s.strStep w)).gpr } = z) :
    Runs (do advance .esi (w / 8); advance .edi (w / 8)) u fun _ v => Like z v := by
  refine runs_bind (like_advanceTo h hg ha hd rfl) fun _ v hv => ?_
  exact like_advanceTo (s := s) (y := s.addA .esi (s.strStep w)) hv rfl (ha.trans (addA_a32 s _ _).symm) hd hz

theorem flagged_df (s : State) (f : Word) : (s.flagged arithMask f).flag fDF = s.flag fDF := by
  have hm : arithMask.getLsbD fDF = false := by decide
  simp only [State.flag, bit, State.flagged, blend, BitVec.getLsbD_or, BitVec.getLsbD_and, BitVec.getLsbD_not, hm]
  simp [fDF]

theorem like_movs {s u : State} (h : Like s u) {w : Nat} (hw : StrWidth w) (hok : strOk .movs w s = true) :
    Runs (movsIter w) u fun _ t => Like (strAfter .movs w s 0 s.tr.io) t := by
  simp only [strOk, Bool.and_eq_true] at hok
  obtain ⟨hsrc, hdst⟩ := hok
  refine runs_bind (like_strSource h hw hsrc) fun x u1 ⟨hx, h1⟩ => ?_
  refine runs_bind (like_strDest (write := true) h1 hw hdst) fun l u2 ⟨hl, h2⟩ => ?_
  subst hx hl
  refine runs_bind (like_writeMem h2 (State.plain_of_reaches hdst) rfl _) fun _ u3 h3 => ?_
  rw [num_fits hw] at h3
  exact like_advanceBoth (s := s) h3 rfl rfl rfl rfl

theorem like_cmps {s u : State} (h : Like s u) {w : Nat} (hw : StrWidth w) (hok : strOk .cmps w s = true) :
    Runs (cmpsIter w) u fun _ t => Like (strAfter .cmps w s 0 s.tr.io) t := by
  simp only [strOk, Bool.and_eq_true] at hok
  obtain ⟨hsrc, hdst⟩ := hok
  refine runs_bind (like_strSource h hw hsrc) fun x u1 ⟨hx, h1⟩ => ?_
  refine runs_bind (like_strDest (write := false) h1 hw hdst) fun l u2 ⟨hl, h2⟩ => ?_
  subst hx hl
  refine runs_bind (like_readMem h2 (State.plain_of_reaches hdst) w _ _) fun y u3 ⟨hy, h3⟩ => ?_
  subst hy
  refine runs_bind (like_putArith h3 _) fun _ u4 h4 => ?_
  exact like_advanceBoth (s := s) h4 rfl rfl (flagged_df _ _) rfl

theorem like_stos {s u : State} (h : Like s u) {w : Nat} (hw : StrWidth w) (hok : strOk .stos w s = true) :
    Runs (stosIter w) u fun _ t => Like (strAfter .stos w s 0 s.tr.io) t := by
  have hdst : s.reaches .es (s.aReg .edi) (w / 8) (w / 8) .write = true := hok
  refine runs_bind (like_readAccAny h w) fun x u1 ⟨hx, h1⟩ => ?_
  refine runs_bind (like_strDest (write := true) h1 hw hdst) fun l u2 ⟨hl, h2⟩ => ?_
  subst hx hl
  refine runs_bind (like_writeMem h2 (State.plain_of_reaches hdst) rfl _) fun _ u3 h3 => ?_
  exact like_advanceTo (s := s) (y := s) h3 rfl rfl rfl rfl

theorem like_lods {s u : State} (h : Like s u) {w : Nat} (hw : StrWidth w) (hok : strOk .lods w s = true) :
    Runs (lodsIter w) u fun _ t => Like (strAfter .lods w s 0 s.tr.io) t := by
  have hsrc : s.reaches (s.segOr .ds) (s.aReg .esi) (w / 8) (w / 8) .read = true := hok
  refine runs_bind (like_strSource h hw hsrc) fun x u1 ⟨hx, h1⟩ => ?_
  subst hx
  refine runs_bind (like_writeAccAny h1 w _) fun _ u2 h2 => ?_
  have hacc : s.accSet w (BitVec.ofNat w (s.num s.strFrom (w / 8))) =
      if w = 8 then s.setR8 .al (BitVec.ofNat 8 (s.num s.strFrom (w / 8)))
      else s.setRw w .eax (BitVec.ofNat w (s.num s.strFrom (w / 8))) := by
    unfold State.accSet
    split
    · next h8 =>
      subst h8
      rw [BitVec.setWidth_eq]
    · rfl
  have hx := accSet_eq s w (BitVec.ofNat w (s.num s.strFrom (w / 8)))
  have hadv : (s.accSet w (BitVec.ofNat w (s.num s.strFrom (w / 8)))).advanced .esi w = strAfter .lods w s 0 s.tr.io := by
    rw [advanced_eq (s := s) rfl rfl (by rw [hx]; rfl), hx]
    simp only [strAfter, strGpr, ← hacc, ← hx]
    rfl
  exact hadv ▸ like_advance h2 .esi w

theorem like_scas {s u : State} (h : Like s u) {w : Nat} (hw : StrWidth w) (hok : strOk .scas w s = true) :
    Runs (scasIter w) u fun _ t => Like (strAfter .scas w s 0 s.tr.io) t := by
  have hdst : s.reaches .es (s.aReg .edi) (w / 8) (w / 8) .read = true := hok
  refine runs_bind (like_strDest (write := false) h hw hdst) fun l u1 ⟨hl, h1⟩ => ?_
  subst hl
  refine runs_bind (like_readMem h1 (State.plain_of_reaches hdst) w _ _) fun y u2 ⟨hy, h2⟩ => ?_
  refine runs_bind (like_readAccAny h2 w) fun x u3 ⟨hx, h3⟩ => ?_
  subst hx hy
  refine runs_bind (like_putArith h3 _) fun _ u4 h4 => ?_
  exact like_advanceTo (s := s) (y := s) h4 rfl rfl (flagged_df _ _) rfl

theorem like_readPort {s u : State} (h : Like s u) (port n : Nat) :
    Runs (readPort port n) u fun _ v => Like (s.sent (.ioRead port n)) v :=
  runs_bind (like_emit h _) fun _ _ h1 => like_draw h1 32

theorem like_getPort {s u : State} (h : Like s u) : Runs getPort u fun p v => p = (s.r16 .edx).toNat ∧ Like s v := by
  obtain ⟨k, st, n, b, rfl⟩ := h
  exact ⟨_, _, rfl, by rw [noisy_r16], like_noisy s k st n b⟩

theorem like_ins {s u : State} (h : Like s u) {w : Nat} {cur : Word} (hw : StrWidth w) (hok : strOk .ins w s = true) :
    Runs (insIter cur w) u fun _ t => ∃ v io, Like (strAfter .ins w s v io) t := by
  simp only [strOk, Bool.and_eq_true] at hok
  obtain ⟨hport, hdst⟩ := hok
  refine runs_bind (like_getPort h) fun p u0 ⟨hp, h0⟩ => ?_
  subst hp
  refine runs_bind (like_checkPort h0 hport) fun _ u1 ⟨io, h1⟩ => ?_
  refine runs_bind (like_strDest (write := true) h1 hw hdst) fun l u2 ⟨hl, h2⟩ => ?_
  subst hl
  refine runs_bind (like_readPort h2 _ _) fun v u3 h3 => ?_
  refine runs_bind (like_writeMem h3 (State.plain_of_reaches hdst) rfl _) fun _ u4 h4 => ?_
  exact runs_mono (like_advanceTo (s := s) (y := s) h4 rfl rfl rfl rfl) fun _ t ht => ⟨v.setWidth w, io, ht⟩

theorem like_outs {s u : State} (h : Like s u) {w : Nat} {cur : Word} (hw : StrWidth w) (hok : strOk .outs w s = true) :
    Runs (outsIter cur w) u fun _ t => ∃ io, Like (strAfter .outs w s 0 io) t := by
  simp only [strOk, Bool.and_eq_true] at hok
  obtain ⟨hport, hsrc⟩ := hok
  refine runs_bind (like_getPort h) fun p u0 ⟨hp, h0⟩ => ?_
  subst hp
  refine runs_bind (like_checkPort h0 hport) fun _ u1 ⟨io, h1⟩ => ?_
  refine runs_bind (like_strSource h1 hw hsrc) fun x u2 ⟨hx, h2⟩ => ?_
  subst hx
  refine runs_bind (like_emit h2 _) fun _ u3 h3 => ?_
  rw [setWidth_num hw] at h3
  exact runs_mono (like_advanceTo (s := s) (y := s) h3 rfl rfl rfl rfl) fun _ t ht => ⟨io, ht⟩

theorem like_strIter {s u : State} (h : Like s u) (op : StrOp) {w : Nat} (cur : Word) (hw : StrWidth w) (hok : strOk op w s = true) :
    Runs (op.iter cur w) u fun _ t => ∃ v io, Like (strAfter op w s v io) t := by
  cases op with
  | movs => exact runs_mono (like_movs h hw hok) fun _ _ ht => ⟨_, _, ht⟩
  | cmps => exact runs_mono (like_cmps h hw hok) fun _ _ ht => ⟨_, _, ht⟩
  | stos => exact runs_mono (like_stos h hw hok) fun _ _ ht => ⟨_, _, ht⟩
  | lods => exact runs_mono (like_lods h hw hok) fun _ _ ht => ⟨_, _, ht⟩
  | scas => exact runs_mono (like_scas h hw hok) fun _ _ ht => ⟨_, _, ht⟩
  | ins => exact like_ins h hw hok
  | outs => exact runs_mono (like_outs h hw hok) fun _ _ ⟨_, ht⟩ => ⟨_, _, ht⟩

end Sys2Proof.Machine

/-! SUPPORT. String instructions with and without repetition. -/
namespace Sys2Proof.Machine
open Host

/-! ### What an iteration sees of the state -/

/-- The state with another instruction pointer and other marks. -/
def State.marked (s : State) (e : Word) (t : Trans) : State := { s with eip := e, tr := t }

section
variable (op : StrOp) (w : Nat) (s : State) (e : Word) (t : Trans)

theorem marked_strOk : strOk op w (s.marked e t) = strOk op w s := by cases op <;> rfl
theorem marked_strFlags : strFlags op w (s.marked e t) = strFlags op w s := by cases op <;> rfl
theorem marked_strBus : strBus op w (s.marked e t) = strBus op w s := by cases op <;> rfl
theorem marked_strMemAfter (v : BitVec w) : strMemAfter op w (s.marked e t) v = strMemAfter op w s v := by cases op <;> rfl

theorem marked_strGpr : strGpr op w (s.marked e t) = strGpr op w s := by
  have hone {x y : State} (hg : x.gpr = y.gpr) (ha : x.a32 = y.a32) (r : Reg) :
      (x.addA r ((s.marked e t).strStep w)).gpr = (y.addA r (s.strStep w)).gpr := addA_gpr_congr hg ha r _
  have hboth : (((s.marked e t).addA .esi ((s.marked e t).strStep w)).addA .edi ((s.marked e t).strStep w)).gpr =
      ((s.addA .esi (s.strStep w)).addA .edi (s.strStep w)).gpr :=
    hone (hone (x := s.marked e t) (y := s) rfl rfl .esi) ((addA_a32 _ _ _).trans (addA_a32 s _ _).symm) .edi
  have hsame (r : Reg) := hone (x := s.marked e t) (y := s) rfl rfl r
  cases op with
  | movs => exact hboth
  | cmps => exact hboth
  | stos => exact hsame .edi
  | scas => exact hsame .edi
  | ins => exact hsame .edi
  | outs => exact hsame .esi
  | lods =>
    refine hone ?_ ?_ .esi
    · split
      · rfl
      · exact setRw_gpr_congr (s := s) (t := s.marked e t) rfl w .eax _
    · split
      · rfl
      · exact (congrArg State.a32 (setRw_eq _ _ _ _)).trans (congrArg State.a32 (setRw_eq s _ _ _)).symm
end

theorem strAfter_marked (op : StrOp) (w : Nat) (s : State) (e : Word) (t : Trans) (v : BitVec w) (io : Option IoRec) :
    strAfter op w (s.marked e t) v io =
      { s with gpr := strGpr op w s, mem := strMemAfter op w s v, eflags := strFlags op w s, bus := strBus op w s,
               eip := e, tr := { t with io := io } } := by
  rw [strAfter, marked_strGpr, marked_strFlags, marked_strBus, marked_strMemAfter]
  rfl

/-! ### The instructions -/

/-- The comparisons end a repetition by ZF. -/
def StrOp.testsZf : StrOp → Bool
  | .cmps | .scas => true
  | _ => false

/-- The stores report the breakpoints of an iteration after the next one. -/
def StrOp.late : StrOp → Bool
  | .movs | .stos => true
  | _ => false

theorem exec_str (op : StrOp) (byte : Bool) (s : State) :
    ∃ body, exec (op.instr byte) s = instr false body s ∧
      body s.start = repeated op.testsZf op.late s.eip (op.iter s.eip (s.strBits byte)) s.start := by
  cases byte with
  | true => cases op <;> exact ⟨_, rfl, rfl⟩
  | false =>
    cases op with
    | movs => exact ⟨strV false true s.eip movsIter, rfl, rfl⟩
    | cmps => exact ⟨strV true false s.eip cmpsIter, rfl, rfl⟩
    | stos => exact ⟨strV false true s.eip stosIter, rfl, rfl⟩
    | lods => exact ⟨strV false false s.eip lodsIter, rfl, rfl⟩
    | scas => exact ⟨strV true false s.eip scasIter, rfl, rfl⟩
    | ins => exact ⟨strV false false s.eip (insIter s.eip), rfl, rfl⟩
    | outs => exact ⟨strV false false s.eip (outsIter s.eip), rfl, rfl⟩

theorem run_repeated_none {s : State} (h : s.ins.rep = none) (tz late : Bool) (cur : Word) (iter : M Unit) :
    repeated tz late cur iter s = iter s := by
  simp only [repeated, run_bind, run_get, h]

/-- Memory after an iteration, as the instruction shows it. -/
theorem strMem_of {op : StrOp} {w : Nat} {s t : State} {v : BitVec w} (hs : Memory.wf s.mem = true)
    (hm : t.mem = strMemAfter op w s v) : strMem op w s t v := by
  cases op with
  | movs => exact stored_memWriteList hs hm
  | stos => exact stored_memWriteList hs hm
  | ins => exact stored_memWriteList hs hm
  | cmps => exact memSame_of hm
  | lods => exact memSame_of hm
  | scas => exact memSame_of hm
  | outs => exact memSame_of hm

/-- Settles O18. -/
theorem strings : Obligations.Strings := by
  intro op byte s hs hl hrep hok
  obtain ⟨body, hex, hbody⟩ := exec_str op byte s
  refine completes_passed hex hl ?_
  rw [Runs, hbody, run_repeated_none (s := s.start) hrep]
  have hok' : strOk op (s.strBits byte) s.start = true := (marked_strOk op _ s _ _).trans hok
  refine runs_mono (like_strIter (Like.refl s.start) op s.eip (strBits_width s byte) hok') ?_
  rintro _ u ⟨v, io, hu⟩
  have hx : strAfter op (s.strBits byte) s.start v io = _ := strAfter_marked op (s.strBits byte) s s.nextEip s.tr v io
  rw [hx] at hu
  refine ⟨{ s with bus := strBus op (s.strBits byte) s }, _, hu, ?_, fun t hg hm hf ht => ⟨v, hg, strMem_of hs.1 hm, hf, ht⟩⟩
  exact ⟨by constructor <;> rfl, rfl, congrArg Trans.branched hs.2, congrArg Trans.keepRf hs.2, congrArg Trans.repeats hs.2⟩

/-! ### Repetition -/

/-- What a repetition does where its count is not 0. -/
def iterated (p : Rep) (tz : Bool) (cur : Word) (iter : M Unit) : M Unit := do
  iter
  modify fun (s : State) => s.addA .ecx (-1)
  let t ← get
  let ends := tz && (if p = Rep.e then !t.flag fZF else t.flag fZF)
  whenM (!ends && t.aReg .ecx ≠ 0) (modify fun s => { s with eip := cur, tr := { s.tr with repeats := true } })

theorem run_repeated_some {s : State} {p : Rep} (h : s.ins.rep = some p) (tz late : Bool) (cur : Word) (iter : M Unit) :
    repeated tz late cur iter s = (if s.aReg .ecx = 0 then pure () else iterated p tz cur iter)
      (s.marked s.eip { s.tr with lateHits := late }) := by
  simp only [repeated, run_bind, run_get, h, run_modify]
  rfl

theorem strEnds_eq (op : StrOp) (p : Rep) (f : Word) :
    strEnds op p f = (op.testsZf && (if p = .e then !bit f fZF else bit f fZF)) := by
  cases op <;> rfl

/-- The state with a repetition that goes on at `cur`, or not. -/
def State.goesOn (s : State) (more : Bool) (cur : Word) : State :=
  if more then s.marked cur { s.tr with repeats := true } else s

theorem like_goesOn {s u : State} (h : Like s u) (more : Bool) (cur : Word) :
    Runs (whenM more (modify fun s => { s with eip := cur, tr := { s.tr with repeats := true } })) u fun _ t =>
      Like (s.goesOn more cur) t := by
  cases more with
  | true => exact like_modify h fun _ _ _ _ _ => rfl
  | false => exact runs_pure h

/-- The state after an iteration, with the count counted down. -/
def strCounted (op : StrOp) (w : Nat) (s : State) (v : BitVec w) (io : Option IoRec) : State :=
  { s with gpr := countedDown s (strGpr op w s), mem := strMemAfter op w s v, eflags := strFlags op w s,
           bus := strBus op w s, eip := s.nextEip, tr := { s.tr with lateHits := op.late, io := io } }

theorem strAfter_counted (op : StrOp) (w : Nat) (s : State) (v : BitVec w) (io : Option IoRec) :
    (strAfter op w (s.marked s.nextEip { s.tr with lateHits := op.late }) v io).addA .ecx (-1) = strCounted op w s v io := by
  have hg := addA_gpr_congr (x := strAfter op w (s.marked s.nextEip { s.tr with lateHits := op.late }) v io)
    (y := { s with gpr := strGpr op w s }) (marked_strGpr op w s _ _) rfl .ecx (-1)
  rw [addA_eq, hg, strAfter_marked]
  rfl

/-- The repetition goes on. -/
def strMore (op : StrOp) (w : Nat) (p : Rep) (s : State) : Bool :=
  !strEnds op p (strFlags op w s) && decide (cutAddr s.a32 ((countedDown s (strGpr op w s)).get .ecx) ≠ 0)

/-- One iteration of a repeated string instruction. -/
theorem like_repeated {s : State} {op : StrOp} {p : Rep} {w : Nat} (hw : StrWidth w) (hrep : s.ins.rep = some p)
    (hc : s.aReg .ecx ≠ 0) (hok : strOk op w s = true) :
    Runs (repeated op.testsZf op.late s.eip (op.iter s.eip w)) s.start fun _ u => ∃ v io,
      Like ((strCounted op w s v io).goesOn (strMore op w p s) s.eip) u := by
  have hok' : strOk op w (s.marked s.nextEip { s.tr with lateHits := op.late }) = true := (marked_strOk op _ s _ _).trans hok
  have hc' : s.start.aReg .ecx ≠ 0 := hc
  rw [Runs, run_repeated_some (s := s.start) hrep, if_neg hc']
  refine runs_bind (like_strIter (Like.refl (s.marked s.nextEip { s.tr with lateHits := op.late })) op s.eip hw hok')
    fun _ u1 ⟨v, io, h1⟩ => ?_
  refine runs_bind (like_modify h1 (blind_addA .ecx (-1))) fun _ u2 h2 => ?_
  rw [strAfter_counted] at h2
  refine like_get_bind h2 fun k st n b => ?_
  refine runs_mono (like_goesOn (like_noisy _ k st n b) _ s.eip) fun _ t ht => ⟨v, io, ?_⟩
  rw [strMore, strEnds_eq]
  exact ht

/-- What an iteration of a repeated string instruction shows when its step is complete. -/
theorem counted_completed {s u : State} {op : StrOp} {w : Nat} {v : BitVec w} {io : Option IoRec} {more : Bool} (hs : s.ready)
    (hu : Like ((strCounted op w s v io).goesOn more s.eip) u) :
    u.tr.branched = false ∧ (u.completed s).gpr = countedDown s (strGpr op w s) ∧
      (u.completed s).mem = strMemAfter op w s v ∧ Quiet { s with bus := strBus op w s } (u.completed s) ∧
      (if more then (u.completed s).eip = s.eip ∧ (u.completed s).eflags = strFlags op w s ∧ (u.completed s).lat.midRep = true
        else (u.completed s).eip = s.nextEip ∧ (u.completed s).eflags = setBit (strFlags op w s) fRF false ∧
          (u.completed s).lat.midRep = false) := by
  have hstill : Still { s with bus := strBus op w s } ((strCounted op w s v io).goesOn more s.eip) := by
    cases more <;> constructor <;> rfl
  have hquiet := (hstill.like hu).quiet s
  obtain ⟨k, st, n, b, rfl⟩ := hu
  have hrep : s.tr.repeats = false := congrArg Trans.repeats hs.2
  have hbr : s.tr.branched = false := congrArg Trans.branched hs.2
  have hrf : s.tr.keepRf = false := congrArg Trans.keepRf hs.2
  cases more with
  | true => exact ⟨hbr, rfl, rfl, hquiet, rfl, by simp [State.completed, State.goesOn, State.marked, State.noisy, strCounted], rfl⟩
  | false => exact ⟨hbr, rfl, rfl, hquiet, rfl, completed_eflags (s := s) hrf hrep, hrep⟩

/-- Settles O19. -/
theorem repeatedStrings : Obligations.RepeatedStrings := by
  refine ⟨fun op byte p s hs hl hrep hc => ?done, fun op byte p s hs hl hrep hc hok => ?iter⟩
  case done =>
    obtain ⟨body, hex, hbody⟩ := exec_str op byte s
    refine completes_of_like hex hs hl (s' := s.marked s.nextEip { s.tr with lateHits := op.late }) ?_
      (by constructor <;> rfl) rfl fun t hg hm hf ht => ⟨untouched_of hg hm, hf, ht⟩
    have hc' : s.start.aReg .ecx = 0 := hc
    rw [Runs, hbody, run_repeated_some (s := s.start) hrep, if_pos hc']
    exact runs_pure (Like.refl _)
  case iter =>
    obtain ⟨body, hex, hbody⟩ := exec_str op byte s
    refine completes_of_ends hex hl ?_
    rw [Runs, hbody]
    refine runs_mono (like_repeated (strBits_width s byte) hrep hc hok) ?_
    rintro _ u ⟨v, io, hu⟩
    obtain ⟨hbr, hgpr, hmem, hquiet, hnext⟩ := counted_completed hs hu
    exact ⟨fun h => absurd (hbr.symm.trans h) Bool.false_ne_true, v, hgpr, strMem_of hs.1 hmem, hquiet, hnext⟩

end Sys2Proof.Machine

/-! SUPPORT. Far transfers. -/
namespace Sys2Proof.Machine
open Host

/-! ### Instructions that jump to another code segment -/

/-- What the body of a jump leaves before it jumps, compared with a state that has the same segments. -/
structure Landed (s x : State) : Prop extends Still s x where
  eflags : x.eflags = s.eflags
  branched : x.tr.branched = false
  keepRf : x.tr.keepRf = false
  repeats : x.tr.repeats = false

theorem landed_withSeg {s x : State} (hs : s.ready) (hc : Calm s x) (hf : x.eflags = s.eflags) (g : Segs) :
    Landed { s with seg := g } { x with seg := g } where
  cpl := hc.cpl
  seg := rfl
  sys := hc.sys
  dbg := hc.dbg
  fpu := hc.fpu
  msr := hc.msr
  apic := hc.apic
  smm := hc.smm
  lat := hc.lat
  tlb := hc.tlb
  map := hc.map
  events := hc.events
  bus := hc.bus
  cached := hc.cached
  others := hc.others
  noReturn := hc.noReturn
  eflags := hf
  branched := hc.branched.trans (congrArg Trans.branched hs.2)
  keepRf := hc.keepRf.trans (congrArg Trans.keepRf hs.2)
  repeats := hc.repeats.trans (congrArg Trans.repeats hs.2)

/-- An instruction whose body ends with a jump to another segment completes at its target. -/
theorem completes_landed {i : Instr} {lockOk : Bool} {body : M Unit} {s s' x : State} {t : Word} {q : State → Prop}
    (hi : exec i s = instr lockOk body s) (hl : s.lockOk lockOk = true) (hx : Landed s' x) (hlbr : s'.noLbr = true)
    (hb : Runs body s.start fun _ u => Like (x.jumped t) u)
    (hq : ∀ u : State, u.gpr = x.gpr → u.mem = x.mem → Jumps s' u t → q u) : Completes i s q := by
  have hmsr : x.noLbr = s'.noLbr := by unfold State.noLbr; rw [hx.msr]
  refine completes_of_like_ends hi hl hb (fun _ => hmsr.trans hlbr) fun u hu => hq _ ?_ ?_ ?_
  · obtain ⟨k, st, n, b, rfl⟩ := hu
    rfl
  · obtain ⟨k, st, n, b, rfl⟩ := hu
    rfl
  · exact jumps_completed hx.toStill hx.eflags hx.keepRf hx.repeats hu

/-! ### The parts of a far transfer -/

theorem inLimit_of_reaches {s : State} {r : SegReg} {off : Word} {n align : Nat} {k : Access}
    (h : s.reaches r off n align k = true) : (s.seg.get r).inLimit off n = true := by
  simp only [State.reaches, Bool.and_eq_true] at h
  exact h.1.1.2

/-- Items that can be pushed have room. -/
theorem room_of_canPushAll {n k : Nat} {s : State} (h : canPushAll n k s = true) : s.seg.ss.room s.sp n k = true := by
  rw [Seg.room, List.all_eq_true]
  intro i hi
  rw [List.mem_range] at hi
  induction k generalizing s i with
  | zero => omega
  | succ k ih =>
    simp only [canPushAll, Bool.and_eq_true] at h
    obtain ⟨hpush, hrest⟩ := h
    cases i with
    | zero =>
      have h0 : s.seg.ss.inLimit (s.pushOff n) n = true := inLimit_of_reaches hpush
      simpa [State.pushOff] using h0
    | succ i =>
      have hi' := ih hrest i (by omega)
      rw [setSp_seg, setSp_sp, State.pushOff, Seg.cutSp_idem, Seg.cutSp_sub] at hi'
      have hoff : s.sp - BitVec.ofNat 32 n - BitVec.ofNat 32 (n * (i + 1)) = s.sp - BitVec.ofNat 32 (n * (i + 1 + 1)) := by
        rw [BitVec.sub_sub, ← BitVec.ofNat_add]
        congr 2
        ring
      rwa [hoff] at hi'

theorem like_callFrame {s u : State} (h : Like s u) {n : Nat} (hn : 0 < n) (hc : canPushAll n 2 s = true) :
    Runs (callFrame n) u fun _ v => Like (State.pushedAll n [s.seg.cs.sel.toNat, s.eip.toNat] s) v := by
  refine like_get_bind h fun k st c b => ?_
  rw [noisy_seg, noisy_sp, noisy_eip, room_of_canPushAll hc]
  obtain ⟨h1, h2⟩ := canPushAll_succ hc s.seg.cs.sel.toNat
  obtain ⟨h3, -⟩ := canPushAll_succ h2 s.eip.toNat
  exact runs_bind (like_push (like_noisy s k st c b) _ hn h1) fun _ v hv => like_push hv _ hn h3

theorem like_farReal {s u : State} (h : Like s u) {sel : Half} {off : Word} (ht : s.nearOk off = true) :
    Runs (farReal sel off) u fun _ v => Like ((s.withSeg .cs (s.cs8086 sel)).jumped (s.cutTarget off)) v := by
  refine like_get_bind h fun k st n b => ?_
  have hlim : ¬ (s.cutTarget off).toNat > s.seg.cs.limit.toNat := by
    rw [State.nearOk, decide_eq_true_eq] at ht
    omega
  simp only [noisy_cutTarget, noisy_seg, noisy_prot, if_neg hlim]
  exact runs_bind (like_putSeg (like_noisy s k st n b) .cs _) fun _ v hv => like_jumpTo hv _

theorem like_enterCode {s u : State} (h : Like s u) {sel : Half} {w : Word} {a : Nat} {d : Desc} {off : Word} (hw : w.toNat = a)
    (hr : s.sysReach a 8) :
    Runs (enterCode sel w d off) u fun _ v =>
      Like (((s.markedAcc (accessedByte a d)).withSeg .cs (Seg.code sel d s.cpl)).jumped off) v := by
  refine runs_bind (like_setDescAccessed h hw hr) fun _ v hv => ?_
  have hcpl : (s.markedAcc (accessedByte a d)).cpl = s.cpl := by rw [markedAcc_eq]
  refine like_get_bind hv fun k st n b => ?_
  rw [noisy_cpl, hcpl]
  exact runs_bind (like_putSeg (like_noisy _ k st n b) .cs _) fun _ v hv => like_jumpTo hv _

/-! ### JMP and CALL -/

/-- The state with the return address of a far CALL pushed, or without for a JMP. -/
def State.farFramed (s : State) (call : Bool) : State :=
  if call then State.pushedAll (bytes s.o32) [s.seg.cs.sel.toNat, s.eip.toNat] s else s

theorem farFramed_frame (s : State) (call : Bool) : (s.farFramed call).eip = s.eip ∧ (s.farFramed call).eflags = s.eflags := by
  cases call with
  | true => exact pushedAll_frame _ _ _
  | false => exact ⟨rfl, rfl⟩

theorem calm_farFramed (s : State) (call : Bool) : Calm s (s.farFramed call) := by
  cases call with
  | true => exact calm_pushedAll _ _ _
  | false => exact Calm.refl s

theorem Calm.nearOk {s x : State} (h : Calm s x) (t : Word) : x.nearOk t = s.nearOk t ∧ x.cutTarget t = s.cutTarget t := by
  have ho : x.o32 = s.o32 := by unfold State.o32; rw [h.seg, h.op66]
  have hcut : x.cutTarget t = s.cutTarget t := by unfold State.cutTarget; rw [ho]
  exact ⟨by rw [State.nearOk, hcut, h.seg, ← State.nearOk], hcut⟩

theorem like_farTransfer8086 {s u : State} (h : Like s u) {call : Bool} {sel : Half} {off : Word} (hm : s.mode8086 = true)
    (ht : s.nearOk off = true) (hc : call = true → canPushAll (bytes s.o32) 2 s = true) :
    Runs (farTransfer call sel off) u fun _ v =>
      Like (((s.farFramed call).withSeg .cs (s.cs8086 sel)).jumped (s.cutTarget off)) v := by
  refine like_get_bind h fun k st n b => ?_
  have hmode : (s.noisy k st n b).mode8086 = true := hm
  rw [hmode, if_pos rfl, noisy_o32, noisy_seg, noisy_eip]
  have hframe : Runs (whenM call (do
      push (bytes s.o32) s.seg.cs.sel.toNat
      push (bytes s.o32) s.eip.toNat)) (s.noisy k st n b) fun _ v => Like (s.farFramed call) v := by
    cases call with
    | true =>
      obtain ⟨h1, h2⟩ := canPushAll_succ (hc rfl) s.seg.cs.sel.toNat
      obtain ⟨h3, -⟩ := canPushAll_succ h2 s.eip.toNat
      exact runs_bind (like_push (like_noisy s k st n b) _ (bytes_pos _) h1) fun _ v hv => like_push hv _ (bytes_pos _) h3
    | false => exact runs_pure (like_noisy s k st n b)
  have hcalm := calm_farFramed s call
  have hcs : (s.farFramed call).cs8086 sel = s.cs8086 sel := by
    unfold State.cs8086 State.prot
    rw [hcalm.sys, hcalm.seg]
  obtain ⟨hnear, hcut⟩ := hcalm.nearOk off
  refine runs_bind hframe fun _ v hv => ?_
  have hfar := like_farReal hv (sel := sel) (hnear.trans ht)
  rwa [hcs, hcut] at hfar

/-- What a far transfer to a code segment asks of its descriptor. -/
theorem codeTarget_eq_some {s : State} {sel : Half} {off : Word} {a : Nat} {d : Desc} (h : s.codeTarget sel off = some (a, d)) :
    isNull sel = false ∧ s.descriptor sel = some (a, d) ∧ descCode d = true ∧ farPrivilegeBad sel d s.cpl = false ∧
      descP d = true ∧ (s.cutTarget off).toNat ≤ (descLimit d).toNat := by
  unfold State.codeTarget at h
  cases hn : isNull sel with
  | true => simp [hn] at h
  | false =>
    rw [hn, if_neg Bool.false_ne_true] at h
    cases hd : s.descriptor sel with
    | none => rw [hd] at h; cases h
    | some p =>
      obtain ⟨a', d'⟩ := p
      rw [hd] at h
      dsimp only at h
      rw [Option.ite_none_right_eq_some, Bool.and_eq_true, Bool.and_eq_true, Bool.and_eq_true, decide_eq_true_eq] at h
      obtain ⟨⟨⟨⟨hcode, hpriv⟩, hp⟩, hlim⟩, he⟩ := h
      cases he
      refine ⟨rfl, rfl, hcode, ?_, hp, hlim⟩
      unfold farPrivilegeBad
      cases hconf : descConforming d with
      | true => simpa [hconf] using hpriv
      | false => simpa [hconf] using hpriv

theorem descS_of_descCode {d : Desc} (h : descCode d = true) : descS d = true := by
  simp only [descCode, isCode, Bool.and_eq_true] at h
  exact h.1

theorem like_loadCsDirect {s u : State} (h : Like s u) {call : Bool} {sel : Half} {off : Word} {a : Nat} {d : Desc}
    (ht : s.codeTarget sel off = some (a, d)) (hc : call = true → canPushAll (bytes s.o32) 2 s = true) :
    Runs (loadCsDirect call sel off) u fun _ v => Like ((((s.farFramed call).markedAcc (accessedByte a d)).withSeg .cs
      (Seg.code sel d s.cpl)).jumped (s.cutTarget off)) v := by
  obtain ⟨hn, hd, hcode, hpriv, hp, hlim⟩ := codeTarget_eq_some ht
  obtain ⟨w, -, -, hr, -⟩ := State.descriptor_eq_some.1 hd
  refine like_get_bind h fun k st n b => ?_
  rw [hn, if_neg Bool.false_ne_true]
  refine runs_bind (like_needDesc (like_noisy s k st n b) 13 hd) fun p v ⟨hw, hd', hv⟩ => ?_
  obtain ⟨w', d'⟩ := p
  obtain rfl : d' = d := hd'
  simp only [descS_of_descCode hcode, hcode, noisy_cpl, hpriv, hp, noisy_cutTarget, noisy_o32, Bool.not_true, Bool.false_eq_true,
    if_false, if_neg (not_lt.2 hlim)]
  have hframe : Runs (whenM call (callFrame (bytes s.o32))) v fun _ t => Like (s.farFramed call) t := by
    cases call with
    | true => exact like_callFrame hv (bytes_pos _) (hc rfl)
    | false => exact runs_pure hv
  have hcalm := calm_farFramed s call
  refine runs_bind hframe fun _ t ht => ?_
  have hr' : (s.farFramed call).sysReach a 8 := ⟨hcalm.plain.trans hr.1, hr.2⟩
  have henter := like_enterCode ht (sel := sel) (off := s.cutTarget off) hw hr' (d := d')
  rwa [hcalm.cpl] at henter

theorem eaFits_zero (s : State) (m : Ea) : eaFits s m 0 = true := by
  have := (eaOffset s m).isLt
  simpa [eaFits] using this

theorem start_eaPlus (s : State) (m : Ea) (k : Word) : eaPlus s.start m k = eaPlus s m k := by
  rw [eaPlus, start_eaOffset, ← eaPlus]

theorem start_eaFits (s : State) (m : Ea) (k : Word) : eaFits s.start m k = eaFits s m k := by
  rw [eaFits, start_eaOffset, ← eaFits]

/-- A far transfer takes its pointer from the instruction or from memory. -/
theorem like_farForm {f : FarForm} {s : State} {call : Bool} {q : Unit → State → Prop} (hok : f.ok s = true)
    (hq : ∀ v, Like s.start v → Runs (farTransfer call (f.sel s) (f.off s)) v q) :
    ∃ body, exec (f.instr call) s = instr false body s ∧ Runs body s.start q := by
  cases f with
  | ap sel off =>
    refine ⟨farTransfer call sel off, ?_, hq _ (Like.refl _)⟩
    cases call <;> rfl
  | ep m =>
    refine ⟨farThrough call m, by cases call <;> rfl, ?_⟩
    simp only [FarForm.ok, Bool.and_eq_true] at hok
    obtain ⟨⟨h1, hf⟩, h2⟩ := hok
    refine like_get_bind (Like.refl s.start) fun k st n b => ?_
    rw [noisy_o32, start_o32]
    refine runs_bind (like_readEa (like_noisy s.start k st n b) (bytes_pos _) (eaFits_zero _ _)
      (by rw [start_eaSeg, start_eaPlus]; exact h1)) fun x v ⟨hx, hv⟩ => ?_
    refine runs_bind (like_readEa hv (k := BitVec.ofNat 32 (bytes s.o32)) (by decide) (by rw [start_eaFits]; exact hf)
      (by rw [start_eaSeg, start_eaPlus]; exact h2)) fun y v2 ⟨hy, hv2⟩ => ?_
    subst hx hy
    rw [start_eaSeg, start_eaPlus, start_eaPlus]
    exact hq v2 hv2

theorem like_farTransferProt {s u : State} (h : Like s u) {call : Bool} {sel : Half} {off : Word} {a : Nat} {d : Desc}
    (hm : s.mode8086 = false) (ht : s.codeTarget sel off = some (a, d))
    (hc : call = true → canPushAll (bytes s.o32) 2 s = true) :
    Runs (farTransfer call sel off) u fun _ v => Like ((((s.farFramed call).markedAcc (accessedByte a d)).withSeg .cs
      (Seg.code sel d s.cpl)).jumped (s.cutTarget off)) v := by
  refine like_get_bind h fun k st n b => ?_
  have hmode : (s.noisy k st n b).mode8086 = false := hm
  rw [hmode, if_neg Bool.false_ne_true]
  exact like_loadCsDirect (like_noisy s k st n b) ht hc

/-- The state after the pushes of a far CALL, as the instruction shows it. -/
def State.farPushed (s : State) (call : Bool) : State :=
  if call then State.pushedAll (bytes s.o32) [s.seg.cs.sel.toNat, s.nextEip.toNat] s else s

theorem start_farFramed (s : State) (call : Bool) : s.start.farFramed call = (s.farPushed call).start := by
  cases call with
  | true => exact start_pushedAll _ _ s
  | false => rfl

theorem farPushed_wf {s : State} (h : Memory.wf s.mem = true) (call : Bool) : Memory.wf (s.farPushed call).mem = true := by
  cases call with
  | true => exact pushed_wf (pushed_wf h _ _) _ _
  | false => exact h

theorem calm_farPushed (s : State) (call : Bool) : Calm s (s.farPushed call) := by
  cases call with
  | true => exact calm_pushedAll _ _ _
  | false => exact Calm.refl s

theorem farFrame_farPushed {s : State} (hs : Memory.wf s.mem = true) :
    FarFrame (bytes s.o32) s (s.farPushed true) := pushedAll_of hs (calm_farPushed s true).seg rfl rfl

/-- Settles O22. -/
theorem farTransfers : Obligations.FarTransfers := by
  refine ⟨fun call f s hs hl hlbr hm hok ht hc => ?real, fun call f a d s hs hl hlbr hm hok ht hc => ?prot⟩
  case real =>
    obtain ⟨body, hex, hb⟩ := like_farForm (call := call) hok fun v hv =>
      like_farTransfer8086 hv (sel := f.sel s) (off := f.off s) hm ht fun h => by rw [start_o32, canPushAll_start]; exact hc h
    have hland := landed_withSeg hs ((calm_start s).trans (calm_farFramed s.start call)) (farFramed_frame s.start call).2
      { s.seg with cs := s.cs8086 (f.sel s) }
    have hx : (s.start.farFramed call).withSeg .cs (s.start.cs8086 (f.sel s)) =
        { s.start.farFramed call with seg := { s.seg with cs := s.cs8086 (f.sel s) } } := by
      rw [State.withSeg, (calm_farFramed s.start call).seg]
      rfl
    rw [hx] at hb
    refine completes_landed hex hl hland hlbr hb fun u hg hm hj => ⟨?_, hj⟩
    dsimp only at hg hm
    rw [start_farFramed] at hg hm
    cases call with
    | true => exact ⟨s.farPushed true, farFrame_farPushed hs.1, untouched_of hg hm⟩
    | false => exact untouched_of hg hm
  case prot =>
    obtain ⟨body, hex, hb⟩ := like_farForm (call := call) hok fun v hv =>
      like_farTransferProt hv (sel := f.sel s) (off := f.off s) (a := a) (d := d) hm ht fun h => by
        rw [start_o32, canPushAll_start]; exact hc h
    have hcalm : Calm s ((s.start.farFramed call).markedAcc (accessedByte a d)) :=
      ((calm_start s).trans (calm_farFramed s.start call)).trans (calm_markedAcc _ _)
    have hfl : ((s.start.farFramed call).markedAcc (accessedByte a d)).eflags = s.eflags :=
      (markedAcc_frame _ _).2.2.1.trans (farFramed_frame s.start call).2
    have hland := landed_withSeg hs hcalm hfl { s.seg with cs := Seg.code (f.sel s) d s.cpl }
    have hx : ((s.start.farFramed call).markedAcc (accessedByte a d)).withSeg .cs (Seg.code (f.sel s) d s.start.cpl) =
        { (s.start.farFramed call).markedAcc (accessedByte a d) with seg := { s.seg with cs := Seg.code (f.sel s) d s.cpl } } := by
      rw [State.withSeg, hcalm.seg]
      rfl
    rw [hx] at hb
    refine completes_landed hex hl hland hlbr hb fun u hg hm hj => ⟨⟨s.farPushed call, ?_, ?_, ?_⟩, hj⟩
    · cases call with
      | true => exact farFrame_farPushed hs.1
      | false => exact untouched_of rfl rfl
    · dsimp only at hg
      rw [hg, (markedAcc_frame _ _).1, start_farFramed]
      rfl
    · dsimp only at hm
      rw [start_farFramed, markedAcc_start] at hm
      have hacc := accessed_of (o := accessedByte a d) (farPushed_wf hs.1 call) hm
      revert hacc
      cases accessedByte a d <;> exact id

/-! ### Far RET -/

theorem cutTarget_idem (s : State) (t : Word) : s.cutTarget (s.cutTarget t) = s.cutTarget t := by
  unfold State.cutTarget
  split
  · rfl
  · rw [BitVec.and_assoc, BitVec.and_self]

theorem like_returnTarget {s u : State} (h : Like s u) {sel : Half} {off : Word} {a : Nat} {d : Desc} (hn : isNull sel = false)
    (hd : s.descriptor sel = some (a, d)) (hcode : descCode d = true) (hr : ¬ rpl sel < s.cpl) (hdpl : csDplBad sel d = false)
    (hp : descP d = true) (hlim : off.toNat ≤ (descLimit d).toNat) :
    Runs (returnTarget sel off) u fun p t => p.1.toNat = a ∧ p.2 = d ∧ Like s t := by
  refine like_get_bind h fun k st n b => ?_
  rw [hn, if_neg Bool.false_ne_true]
  refine runs_bind (like_needDesc (like_noisy s k st n b) 13 hd) fun p v ⟨hw, hd', hv⟩ => ?_
  obtain ⟨w', d'⟩ := p
  obtain rfl : d' = d := hd'
  simp only [hcode, noisy_cpl, hr, hdpl, hp, Bool.not_true, Bool.false_eq_true, if_false, if_neg (not_lt.2 hlim)]
  exact runs_pure ⟨hw, rfl, hv⟩

theorem setSp_gpr_ss {s t : State} (hg : t.gpr = s.gpr) (hs : t.seg.ss = s.seg.ss) (x : Word) :
    (t.setSp x).gpr = (s.setSp x).gpr := by
  unfold State.setSp
  rw [hs]
  split <;> simp [State.setR32, State.setR16, hg]

theorem setSp_jumped (s : State) (t x : Word) : (s.jumped t).setSp x = (s.setSp x).jumped t := by
  have hg : ((s.jumped t).setSp x).gpr = (s.setSp x).gpr := setSp_gpr_ss (s := s) (t := s.jumped t) rfl rfl x
  rw [setSp_eq, hg, setSp_eq s]
  rfl

theorem withCs_ss (s : State) (o : Option Nat) (g : Seg) : ((s.markedAcc o).withSeg .cs g).seg.ss = s.seg.ss := by
  rw [markedAcc_eq]
  rfl

theorem withCs_sp (s : State) (o : Option Nat) (g : Seg) : ((s.markedAcc o).withSeg .cs g).sp = s.sp := by
  rw [markedAcc_eq]
  rfl

/-- What a far RET of the same level leaves before it jumps. -/
theorem retFar_eq (s : State) (g : Seg) (o : Option Nat) (t x : Word) :
    ((((s.markedAcc o).withSeg .cs g).setSp x).jumped t) =
      ({ (s.setSp x).markedAcc o with seg := { s.seg with cs := g } } : State).jumped t := by
  have hg : (((s.markedAcc o).withSeg .cs g).setSp x).gpr = (s.setSp x).gpr :=
    setSp_gpr_ss (t := (s.markedAcc o).withSeg .cs g) (markedAcc_frame s o).1 (withCs_ss s o g) x
  have hm : ((s.setSp x).markedAcc o).mem = (s.markedAcc o).mem := by
    rw [setSp_eq]
    cases o <;> rfl
  rw [setSp_eq ((s.markedAcc o).withSeg .cs g), hg, markedAcc_eq (s.setSp x), hm, setSp_eq s, State.withSeg,
    (markedAcc_frame s o).2.2.2.2, markedAcc_eq s]
  rfl

theorem popOff_imm (s : State) (n : Nat) (k : Half) :
    s.seg.ss.cutSp (s.sp + (BitVec.ofNat 32 (2 * n) + zx32 k)) = s.popOff (2 * n + k.toNat) := by
  have hk : BitVec.ofNat 32 (2 * n) + zx32 k = BitVec.ofNat 32 (2 * n + k.toNat) := by
    apply BitVec.eq_of_toNat_eq
    simp [zx32]
  rw [hk, State.popOff]

theorem like_retFar8086 {s u : State} (h : Like s u) {k : Half} (hm : s.mode8086 = true)
    (h0 : s.canPop 0 (bytes s.o32) = true) (h1 : s.canPop (bytes s.o32) (bytes s.o32) = true)
    (ht : s.nearOk (s.cutTarget (BitVec.ofNat 32 (s.item 0 (bytes s.o32)))) = true) :
    Runs (retFarBody k) u fun _ v => Like (({ s.setSp (s.popOff (2 * bytes s.o32 + k.toNat)) with
      seg := { s.seg with cs := s.cs8086 (BitVec.ofNat 16 (s.item (bytes s.o32) (bytes s.o32))) } } : State).jumped
        (s.cutTarget (BitVec.ofNat 32 (s.item 0 (bytes s.o32))))) v := by
  refine like_get_bind h fun j st c b => ?_
  rw [noisy_o32]
  refine runs_bind (like_peek (like_noisy s j st c b) (bytes_pos _) h0) fun x v ⟨hx, hv⟩ => ?_
  refine runs_bind (like_peek hv (bytes_pos _) h1) fun y v2 ⟨hy, hv2⟩ => ?_
  subst hx hy
  have hmode : (s.noisy j st c b).mode8086 = true := hm
  rw [hmode, if_pos rfl, noisy_cutTarget]
  refine runs_bind (like_farReal hv2 ht) fun _ w hw => ?_
  have hsp := like_addSp hw (BitVec.ofNat 32 (2 * bytes s.o32) + zx32 k)
  rw [cutTarget_idem, setSp_jumped] at hsp
  rw [← popOff_imm]
  exact runs_mono hsp fun _ t ht => retFar_eq s _ none _ _ ▸ ht

theorem like_retFarProt {s u : State} (h : Like s u) {k : Half} {a : Nat} {d : Desc} (hm : s.mode8086 = false)
    (h0 : s.canPop 0 (bytes s.o32) = true) (h1 : s.canPop (bytes s.o32) (bytes s.o32) = true) {sel : Half} {off : Word}
    (hsel : sel = BitVec.ofNat 16 (s.item (bytes s.o32) (bytes s.o32)))
    (hoff : off = s.cutTarget (BitVec.ofNat 32 (s.item 0 (bytes s.o32)))) (hn : isNull sel = false)
    (hd : s.descriptor sel = some (a, d)) (hcode : descCode d = true) (hr : rpl sel = s.cpl) (hdpl : csDplBad sel d = false)
    (hp : descP d = true) (hlim : off.toNat ≤ (descLimit d).toNat) :
    Runs (retFarBody k) u fun _ v =>
      Like (({ (s.setSp (s.popOff (2 * bytes s.o32 + k.toNat))).markedAcc (accessedByte a d) with
        seg := { s.seg with cs := Seg.ofDesc sel d } } : State).jumped off) v := by
  obtain ⟨w0, -, -, hreach, -⟩ := State.descriptor_eq_some.1 hd
  refine like_get_bind h fun j st c b => ?_
  rw [noisy_o32]
  refine runs_bind (like_peek (like_noisy s j st c b) (bytes_pos _) h0) fun x v ⟨hx, hv⟩ => ?_
  refine runs_bind (like_peek hv (bytes_pos _) h1) fun y v2 ⟨hy, hv2⟩ => ?_
  subst hx hy
  have hmode : (s.noisy j st c b).mode8086 = false := hm
  rw [hmode, if_neg Bool.false_ne_true, noisy_cutTarget, ← hsel, ← hoff]
  refine runs_bind (like_returnTarget hv2 hn hd hcode (by rw [hr]; exact BitVec.lt_irrefl _) hdpl hp hlim) fun p v3 ⟨hw, hd', hv3⟩ => ?_
  obtain ⟨w', d'⟩ := p
  obtain rfl : d' = d := hd'
  dsimp only
  rw [noisy_cpl, if_pos hr]
  refine runs_bind (like_setDescAccessed hv3 hw hreach) fun _ v4 h4 => ?_
  refine runs_bind (like_putSeg h4 .cs _) fun _ v5 h5 => runs_bind (like_addSp h5 _) fun _ v6 h6 => ?_
  rw [withCs_ss, withCs_sp, popOff_imm] at h6
  exact runs_mono (like_jumpTo h6 off) fun _ t ht => retFar_eq s _ _ _ _ ▸ ht

/-- Settles O23. -/
theorem farReturns : Obligations.FarReturns := by
  intro i k s hi hs hl hlbr
  dsimp only
  intro h0 h1
  have hex : exec i s = instr false (retFarBody k) s := by
    rcases hi with ⟨rfl, rfl⟩ | rfl <;> rfl
  have h0' : s.start.canPop 0 (bytes s.start.o32) = true := by simpa using h0
  have h1' : s.start.canPop (bytes s.start.o32) (bytes s.start.o32) = true := by simpa using h1
  refine ⟨fun hm ht => ?real, fun a d hm hn hd hcode hr hdpl hp hlim => ?prot⟩
  case real =>
    have hb := like_retFar8086 (Like.refl s.start) (k := k) hm h0' h1' (by rw [start_item, start_o32]; exact ht)
    rw [start_item, start_item, start_o32, start_popOff, start_setSp] at hb
    have hland := landed_withSeg hs ((calm_setSp s (s.popOff (2 * bytes s.o32 + k.toNat))).trans (calm_start _)) (setSp_eflags s _)
      { s.seg with cs := s.cs8086 (BitVec.ofNat 16 (s.item (bytes s.o32) (bytes s.o32))) }
    exact completes_landed hex hl hland hlbr hb fun u hg hm hj => ⟨hg, memSame_of (hm.trans (setSp_mem s _)), hj⟩
  case prot =>
    have hdpl' : csDplBad (BitVec.ofNat 16 (s.item (bytes s.o32) (bytes s.o32))) d = false := by
      unfold csDplBad
      cases hconf : descConforming d with
      | true =>
        rw [hconf, if_pos rfl] at hdpl
        simpa using hdpl
      | false =>
        rw [hconf, if_neg Bool.false_ne_true] at hdpl
        simpa using hdpl
    have hb := like_retFarProt (Like.refl s.start) (k := k) (a := a) (d := d)
      (sel := BitVec.ofNat 16 (s.item (bytes s.o32) (bytes s.o32)))
      (off := s.cutTarget (BitVec.ofNat 32 (s.item 0 (bytes s.o32)))) hm h0' h1' (by rw [start_item, start_o32])
      (by rw [start_item, start_o32]; rfl) hn hd hcode hr hdpl' hp hlim
    rw [start_o32, start_popOff, start_setSp, markedAcc_start] at hb
    have hcalm : Calm s ((s.setSp (s.popOff (2 * bytes s.o32 + k.toNat))).markedAcc (accessedByte a d)).start :=
      ((calm_setSp s _).trans (calm_markedAcc _ _)).trans (calm_start _)
    have hland := landed_withSeg hs hcalm ((markedAcc_frame _ _).2.2.1.trans (setSp_eflags s _))
      { s.seg with cs := Seg.ofDesc (BitVec.ofNat 16 (s.item (bytes s.o32) (bytes s.o32))) d }
    refine completes_landed hex hl hland hlbr hb fun u hg hm hj => ⟨hg.trans (markedAcc_frame _ _).1, ?_, hj⟩
    refine accessed_of hs.1 (hm.trans ?_)
    rw [setSp_eq]
    cases accessedByte a d <;> rfl

end Sys2Proof.Machine

/-! SUPPORT. BOUND, and the checks of an access through a segment. -/
namespace Sys2Proof.Machine
open Host

/-! ### The checks of an access through a segment -/

theorem run_segLinear_type {s : State} {r : SegReg} {off : Word} {n : Nat} {k : Access}
    (h : (s.seg.get r).allows r k s.prot = false) : segLinear r (s.seg.get r) off n k s = raise 13 (some 0) s := by
  simp only [segLinear, run_bind, run_get, h]
  rfl

theorem run_segLinear_limit {s : State} {r : SegReg} {off : Word} {n : Nat} {k : Access}
    (h : (s.seg.get r).allows r k s.prot = true) (hl : (s.seg.get r).inLimit off n = false) :
    segLinear r (s.seg.get r) off n k s = raise (if r = .ss then 12 else 13) (some 0) s := by
  simp only [segLinear, run_bind, run_get, h, hl, Bool.not_true, Bool.not_false, Bool.false_eq_true, if_false, if_true]
  split <;> rfl

theorem run_segLinear {s : State} {r : SegReg} {off : Word} {n : Nat} {k : Access}
    (h : (s.seg.get r).allows r k s.prot = true) (hl : (s.seg.get r).inLimit off n = true) :
    segLinear r (s.seg.get r) off n k s = .ok ((s.seg.get r).base + off) s := by
  simp only [segLinear, run_bind, run_get, h, hl, Bool.not_true, Bool.false_eq_true, if_false]
  rfl

theorem allows_of_reaches {s : State} {r : SegReg} {off : Word} {n align : Nat} {k : Access}
    (h : s.reaches r off n align k = true) : (s.seg.get r).allows r k s.prot = true := by
  simp only [State.reaches, Bool.and_eq_true] at h
  exact h.1.1.1.2

/-- An access beyond the limit of its segment raises. -/
theorem run_access_limit {s : State} {r : SegReg} {off : Word} {n align : Nat} {write : Bool}
    (h : (s.seg.get r).allows r (kindOf write) s.prot = true) (hl : (s.seg.get r).inLimit off n = false) :
    access r off n align write s = raise (if r = .ss then 12 else 13) (some 0) s := by
  have hlin := run_segLinear_limit (n := n) h hl
  refine run_bind_raise _ ?_
  rw [checkedAccess, run_bind, run_get]
  exact run_bind_raise _ hlin

/-! ### BOUND -/

theorem run_readEa {s : State} {m : Ea} {k : Word} {n align : Nat} (hn : 0 < n) (hf : eaFits s m k = true)
    (hr : s.reaches (eaSeg s m) (eaPlus s m k) n align .read = true) :
    ∃ j, readEa m k n align s = .ok (s.num (s.lin (eaSeg s m) (eaPlus s m k)) n) (s.withHit j) := by
  obtain ⟨hp, j, hj⟩ := access_reaches (write := false) hr hn
  have hpart : eaPart m k s = .ok () s := by
    simp only [eaPart, run_bind, run_get, hf, if_true, run_pure]
  refine ⟨j, ?_⟩
  simp only [readEa, accessEa, run_bind, hpart, run_get, hj]
  exact readSpans_plain (s := s.withHit j) hp _ _

theorem run_readEa_limit {s : State} {m : Ea} {k : Word} {n align : Nat} (hf : eaFits s m k = true)
    (h : (s.seg.get (eaSeg s m)).allows (eaSeg s m) .read s.prot = true)
    (hl : (s.seg.get (eaSeg s m)).inLimit (eaPlus s m k) n = false) :
    readEa m k n align s = raise (if eaSeg s m = .ss then 12 else 13) (some 0) s := by
  have hpart : eaPart m k s = .ok () s := by
    simp only [eaPart, run_bind, run_get, hf, if_true, run_pure]
  refine run_bind_raise _ ?_
  rw [accessEa, run_bind, hpart]
  exact run_access_limit (write := false) h hl

theorem run_readEa_beyond {s : State} {m : Ea} {k : Word} {n align : Nat} (hf : eaFits s m k = false) :
    readEa m k n align s = raise (if eaSeg s m = .ss then 12 else 13) (some 0) s := by
  refine run_bind_raise _ (run_bind_raise _ ?_)
  simp only [eaPart, run_bind, run_get, hf, Bool.false_eq_true, if_false]
  split <;> rfl

/-- What BOUND compares. -/
theorem run_boundBody {s : State} {r : Reg} {m : Ea}
    (h1 : s.reaches (eaSeg s m) (eaPlus s m 0) (bytes s.o32) (bytes s.o32) .read = true)
    (hf : eaFits s m (BitVec.ofNat 32 (bytes s.o32)) = true)
    (h2 : s.reaches (eaSeg s m) (eaPlus s m (BitVec.ofNat 32 (bytes s.o32))) (bytes s.o32) (bytes s.o32) .read = true)
    {lo hi : BitVec (bits s.o32)} (hlo : lo = BitVec.ofNat _ (s.num (s.lin (eaSeg s m) (eaPlus s m 0)) (bytes s.o32)))
    (hhi : hi = BitVec.ofNat _ (s.num (s.lin (eaSeg s m) (eaPlus s m (BitVec.ofNat 32 (bytes s.o32)))) (bytes s.o32))) :
    ∃ k, boundBody r m s = (if ((s.r32 r).setWidth (bits s.o32)).slt lo || hi.slt ((s.r32 r).setWidth (bits s.o32))
      then raiseBR else pure ()) (s.withHit k) := by
  obtain ⟨k, hk⟩ := run_readEa (bytes_pos _) (eaFits_zero s m) h1
  have hseg : eaSeg (s.withHit k) m = eaSeg s m := rfl
  have hoff : eaPlus (s.withHit k) m = eaPlus s m := by cases m <;> rfl
  obtain ⟨j, hj⟩ := run_readEa (s := s.withHit k) (m := m) (k := BitVec.ofNat 32 (bytes s.o32)) (align := bytes s.o32)
    (bytes_pos s.o32) (by rw [eaFits] at hf ⊢; cases m <;> exact hf) (by rw [hseg, hoff]; exact h2)
  rw [hseg, hoff] at hj
  refine ⟨j, ?_⟩
  subst hlo hhi
  simp only [boundBody, run_bind, run_getW, bits_div, hk, hj, readG, readLoc, run_get, run_pure]
  rfl

theorem run_boundBody_raise {s : State} {r : Reg} {m : Ea} {v : Nat}
    (h1 : s.reaches (eaSeg s m) (eaPlus s m 0) (bytes s.o32) (bytes s.o32) .read = true)
    (h2 : ∀ k, readEa m (BitVec.ofNat 32 (bytes s.o32)) (bytes s.o32) (bytes s.o32) (s.withHit k) =
      raise v (some 0) (s.withHit k)) :
    ∃ k, boundBody r m s = raise v (some 0) (s.withHit k) := by
  obtain ⟨k, hk⟩ := run_readEa (bytes_pos _) (eaFits_zero s m) h1
  refine ⟨k, ?_⟩
  simp only [boundBody, run_bind, run_getW, bits_div, hk, h2]
  rfl

theorem start_reachesEa (s : State) (m : Ea) (k : Word) (n align : Nat) (a : Access) :
    s.start.reaches (eaSeg s.start m) (eaPlus s.start m k) n align a = s.reaches (eaSeg s m) (eaPlus s m k) n align a := by
  rw [start_eaSeg, start_eaPlus, start_reaches]

theorem hit_eaSeg (s : State) (k : BitVec 4) (m : Ea) : eaSeg (s.start.withHit k) m = eaSeg s m := by rw [← start_eaSeg s]; rfl

theorem hit_eaPlus (s : State) (k : BitVec 4) (m : Ea) (x : Word) : eaPlus (s.start.withHit k) m x = eaPlus s m x := by
  cases m <;> rfl

theorem hit_eaFits (s : State) (k : BitVec 4) (m : Ea) (x : Word) : eaFits (s.start.withHit k) m x = eaFits s m x := by
  cases m <;> rfl

/-- Where both bounds can be read, BOUND compares them with the index. -/
theorem run_bound {s : State} {r : Reg} {m : Ea}
    (h1 : s.reaches (eaSeg s m) (eaPlus s m 0) (bytes s.o32) (bytes s.o32) .read = true)
    (hf : eaFits s m (BitVec.ofNat 32 (bytes s.o32)) = true)
    (h2 : s.reaches (eaSeg s m) (eaPlus s m (BitVec.ofNat 32 (bytes s.o32))) (bytes s.o32) (bytes s.o32) .read = true)
    {lo hi i : BitVec (bits s.o32)} (hlo : lo = BitVec.ofNat _ (s.num (s.lin (eaSeg s m) (eaPlus s m 0)) (bytes s.o32)))
    (hhi : hi = BitVec.ofNat _ (s.num (s.lin (eaSeg s m) (eaPlus s m (BitVec.ofNat 32 (bytes s.o32)))) (bytes s.o32)))
    (hi' : i = (s.r32 r).setWidth (bits s.o32)) :
    ∃ k, boundBody r m s.start = (if i.slt lo || hi.slt i then raiseBR else pure ()) (s.start.withHit k) := by
  have hlo' : lo = BitVec.ofNat _ (s.start.num (s.start.lin (eaSeg s.start m) (eaPlus s.start m 0)) (bytes s.start.o32)) := by
    rw [hlo, start_num, start_lin, start_eaSeg, start_eaPlus, start_o32]
  have hhi' : hi = BitVec.ofNat _ (s.start.num (s.start.lin (eaSeg s.start m)
      (eaPlus s.start m (BitVec.ofNat 32 (bytes s.start.o32)))) (bytes s.start.o32)) := by
    rw [hhi, start_num, start_lin, start_eaSeg, start_eaPlus, start_o32]
  obtain ⟨k, hk⟩ := run_boundBody (s := s.start) (r := r) (m := m) ((start_reachesEa s m 0 _ _ .read).trans h1)
    ((start_eaFits s m _).trans hf) ((start_reachesEa s m _ _ _ .read).trans h2) (lo := lo) (hi := hi) hlo' hhi'
  subst hi'
  exact ⟨k, hk⟩

/-- Settles O27. -/
theorem bounds : Obligations.Bounds := by
  intro r m s hl
  dsimp only
  intro h1
  have h1' : s.start.reaches (eaSeg s.start m) (eaPlus s.start m 0) (bytes s.start.o32) (bytes s.start.o32) .read = true :=
    (start_reachesEa s m 0 (bytes s.o32) (bytes s.o32) .read).trans h1
  have hraise (v : Nat) (h2 : ∀ k, readEa m (BitVec.ofNat 32 (bytes s.o32)) (bytes s.o32) (bytes s.o32) (s.start.withHit k) =
      raise v (some 0) (s.start.withHit k)) : Raises (.boundGvMa r m) s v (some 0) := by
    obtain ⟨k, hk⟩ := run_boundBody_raise (s := s.start) (r := r) h1' h2
    exact raises_of_body_withHit (i := .boundGvMa r m) (body := boundBody r m) rfl hl hk
  refine ⟨fun hf h2 hs hin => ?inside, fun hf h2 hout => ?outside, fun hf hlim => hraise _ fun k => ?limit,
    fun hf => hraise _ fun k => ?beyond⟩
  case inside =>
    obtain ⟨k, hk⟩ := run_bound (r := r) h1 hf h2 rfl rfl rfl
    refine completes_of_like (i := .boundGvMa r m) (body := boundBody r m) rfl hs hl (s' := s.start) ?_ (calm_start s) rfl
      fun t hg hm hf ht => ⟨untouched_of hg hm, hf, ht⟩
    rw [Runs, hk, if_neg]
    · exact runs_pure ((Like.refl s.start).withHit k)
    · simpa only [BitVec.slt, Bool.or_eq_true, decide_eq_true_eq, not_or, not_lt, and_comm] using hin
  case outside =>
    obtain ⟨k, hk⟩ := run_bound (r := r) h1 hf h2 rfl rfl rfl
    refine raises_of_body_withHit (i := .boundGvMa r m) (body := boundBody r m) (k := k) rfl hl ?_
    rw [hk, if_pos]
    · rfl
    · simpa only [BitVec.slt, Bool.or_eq_true, decide_eq_true_eq] using hout
  case limit =>
    have hallow := allows_of_reaches h1
    rw [← hit_eaSeg s k m]
    exact run_readEa_limit (s := s.start.withHit k) ((hit_eaFits s k m _).trans hf)
      (by rw [hit_eaSeg]; exact hallow) (by rw [hit_eaSeg, hit_eaPlus]; exact hlim)
  case beyond =>
    rw [← hit_eaSeg s k m]
    exact run_readEa_beyond (s := s.start.withHit k) ((hit_eaFits s k m _).trans hf)

end Sys2Proof.Machine

/-! SUPPORT. The exceptions of a memory access. -/
namespace Sys2Proof.Machine
open Host

/-! ### Physical accesses to RAM -/

theorem ramAt_iff (s : State) (a n : Nat) : s.ramAt a n = true ↔
    bit s.msr.mtrrDef 11 = false ∧ s.lat.a20m = false ∧ s.map = [] ∧
      (s.apicOn = false ∨ a + n ≤ Config.apicPage ∨ Config.apicPage + 0x1000 ≤ a) := by
  simp only [State.ramAt, Bool.and_eq_true, Bool.not_eq_true', List.isEmpty_iff, Bool.or_eq_true, decide_eq_true_eq]
  tauto

theorem busAddr_ram {s : State} (h : s.lat.a20m = false) (a : Nat) : busAddr s a = a := by simp [busAddr, h]

theorem placeOf_nil (smm : Bool) (a : Nat) : placeOf [] smm a = .ram a := rfl

theorem loadBytes_ram {s : State} (ha : s.lat.a20m = false) (hm : s.map = []) (a n : Nat) :
    loadBytes a n s = .ok (memBytes s.mem a n) s := by
  have hbyte (a : Nat) : loadByte a s = .ok (memRead s.mem a) s := by simp [loadByte, busAddr_ram ha, hm, placeOf_nil]
  induction n generalizing a with
  | zero => rfl
  | succ n ih => simp [loadBytes, hbyte, ih, memBytes]

theorem storeBytes_ram {s : State} (ha : s.lat.a20m = false) (hm : s.map = []) (a : Nat) (bs : List Byte) (wb : Bool) :
    ∃ st fr, storeBytes a bs wb s = .ok () { s with mem := memWriteList s.mem a bs, stale := st, free := fr } := by
  induction bs generalizing a s with
  | nil => exact ⟨s.stale, s.free, rfl⟩
  | cons b bs ih =>
    have hb : s.storeByte a b wb = { s with
        mem := memWrite s.mem a b, stale := s.staleAfter a wb, free := if s.cacheOnly then s.free + 1 else s.free } := by
      simp only [State.storeByte, busAddr_ram ha, hm, placeOf_nil]
    obtain ⟨st, fr, hr⟩ := ih (s := s.storeByte a b wb) (by rw [hb]; exact ha) (by rw [hb]; exact hm) (a + 1)
    refine ⟨st, fr, ?_⟩
    simp only [storeBytes, run_bind, storeByte, run_modify, hr, memWriteList]
    rw [hb]

theorem physCheck_ram {s : State} {a n : Nat} {locked : Bool} (h : s.ramAt a n = true) (hn : 0 < n) :
    physCheck s a n locked = pure false := by
  obtain ⟨hmtrr, -, -, hapic⟩ := (ramAt_iff s a n).1 h
  have hin : inApicPage s a = false := by
    unfold inApicPage
    rcases hapic with hoff | hbelow | habove
    · simp [hoff]
    · simp; omega
    · simp; omega
  simp [physCheck, mtrrType, hmtrr, hin]

theorem run_physRead {s : State} {a n : Nat} (h : s.ramAt a n = true) (hn : 0 < n) : physRead a n s = .ok (s.num a n) s := by
  obtain ⟨-, ha, hm, -⟩ := (ramAt_iff s a n).1 h
  simp only [physRead, run_bind, run_get, busAddr_ram ha, physCheck_ram h hn, run_pure, Bool.false_eq_true, if_false,
    loadBytes_ram ha hm, State.num]

theorem run_physWrite {s : State} {a n : Nat} (h : s.ramAt a n = true) (hn : 0 < n) (v : Nat) (pcd pwt locked : Bool) :
    ∃ st fr, physWrite a n v pcd pwt locked s =
      .ok () { s with mem := memWriteList s.mem a (leBytes n v), stale := st, free := fr } := by
  obtain ⟨-, ha, hm, -⟩ := (ramAt_iff s a n).1 h
  obtain ⟨st, fr, hs⟩ := storeBytes_ram ha hm a (leBytes n v) (s.typeOf a pcd pwt = some .wb)
  exact ⟨st, fr, by simp only [physWrite, run_bind, run_get, busAddr_ram ha, physCheck_ram h hn, run_pure, Bool.false_eq_true,
    if_false, hs]⟩

/-! ### An access that fails -/

theorem exec_movAt (write : Bool) (m : Ea) (r : Reg) (s : State) :
    exec (movAt write m r) s = instr false (if write then movEvGv (.mem m) r else movGvEv r (.mem m)) s := by
  cases write <;> rfl

theorem run_error_bind {α β : Type} {x : M α} {s t : State} {e : Abort} (f : α → M β) (h : x s = .error e t) :
    (x >>= f) s = .error e t := by rw [run_bind, h]

/-- A MOV of a memory operand ends in the exception of its access. -/
theorem exec_movAt_error {write : Bool} {m : Ea} {r : Reg} {s u : State} {x : Exc} (hl : s.lockOk false = true)
    (h : access (eaSeg s m) (eaOffset s m) (bytes s.o32) (bytes s.o32) write s.start = .error (.exc x) u) :
    exec (movAt write m r) s = takeException s u x := by
  have hloc : locMem m (bits s.o32 / 8) write s.start = .error (.exc x) u := by
    rw [locMem, run_bind, run_get]
    dsimp only
    rw [bits_div, start_eaSeg, start_eaOffset]
    exact run_error_bind _ h
  have hbody : (if write then movEvGv (.mem m) r else movGvEv r (.mem m)) s.start = .error (.exc x) u := by
    cases write with
    | true =>
      rw [if_pos rfl, movEvGv, run_bind, run_getW]
      dsimp only
      rw [run_bind]
      exact run_error_bind _ hloc
    | false =>
      rw [if_neg Bool.false_ne_true, movGvEv, run_bind, run_getW]
      exact run_error_bind _ (run_error_bind _ hloc)
  have hlock : (s.ins.lock && !false) = false := by
    simpa [State.lockOk] using congrArg not hl
  rw [exec_movAt, instr, hlock, if_neg Bool.false_ne_true]
  have hrun := run_error_bind (fun _ => finish s) hbody
  unfold State.start at hrun
  rw [hrun]

/-- An exception without effects, but for draws. -/
theorem raises_of_drawn {i : Instr} {s : State} {n v : Nat} {c : Option Half}
    (h : exec i s = takeException s { s.start with free := n } { vec := v, code := c, cr2 := none, dr6 := 0, keep := false }) :
    Raises i s v c := ⟨_, h, rfl, rfl, rfl, rfl, rfl, rfl, rfl, rfl, rfl, rfl, rfl⟩

/-- Where the segment allows an access, its alignment and its pages are checked. -/
theorem run_access_checked {s u : State} {r : SegReg} {off : Word} {n align : Nat} {write : Bool} {e : Abort}
    (ht : (s.seg.get r).allows r (kindOf write) s.prot = true) (hl : (s.seg.get r).inLimit off n = true)
    (h : alignedSpans s.alignOn ((s.seg.get r).base + off) n align write (s.cpl = 3) s = .error e u) :
    access r off n align write s = .error e u := by
  have hlin := run_segLinear (n := n) ht hl
  refine run_error_bind _ ?_
  rw [checkedAccess, run_bind, run_get]
  dsimp only
  rw [run_bind]
  simp only [kindOf] at hlin
  rw [hlin]
  exact run_error_bind _ h

theorem translatePages_flat {s : State} (h : s.paging = false) (la : Word) (n : Nat) (write user : Bool) :
    translatePages la n write user s = .ok () s := by
  have ht (a : Word) : translate a write user s = .ok { pa := a.toNat, pcd := false, pwt := false } s := by
    simp [translate, h]
  simp only [translatePages, run_bind, ht, whenM]
  split
  · simp only [run_bind, ht]
    rfl
  · rfl

/-- A misaligned access raises #AC, perhaps after the faults of its pages. -/
theorem run_alignedSpans_misaligned {s : State} {la : Word} {n align : Nat} {write user : Bool} (hmis : la.toNat % align ≠ 0) :
    ∃ pagesFirst, alignedSpans true la n align write user s =
      (do whenM pagesFirst (translatePages la n write user); raiseAC) { s with free := s.free + 1 } := by
  refine ⟨decide (Config.freeBits s.free % 2 = 1), ?_⟩
  rw [alignedSpans, if_pos (by simpa using hmis), run_bind, run_drawBool]

theorem run_alignedSpans_flat {s : State} (h : s.paging = false) {la : Word} {n align : Nat} {write user : Bool}
    (hmis : la.toNat % align ≠ 0) :
    alignedSpans true la n align write user s = raise 17 (some 0) { s with free := s.free + 1 } := by
  obtain ⟨pagesFirst, hrun⟩ := run_alignedSpans_misaligned (s := s) (n := n) (write := write) (user := user) hmis
  have hpages := translatePages_flat (s := { s with free := s.free + 1 }) h la n write user
  rw [hrun, run_bind]
  cases pagesFirst with
  | true =>
    rw [whenM, if_pos rfl, hpages]
    rfl
  | false => rfl

theorem run_translate_absent {s : State} {la : Word} {write user : Bool} (hp : s.paging = true) (hpae : s.pae = false)
    (htlb : s.tlb = []) (hram : s.ramAt ((s.sys.cr3.toNat &&& 0xFFFFF000) + la.toNat / 0x400000 * 4) 4 = true)
    (h0 : (s.num ((s.sys.cr3.toNat &&& 0xFFFFF000) + la.toNat / 0x400000 * 4) 4).testBit 0 = false) :
    translate la write user s = raisePF la false write user false s := by
  have hread := run_physRead hram (by decide)
  rw [translate, run_bind, run_get]
  dsimp only
  have hwalk : walk la write user s = raisePF la false write user false s := by
    simp only [walk, run_bind, run_get, hpae, Bool.false_eq_true, if_false, walk32, hread, h0, Bool.not_false, if_true]
  simp only [hp, Bool.not_true, Bool.false_eq_true, if_false, htlb, chooseTlb, run_bind, run_pure]
  rw [hwalk]
  rfl

/-- The page fault of a page that is not present. -/
def absentFault (la : Word) (write user : Bool) : Exc :=
  { vec := 14, code := some (BitVec.ofNat 16 ((if write then 2 else 0) + if user then 4 else 0)), cr2 := some la, dr6 := 0,
    keep := false }

theorem raisePF_absent {α : Type} (la : Word) (write user : Bool) (s : State) :
    (raisePF la false write user false : M α) s = .error (.exc (absentFault la write user)) s := by
  cases write <;> cases user <;> rfl

theorem run_linearSpans_absent {s : State} {la : Word} {n : Nat} {write user : Bool}
    (h : translate la write user s = raisePF la false write user false s) :
    linearSpans la n write user s = .error (.exc (absentFault la write user)) s := by
  have hspan (len : Nat) : pageSpan la len write user s = .error (.exc (absentFault la write user)) s :=
    run_error_bind _ (h.trans (raisePF_absent la write user s))
  simp only [linearSpans, run_ite]
  split
  · exact run_error_bind _ (hspan _)
  · exact run_error_bind _ (hspan _)

/-- Settles O42. -/
theorem accessFaults : Obligations.AccessFaults := by
  intro write m r s hl
  dsimp only
  have hk : (if write then Access.write else Access.read) = kindOf write := rfl
  rw [hk]
  have hraise (v : Nat) (h : access (eaSeg s m) (eaOffset s m) (bytes s.o32) (bytes s.o32) write s.start =
      raise v (some 0) s.start) : Raises (movAt write m r) s v (some 0) := raises_of_drawn (exec_movAt_error hl h)
  refine ⟨fun ht => hraise 13 ?type, fun ht hlim => hraise _ (run_access_limit (s := s.start) ht hlim),
    fun ht hlim hmis hp => ?align, fun ht hlim hp hpae htlb hram h0 => ?page⟩
  case type =>
    refine run_bind_raise _ ?_
    rw [checkedAccess, run_bind, run_get]
    exact run_bind_raise _ (run_segLinear_type (s := s.start) ht)
  case align =>
    rw [Bool.and_eq_true, decide_eq_true_eq] at hmis
    have hspans := run_alignedSpans_flat (s := s.start) hp (write := write) (user := decide (s.cpl = 3))
      (n := bytes s.o32) hmis.2
    refine raises_of_drawn (n := s.free + 1) (exec_movAt_error hl (run_access_checked (s := s.start) ht hlim ?_))
    rw [show s.start.alignOn = true from hmis.1]
    exact hspans
  case page =>
    let la : Word := (s.seg.get (eaSeg s m)).base + eaOffset s m
    have hcr2 : BitVec.ofNat 32 (s.ea m) = la := by
      rw [State.ea, State.lin, BitVec.ofNat_toNat, BitVec.setWidth_eq]
    have habsent (k : Nat) := run_translate_absent (s := { s.start with free := k }) (la := la) (write := write)
      (user := decide (s.cpl = 3)) hp hpae htlb hram h0
    rw [hcr2]
    have hcode : BitVec.ofNat 16 ((if write then 2 else 0) + if s.cpl = 3 then 4 else 0) =
        BitVec.ofNat 16 ((if write then 2 else 0) + if decide (s.cpl = 3) = true then 4 else 0) := by
      simp only [decide_eq_true_eq]
    rw [hcode]
    by_cases hmis : (s.alignOn && decide (s.ea m % bytes s.o32 ≠ 0)) = true
    · have hboth := hmis
      rw [Bool.and_eq_true, decide_eq_true_eq] at hboth
      obtain ⟨pagesFirst, hrun⟩ := run_alignedSpans_misaligned (s := s.start) (la := la) (n := bytes s.o32) (write := write)
        (user := decide (s.cpl = 3)) hboth.2
      have hon : s.start.alignOn = true := hboth.1
      cases pagesFirst with
      | true =>
        refine .inr ⟨{ s.start with free := s.free + 1 }, rfl, exec_movAt_error hl (run_access_checked (s := s.start) ht hlim ?_)⟩
        rw [hon]
        refine hrun.trans (run_error_bind _ ?_)
        exact run_error_bind _ ((habsent _).trans (raisePF_absent _ _ _ _))
      | false =>
        refine .inl ⟨hmis, raises_of_drawn (n := s.free + 1) (exec_movAt_error hl (run_access_checked (s := s.start) ht hlim ?_))⟩
        rw [hon]
        exact hrun
    · refine .inr ⟨s.start, rfl, exec_movAt_error hl (run_access_checked (s := s.start) ht hlim ?_)⟩
      have hal : alignedSpans s.start.alignOn la (bytes s.o32) (bytes s.o32) write (decide (s.cpl = 3)) =
          linearSpans la (bytes s.o32) write (decide (s.cpl = 3)) := if_neg hmis
      refine (congrFun hal s.start).trans ?_
      exact run_linearSpans_absent (habsent s.free)

end Sys2Proof.Machine

/-! SUPPORT. Translation through a page directory and a page table. -/
namespace Sys2Proof.Machine
open Host

/-- The state differs in its memory alone, where `n` bytes at `a` hold `v`. -/
structure Rewritten (s u : State) (a n v : Nat) : Prop where
  same : u = { s with mem := u.mem, stale := u.stale, free := u.free }
  wf : Memory.wf u.mem = true
  num : u.num a n = v
  frame : ∀ k, k < a ∨ a + n ≤ k → memRead u.mem k = memRead s.mem k

theorem num_lt (s : State) (a n : Nat) : s.num a n < 256 ^ n := by
  have := leNat_lt (memBytes s.mem a n)
  rwa [memBytes_length] at this

theorem memBytes_congr {m m' : List Cell} {a n : Nat} (h : ∀ k, a ≤ k → k < a + n → memRead m k = memRead m' k) :
    memBytes m a n = memBytes m' a n := by
  induction n generalizing a with
  | zero => rfl
  | succ n ih =>
    rw [memBytes, memBytes, h a (by omega) (by omega), ih fun k h1 h2 => h k (by omega) (by omega)]

theorem Rewritten.num_apart {s u : State} {a n v b m : Nat} (h : Rewritten s u a n v) (hd : b + m ≤ a ∨ a + n ≤ b) :
    u.num b m = s.num b m := by
  unfold State.num
  rw [memBytes_congr fun k h1 h2 => h.frame k (by omega)]

theorem Rewritten.ramAt {s u : State} {a n v : Nat} (h : Rewritten s u a n v) (b m : Nat) : u.ramAt b m = s.ramAt b m := by
  rw [h.same]
  rfl

/-- An entry of a table is written, if it changes. -/
theorem run_rewrite {s : State} {a v : Nat} {write : M Unit} (hs : Memory.wf s.mem = true) (hram : s.ramAt a 4 = true)
    (hv : v < 2 ^ 32) (hw : (s.num a 4 = v ∧ write s = .ok () s) ∨
      ∃ pcd pwt, write s = physWrite a 4 v pcd pwt true s) :
    ∃ u, write s = .ok () u ∧ Rewritten s u a 4 v := by
  rcases hw with ⟨hnum, hrun⟩ | ⟨pcd, pwt, hrun⟩
  · exact ⟨s, hrun, rfl, hs, hnum, fun _ _ => rfl⟩
  · obtain ⟨st, fr, hp⟩ := run_physWrite hram (by decide) v pcd pwt true
    obtain ⟨hnum, hframe⟩ := stored_memWriteList (t := { s with mem := memWriteList s.mem a (leBytes 4 v), stale := st, free := fr })
      hs rfl
    exact ⟨_, hrun.trans hp, rfl, wf_memWriteList hs, hnum.trans (Nat.mod_eq_of_lt hv), hframe⟩

theorem or_lt (a : Nat) {b : Nat} (ha : a < 256 ^ 4) (hb : b < 2 ^ 32) : a ||| b < 2 ^ 32 := Nat.or_lt_two_pow ha hb

/-- The accessed flag of an entry where it is set. -/
theorem or_bit_self {e : Nat} (h : e.testBit 5 = true) : e ||| 0x20 = e := by
  apply Nat.eq_of_testBit_eq
  intro i
  have h20 : (0x20 : Nat) = 2 ^ 5 := rfl
  rw [Nat.testBit_or, h20, Nat.testBit_two_pow]
  by_cases hi : 5 = i
  · subst hi
    simp [h]
  · simp [hi]

theorem run_setAccessed {s : State} {a e : Nat} (hs : Memory.wf s.mem = true) (hram : s.ramAt a 4 = true) (he : s.num a 4 = e)
    (pcd pwt : Bool) : ∃ u, setAccessed a 4 e pcd pwt s = .ok () u ∧ Rewritten s u a 4 (e ||| 0x20) := by
  refine run_rewrite hs hram (or_lt _ (he ▸ num_lt s a 4) (by decide)) ?_
  unfold setAccessed
  split
  · next h5 => exact .inl ⟨he.trans (or_bit_self h5).symm, rfl⟩
  · exact .inr ⟨pcd, pwt, rfl⟩

theorem run_setAccessedDirty {s : State} {a e : Nat} (hs : Memory.wf s.mem = true) (hram : s.ramAt a 4 = true)
    (he : s.num a 4 = e) (write pcd pwt : Bool) :
    ∃ u, setAccessedDirty a 4 e write pcd pwt s = .ok () u ∧ Rewritten s u a 4 (e ||| (if write then 0x60 else 0x20)) := by
  refine run_rewrite hs hram (or_lt _ (he ▸ num_lt s a 4) (by split <;> decide)) ?_
  by_cases hsame : e ||| (if write then 0x60 else 0x20) = e
  · exact .inl ⟨he.trans hsame.symm, congrFun (if_pos hsame) s⟩
  · exact .inr ⟨pcd, pwt, congrFun (if_neg hsame) s⟩

/-- The addresses of two different entries are apart. -/
theorem entries_apart (x y i j : Nat) (h : (x &&& 0xFFFFF000) + i * 4 ≠ (y &&& 0xFFFFF000) + j * 4) :
    (x &&& 0xFFFFF000) + i * 4 + 4 ≤ (y &&& 0xFFFFF000) + j * 4 ∨ (y &&& 0xFFFFF000) + j * 4 + 4 ≤ (x &&& 0xFFFFF000) + i * 4 := by
  have hmod (z : Nat) : (z &&& 0xFFFFF000) % 4 = 0 := by
    have hand := Nat.and_mod_two_pow (a := z) (b := 0xFFFFF000) (n := 2)
    norm_num at hand
    exact hand
  have hx := hmod x
  have hy := hmod y
  omega

/-- The frame of a 4-KByte page, of which an entry of 32 bits has 20 bits. -/
theorem frame_mask {e : Nat} (h : e < 2 ^ 32) : e &&& 0xFFFFFF000 = e &&& 0xFFFFF000 := by
  apply Nat.eq_of_testBit_eq
  intro i
  by_cases hi : i < 32
  · have hm : (0xFFFFFF000 : Nat) % 2 ^ 32 = 0xFFFFF000 := by norm_num
    have := congrArg (Nat.testBit · i) hm
    rw [Nat.testBit_and, Nat.testBit_and, ← this, Nat.testBit_mod_two_pow]
    simp [hi]
  · have he : e.testBit i = false := Nat.testBit_lt_two_pow (lt_of_lt_of_le h (Nat.pow_le_pow_right (by decide) (not_lt.1 hi)))
    rw [Nat.testBit_and, Nat.testBit_and, he, Bool.false_and, Bool.false_and]

theorem run_addTlb (t : TlbEntry) (u : State) : ∃ l, addTlb t u = .ok () { u with tlb := l } := by
  by_cases h : u.tlb.contains t
  · exact ⟨u.tlb, by rw [addTlb, run_modify, if_pos h]⟩
  · exact ⟨t :: u.tlb, by rw [addTlb, run_modify, if_neg h]⟩

/-- A translation through a page table: both entries are marked and the translation is held. -/
theorem run_useTable {s : State} {la : Word} {write user : Bool} {da ta pde pte : Nat} {pcd pwt : Bool}
    (hs : Memory.wf s.mem = true) (hda : s.ramAt da 4 = true) (hta : s.ramAt ta 4 = true) (hpde : s.num da 4 = pde)
    (hpte : s.num ta 4 = pte) (hd : da + 4 ≤ ta ∨ ta + 4 ≤ da) (h0 : pte.testBit 0 = true)
    (hok : refusedAccess s write user (pde.testBit 2 && pte.testBit 2) (pde.testBit 1 && pte.testBit 1) = false) :
    ∃ t u, useTable la write user da 4 pde ta 0 pcd pwt s = .ok t u ∧ t.frame = pte &&& 0xFFFFF000 ∧ t.size = 0x1000 ∧
      u.num da 4 = pde ||| 0x20 ∧ u.num ta 4 = pte ||| (if write then 0x60 else 0x20) ∧
      (∀ k, (k < da ∨ da + 4 ≤ k) → (k < ta ∨ ta + 4 ≤ k) → memRead u.mem k = memRead s.mem k) ∧
      u = { s with mem := u.mem, stale := u.stale, free := u.free, tlb := u.tlb } := by
  obtain ⟨u1, hrun1, h1⟩ := run_setAccessed hs hda hpde pcd pwt
  have hpte1 : u1.num ta 4 = pte := (h1.num_apart (by omega)).trans hpte
  obtain ⟨u2, hrun2, h2⟩ := run_setAccessedDirty h1.wf ((h1.ramAt ta 4).trans hta) hpte1 write (pde.testBit 4) (pde.testBit 3)
  have hread := run_physRead hta (by decide)
  rw [hpte] at hread
  let t := entryOf la 0x1000 (pte &&& 0xFFFFFF000) ta 4 pte (pde.testBit 2 && pte.testBit 2) (pde.testBit 1 && pte.testBit 1)
    (write || pte.testBit 6) (pde.testBit 4) (pde.testBit 3)
  obtain ⟨l, hadd⟩ := run_addTlb t u2
  have hframe : pte &&& 0xFFFFFF000 = pte &&& 0xFFFFF000 := frame_mask (hpte ▸ num_lt s ta 4)
  refine ⟨t, { u2 with tlb := l }, ?_, hframe, rfl, (h2.num_apart hd).trans h1.num, h2.num,
    fun k hk hk' => (h2.frame k hk').trans (h1.frame k hk), ?_⟩
  · simp only [useTable, run_bind, run_get, hread, h0, Bool.not_true, Bool.false_eq_true, if_false, Nat.and_zero, ne_eq,
      not_true_eq_false, hok, hrun1, hrun2]
    rw [hadd]
    rfl
  · have hsame := h2.same
    rw [h1.same] at hsame
    rw [hsame]

/-- A translation that the rights of the two entries refuse. -/
theorem run_useTable_refused {s : State} {la : Word} {write user : Bool} {da ta pde pte : Nat} {pcd pwt : Bool}
    (hs : Memory.wf s.mem = true) (hda : s.ramAt da 4 = true) (hta : s.ramAt ta 4 = true) (hpde : s.num da 4 = pde)
    (hpte : s.num ta 4 = pte) (hd : da + 4 ≤ ta ∨ ta + 4 ≤ da) (h0 : pte.testBit 0 = true)
    (hno : refusedAccess s write user (pde.testBit 2 && pte.testBit 2) (pde.testBit 1 && pte.testBit 1) = true) :
    ∃ u, useTable la write user da 4 pde ta 0 pcd pwt s = raisePF la true write user false u := by
  obtain ⟨u1, hrun1, h1⟩ := run_setAccessed hs hda hpde pcd pwt
  have hpte1 : u1.num ta 4 = pte := (h1.num_apart (by omega)).trans hpte
  obtain ⟨u2, hrun2, -⟩ := run_setAccessed h1.wf ((h1.ramAt ta 4).trans hta) hpte1 (pde.testBit 4) (pde.testBit 3)
  have hread := run_physRead hta (by decide)
  rw [hpte] at hread
  have hwhen : ∃ u, whenM (!(user && !(pde.testBit 2 && pte.testBit 2)))
      (setAccessed ta 4 pte (pde.testBit 4) (pde.testBit 3)) u1 = .ok () u := by
    cases hb : !(user && !(pde.testBit 2 && pte.testBit 2)) with
    | true => exact ⟨u2, hrun2⟩
    | false => exact ⟨u1, rfl⟩
  obtain ⟨u, hu⟩ := hwhen
  refine ⟨u, ?_⟩
  simp only [useTable, run_bind, run_get, hread, h0, Bool.not_true, Bool.false_eq_true, if_false, Nat.and_zero, ne_eq,
    not_true_eq_false, hno, if_true, hrun1, hu]

/-- With no translation held, an address translates by the walk. -/
theorem run_translate_walk {s : State} {la : Word} {write user : Bool} (hp : s.paging = true) (hpae : s.pae = false)
    (htlb : s.tlb = []) : translate la write user s = (do let t ← walk32 la write user; pure (t.target la)) s := by
  have hwalk : walk la write user s = walk32 la write user s := by
    simp only [walk, run_bind, run_get, hpae, Bool.false_eq_true, if_false]
  simp only [translate, run_bind, run_get, hp, Bool.not_true, Bool.false_eq_true, if_false, htlb, chooseTlb, run_pure, hwalk]

/-- The walk through a directory entry that names a page table. -/
theorem run_walk32_table {s : State} {la : Word} {write user : Bool} {da pde : Nat}
    (hat : (s.sys.cr3.toNat &&& 0xFFFFF000) + la.toNat / 0x400000 * 4 = da) (hda : s.ramAt da 4 = true) (hpde : s.num da 4 = pde)
    (hp0 : pde.testBit 0 = true) (hps : (s.pse && pde.testBit 7) = false) :
    walk32 la write user s = useTable la write user da 4 pde ((pde &&& 0xFFFFF000) + la.toNat / 0x1000 % 0x400 * 4) 0
      (s.sys.cr3.toNat.testBit 4) (s.sys.cr3.toNat.testBit 3) s := by
  have hread := run_physRead hda (by decide)
  simp only [walk32, run_bind, run_get, hat, hread, hpde, hp0, Bool.not_true, Bool.false_eq_true, if_false, hps]

/-- Settles O43. -/
theorem paging : Obligations.Paging := by
  intro la write user s hs hp hpae htlb
  dsimp only
  intro hda hta hne hp0 hps hpt0
  have hapart := entries_apart _ _ _ _ hne
  have htrans := run_translate_walk (write := write) (user := user) (la := la) hp hpae htlb
  rw [run_bind, run_walk32_table rfl hda rfl hp0 hps] at htrans
  refine ⟨fun hok => ?_, fun hno => ?_⟩
  · obtain ⟨t, u, hrun, hframe, hsize, hd, ht, hmem, hsame⟩ := run_useTable (la := la) hs hda hta rfl rfl hapart hpt0 hok
    rw [hrun] at htrans
    exact ⟨_, u, htrans, by rw [TlbEntry.target, hframe, hsize], hd, ht, hmem, hsame⟩
  · obtain ⟨u, hrun⟩ := run_useTable_refused (la := la) hs hda hta rfl rfl hapart hpt0 hno
    rw [hrun] at htrans
    cases write <;> cases user <;> exact ⟨_, u, htrans, rfl, rfl, rfl, rfl⟩

end Sys2Proof.Machine

/-! SUPPORT. Instructions that change the system state: debug registers, caches, reserved opcodes. -/
namespace Sys2Proof.Machine
open Host

/-- An instruction whose body ends in an exception takes it. -/
theorem exec_of_error {i : Instr} {lockOk : Bool} {body : M Unit} {s u : State} {x : Exc} (hi : exec i s = instr lockOk body s)
    (hl : s.lockOk lockOk = true) (hb : body s.start = .error (.exc x) u) : exec i s = takeException s u x := by
  have hlock : (s.ins.lock && !lockOk) = false := by
    simpa [State.lockOk] using congrArg not hl
  have hrun := run_error_bind (fun _ => finish s) hb
  unfold State.start at hrun
  rw [hi, instr, hlock, if_neg Bool.false_ne_true, hrun]

theorem like_freeArith {s u : State} (h : Like s u) :
    Runs freeArith u fun _ v => ∃ f : Word, Like (s.flagged arithMask f) v :=
  runs_bind (like_draw h 32) fun f _ hv => runs_mono (like_putFlagsMasked hv arithMask f) fun _ _ ht => ⟨f, ht⟩

theorem like_requireCpl0 {s u : State} (h : Like s u) (hp : s.privileged = true) :
    Runs requireCpl0 u fun _ v => Like s v := by
  obtain ⟨k, st, n, b, rfl⟩ := h
  exact ⟨(), _, by rw [run_requireCpl0, noisy_privileged, hp]; rfl, like_noisy s k st n b⟩

/-! ### Debug registers -/

theorem drAlias_eq (n : Fin 8) : drAlias n = if n.val = 4 ∨ n.val = 5 then n.val + 2 else n.val := by
  revert n
  decide

theorem drAlias_mem (n : Fin 8) : drAlias n ∈ [0, 1, 2, 3, 6, 7] := by
  revert n
  decide

theorem fin_alias_iff (n : Fin 8) : (n.val = 4 ∨ n.val = 5) ↔ (n = 4 ∨ n = 5) := by
  revert n
  decide

theorem drOk_iff (s : State) (n : Fin 8) :
    s.drOk n = true ↔ ¬((n.val = 4 ∨ n.val = 5) ∧ bit s.sys.cr4 3 = true) ∧ bit s.dbg.dr7 13 = false := by
  rw [fin_alias_iff]
  simp [State.drOk]
  tauto

/-- The debug register that a number names, or the exception of its access. -/
theorem run_debugReg {s : State} (hp : s.privileged = true) (n : Fin 8) :
    debugReg n.val s = if (n.val = 4 ∨ n.val = 5) ∧ bit s.sys.cr4 3 = true then raise 6 none s
      else if bit s.dbg.dr7 13 = true then
        .error (.exc { vec := 1, code := none, cr2 := none, dr6 := 0x2000#32, keep := false }) s
      else .ok (drAlias n) s := by
  simp only [debugReg, run_bind, run_requireCpl0, hp, if_true, run_get, run_ite, drAlias_eq]
  rfl

theorem like_debugReg {s u : State} (h : Like s u) (hp : s.privileged = true) {n : Fin 8} (hn : s.drOk n = true) :
    Runs (debugReg n.val) u fun k v => k = drAlias n ∧ Like s v := by
  obtain ⟨k, st, c, b, rfl⟩ := h
  obtain ⟨hde, hgd⟩ := (drOk_iff s n).1 hn
  refine ⟨drAlias n, _, ?_, rfl, like_noisy s k st c b⟩
  rw [run_debugReg (by simpa using hp), noisy_sys, noisy_dbg, if_neg hde, hgd, if_neg Bool.false_ne_true]

theorem Dbg.reg_eq_dr (d : Dbg) {k : Nat} (hk : k ∈ [0, 1, 2, 3, 6, 7]) : d.reg k = d.dr k := by
  simp only [List.mem_cons, List.not_mem_nil, or_false] at hk
  rcases hk with rfl | rfl | rfl | rfl | rfl | rfl <;> rfl

theorem Dbg.same.dr {d e : Dbg} (h : Dbg.same d e) (k : Nat) : e.dr k = d.dr k := by
  obtain ⟨h0, h1, h2, h3, h6, h7⟩ := h
  simp only [Dbg.dr, h0, h1, h2, h3, h6, h7]

/-- The number that a debug register keeps of what is written. -/
def drKept (k : Nat) (v : Word) : Word :=
  if k = 6 then (v &&& 0xE00F#32) ||| 0xFFFF0FF0#32 else if k = 7 then (v &&& 0xFFFF27FF#32) ||| 0x400#32 else v

theorem Dbg.dr_setReg (d : Dbg) {k j : Nat} (hk : k ∈ [0, 1, 2, 3, 6, 7]) (hj : j ∈ [0, 1, 2, 3, 6, 7]) (v : Word) :
    (d.setReg k v).dr j = if j = k then drKept k v else d.dr j := by
  simp only [List.mem_cons, List.not_mem_nil, or_false] at hk hj
  rcases hk with rfl | rfl | rfl | rfl | rfl | rfl <;> rcases hj with rfl | rfl | rfl | rfl | rfl | rfl <;> rfl

/-- The state with other debug registers. -/
def State.withDbg (s : State) (d : Dbg) : State := { s with dbg := d }

theorem like_movFromDr {s u : State} (h : Like s u) (hp : s.privileged = true) {n : Fin 8} (hn : s.drOk n = true) (r : Reg) :
    Runs (movFromDr r n.val) u fun _ v => ∃ f, Like ((s.setR32 r (s.dbg.dr (drAlias n))).flagged arithMask f) v :=
  runs_bind (like_debugReg h hp hn) fun k v ⟨hk, hv⟩ => by
    subst hk
    refine like_get_bind hv fun _ _ _ _ => ?_
    rw [noisy_dbg, Dbg.reg_eq_dr _ (drAlias_mem n)]
    exact runs_bind (like_putR32 (like_noisy s _ _ _ _) r _) fun _ _ hw => like_freeArith hw

theorem like_movToDr {s u : State} (h : Like s u) (hp : s.privileged = true) {n : Fin 8} (hn : s.drOk n = true) (r : Reg) :
    Runs (movToDr n.val r) u fun _ v =>
      ∃ f, Like ((s.withDbg (s.dbg.setReg (drAlias n) (s.r32 r))).flagged arithMask f) v :=
  runs_bind (like_debugReg h hp hn) fun k v ⟨hk, hv⟩ => by
    subst hk
    exact runs_bind (like_modify (f := fun s => s.withDbg (s.dbg.setReg (drAlias n) (s.r32 r))) hv fun _ _ _ _ _ => rfl)
      fun _ _ hw => like_freeArith hw

theorem passed_dbg {s : State} (hs : s.ready) (d : Dbg) (f : Word) :
    Passed (s.withDbg d) ((s.start.withDbg d).flagged arithMask f) := by
  have htr : ((s.start.withDbg d).flagged arithMask f).tr = Trans.clear := hs.2
  refine ⟨by constructor <;> rfl, rfl, ?_, ?_, ?_⟩ <;> rw [htr] <;> rfl

theorem exec_movDr_ud {n : Fin 8} {r : Reg} {s : State} (hl : s.lockOk false = true) (hp : s.privileged = true)
    (hn : n = 4 ∨ n = 5) (hde : bit s.sys.cr4 3 = true) : Raises (.movDdRd n r) s 6 none ∧ Raises (.movRdDd r n) s 6 none := by
  have hdr : debugReg n.val s.start = raise 6 none s.start := by
    rw [run_debugReg (s := s.start) hp, if_pos ⟨(fin_alias_iff n).2 hn, hde⟩]
  exact ⟨raises_of_body (by rfl) hl (run_bind_raise _ hdr), raises_of_body (by rfl) hl (run_bind_raise _ hdr)⟩

/-- Settles O29. -/
theorem debugRegisters : Obligations.DebugRegisters := by
  refine ⟨fun r n s hs hl hp hn => ?load, fun r n s hs hl hp hn => ?store, fun r n s hl hp hn hde => exec_movDr_ud hl hp hn hde,
    fun i r n s hi hl hp hn hgd => ?detect⟩
  case load =>
    refine completes_of_some_like (by rfl) hs hl (runs_mono (like_movFromDr (Like.refl s.start) hp hn r) ?_)
    rintro _ u ⟨f, hu⟩
    refine ⟨_, hu, ((calm_start s).trans (calm_setR32 _ _ _)).trans (calm_flagged _ _ _), rfl, fun t hg hm hf ht => ?_⟩
    refine ⟨f, ?_, hf, ht⟩
    rw [← wrote_reg32] at hg
    exact wrote_of_start hs.1 hg hm
  case store =>
    refine completes_passed (by rfl) hl (runs_mono (like_movToDr (Like.refl s.start) hp hn r) ?_)
    rintro _ u ⟨f, hu⟩
    refine ⟨_, _, hu, passed_dbg hs _ f, fun t hg hm hf ht => ⟨f, ?_, fun j hj hne => ?_, untouched_of hg hm, hf, ?_⟩⟩
    · rw [ht.2.1.2.2.2.2.dr]
      exact (Dbg.dr_setReg _ (drAlias_mem n) (drAlias_mem n) _).trans (if_pos rfl)
    · rw [ht.2.1.2.2.2.2.dr]
      exact (Dbg.dr_setReg _ (drAlias_mem n) hj _).trans (if_neg hne)
    · obtain ⟨heip, ⟨⟨hapart, hsys, hfpu, htlb, -⟩, hseg⟩⟩ := ht
      exact ⟨heip, ⟨⟨hapart, hsys, hfpu, htlb, rfl, rfl, rfl, rfl, rfl, rfl⟩, hseg⟩⟩
  case detect =>
    have hdr : debugReg n.val s.start =
        .error (.exc { vec := 1, code := none, cr2 := none, dr6 := 0x2000#32, keep := false }) s.start := by
      rw [run_debugReg (s := s.start) hp, if_neg fun h => absurd h.2 (by rw [State.start_sys, hn ((fin_alias_iff n).1 h.1)]; decide),
        State.start_dbg, if_pos hgd]
    refine ⟨s.start, ?_, rfl, rfl, rfl, rfl⟩
    rcases hi with rfl | rfl
    · exact exec_of_error (by rfl) hl (run_error_bind _ hdr)
    · exact exec_of_error (by rfl) hl (run_error_bind _ hdr)

end Sys2Proof.Machine

/-! SUPPORT. A calculus for what runs between instructions: a computation leaves an explicit update of the state, but for what
the caches have still to write back and the draws. -/
namespace Sys2Proof.Machine
open Host

/-- The state with other bytes to be written back and other draws. -/
def State.drawn (s : State) (st : List StaleByte) (n : Nat) : State := { s with stale := st, free := n }

theorem drawn_eq (s : State) (st : List StaleByte) (n : Nat) : s.drawn st n = s.noisy s.tr.hit st n s.ins.lock := rfl

/-- The state is `s` but for bytes to be written back and draws. -/
def Nigh (s u : State) : Prop := ∃ st n, u = s.drawn st n

theorem Nigh.refl (s : State) : Nigh s s := ⟨s.stale, s.free, rfl⟩

theorem Nigh.trans {s t u : State} (h : Nigh s t) (h' : Nigh t u) : Nigh s u := by
  obtain ⟨st, n, rfl⟩ := h
  obtain ⟨st', n', rfl⟩ := h'
  exact ⟨st', n', rfl⟩

theorem Nigh.like {s u : State} (h : Nigh s u) : Like s u := by
  obtain ⟨st, n, rfl⟩ := h
  exact ⟨s.tr.hit, st, n, s.ins.lock, rfl⟩

theorem nigh_drawn (s : State) (st : List StaleByte) (n : Nat) : Nigh s (s.drawn st n) := ⟨st, n, rfl⟩

/-- An update that does not look at what is left open. -/
def Deaf (f : State → State) : Prop := ∀ s st n, f (s.drawn st n) = (f s).drawn st n

theorem nigh_modify {f : State → State} {s u : State} (h : Nigh s u) (hf : Deaf f) :
    Runs (modify f : M Unit) u fun _ v => Nigh (f s) v := by
  obtain ⟨st, n, rfl⟩ := h
  exact runs_modify ⟨st, n, hf s st n⟩

theorem nigh_get_bind {β : Type} {s u : State} (h : Nigh s u) {f : State → M β} {r : β → State → Prop}
    (hf : ∀ st n, Runs (f (s.drawn st n)) (s.drawn st n) r) : Runs (get >>= f) u r := by
  obtain ⟨st, n, rfl⟩ := h
  exact runs_get_bind (hf st n)

theorem nigh_drawNat {s u : State} (h : Nigh s u) : Runs drawNat u fun _ v => Nigh s v :=
  ⟨_, _, run_drawNat u, h.trans ⟨u.stale, _, rfl⟩⟩

section
variable (s : State) (st : List StaleByte) (n : Nat)
@[simp] theorem drawn_gpr : (s.drawn st n).gpr = s.gpr := rfl
@[simp] theorem drawn_eip : (s.drawn st n).eip = s.eip := rfl
@[simp] theorem drawn_eflags : (s.drawn st n).eflags = s.eflags := rfl
@[simp] theorem drawn_cpl : (s.drawn st n).cpl = s.cpl := rfl
@[simp] theorem drawn_seg : (s.drawn st n).seg = s.seg := rfl
@[simp] theorem drawn_sys : (s.drawn st n).sys = s.sys := rfl
@[simp] theorem drawn_msr : (s.drawn st n).msr = s.msr := rfl
@[simp] theorem drawn_mem : (s.drawn st n).mem = s.mem := rfl
@[simp] theorem drawn_tr : (s.drawn st n).tr = s.tr := rfl
@[simp] theorem drawn_ins : (s.drawn st n).ins = s.ins := rfl
@[simp] theorem drawn_lat : (s.drawn st n).lat = s.lat := rfl
@[simp] theorem drawn_prot : (s.drawn st n).prot = s.prot := rfl
@[simp] theorem drawn_plain : (s.drawn st n).plain = s.plain := rfl
@[simp] theorem drawn_alignOn : (s.drawn st n).alignOn = s.alignOn := rfl
@[simp] theorem drawn_iopl : (s.drawn st n).iopl = s.iopl := rfl
@[simp] theorem drawn_sp : (s.drawn st n).sp = s.sp := rfl
@[simp] theorem drawn_flag (i : Nat) : (s.drawn st n).flag i = s.flag i := rfl
@[simp] theorem drawn_num (a i : Nat) : (s.drawn st n).num a i = s.num a i := rfl
@[simp] theorem drawn_descriptor (sel : Half) : (s.drawn st n).descriptor sel = s.descriptor sel := noisy_descriptor s _ _ _ _ sel
end

/-! ### System accesses -/

theorem plainAt_iff (s : State) (a : Word) (n : Nat) : s.plainAt a n = true ↔ s.sysReach a.toNat n := by
  rw [State.plainAt, Bool.and_eq_true, decide_eq_true_eq, State.sysReach]

theorem nigh_sysRead {s u : State} (h : Nigh s u) {a : Word} {n : Nat} (hr : s.sysReach a.toNat n) (hn : 0 < n) :
    Runs (sysRead a n) u fun x t => x = s.num a.toNat n ∧ Nigh s t := by
  obtain ⟨st, c, rfl⟩ := h
  exact ⟨_, _, run_sysRead (s := s.drawn st c) hr hn, rfl, nigh_drawn s st c⟩

theorem nigh_readDesc {s u : State} (h : Nigh s u) {a : Word} (hr : s.sysReach a.toNat 8) :
    Runs (readDesc a) u fun d t => d = BitVec.ofNat 64 (s.num a.toNat 8) ∧ Nigh s t := by
  obtain ⟨st, c, rfl⟩ := h
  exact ⟨_, _, run_readDesc (s := s.drawn st c) hr, rfl, nigh_drawn s st c⟩

theorem nigh_needDesc {s u : State} (h : Nigh s u) {sel : Half} {a : Nat} {d : Desc} (v : Nat)
    (hd : s.descriptor sel = some (a, d)) :
    Runs (needDesc v sel) u fun p t => p.1.toNat = a ∧ p.2 = d ∧ Nigh s t := by
  obtain ⟨st, n, rfl⟩ := h
  obtain ⟨w, hw, hr⟩ := run_needDesc (s := s.drawn st n) v (by simpa using hd)
  exact ⟨_, _, hr, hw, rfl, nigh_drawn s st n⟩

theorem nigh_writeSpans {s u : State} (h : Nigh s u) (hp : s.plain = true) (a n v : Nat) :
    Runs (writeSpans (spansAt a n) n v) u fun _ w => Nigh (s.stored a n v) w := by
  obtain ⟨st, c, rfl⟩ := h
  obtain ⟨st', c', hw⟩ := writeSpans_plain (s := s.drawn st c) hp a n v
  exact ⟨_, _, hw, st', c', rfl⟩

theorem nigh_accessedSpan {s u : State} (h : Nigh s u) {w : Word} {a : Nat} {d : Desc} (hw : w.toNat = a)
    (hr : s.sysReach a 8) :
    Runs (accessedSpan w d) u fun ps t =>
      ps = (match accessedByte a d with | some b => spansAt b 1 | none => []) ∧ Nigh s t := by
  obtain ⟨hp, hle⟩ := hr
  obtain ⟨st, n, rfl⟩ := h
  unfold accessedSpan accessedByte
  split
  · have ha : (w + 5).toNat = a + 5 := hw ▸ toNat_add_lt (k := 5) (hw ▸ hle) (by decide)
    refine ⟨_, _, linearSpans_plain (s := s.drawn st n) hp (w + 5) 1 true false (by decide) (by omega),
      ?_, nigh_drawn s st n⟩
    rw [ha]
  · exact runs_pure ⟨rfl, nigh_drawn s st n⟩

/-- The state with the bus locked. -/
def State.busLocked (s : State) : State := { s with ins := { s.ins with lock := true } }

theorem nigh_locked {α : Type} {x : M α} {s s' u : State} {q : α → Prop} (h : Nigh s u) (hins : s'.ins = s.ins)
    (hx : ∀ v, Nigh s.busLocked v → Runs x v fun a w => q a ∧ Nigh s'.busLocked w) :
    Runs (Sys2Proof.Machine.locked x) u fun a v => q a ∧ Nigh s' v := by
  obtain ⟨st, n, rfl⟩ := h
  refine runs_get_bind (runs_bind (q := fun _ v => Nigh s.busLocked v) (runs_modify ⟨st, n, rfl⟩) fun _ v hv => ?_)
  refine runs_bind (hx v hv) fun a w ⟨ha, hw⟩ => ?_
  obtain ⟨st', n', rfl⟩ := hw
  refine runs_bind (q := fun _ y => Nigh s' y) (runs_modify ⟨st', n', ?_⟩) fun _ _ hy => runs_pure ⟨ha, hy⟩
  have hlock : (s.drawn st n).ins.lock = s'.ins.lock := by rw [drawn_ins, hins]
  rw [hlock]
  rfl

theorem nigh_markAccessed {s u : State} (h : Nigh s u) (hp : s.plain = true) (o : Option Nat) :
    Runs (markAccessed (match o with | some b => spansAt b 1 | none => [])) u fun _ t => Nigh (s.markedAcc o) t := by
  cases o with
  | none => exact runs_pure h
  | some a =>
    unfold markAccessed
    rw [spansAt_ne_nil, if_neg Bool.false_ne_true]
    refine runs_bind (q := fun _ t => Nigh s t) ?_ fun _ v hv => ?_
    · obtain ⟨st, n, rfl⟩ := h
      exact ⟨_, _, accessGap_plain (s := s.drawn st n) hp, nigh_drawn s st n⟩
    · refine runs_mono (nigh_locked (q := fun _ => True) hv (s' := s.markedAcc (some a)) rfl fun v1 h1 => ?_)
        fun _ _ ⟨_, ht⟩ => ht
      obtain ⟨st, n, rfl⟩ := h1
      refine runs_bind (q := fun x t => x = s.num a 1 ∧ Nigh s.busLocked t)
        ⟨_, _, readSpans_plain (s := s.busLocked.drawn st n) hp a 1, rfl, nigh_drawn _ _ _⟩ fun x v2 ⟨hx, h2⟩ => ?_
      subst hx
      exact runs_mono (nigh_writeSpans h2 hp _ _ _) fun _ _ ht => ⟨trivial, ht⟩

/-! ### Items pushed together -/

/-- Where the items of a frame go, and what they are. -/
def pushPlaces (g : Seg) (n : Nat) : Word → List Nat → List (Nat × Nat)
  | _, [] => []
  | t, v :: vs =>
    ((g.base + g.cutSp (t - BitVec.ofNat 32 n)).toNat, v) :: pushPlaces g n (g.cutSp (t - BitVec.ofNat 32 n)) vs

/-- The state with numbers of `n` bytes stored. -/
def State.storedAll (n : Nat) : List (Nat × Nat) → State → State
  | [], s => s
  | p :: l, s => State.storedAll n l (s.stored p.1 n p.2)

theorem storedAll_eq (n : Nat) (l : List (Nat × Nat)) (s : State) :
    State.storedAll n l s = { s with mem := (State.storedAll n l s).mem } := by
  induction l generalizing s with
  | nil => rfl
  | cons p l ih => exact ih (s.stored p.1 n p.2)

/-- Items that can be pushed on the stack of a segment, one after another. -/
def SpansFree (s : State) (g : Seg) (user : Bool) (n : Nat) : Word → List Nat → Prop
  | _, [] => True
  | t, _ :: vs =>
    (g.inLimit (g.cutSp (t - BitVec.ofNat 32 n)) n = true ∧
      ((user && s.alignOn) && decide ((g.base + g.cutSp (t - BitVec.ofNat 32 n)).toNat % n ≠ 0)) = false ∧
      (g.base + g.cutSp (t - BitVec.ofNat 32 n)).toNat + n ≤ 0xFEE00000) ∧ SpansFree s g user n (g.cutSp (t - BitVec.ofNat 32 n)) vs

theorem nigh_pushSpans {s u : State} (h : Nigh s u) (hp : s.plain = true) {g : Seg} {user : Bool} {n : Nat} (hn : 0 < n)
    (code : Half) {t : Word} {vs : List Nat} (hf : SpansFree s g user n t vs) :
    Runs (pushSpans g user code n t vs) u fun ps v =>
      ps = (pushPlaces g n t vs).map (fun p => (spansAt p.1 n, p.2)) ∧ Nigh s v := by
  induction vs generalizing t u with
  | nil => exact runs_pure ⟨rfl, h⟩
  | cons w vs ih =>
    obtain ⟨⟨hlim, hal, hle⟩, hrest⟩ := hf
    simp only [pushSpans, hlim, Bool.not_true, Bool.false_eq_true, if_false]
    refine nigh_get_bind h fun st c => runs_bind (q := fun ps v =>
      ps = spansAt (g.base + g.cutSp (t - BitVec.ofNat 32 n)).toNat n ∧ Nigh s v)
      ⟨_, _, alignedSpans_plain (s := s.drawn st c) hp hal hn hle, rfl, nigh_drawn s st c⟩ fun ps v ⟨hps, hv⟩ => ?_
    refine runs_bind (ih hv hrest) fun qs v2 ⟨hqs, hv2⟩ => runs_pure ⟨?_, hv2⟩
    rw [hps, hqs]
    rfl

theorem nigh_storeItems {s u : State} (h : Nigh s u) (hp : s.plain = true) (n : Nat) (l : List (Nat × Nat)) :
    Runs (storeItems n (l.map fun p => (spansAt p.1 n, p.2))) u fun _ v => Nigh (State.storedAll n l s) v := by
  induction l generalizing s u with
  | nil => exact runs_pure h
  | cons p l ih => exact runs_bind (nigh_writeSpans h hp p.1 n p.2) fun _ v hv => ih hv hp

/-- Items that can be pushed are free to be written. -/
theorem spansFree_of_canPushAll {n : Nat} {s : State} {t : Word} {vs : List Nat}
    (h : canPushAll n vs.length (s.setSp t) = true) :
    SpansFree s s.seg.ss (decide (s.cpl = 3)) n (s.seg.ss.cutSp t) vs := by
  induction vs generalizing t with
  | nil => trivial
  | cons v vs ih =>
    simp only [List.length_cons, canPushAll, Bool.and_eq_true, setSp_setSp, setSp_pushOff, setSp_cutSp] at h
    obtain ⟨h1, h2⟩ := h
    have hrest := ih h2
    rw [State.canPush, setSp_reaches, setSp_pushOff] at h1
    simp only [State.reaches, Bool.and_eq_true, Bool.or_eq_true, Bool.not_eq_true', decide_eq_true_eq] at h1
    obtain ⟨⟨⟨-, hlim⟩, hal⟩, hle⟩ := h1
    rw [SpansFree, Seg.cutSp_sub]
    refine ⟨⟨hlim, ?_, hle⟩, hrest⟩
    rcases hal with hal | hal
    · rw [hal, Bool.and_false, Bool.false_and]
    · have hz : (s.seg.ss.base + s.seg.ss.cutSp (t - BitVec.ofNat 32 n)).toNat % n = 0 := hal
      rw [hz]
      simp

theorem plain_of_canPushAll {n k : Nat} {s : State} (h : canPushAll n (k + 1) s = true) : s.plain = true :=
  State.plain_of_reaches (canPushAll_succ h 0).1

/-- Pushing one by one is storing the items and then moving the stack pointer. -/
theorem pushedAll_setSp (n : Nat) (vs : List Nat) (s : State) (t : Word) :
    State.pushedAll n vs (s.setSp t) =
      (State.storedAll n (pushPlaces s.seg.ss n (s.seg.ss.cutSp t) vs) s).setSp (s.seg.ss.below t n vs.length) := by
  induction vs generalizing s t with
  | nil => 
    rw [List.length_nil, Seg.below, Nat.mul_zero, BitVec.sub_zero]
    exact (setSp_cutSp s t).symm
  | cons v vs ih =>
    have hoff : s.seg.ss.cutSp (s.seg.ss.cutSp t - BitVec.ofNat 32 n) = s.seg.ss.cutSp (t - BitVec.ofNat 32 n) :=
      Seg.cutSp_sub _ _ _
    have hpush : (s.setSp t).pushed n v =
        (s.stored (s.lin .ss (s.seg.ss.cutSp (t - BitVec.ofNat 32 n))) n v).setSp (t - BitVec.ofNat 32 n) := by
      rw [State.pushed, setSp_pushOff, setSp_lin, ← setSp_stored, setSp_setSp]
      exact setSp_cutSp (s.stored _ n v) _
    have hbelow : s.seg.ss.below (t - BitVec.ofNat 32 n) n vs.length = s.seg.ss.below t n (v :: vs).length := by
      rw [Seg.below, Seg.below, BitVec.sub_sub, ← BitVec.ofNat_add, List.length_cons]
      congr 3
      ring
    rw [State.pushedAll, hpush, ih, stored_seg, hbelow, pushPlaces, hoff]
    rfl

theorem drawn_setSp (s : State) (st : List StaleByte) (n : Nat) (x : Word) :
    (s.drawn st n).setSp x = (s.setSp x).drawn st n := by
  have hg : ((s.drawn st n).setSp x).gpr = (s.setSp x).gpr := setSp_gpr_congr (s := s) (t := s.drawn st n) rfl rfl x
  rw [setSp_eq (s.drawn st n), hg, setSp_eq s]
  rfl

/-- The items of a frame are pushed together. -/
theorem nigh_pushAll {s u : State} (h : Nigh s u) {n : Nat} (hn : 0 < n) {v : Nat} {vs : List Nat}
    (hc : canPushAll n (v :: vs).length s = true) :
    Runs (pushAll n (v :: vs)) u fun _ t => Nigh (State.pushedAll n (v :: vs) s) t := by
  have hp := plain_of_canPushAll hc
  have hall : s.seg.ss.allows .ss .write s.prot = true := by
    have h1 := (canPushAll_succ hc 0).1
    simp only [State.canPush, State.reaches, Bool.and_eq_true] at h1
    exact h1.1.1.1.2
  rw [← setSp_sp_self s] at hc
  have hfree := spansFree_of_canPushAll hc
  rw [cutSp_sp] at hfree
  refine nigh_get_bind h fun st c => ?_
  simp only [drawn_seg, drawn_prot, hall, Bool.not_true, Bool.false_eq_true, if_false, drawn_cpl, drawn_sp]
  refine runs_bind (nigh_pushSpans (nigh_drawn s st c) hp hn 0 hfree) fun ps v1 ⟨hps, h1⟩ => ?_
  rw [hps]
  refine runs_bind (nigh_storeItems h1 hp n _) fun _ v2 h2 => ?_
  have hpush := pushedAll_setSp n (v :: vs) s s.sp
  rw [setSp_sp_self, cutSp_sp] at hpush
  rw [hpush]
  have hmod := nigh_modify h2 (f := fun x => x.setSp (s.seg.ss.below x.sp n (v :: vs).length)) fun x st c => by
    dsimp only
    rw [drawn_sp, drawn_setSp]
  rw [storedAll_eq] at hmod ⊢
  exact hmod

end Sys2Proof.Machine

/-! SUPPORT. The delivery of events through the vector table and through a gate at the same level. -/
namespace Sys2Proof.Machine
open Host

theorem pushedAll_eq (n : Nat) (vs : List Nat) (s : State) : State.pushedAll n vs s =
    { s with gpr := (State.pushedAll n vs s).gpr, mem := (State.pushedAll n vs s).mem } := by
  induction vs generalizing s with
  | nil => rfl
  | cons v vs ih =>
    have h := ih (s.pushed n v)
    rw [pushed_eq] at h
    rw [State.pushedAll, pushed_eq]
    exact h

theorem runs_if_neg {α : Type} {c : Prop} [Decidable c] {x y : M α} {u : State} {q : α → State → Prop} (h : ¬c)
    (hy : Runs y u q) : Runs (if c then x else y) u q := by rwa [if_neg h]

theorem runs_if_pos {α : Type} {c : Prop} [Decidable c] {x y : M α} {u : State} {q : α → State → Prop} (h : c)
    (hx : Runs x u q) : Runs (if c then x else y) u q := by rwa [if_pos h]

/-- The state at the entry of a handler: with a frame stored, and with CS, EIP and the flags for it. -/
def State.arrived (s : State) (frame : State) (t : Word) (f : Word) (g : Segs) : State :=
  { s with gpr := frame.gpr, mem := frame.mem, eip := t, eflags := f, seg := g }

/-- What the vector table holds for a vector. -/
def State.realHandler (s : State) (v : Nat) : Nat := s.num (s.sys.idtr.base + BitVec.ofNat 32 (4 * v)).toNat 4

/-- The state at the entry of a handler of real-address mode. -/
def State.arrivedReal (s : State) (v : Nat) : State :=
  s.arrived (State.pushedAll 2 [s.eflags.toNat, s.seg.cs.sel.toNat, s.eip.toNat] s)
    (BitVec.ofNat 32 (s.realHandler v % 0x10000)) (setBit (setBit (setBit s.eflags fIF false) fTF false) fRF false)
    { s.seg with cs := s.seg.cs.real (BitVec.ofNat 16 (s.realHandler v / 0x10000)) }

theorem nigh_deliverReal {s u : State} (h : Nigh s u) {e : Entry} (hv : s.realVectorOk e.vec = true) :
    Runs (deliverReal e) u fun _ t => Nigh (s.arrivedReal e.vec) t := by
  simp only [State.realVectorOk, Bool.and_eq_true, decide_eq_true_eq, plainAt_iff] at hv
  obtain ⟨⟨⟨⟨hlim, hplain⟩, hpush⟩, hroom⟩, htarget⟩ := hv
  refine nigh_get_bind h fun st n => ?_
  rw [drawn_sys, if_neg (by omega)]
  refine runs_bind (nigh_sysRead (nigh_drawn s st n) hplain (by decide)) fun x v ⟨hx, h1⟩ => ?_
  have hroom' : s.seg.ss.inLimit (s.seg.ss.cutSp (s.sp - 6)) 6 = true := hroom
  have hno : ¬ (s.num (s.sys.idtr.base + BitVec.ofNat 32 (4 * e.vec)).toNat 4 % 0x10000 > s.seg.cs.limit.toNat) :=
    not_lt.2 htarget
  subst hx
  simp only [drawn_seg, drawn_sp, drawn_eflags, drawn_eip, hroom', Bool.not_true, Bool.false_eq_true, if_false]
  refine runs_if_neg hno (runs_bind (nigh_pushAll (n := 2) (v := s.eflags.toNat) (vs := [s.seg.cs.sel.toNat, s.eip.toNat]) h1 (by decide)
    hpush) fun _ v2 h2 => ?_)
  rw [pushedAll_eq] at h2
  exact nigh_modify h2 fun _ _ _ => rfl

/-! ### A gate at the same level -/

/-- The frame of a delivery at the same level. -/
def State.sameFrame (s : State) (g : Desc) (image : Word) (code : Option Half) : State :=
  State.pushedAll (bytes (gateWide g)) ([image.toNat, s.seg.cs.sel.toNat, s.eip.toNat] ++ (code.map BitVec.toNat).toList) s

/-- The state at the entry of a handler at the same level of protected mode. -/
def State.arrivedSame (s : State) (g : Desc) (a : Nat) (d : Desc) (image : Word) (code : Option Half) : State :=
  s.arrived ((s.sameFrame g image code).markedAcc (accessedByte a d)) (gateOff g) (entryFlags s.eflags g)
    { s.seg with cs := Seg.code (gateSel g) d s.cpl }

theorem handlerFlags_eq (f : Word) (g : Desc) : handlerFlags f (!bit (descType g) 0) = entryFlags f g := by
  have hclear : f &&& ~~~0x00034100#32 = setBit (setBit (setBit (setBit f 8 false) 14 false) 16 false) 17 false := by
    simp only [setBit, Bool.false_eq_true, if_false, BitVec.and_assoc]
    congr 1
  rw [handlerFlags, hclear, entryFlags]
  cases bit (descType g) 0 <;> rfl

/-- What a gate to the same level asks of the code segment it names. -/
theorem handlerSame_eq_some {s : State} {g : Desc} {a : Nat} {d : Desc} (h : s.handlerSame g = some (a, d)) :
    isNull (gateSel g) = false ∧ s.seg.cs.valid = true ∧ s.descriptor (gateSel g) = some (a, d) ∧ descCode d = true ∧
      (descConforming d = true ∧ descDpl d ≤ s.cpl ∨ descConforming d = false ∧ descDpl d = s.cpl) ∧ descP d = true ∧
      (gateOff g).toNat ≤ (descLimit d).toNat := by
  unfold State.handlerSame at h
  rw [Option.ite_none_left_eq_some, Bool.or_eq_true, not_or, Bool.not_eq_true, Bool.not_eq_true', Bool.not_eq_false] at h
  obtain ⟨⟨hn, hcs⟩, h⟩ := h
  cases hd : s.descriptor (gateSel g) with
  | none => rw [hd] at h; cases h
  | some p =>
    obtain ⟨a', d'⟩ := p
    rw [hd] at h
    dsimp only at h
    rw [Option.ite_none_right_eq_some, Bool.and_eq_true, Bool.and_eq_true, Bool.and_eq_true, decide_eq_true_eq] at h
    obtain ⟨⟨⟨⟨hcode, hpriv⟩, hp⟩, hlim⟩, he⟩ := h
    cases he
    refine ⟨hn, hcs, rfl, hcode, ?_, hp, hlim⟩
    cases hconf : descConforming d with
    | true => exact .inl ⟨rfl, by simpa [hconf] using hpriv⟩
    | false => exact .inr ⟨rfl, by simpa [hconf] using hpriv⟩

theorem nigh_deliverSame {s u : State} (h : Nigh s u) {e : Entry} {g : Desc} {w : Word} {a : Nat} {d : Desc} (hw : w.toNat = a)
    (hr : s.sysReach a 8) (hc : canPushAll (bytes (gateWide g)) (if e.code.isSome then 4 else 3) s = true)
    (hlim : (gateOff g).toNat ≤ (descLimit d).toNat) :
    Runs (deliverSame e (Gate.ofDesc g) w d) u fun _ t => Nigh (s.arrivedSame g a d (e.image s) e.code) t := by
  have hlen : ([(e.image s).toNat, s.seg.cs.sel.toNat, s.eip.toNat] ++ (e.code.map BitVec.toNat).toList).length =
      if e.code.isSome then 4 else 3 := by
    cases e.code <;> rfl
  rw [← hlen] at hc
  refine nigh_get_bind h fun st n => ?_
  have hlim' : ¬ (Gate.ofDesc g).off.toNat > (descLimit d).toNat := not_lt.2 hlim
  have himage : e.image (s.drawn st n) = e.image s := rfl
  have hroom : s.seg.ss.room s.sp (if (Gate.ofDesc g).wide = true then 4 else 2)
      ([(e.image s).toNat, s.seg.cs.sel.toNat, s.eip.toNat] ++ (e.code.map BitVec.toNat).toList).length = true :=
    room_of_canPushAll hc
  simp only [himage, drawn_seg, drawn_eip, drawn_sp, hroom, Bool.not_true, Bool.false_eq_true, if_false, if_neg hlim']
  refine runs_bind (nigh_accessedSpan (nigh_drawn s st n) hw hr) fun ps v1 ⟨hps, h1⟩ => ?_
  refine runs_bind (nigh_pushAll h1 (bytes_pos (gateWide g)) hc) fun _ v2 h2 => ?_
  have hp : (s.sameFrame g (e.image s) e.code).plain = true := (calm_pushedAll _ _ s).plain.trans hr.1
  rw [hps]
  refine runs_bind (nigh_markAccessed h2 hp _) fun _ v3 h3 => ?_
  have hframe : (s.sameFrame g (e.image s) e.code).markedAcc (accessedByte a d) =
      { s with gpr := ((s.sameFrame g (e.image s) e.code).markedAcc (accessedByte a d)).gpr,
               mem := ((s.sameFrame g (e.image s) e.code).markedAcc (accessedByte a d)).mem } := by
    rw [markedAcc_eq, State.sameFrame, pushedAll_eq]
  have h4 : Nigh _ v3 := hframe ▸ h3
  rw [State.arrivedSame, ← handlerFlags_eq]
  exact nigh_modify h4 fun _ _ _ => rfl

theorem ssValid_of_canPushAll {n k : Nat} {s : State} (h : canPushAll n (k + 1) s = true) : s.seg.ss.valid = true := by
  have h1 := (canPushAll_succ h 0).1
  simp only [State.canPush, State.reaches, Seg.allows, Bool.and_eq_true] at h1
  exact h1.1.1.1.2.1

theorem nigh_deliverGate {s u : State} (h : Nigh s u) {e : Entry} {g : Desc} {a : Nat} {d : Desc} (hvm : s.flag fVM = false)
    (hd : s.handlerSame g = some (a, d)) (hc : canPushAll (bytes (gateWide g)) (if e.code.isSome then 4 else 3) s = true) :
    Runs (deliverGate e (Gate.ofDesc g)) u fun _ t => Nigh (s.arrivedSame g a d (e.image s) e.code) t := by
  obtain ⟨hn, hcs, hdesc, hcode, hpriv, hp, hlim⟩ := handlerSame_eq_some hd
  have hss : s.seg.ss.valid = true := by
    cases hcode : e.code.isSome with
    | true => exact ssValid_of_canPushAll (k := 3) (by simpa [hcode] using hc)
    | false => exact ssValid_of_canPushAll (k := 2) (by simpa [hcode] using hc)
  obtain ⟨w, -, -, hr, -⟩ := State.descriptor_eq_some.1 hdesc
  refine nigh_get_bind h fun st n => ?_
  have hnull : isNull (Gate.ofDesc g).sel = false := hn
  simp only [drawn_seg, hcs, hss, Bool.and_self, Bool.not_true, Bool.false_eq_true, if_false, hnull]
  refine runs_bind (nigh_needDesc (nigh_drawn s st n) 13 (show s.descriptor (Gate.ofDesc g).sel = some (a, d) from hdesc))
    fun p v ⟨hw, hd', hv⟩ => ?_
  obtain ⟨w', d'⟩ := p
  obtain rfl : d' = d := hd'
  have hdpl : ¬ descDpl d' > s.cpl := by
    rcases hpriv with ⟨-, hle⟩ | ⟨-, heq⟩
    · exact BitVec.not_lt.2 hle
    · rw [heq]
      exact BitVec.lt_irrefl _
  have hsame : (descConforming d' || decide (descDpl d' = s.cpl)) = true := by
    rcases hpriv with ⟨hconf, -⟩ | ⟨-, heq⟩
    · rw [hconf, Bool.true_or]
    · rw [decide_eq_true heq, Bool.or_true]
  simp only [drawn_cpl, drawn_flag, hcode, hp, hvm, Bool.not_true, Bool.false_eq_true, if_false, if_neg hdpl]
  exact runs_if_pos hsame (nigh_deliverSame hv hw hr hc hlim)

/-- What an event asks of the gate it goes through. -/
theorem gateOk_eq_some {s : State} {v : Nat} {soft : Bool} {g : Desc} (h : s.gateOk v soft = some g) :
    8 * v + 7 ≤ s.sys.idtr.limit.toNat ∧ s.sysReach (s.sys.idtr.base + BitVec.ofNat 32 (8 * v)).toNat 8 ∧
      g = BitVec.ofNat 64 (s.num (s.sys.idtr.base + BitVec.ofNat 32 (8 * v)).toNat 8) ∧ descS g = false ∧
      ((descType g).toNat = 6 ∨ (descType g).toNat = 7 ∨ (descType g).toNat = 14 ∨ (descType g).toNat = 15) ∧ descP g = true ∧
      (soft = true → s.cpl ≤ descDpl g) := by
  unfold State.gateOk at h
  rw [Option.ite_none_right_eq_some] at h
  obtain ⟨h, he⟩ := h
  obtain rfl := Option.some.inj he
  simp only [Bool.and_eq_true, Bool.or_eq_true, Bool.not_eq_true', decide_eq_true_eq, plainAt_iff] at h
  obtain ⟨⟨⟨⟨⟨hlim, hr⟩, hs⟩, hty⟩, hp⟩, hsoft⟩ := h
  refine ⟨hlim, hr, rfl, hs, by tauto, hp, fun h => ?_⟩
  rcases hsoft with hsoft | hsoft
  · rw [h] at hsoft
    cases hsoft
  · exact hsoft

/-- The gate of an event leads to its handler. -/
theorem runs_deliverProt {s u : State} (h : Nigh s u) {e : Entry} {g : Desc} (hg : s.gateOk e.vec (decide (e.src = .soft)) = some g)
    {q : Unit → State → Prop} (hq : ∀ v, Nigh s v → Runs (deliverGate e (Gate.ofDesc g)) v q) :
    Runs (deliverProt e) u q := by
  obtain ⟨hlim, hr, hgv, hs, hty, hp, hsoft⟩ := gateOk_eq_some hg
  refine nigh_get_bind h fun st n => ?_
  refine runs_if_neg (by rw [drawn_sys]; omega) (runs_bind (nigh_readDesc (nigh_drawn s st n) hr) fun x v ⟨hx, hv⟩ => ?_)
  obtain rfl : x = g := hx.trans hgv.symm
  have hkind : (descS x || !((descType x).toNat = 5 || (descType x).toNat = 6 || (descType x).toNat = 7 ||
      (descType x).toNat = 14 || (descType x).toNat = 15)) = false := by
    rcases hty with hty | hty | hty | hty <;> rw [hs, hty] <;> rfl
  have htask : ¬ (descType x).toNat = 5 := by omega
  simp only [drawn_cpl, hkind, hp, Bool.not_true, Bool.false_eq_true, if_false, if_neg htask]
  refine runs_if_neg (fun hno => ?_) (hq v hv)
  rw [Bool.and_eq_true, decide_eq_true_eq] at hno
  exact BitVec.not_lt.2 (hsoft (decide_eq_true hno.1)) (of_decide_eq_true hno.2)

/-! ### A delivery and what follows it -/

/-- The state when a delivery is done. -/
def State.settled (s : State) (marks : List NoRestart) (nmi stepping : Bool) : State :=
  { s with noReturn := marks, dbg := { s.dbg with pendS := s.dbg.pendS || stepping },
           lat := { s.lat with inhibit := false, stiShadow := false, midRep := false, nmiBlocked := s.lat.nmiBlocked || nmi } }

theorem nigh_afterDelivery {s u : State} (h : Nigh s u) {e : Entry} (hsrc : e.src ≠ .abort) (hdbg : e.isDebug = false)
    (hlbr : s.noLbr = true) (stepping : Bool) (cs : Half) (eip cr3 : Word) :
    Runs (afterDelivery e stepping cs eip cr3) u fun _ t =>
      Nigh (s.settled (s.marksAfter cs eip cr3) (decide (e.src = .nmi)) stepping) t := by
  simp only [State.noLbr, Bool.and_eq_true, Bool.not_eq_true'] at hlbr
  obtain ⟨h0, h6⟩ := hlbr
  have hno : ¬ (e.vec = 18 ∧ e.src = .abort ∧ (!bit s.msr.mcgStatus 0) = true) := fun hx => hsrc hx.2.1
  let x : State := { s with
    noReturn := s.marksAfter cs eip cr3,
    lat := { s.lat with inhibit := false, stiShadow := false, midRep := false,
                        nmiBlocked := s.lat.nmiBlocked || e.src = .nmi } }
  have hx : Runs (modify fun s : State => { s with
      noReturn := if e.vec = 18 ∧ e.src = .abort ∧ !bit s.msr.mcgStatus 0 then
          { esp := s.gpr.esp, cs := cs, eip := eip, cr3 := cr3 } :: s.noReturn
        else s.marksAfter cs eip cr3,
      lat := { s.lat with inhibit := false, stiShadow := false, midRep := false,
                          nmiBlocked := s.lat.nmiBlocked || e.src = .nmi } } : M Unit) u fun _ t => Nigh x t := by
    obtain ⟨st, n, rfl⟩ := h
    refine runs_modify ⟨st, n, ?_⟩
    rw [drawn_msr, if_neg hno]
    rfl
  refine runs_bind hx fun _ v hv => ?_
  rw [hdbg, if_neg Bool.false_ne_true]
  refine nigh_get_bind hv fun st n => ?_
  have hrec : recordBranch true e.from_ (x.drawn st n).eip (x.drawn st n) = .ok () (x.drawn st n) := by
    have h0' : bit (x.drawn st n).msr.debugCtl 0 = false := h0
    have h6' : bit (x.drawn st n).msr.debugCtl 6 = false := h6
    simp only [recordBranch, run_bind, run_get, h0', h6', Bool.false_eq_true, if_false, whenM, run_pure]
  refine runs_bind (q := fun _ t => Nigh x t) ⟨_, _, hrec, nigh_drawn x st n⟩ fun _ v hv => ?_
  cases stepping with
  | true =>
    refine runs_mono (nigh_modify hv (f := fun s => { s with dbg := { s.dbg with pendS := true } }) fun _ _ _ => rfl) ?_
    intro _ t ht
    rw [State.settled, Bool.or_true]
    exact ht
  | false =>
    refine runs_pure ?_
    rw [State.settled, Bool.or_false]
    exact hv

/-- An event is delivered: its handler is entered, then the latches are as after a delivery. -/
theorem nigh_deliver {s s' u : State} (h : Nigh s u) {e : Entry} (hsrc : e.src ≠ .abort) (hdbg : e.isDebug = false)
    (hlbr : s'.noLbr = true) (hmarks : s'.noReturn = s.noReturn)
    (hd : ∀ v, Nigh s v → Runs (if s.prot then deliverProt e else deliverReal e) v fun _ t => Nigh s' t) :
    Runs (deliver e) u fun _ t =>
      ∃ stepping, Nigh (s'.settled s.marksElsewhere (decide (e.src = .nmi)) stepping) t := by
  refine nigh_get_bind h fun st n => ?_
  have hm : s'.marksAfter s.seg.cs.sel s.eip s.sys.cr3 = s.marksElsewhere := by
    unfold State.marksAfter State.marksElsewhere
    rw [hmarks]
  have hafter (stepping : Bool) (v : State) (hv : Nigh s' v) :
      Runs (afterDelivery e stepping s.seg.cs.sel s.eip s.sys.cr3) v fun _ t =>
        ∃ stepping, Nigh (s'.settled s.marksElsewhere (decide (e.src = .nmi)) stepping) t :=
    runs_mono (nigh_afterDelivery hv hsrc hdbg hlbr _ _ _ _) fun _ t ht => ⟨stepping, hm ▸ ht⟩
  have hrun := hd _ (nigh_drawn s st n)
  by_cases hp : s.prot = true
  · rw [if_pos hp] at hrun
    exact runs_if_pos hp (runs_bind hrun fun _ v hv => hafter _ v hv)
  · rw [if_neg hp] at hrun
    exact runs_if_neg hp (runs_bind hrun fun _ v hv => hafter _ v hv)

end Sys2Proof.Machine

/-! SUPPORT. Exceptions and interrupts that enter their handler at once. -/
namespace Sys2Proof.Machine
open Host

/-- The state with what an entry does not look at taken from another: latches, prefixes, the local APIC and the record of the
last I/O instruction. -/
def State.around (s x : State) : State :=
  { s with lat := x.lat, ins := x.ins, apic := x.apic, smm := { s.smm with ioRec := x.smm.ioRec } }

theorem lat_of_settled {s u : State} {m : List NoRestart} {nmi stepping : Bool} (hu : Nigh (s.settled m nmi stepping) u) :
    u.lat = { s.lat with inhibit := false, stiShadow := false, midRep := false, nmiBlocked := s.lat.nmiBlocked || nmi } := by
  obtain ⟨st, n, rfl⟩ := hu
  rfl

/-- What is left alone by a delivery. -/
theorem quiet_settled {s x frame u : State} {t f : Word} {g : Segs} {m : List NoRestart} {nmi stepping : Bool} {l : Latches}
    (hins : s.ins = Ins.clear) (hu : Nigh ((s.arrived frame t f g).settled m nmi stepping) u) (hl : Latches.same x.lat l)
    {a' : Apic} (ha : a' = x.apic) :
    Quiet { s.around x with seg := g, noReturn := m } { u with tr := Trans.clear, lat := l, apic := a' } := by
  obtain ⟨st, n, rfl⟩ := hu
  exact ⟨⟨⟨rfl, rfl, ha, rfl, rfl, rfl, rfl, rfl, rfl, hins, rfl, rfl, rfl, hl⟩, rfl, rfl, rfl, rfl, rfl, rfl, rfl, rfl, rfl⟩, rfl⟩

theorem setSp_around (s x : State) (y : Word) : (s.around x).setSp y = (s.setSp y).around x := by
  rw [setSp_eq (s.around x), setSp_gpr_congr (s := s) (t := s.around x) rfl rfl, setSp_eq s]
  rfl

theorem pushed_around (s x : State) (n v : Nat) : (s.around x).pushed n v = (s.pushed n v).around x :=
  setSp_around (s.stored (s.lin .ss (s.pushOff n)) n v) x (s.pushOff n)

theorem pushedAll_around (n : Nat) (vs : List Nat) (s x : State) :
    State.pushedAll n vs (s.around x) = (State.pushedAll n vs s).around x := by
  induction vs generalizing s with
  | nil => rfl
  | cons v vs ih => rw [State.pushedAll, pushed_around, ih, State.pushedAll]

theorem pushedAll_seg (n : Nat) (vs : List Nat) (s : State) : (State.pushedAll n vs s).seg = s.seg := by rw [pushedAll_eq]

theorem pushedAll_wf (n : Nat) (vs : List Nat) {s : State} (h : Memory.wf s.mem = true) :
    Memory.wf (State.pushedAll n vs s).mem = true := by
  induction vs generalizing s with
  | nil => exact h
  | cons v vs ih => exact ih (pushed_wf h n v)

/-- The entry of a handler of real-address mode. -/
theorem realEntry_of_nigh {s u : State} (x : State) {v : Nat} {nmi stepping : Bool} {l : Latches} (hwf : Memory.wf s.mem = true)
    (hins : s.ins = Ins.clear) (hu : Nigh ((s.arrivedReal v).settled s.marksElsewhere nmi stepping) u)
    (hl : Latches.same x.lat l) {a' : Apic} (ha : a' = x.apic) :
    RealEntry (s.around x) { u with tr := Trans.clear, lat := l, apic := a' } v := by
  have hq := quiet_settled hins hu hl ha
  obtain ⟨st, n, rfl⟩ := hu
  have hframe := pushedAll_around 2 [s.eflags.toNat, s.seg.cs.sel.toNat, s.eip.toNat] s x
  exact ⟨⟨(State.pushedAll 2 [s.eflags.toNat, s.seg.cs.sel.toNat, s.eip.toNat] s).around x,
    hframe ▸ pushedAll_of (s := s.around x) hwf (pushedAll_seg _ _ _) rfl rfl, rfl, fun _ => rfl⟩, rfl, rfl, hq⟩

/-- The entry of a handler at the same level. -/
theorem sameEntry_of_nigh {s u : State} (x : State) {g : Desc} {a : Nat} {d : Desc} {image : Word} {code : Option Half}
    {nmi stepping : Bool} {l : Latches} (hwf : Memory.wf s.mem = true) (hins : s.ins = Ins.clear)
    (hu : Nigh ((s.arrivedSame g a d image code).settled s.marksElsewhere nmi stepping) u) (hl : Latches.same x.lat l)
    {a' : Apic} (ha : a' = x.apic) :
    SameEntry (s.around x) { u with tr := Trans.clear, lat := l, apic := a' } g a d image code := by
  have hq := quiet_settled hins hu hl ha
  obtain ⟨st, n, rfl⟩ := hu
  have hframe := pushedAll_around (bytes (gateWide g))
    ([image.toNat, s.seg.cs.sel.toNat, s.eip.toNat] ++ (code.map BitVec.toNat).toList) s x
  have hwf' : Memory.wf (s.sameFrame g image code).mem = true := pushedAll_wf _ _ hwf
  exact ⟨⟨(s.sameFrame g image code).around x, hframe ▸ pushedAll_of (s := s.around x) hwf (pushedAll_seg _ _ _) rfl rfl,
    (markedAcc_frame _ _).1, accessed_of (s := s.sameFrame g image code) hwf' rfl⟩, rfl, rfl, hq⟩

/-- An exception whose delivery runs is taken. -/
theorem takeException_of_deliver {s u b : State} {x : Exc} {q : State → Prop} (hb : rollback s u x = b)
    (h : Runs (deliver (x.entry b)) b fun _ v => q { v with tr := Trans.clear }) :
    ∃ t, takeException s u x = .next t ∧ q t := by
  obtain ⟨_, v, hv, hq⟩ := h
  refine ⟨_, ?_, hq⟩
  simp only [takeException, hb, eventFuel, takeEvent, hv]

/-! ### Exceptions -/

theorem rollback_ins (s u : State) (x : Exc) : (rollback s u x).ins = Ins.clear := rfl

theorem rollback_frame {s u : State} {x : Exc} (hk : x.keep = false) :
    (rollback s u x).gpr = s.gpr ∧ (rollback s u x).eip = s.eip ∧ (rollback s u x).eflags = s.eflags ∧
      (rollback s u x).seg = s.seg ∧ (rollback s u x).cpl = s.cpl ∧ (rollback s u x).fpu = s.fpu ∧
      (rollback s u x).mem = u.mem := by
  unfold rollback
  rw [hk]
  exact ⟨rfl, rfl, rfl, rfl, rfl, rfl, rfl⟩

theorem entry_notDebug {x : Exc} (hv : x.vec ≠ 1) (b : State) : (x.entry b).isDebug = false := by
  rw [Entry.isDebug, decide_eq_false (show ¬ (x.entry b).vec = 1 from hv), Bool.false_and]

theorem entry_image {x : Exc} (hv : x.vec ≠ 1) (b : State) : (x.entry b).image b = setBit b.eflags 16 true := by
  have hrf : (x.entry b).rf = some true := by
    rw [Exc.entry, decide_eq_true hv]
    rfl
  rw [Entry.image, hrf]
  rfl

theorem entry_notAbort (x : Exc) (b : State) : (x.entry b).src ≠ .abort := Source.noConfusion

theorem latches_of_settled {s u : State} {m : List NoRestart} {stepping : Bool} (hu : Nigh (s.settled m false stepping) u) :
    Latches.same s.lat u.lat := by
  rw [lat_of_settled hu, Bool.or_false]
  exact Eq.refl { s.lat with inhibit := false, stiShadow := false, midRep := false }

theorem apic_of_arrived {s frame u : State} {t f : Word} {g : Segs} {m : List NoRestart} {nmi stepping : Bool}
    (hu : Nigh ((s.arrived frame t f g).settled m nmi stepping) u) : u.apic = s.apic := by
  obtain ⟨st, n, rfl⟩ := hu
  rfl

/-- An exception in real-address mode enters its handler. -/
theorem enters_real {s u b : State} {x : Exc} (hb : rollback s u x = b) (hv : x.vec ≠ 1) (hwf : Memory.wf b.mem = true)
    (hp : b.prot = false) (hlbr : b.noLbr = true) (hok : b.realVectorOk x.vec = true) :
    ∃ t, takeException s u x = .next t ∧ ∀ i, RealEntry (b.around { b with ins := i }) t x.vec := by
  have hins : b.ins = Ins.clear := by rw [← hb, rollback_ins]
  refine takeException_of_deliver hb (runs_mono (nigh_deliver (s' := b.arrivedReal x.vec) (Nigh.refl b) (entry_notAbort x b)
    (entry_notDebug hv b) hlbr rfl fun v hv => runs_if_neg (by rw [hp]; decide) (nigh_deliverReal hv hok))
    fun _ t ⟨stepping, ht⟩ => ?_)
  intro i
  have hapic : t.apic = b.apic := apic_of_arrived ht
  exact realEntry_of_nigh { b with ins := i } hwf hins ht (latches_of_settled (s := b.arrivedReal x.vec) ht) hapic

/-- An exception in protected mode enters its handler at the same level. -/
theorem enters_same {s u b : State} {x : Exc} {g : Desc} {a : Nat} {d : Desc} (hb : rollback s u x = b) (hv : x.vec ≠ 1)
    (hwf : Memory.wf b.mem = true) (hp : b.prot = true) (hvm : b.flag fVM = false) (hlbr : b.noLbr = true)
    (hg : b.gateOk x.vec false = some g) (hd : b.handlerSame g = some (a, d))
    (hc : canPushAll (bytes (gateWide g)) (if x.code.isSome then 4 else 3) b = true) :
    ∃ t, takeException s u x = .next t ∧ ∀ i, SameEntry (b.around { b with ins := i }) t g a d (setBit b.eflags 16 true) x.code := by
  have hins : b.ins = Ins.clear := by rw [← hb, rollback_ins]
  refine takeException_of_deliver hb (runs_mono (nigh_deliver (s' := b.arrivedSame g a d (setBit b.eflags 16 true) x.code)
    (Nigh.refl b) (entry_notAbort x b) (entry_notDebug hv b) hlbr rfl fun v hv' =>
    runs_if_pos hp (runs_deliverProt hv' hg fun w hw => ?_)) fun _ t ⟨stepping, ht⟩ => ?_)
  · have hgate := nigh_deliverGate (e := x.entry b) hw hvm hd hc
    rw [entry_image hv] at hgate
    exact hgate
  · intro i
    have hapic : t.apic = b.apic := apic_of_arrived ht
    exact sameEntry_of_nigh { b with ins := i } hwf hins ht (latches_of_settled (s := b.arrivedSame g a d (setBit b.eflags 16 true) x.code) ht) hapic

/-- Settles O24. -/
theorem realExceptions : Obligations.RealExceptions := by
  intro s u x hk hv hwf
  obtain ⟨hg, heip, hf, hseg, hcpl, hfpu, hm⟩ := rollback_frame (s := s) (u := u) hk
  refine ⟨hg, heip, hf, hseg, hcpl, hfpu, hm, fun hp hlbr hok => ?_⟩
  obtain ⟨t, ht, hentry⟩ := enters_real rfl hv (hm ▸ hwf) hp hlbr hok
  exact ⟨t, ht, hentry _⟩

/-- Settles O25. -/
theorem protectedExceptions : Obligations.ProtectedExceptions := by
  intro s u x g a d hk hv hwf
  dsimp only
  intro hp hvm hlbr hg hd hc
  obtain ⟨-, -, hf, -, -, -, hm⟩ := rollback_frame (s := s) (u := u) hk
  obtain ⟨t, ht, hentry⟩ := enters_same rfl hv (hm ▸ hwf) hp hvm hlbr hg hd hc
  rw [hf] at hentry
  exact ⟨t, ht, hentry _⟩

end Sys2Proof.Machine

/-! SUPPORT. Undefined opcodes. -/
namespace Sys2Proof.Machine
open Host

theorem canPush_around (s : State) {x : State} (hx : x.lat.a20m = s.lat.a20m) (n : Nat) :
    (s.around x).canPush n = s.canPush n := by
  have hp : (s.around x).plain = s.plain := by
    rw [State.plain, State.plain, State.around, hx]
    rfl
  rw [State.canPush, State.reaches, hp]
  rfl

theorem canPushAll_around (n k : Nat) (s : State) {x : State} (hx : x.lat.a20m = s.lat.a20m) :
    canPushAll n k (s.around x) = canPushAll n k s := by
  induction k generalizing s with
  | zero => rfl
  | succ k ih =>
    have hlat : x.lat.a20m = (s.setSp (s.pushOff n)).lat.a20m := by rw [setSp_eq]; exact hx
    rw [canPushAll, canPushAll, canPush_around s hx, show (s.around x).pushOff n = s.pushOff n from rfl, setSp_around,
      ih _ hlat]

/-- The state in which the handler of an exception without effects is entered. -/
theorem rollback_idle {s u : State} {v : Nat} {c : Option Half} (hs : s.ready) (hu : u = s ∨ u = s.start) :
    rollback s u { vec := v, code := c, cr2 := none, dr6 := 0, keep := false } = s.around { s with ins := Ins.clear } := by
  have hdr6 : s.dbg.dr6 ||| 0#32 ||| 0#32 = s.dbg.dr6 := by simp
  have htr : Trans.clear = s.tr := hs.2.symm
  have hb : rollback s u { vec := v, code := c, cr2 := none, dr6 := 0, keep := false } =
      { s.around { s with ins := Ins.clear } with tr := Trans.clear, dbg := { s.dbg with dr6 := s.dbg.dr6 ||| 0#32 ||| 0#32 } } := by
    rcases hu with rfl | rfl <;> rfl
  rw [hb, hdr6, htr]
  rfl

/-- An opcode that is undefined raises #UD, with or without LOCK. -/
theorem exec_undefined {i : Instr} (h : IsUndefined i) (s : State) : exec i s = instr false raiseUD s := by
  cases h <;> rfl

theorem undefined_takes {i : Instr} (h : IsUndefined i) (s : State) :
    ∃ u, (u = s ∨ u = s.start) ∧
      exec i s = takeException s u { vec := 6, code := none, cr2 := none, dr6 := 0, keep := false } := by
  cases hl : s.lockOk false with
  | true => exact ⟨s.start, .inr rfl, exec_of_error (exec_undefined h s) hl rfl⟩
  | false =>
    refine ⟨s, .inl rfl, ?_⟩
    have hlock : (s.ins.lock && !false) = true := by simpa [State.lockOk] using hl
    rw [exec_undefined h, instr, hlock, if_pos rfl]

/-- What is asked of the delivery of an exception without effects is asked in the state of the instruction. -/
theorem realVectorOk_around (s : State) {x : State} (hx : x.lat.a20m = s.lat.a20m) (v : Nat) :
    (s.around x).realVectorOk v = s.realVectorOk v := by
  have hp : (s.around x).plain = s.plain := by
    rw [State.plain, State.plain, State.around, hx]
    rfl
  rw [State.realVectorOk, canPushAll_around 2 3 s hx, State.plainAt, hp]
  rfl

theorem opcodesUndefined : OpcodesUndefined := by
  refine ⟨fun i s hi hs hp hlbr hok => ?real, fun i g a d s hi hs hp hvm hlbr hg hd hc => ?gate,
    fun i s hi => ?raises⟩
  case real =>
    obtain ⟨u, hu, hexec⟩ := undefined_takes hi s
    have hb := rollback_idle (v := 6) (c := none) hs hu
    obtain ⟨t, ht, hentry⟩ := enters_real hb (by decide) hs.1 hp hlbr ((realVectorOk_around s (x := { s with ins := Ins.clear }) rfl 6).trans hok)
    exact ⟨t, hexec.trans ht, hentry s.ins⟩
  case gate =>
    obtain ⟨u, hu, hexec⟩ := undefined_takes hi s
    have hb := rollback_idle (v := 6) (c := none) hs hu
    obtain ⟨t, ht, hentry⟩ := enters_same hb (by decide) hs.1 hp hvm hlbr hg hd
      ((canPushAll_around _ _ s (x := { s with ins := Ins.clear }) rfl).trans hc)
    exact ⟨t, hexec.trans ht, hentry s.ins⟩
  case raises =>
    cases hl : s.lockOk false with
    | true => exact raises_of_body (exec_undefined hi s) hl rfl
    | false => exact raises_of_lock (exec_undefined hi s) hl

/-- The opcodes D6 and F1 write general registers and status flags at most. -/
theorem like_unspecified {s u : State} (h : Like s u) :
    Runs unspecified u fun _ v => ∃ g f, Like (({ s with gpr := g } : State).flagged arithMask f) v :=
  runs_bind (like_draw h 32) fun a _ h1 => runs_bind (like_draw h1 32) fun c _ h2 => runs_bind (like_draw h2 32) fun d _ h3 =>
    runs_bind (like_draw h3 32) fun b _ h4 => runs_bind (like_draw h4 32) fun sp _ h5 =>
    runs_bind (like_draw h5 32) fun bp _ h6 => runs_bind (like_draw h6 32) fun si _ h7 =>
    runs_bind (like_draw h7 32) fun di _ h8 =>
    runs_bind (like_modify (f := fun s => { s with gpr := ⟨a, c, d, b, sp, bp, si, di⟩ }) h8 fun _ _ _ _ _ => rfl)
      fun _ _ h9 => runs_mono (like_freeArith h9) fun _ _ ⟨f, hf⟩ => ⟨_, f, hf⟩

theorem opcodesUnspecified : OpcodesUnspecified := by
  intro i s hi hs hl
  have hexec : exec i s = instr false unspecified s := by rcases hi with rfl | rfl <;> rfl
  refine completes_of_some_like hexec hs hl (runs_mono (like_unspecified (Like.refl s.start)) ?_)
  rintro _ u ⟨g, f, hu⟩
  exact ⟨_, hu, ((calm_start s).trans (calm_gpr _ g)).trans (calm_flagged _ _ _), rfl, fun t _ hm hf ht =>
    ⟨f, memSame_of hm, hf, ht⟩⟩

/-- Settles O51. -/
theorem undefinedOpcodes : Obligations.UndefinedOpcodes := ⟨opcodesUndefined, opcodesUnspecified⟩

end Sys2Proof.Machine

/-! SUPPORT. Interrupts at the boundary. -/
namespace Sys2Proof.Machine
open Host

/-- An interrupt whose delivery runs is taken and acknowledged. -/
theorem takeAt_of_deliver {s u : State} {e : Entry} {ack : Ack} (h : deliver e s = .ok () u) :
    takeAt e ack s = .next ({ u with tr := Trans.clear }.acknowledge ack) := by
  rw [takeAt, h]

/-- A step at whose boundary an interrupt is taken. -/
theorem step_takes {s p u : State} {e : Entry} {ack : Ack} (hp : s.prelude = p) (hlen : p.ins.len = 0)
    (hb : boundary p = .ok (.take e ack) u) : step s = takeAt e ack u := by
  subst hp
  simp only [step, hlen, hb, ne_eq, not_true_eq_false, if_false]

/-- The entry of an interrupt that is taken at a boundary. -/
def State.interruptAt (s : State) (v : Nat) (src : Source) : Entry :=
  { vec := v, src := src, code := none, from_ := s.eip, rf := if s.lat.midRep then some true else none }

/-- The state in which an interrupt is taken. -/
def State.woken (s : State) : State :=
  { s with smm := { s.smm with ioRec := none }, lat := { s.lat with activity := .running } }

theorem attendInterrupt_nmi {s : State} (h : s.takesNmi = true) :
    attendInterrupt { s with smm := { s.smm with ioRec := none } } = .ok (.take (s.interruptAt 2 .nmi) .nmi) s.woken := by
  have h' : ({ s with smm := { s.smm with ioRec := none } } : State).takesNmi = true := h
  simp only [attendInterrupt, run_bind, run_get, run_ite, h', if_true, wake, run_modify, run_pure]
  rfl

theorem attendInterrupt_intr {s : State} {v : Byte} (hn : s.takesNmi = false) (ht : s.takesIntr = true)
    (hv : s.lat.intr = some v) :
    attendInterrupt { s with smm := { s.smm with ioRec := none } } =
      .ok (.take (s.interruptAt v.toNat .external) .intr) s.woken := by
  have hn' : ({ s with smm := { s.smm with ioRec := none } } : State).takesNmi = false := hn
  have ht' : ({ s with smm := { s.smm with ioRec := none } } : State).takesIntr = true := ht
  have hsome : s.lat.intr.isSome = true := by rw [hv]; rfl
  have hget : v.toNat = (s.lat.intr.getD 0).toNat := by rw [hv]; rfl
  simp only [attendInterrupt, run_bind, run_get, run_ite, hn', ht', hsome, Bool.false_eq_true, if_false,
    Bool.and_self, if_true, wake, run_modify, run_pure]
  rw [hget]
  rfl

/-- An interrupt that is taken in real-address mode. -/
theorem takes_real {s p : State} {v : Nat} {src : Source} {ack : Ack} (hpre : s.prelude = p) (hlen : p.ins.len = 0)
    (hb : boundary p = .ok (.take (p.interruptAt v src) ack) p.woken) (hprot : p.prot = false) (hlbr : p.noLbr = true) (hok : p.realVectorOk v = true)
    (hsrc : src = .nmi ∨ src = .external) :
    ∃ u stepping, step s = .next ({ u with tr := Trans.clear }.acknowledge ack) ∧
      Nigh ((p.woken.arrivedReal v).settled p.marksElsewhere (decide (src = .nmi)) stepping) u := by
  have habort : (p.interruptAt v src).src ≠ .abort := by
    rcases hsrc with rfl | rfl <;> exact Source.noConfusion
  have hdebug : (p.interruptAt v src).isDebug = false := by
    rcases hsrc with rfl | rfl <;> exact Bool.and_false _
  have hvec : p.woken.realVectorOk v = true := (realVectorOk_around p (x := p.woken) rfl v).trans hok
  obtain ⟨_, u, hu, stepping, hnigh⟩ := nigh_deliver (s' := p.woken.arrivedReal v) (Nigh.refl p.woken) habort hdebug hlbr rfl
    fun w hw => runs_if_neg (show ¬ p.prot = true by rw [hprot]; decide) (nigh_deliverReal hw hvec)
  exact ⟨u, stepping, (step_takes hpre hlen hb).trans (takeAt_of_deliver hu), hnigh⟩

theorem settleByte_wf {s : State} (h : Memory.wf s.mem = true) (c : StaleByte) : Memory.wf (s.settleByte c).mem = true := by
  unfold State.settleByte
  split
  · exact wf_memWrite h
  · exact h

theorem settleBytes_wf (cs : List StaleByte) {s : State} (h : Memory.wf s.mem = true) :
    Memory.wf (cs.foldl State.settleByte s).mem = true := by
  induction cs generalizing s with
  | nil => exact h
  | cons c cs ih => exact ih (settleByte_wf h c)

theorem settleLines_wf {s : State} (h : Memory.wf s.mem = true) : Memory.wf s.settleLines.mem = true := by
  unfold State.settleLines
  split
  · exact h
  · exact settleBytes_wf _ h

/-- What goes on before a step keeps memory in canonical form where paging is off. -/
theorem prelude_wf {s : State} (h : Memory.wf s.mem = true) (hp : s.paging = false) : Memory.wf s.prelude.mem = true := by
  unfold State.prelude
  split
  · exact h
  · have hoff : s.tick.settleLines.paging = false := by
      obtain ⟨m, st, c, n, tl, t, he⟩ := idles_settleLines s.tick
      rw [he]
      exact hp
    rw [State.background, State.speculate, hoff, if_neg Bool.false_ne_true]
    exact settleLines_wf h

theorem plain_of_realVectorOk {s : State} {v : Nat} (h : s.realVectorOk v = true) : s.plain = true := by
  simp only [State.realVectorOk, Bool.and_eq_true, State.plainAt] at h
  exact h.1.1.1.2.1

theorem paging_of_plain {s : State} (h : s.plain = true) : s.paging = false := by
  simp only [State.plain, Bool.and_eq_true, Bool.not_eq_true'] at h
  exact h.1.1.1.1

/-- What is asked of a state before a step for an interrupt that may be taken in real-address mode. -/
structure Awaits (s p : State) (v : Nat) : Prop where
  prelude : s.prelude = p
  ins : p.ins = Ins.clear
  wf : Memory.wf p.mem = true
  lbr : p.noLbr = true
  prot : p.prot = false
  only : p.onlyInterrupts = true
  inhibit : p.lat.inhibit = false
  vector : p.realVectorOk v = true

theorem intr_taken {s p : State} {v : Byte} (h : Awaits s p v.toNat)
    (hnmi : p.lat.nmiPending = false ∨ p.lat.nmiBlocked = true ∨ p.smm.inSmm = true) (hv : p.lat.intr = some v)
    (hif : p.flag fIF = true) (hsti : p.lat.stiShadow = false) (hact : p.lat.activity = .running ∨ p.lat.activity = .halted) :
    ∃ t, step s = .next t ∧ RealEntry { p with lat := { p.lat with intr := none, activity := .running } } t v.toNat := by
  obtain ⟨hpre, hins, hwf, hlbr, hprot, honly, hinh, hok⟩ := h
  have hboot : p.booting = false := by
    rcases hact with h | h <;> rw [State.booting, h] <;> rfl
  have hno : p.takesNmi = false := by
    rcases hnmi with h | h | h <;> simp [State.takesNmi, h]
  have hyes : p.takesIntr = true := by
    rcases hact with h | h <;> rw [State.takesIntr, hif, hinh, hsti, h] <;> rfl
  have hb := (boundary_idle honly hboot).trans (attendInterrupt_intr hno hyes hv)
  obtain ⟨u, stepping, hstep, hu⟩ := takes_real hpre (congrArg Ins.len hins) hb hprot hlbr hok (.inr rfl)
  have hapic : u.apic = p.apic := apic_of_arrived (s := p.woken) hu
  refine ⟨_, hstep, realEntry_of_nigh (s := p.woken) { p with lat := { p.lat with intr := none, activity := .running } } hwf hins hu
    (l := { u.lat with intr := none }) ?_ hapic⟩
  rw [lat_of_settled hu, decide_eq_false Source.noConfusion, Bool.or_false]
  exact Eq.refl { p.lat with
    intr := none, activity := .running, inhibit := false, stiShadow := false, midRep := false }

theorem nmi_taken {s p : State} (h : Awaits s p 2) (hpend : p.lat.nmiPending = true) (hblk : p.lat.nmiBlocked = false)
    (hsmm : p.smm.inSmm = false)
    (hact : p.lat.activity = .running ∨ p.lat.activity = .halted ∨ p.lat.activity = .shutdown) :
    ∃ t, step s = .next t ∧
      RealEntry { p with lat := { p.lat with nmiPending := false, nmiBlocked := true, activity := .running } } t 2 := by
  obtain ⟨hpre, hins, hwf, hlbr, hprot, honly, hinh, hok⟩ := h
  have hboot : p.booting = false := by
    rcases hact with h | h | h <;> rw [State.booting, h] <;> rfl
  have hyes : p.takesNmi = true := by
    rcases hact with h | h | h <;> rw [State.takesNmi, hpend, hblk, hsmm, hinh, h] <;> rfl
  have hb := (boundary_idle honly hboot).trans (attendInterrupt_nmi hyes)
  obtain ⟨u, stepping, hstep, hu⟩ := takes_real hpre (congrArg Ins.len hins) hb hprot hlbr hok (.inl rfl)
  have hapic : u.apic = p.apic := apic_of_arrived (s := p.woken) hu
  refine ⟨_, hstep, realEntry_of_nigh (s := p.woken)
    { p with lat := { p.lat with nmiPending := false, nmiBlocked := true, activity := .running } } hwf hins hu
    (l := { u.lat with nmiPending := false }) ?_ hapic⟩
  rw [lat_of_settled hu, decide_eq_true rfl, Bool.or_true]
  exact Eq.refl { p.lat with
    nmiPending := false, nmiBlocked := true, activity := .running, inhibit := false, stiShadow := false, midRep := false }

/-- Settles O44. -/
theorem interrupts : Obligations.Interrupts := by
  intro s hs hins hlbr hprot honly hinh
  dsimp only
  have hidle := idles_prelude s
  have hawaits (v : Nat) (hok : s.prelude.realVectorOk v = true) : Awaits s s.prelude v := by
    have hwf : Memory.wf s.prelude.mem = true := by
      refine prelude_wf hs.1 ?_
      have hp := paging_of_plain (plain_of_realVectorOk hok)
      obtain ⟨m, st, c, n, tl, x, hpre⟩ := hidle
      rw [hpre] at hp
      exact hp
    refine ⟨rfl, ?_, hwf, ?_, ?_, ?_, ?_, hok⟩ <;> obtain ⟨m, st, c, n, tl, x, hpre⟩ := hidle <;> rw [hpre] <;> assumption
  have hlat : s.prelude.lat = s.lat ∧ s.prelude.smm = s.smm ∧ s.prelude.eflags = s.eflags := by
    obtain ⟨m, st, c, n, tl, x, hpre⟩ := hidle
    rw [hpre]
    exact ⟨rfl, rfl, rfl⟩
  obtain ⟨hl, hm, hf⟩ := hlat
  rw [← hl, ← hm]
  refine ⟨fun v hnmi hv hif hsti hact hok => intr_taken (hawaits _ hok) hnmi hv ?_ hsti hact,
    fun hpend hblk hsmm hact hok => nmi_taken (hawaits 2 hok) hpend hblk hsmm hact⟩
  rw [State.flag, hf]
  exact hif

end Sys2Proof.Machine

/-! SUPPORT. Software interrupts. -/
namespace Sys2Proof.Machine
open Host

/-! ### The instructions -/

theorem run_raiseGP0 {α : Type} (s : State) : (raiseGP0 : M α) s = raise 13 (some 0) s := rfl

/-- A body that ends in an exception without effects but for draws raises it. -/
theorem raises_of_raise {i : Instr} {lockOk : Bool} {body : M Unit} {s : State} {n v : Nat} {c : Option Half}
    (hi : exec i s = instr lockOk body s) (hl : s.lockOk lockOk = true)
    (hb : body s.start = raise v c { s.start with free := n }) : Raises i s v c :=
  raises_of_drawn (exec_of_error hi hl hb)

/-- A body that stops the model stops its instruction. -/
theorem exec_of_stop {i : Instr} {lockOk : Bool} {body : M Unit} {s u : State} {f : Fault} (hi : exec i s = instr lockOk body s)
    (hl : s.lockOk lockOk = true) (hb : body s.start = .error (.fault f) u) : exec i s = .fault f := by
  have hlock : (s.ins.lock && !lockOk) = false := by
    simpa [State.lockOk] using congrArg not hl
  have hrun := run_error_bind (fun _ => finish s) hb
  unfold State.start at hrun
  rw [hi, instr, hlock, if_neg Bool.false_ne_true, hrun]

theorem start_drawn (s : State) : s.start = { s.start with free := s.free } := rfl

theorem tss32_start (s : State) : s.start.sys.tr.tss32 = bit s.sys.tr.type 3 := rfl

theorem hasMapBase_iff (s : State) : s.hasMapBase = true ↔
    bit s.sys.tr.type 3 = true ∧ 103 ≤ s.sys.tr.limit.toNat ∧ s.sysReach (s.sys.tr.base + 102).toNat 2 := by
  rw [State.hasMapBase, Bool.and_eq_true, Bool.and_eq_true, decide_eq_true_eq, plainAt_iff, and_assoc]

/-- Where the base of the map can be read, the flag is looked for in the map. -/
theorem run_redirBit_base {s : State} (h : s.hasMapBase = true) (n : Nat) :
    redirBit n s = (if s.mapBase < 32 then stop .redirectionMap
      else if s.mapBase - 32 + n / 8 > s.sys.tr.limit.toNat then raiseGP0
      else do
        let b ← sysRead (s.sys.tr.base + BitVec.ofNat 32 (s.mapBase - 32 + n / 8)) 1
        pure (b.testBit (n % 8)) : M Bool) s := by
  obtain ⟨hty, hlim, hr⟩ := (hasMapBase_iff s).1 h
  have h32 : s.sys.tr.tss32 = true := hty
  have hno : ¬ s.sys.tr.limit.toNat < 103 := by omega
  rw [redirBit, run_bind, run_get]
  dsimp only
  rw [h32, Bool.not_true, if_neg Bool.false_ne_true, if_neg hno, run_bind_ok _ (run_sysRead hr (by decide))]
  rfl

/-- What a redirection flag that can be read asks of the map. -/
theorem redirected_eq_some {s : State} {n : Nat} {b : Bool} (h : s.redirected n = some b) :
    s.hasMapBase = true ∧ 32 ≤ s.mapBase ∧ s.mapBase - 32 + n / 8 ≤ s.sys.tr.limit.toNat ∧
      s.sysReach (s.sys.tr.base + BitVec.ofNat 32 (s.mapBase - 32 + n / 8)).toNat 1 ∧
      b = (s.num (s.sys.tr.base + BitVec.ofNat 32 (s.mapBase - 32 + n / 8)).toNat 1).testBit (n % 8) := by
  unfold State.redirected at h
  rw [Option.ite_none_right_eq_some, Bool.and_eq_true, Bool.and_eq_true, Bool.and_eq_true, decide_eq_true_eq,
    decide_eq_true_eq, plainAt_iff] at h
  obtain ⟨⟨⟨⟨hbase, hlow⟩, hhigh⟩, hr⟩, hb⟩ := h
  refine ⟨hbase, hlow, hhigh, hr, ?_⟩
  rw [Nat.testBit_eq_decide_div_mod_eq]
  exact (Option.some.inj hb).symm

theorem run_redirBit {s : State} {n : Nat} {b : Bool} (h : s.redirected n = some b) : redirBit n s = .ok b s := by
  obtain ⟨hbase, hlow, hhigh, hr, rfl⟩ := redirected_eq_some h
  rw [run_redirBit_base hbase, if_neg (Nat.not_lt.2 hlow), if_neg (Nat.not_lt.2 hhigh),
    run_bind_ok _ (run_sysRead hr (by decide)), run_pure]

theorem run_redirBit_beyond {s : State} {n : Nat} (h : s.beyondMap n = true) : redirBit n s = raise 13 (some 0) s := by
  simp only [State.beyondMap, Bool.and_eq_true, Bool.or_eq_true, decide_eq_true_eq] at h
  obtain ⟨hty, hshort | ⟨⟨hbase, hlow⟩, hhigh⟩⟩ := h
  · have h32 : s.sys.tr.tss32 = true := hty
    rw [redirBit, run_bind, run_get]
    dsimp only
    rw [h32, Bool.not_true, if_neg Bool.false_ne_true, if_pos hshort, run_raiseGP0]
  · rw [run_redirBit_base hbase, if_neg (Nat.not_lt.2 hlow), if_pos hhigh, run_raiseGP0]

theorem run_redirBit_stop {s : State} {n : Nat} (hbase : s.hasMapBase = true) (h : s.mapBase < 32) :
    redirBit n s = .error (.fault .redirectionMap) s := by
  rw [run_redirBit_base hbase, if_pos h]
  rfl

/-- A TSS that has no map: all flags count as set, or the map has no room. -/
theorem run_redirBit_mapless {s : State} (h : bit s.sys.tr.type 3 = false) (n : Nat) :
    redirBit n s = .ok true { s with free := s.free + 1 } ∨ redirBit n s = raise 13 (some 0) { s with free := s.free + 1 } := by
  have h16 : s.sys.tr.tss32 = false := h
  rw [redirBit, run_bind, run_get]
  dsimp only
  rw [h16, Bool.not_false, if_pos rfl, run_bind_ok _ (run_drawBool s)]
  cases decide (Config.freeBits s.free % 2 = 1) with
  | true => exact .inl rfl
  | false => exact .inr rfl

theorem run_intV86_plain {s : State} (h : bit s.sys.cr4 0 = false) (cur : Word) (n : Nat) :
    intV86 cur n s = (if s.iopl = 3 then softInt cur n else raiseGP0) s := by
  rw [intV86, run_bind, run_get]
  dsimp only
  rw [h, Bool.not_false, if_pos rfl]

theorem run_intV86_extended {s : State} (h : bit s.sys.cr4 0 = true) (cur : Word) (n : Nat) :
    intV86 cur n s = (do
      let b ← redirBit n
      if !b then redirect cur n else if s.iopl = 3 then softInt cur n else raiseGP0 : M Unit) s := by
  rw [intV86, run_bind, run_get]
  dsimp only
  rw [h, Bool.not_true, if_neg Bool.false_ne_true]

theorem run_intBody (cur : Word) (n : Nat) (s : State) :
    intBody cur n s = (if s.v86 then intV86 cur n else softInt cur n) s := by
  rw [intBody, run_bind, run_get]

/-- A software interrupt that is not redirected. -/
theorem softInt_body {i : Instr} {v : Nat} {s : State} (hi : IsSoftInt i v s)
    (h : s.v86 = true → s.throughIdt i v) :
    ∃ body, exec i s = instr false body s ∧ body s.start = softInt s.eip v s.start := by
  rcases hi with ⟨k, rfl, rfl⟩ | ⟨rfl, rfl⟩ | ⟨rfl, rfl, hof⟩
  · refine ⟨intBody s.eip k.toNat, rfl, ?_⟩
    rw [run_intBody]
    cases hv : s.v86 with
    | false => rw [start_v86, hv, if_neg Bool.false_ne_true]
    | true =>
      have hvm : s.flag fVM = true := by
        rw [State.v86, Bool.and_eq_true] at hv
        exact hv.2
      rw [start_v86, hv, if_pos rfl]
      rcases h hv hvm with hno | ⟨hiopl, hcr4 | hmap⟩
      · exact absurd rfl (hno k)
      · rw [run_intV86_plain (s := s.start) hcr4, start_iopl, if_pos hiopl]
      · have hmap' : s.start.redirected k.toNat = some true := hmap
        cases hcr4 : bit s.sys.cr4 0 with
        | false => rw [run_intV86_plain (s := s.start) hcr4, start_iopl, if_pos hiopl]
        | true =>
          rw [run_intV86_extended (s := s.start) hcr4, run_bind_ok _ (run_redirBit hmap'), start_iopl, Bool.not_true,
            if_neg Bool.false_ne_true, if_pos hiopl]
  · exact ⟨softInt s.eip 3, rfl, rfl⟩
  · refine ⟨intoBody s.eip, rfl, ?_⟩
    rw [intoBody, run_bind, run_get]
    dsimp only
    rw [start_flag, hof]
    rfl

/-! ### A handler that is entered -/

/-- The event of a software interrupt. -/
def softEntry (cur : Word) (v : Nat) (rf : Option Bool) : Entry := { vec := v, src := .soft, code := none, from_ := cur, rf := rf }

/-- The state after a software interrupt: no single-step trap follows it. -/
def State.interrupted (s : State) : State := { s with tr := { s.tr with noStep := true, branched := false } }

theorem runs_softInt {s : State} {cur : Word} {v : Nat} {q : Unit → State → Prop}
    (h : ∀ rf u, rf = none ∨ rf = some false → Nigh s u →
      Runs (deliver (softEntry cur v rf)) u fun x t => q x t.interrupted) : Runs (softInt cur v) s q := by
  obtain ⟨rf, n, hrun, hrf⟩ := trapRf_cases false s
  have hrf' : rf = none ∨ rf = some false := by simpa using hrf
  refine runs_bind (q := fun r u => r = rf ∧ Nigh s u) ⟨_, _, hrun, rfl, s.stale, n, rfl⟩ fun r u ⟨hr, hu⟩ => ?_
  subst hr
  exact runs_bind (h r u hrf' hu) fun _ _ ht => runs_modify ht

theorem softEntry_image {cur : Word} {v : Nat} {rf : Option Bool} (h : rf = none ∨ rf = some false) (s : State) :
    SoftImage s ((softEntry cur v rf).image s) := by
  rcases h with rfl | rfl
  · exact .inl rfl
  · exact .inr rfl

/-- An instruction completes with a handler entered. -/
theorem completes_interrupted {i : Instr} {v : Nat} {s : State} {q : State → Prop} (hi : IsSoftInt i v s)
    (h : s.v86 = true → s.throughIdt i v) (hl : s.lockOk false = true)
    (hd : ∀ rf u, rf = none ∨ rf = some false → Nigh s.start u →
      Runs (deliver (softEntry s.eip v rf)) u fun _ t => q (t.interrupted.completed s)) : Completes i s q := by
  obtain ⟨body, hexec, hbody⟩ := softInt_body hi h
  obtain ⟨x, t, hrun, hq⟩ := runs_softInt (q := fun _ t => (t.tr.branched = true → t.noLbr = true) ∧ q (t.completed s))
    fun rf u hrf hu => runs_mono (hd rf u hrf hu) fun _ _ hq => ⟨fun hb => Bool.noConfusion hb, hq⟩
  exact completes_of_ends hexec hl ⟨x, t, hbody.trans hrun, hq⟩

/-- What is left alone by an entry that an instruction made. -/
theorem quiet_completed {s : State} (x : State) (frame : State) (t f : Word) (g : Segs) (m : List NoRestart) (p : Bool) (w : Trans)
    (st : List StaleByte) (n : Nat) {l : Latches} (hl : Latches.same s.lat l) :
    Quiet { s with seg := g, noReturn := m }
      (({ (s.arrived frame t f g) with noReturn := m, stale := st, free := n, dbg := { s.dbg with pendS := p }, lat := l,
                                       tr := w } : State).completed x) := by
  have hl' : ∃ a b c, l = { s.lat with inhibit := a, stiShadow := b, midRep := c } := ⟨_, _, _, hl⟩
  obtain ⟨a, b, c, rfl⟩ := hl'
  exact ⟨⟨⟨rfl, rfl, rfl, rfl, rfl, rfl, rfl, rfl, rfl, rfl, rfl, rfl, rfl, rfl⟩, rfl, rfl, rfl, rfl, rfl, rfl, rfl, rfl, rfl⟩, rfl⟩

/-- EFLAGS after an entry that an instruction made. -/
theorem eflags_completed {s u : State} (x : State) (hs : s.tr = Trans.clear) (hk : u.tr.keepRf = s.tr.keepRf)
    (hr : u.tr.repeats = s.tr.repeats) (hrf : bit u.eflags fRF = false) : (u.completed x).eflags = u.eflags := by
  rw [completed_eflags (by rw [hk, hs]; rfl) (by rw [hr, hs]; rfl), setBit_self hrf]

theorem bit_clear (f : Word) (i : Nat) : bit (setBit f i false) i = false := by
  simp [bit, setBit]

theorem entryFlags_rf (f : Word) (g : Desc) : bit (entryFlags f g) fRF = false := by
  unfold entryFlags
  cases bit (descType g) 0 <;> simp [bit, setBit, fRF]

theorem realEntry_completed {s u : State} (x : State) {v : Nat} {stepping : Bool} (hs : s.ready)
    (hu : Nigh ((s.arrivedReal v).settled s.marksElsewhere false stepping) u) :
    RealEntry s (u.interrupted.completed x) v := by
  have hlat := latches_of_settled hu
  obtain ⟨st, n, rfl⟩ := hu
  have hf := eflags_completed x hs.2 (u := (((s.arrivedReal v).settled s.marksElsewhere false stepping).drawn st n).interrupted)
    rfl rfl (bit_clear _ _)
  exact ⟨⟨_, pushedAll_of (t := State.pushedAll 2 [s.eflags.toNat, s.seg.cs.sel.toNat, s.eip.toNat] s) hs.1 (pushedAll_seg _ _ _) rfl rfl, rfl, fun _ => rfl⟩, rfl, hf,
    quiet_completed x _ _ _ _ _ _ _ st n (l := ((s.arrivedReal v).settled s.marksElsewhere false stepping).lat) hlat⟩

theorem sameEntry_completed {s u : State} (x : State) {g : Desc} {a : Nat} {d : Desc} {image : Word}
    {stepping : Bool} (hs : s.ready)
    (hu : Nigh ((s.arrivedSame g a d image none).settled s.marksElsewhere false stepping) u) :
    SameEntry s (u.interrupted.completed x) g a d image none := by
  have hlat := latches_of_settled hu
  obtain ⟨st, n, rfl⟩ := hu
  have hf := eflags_completed x hs.2
    (u := (((s.arrivedSame g a d image none).settled s.marksElsewhere false stepping).drawn st n).interrupted)
    rfl rfl (entryFlags_rf s.eflags g)
  have hwf : Memory.wf (s.sameFrame g image none).mem = true := pushedAll_wf _ _ hs.1
  exact ⟨⟨s.sameFrame g image none, pushedAll_of hs.1 (pushedAll_seg _ _ _) rfl rfl, (markedAcc_frame _ _).1,
    accessed_of (s := s.sameFrame g image none) hwf rfl⟩, rfl, hf,
    quiet_completed x _ _ _ _ _ _ _ st n (l := ((s.arrivedSame g a d image none).settled s.marksElsewhere false stepping).lat) hlat⟩

theorem after_ready {s : State} (h : s.ready) : s.after.ready := h

theorem softEntry_notDebug (cur : Word) (v : Nat) (rf : Option Bool) : (softEntry cur v rf).isDebug = false := by
  rw [Entry.isDebug, softEntry, decide_eq_false (by decide : ¬ Source.soft = Source.fault),
    decide_eq_false (by decide : ¬ Source.soft = Source.trap), Bool.or_false, Bool.and_false]

theorem softEntry_notAbort (cur : Word) (v : Nat) (rf : Option Bool) : (softEntry cur v rf).src ≠ .abort := Source.noConfusion

/-- A software interrupt in real-address mode. -/
theorem enters_softly_real {i : Instr} {v : Nat} {s : State} (hi : IsSoftInt i v s) (hs : s.ready) (hl : s.lockOk false = true)
    (hlbr : s.noLbr = true) (hp : s.prot = false) (hok : s.after.realVectorOk v = true) :
    Completes i s fun t => RealEntry s.after t v := by
  refine completes_interrupted hi (fun hv => ?_) hl fun rf u _ hu => runs_mono (nigh_deliver (s := s.after)
    (s' := s.after.arrivedReal v) hu (softEntry_notAbort _ v rf) (softEntry_notDebug _ v rf) hlbr rfl fun w hw =>
    runs_if_neg (Bool.not_eq_true _ ▸ hp) (nigh_deliverReal hw hok)) fun _ t ⟨_, ht⟩ => realEntry_completed s (after_ready hs) ht
  rw [State.v86, hp] at hv
  cases hv

/-- A software interrupt through a gate to the same level. -/
theorem enters_softly_same {i : Instr} {v : Nat} {g : Desc} {a : Nat} {d : Desc} {s : State} (hi : IsSoftInt i v s)
    (hs : s.ready) (hl : s.lockOk false = true) (hlbr : s.noLbr = true) (hp : s.prot = true) (hvm : s.flag fVM = false)
    (hg : s.gateOk v true = some g) (hd : s.handlerSame g = some (a, d)) (hc : canPushAll (bytes (gateWide g)) 3 s = true) :
    Completes i s fun t => ∃ image, SoftImage s image ∧ SameEntry s.after t g a d image none := by
  have hg' : s.after.gateOk v true = some g := hg
  have hd' : s.after.handlerSame g = some (a, d) := by
    rw [← hd, State.handlerSame, State.handlerSame, show s.after.descriptor (gateSel g) = s.descriptor (gateSel g) from rfl]
    rfl
  have hc' : canPushAll (bytes (gateWide g)) 3 s.after = true := (canPushAll_start _ _ s).trans hc
  refine completes_interrupted hi (fun hv => ?_) hl fun rf u hrf hu => runs_mono (nigh_deliver (s := s.after)
    (s' := s.after.arrivedSame g a d ((softEntry s.eip v rf).image s.after) none) hu (softEntry_notAbort _ v rf)
    (softEntry_notDebug _ v rf) hlbr rfl fun w hw => runs_if_pos hp (runs_deliverProt (s := s.after) hw (e := softEntry s.eip v rf) hg' fun y hy =>
      nigh_deliverGate hy hvm hd' hc')) fun _ t ⟨_, ht⟩ =>
      ⟨_, softEntry_image hrf s, sameEntry_completed s (after_ready hs) ht⟩
  rw [State.v86, hvm, Bool.and_false] at hv
  cases hv

theorem enters_softly : EntersSoftly := by
  refine ⟨fun i v s hi hs hl hlbr hp hok => enters_softly_real hi hs hl hlbr hp hok,
    fun i v g a d s hi hs hl hlbr hp hvm hg hd hc => enters_softly_same hi hs hl hlbr hp hvm hg hd hc,
    fun s hs hl hof => completes_of_like (s' := s.start) rfl hs hl ?_ (calm_start s) rfl fun t hg hm hf ht =>
      ⟨untouched_of hg hm, hf, ht⟩⟩
  refine runs_get_bind ?_
  rw [start_flag, hof]
  exact runs_pure (Like.refl s.start)

/-! ### A gate that is refused -/

/-- A gate that the privilege level may not use. -/
theorem run_deliver_refused {s : State} {cur : Word} {v : Nat} {rf : Option Bool} {g : Desc} (hp : s.prot = true)
    (hg : s.gateOk v false = some g) (hlow : descDpl g < s.cpl) :
    deliver (softEntry cur v rf) s = raise 13 (some (idtCode v)) s := by
  obtain ⟨hlim, hr, hgv, hs, hty, -, -⟩ := gateOk_eq_some hg
  have hkind : (descS g || !((descType g).toNat = 5 || (descType g).toNat = 6 || (descType g).toNat = 7 ||
      (descType g).toNat = 14 || (descType g).toNat = 15)) = false := by
    rcases hty with hty | hty | hty | hty <;> rw [hs, hty] <;> rfl
  have hread : readDesc (s.sys.idtr.base + BitVec.ofNat 32 (8 * v)) s = .ok g s := (run_readDesc hr).trans (by rw [hgv])
  have hrefuse : (decide ((softEntry cur v rf).src = .soft) && decide (descDpl g < s.cpl)) = true := by
    rw [decide_eq_true hlow]
    rfl
  have hprot : deliverProt (softEntry cur v rf) s = raise 13 (some (idtCode v)) s := by
    rw [deliverProt, run_bind, run_get]
    refine (congrFun (if_neg (Nat.not_lt.2 hlim)) s).trans ((run_bind_ok _ hread).trans ?_)
    dsimp only
    rw [hkind, if_neg Bool.false_ne_true]
    exact congrFun (if_pos hrefuse) s
  rw [deliver, run_bind, run_get]
  dsimp only
  rw [hp, if_pos rfl]
  exact run_bind_raise _ hprot

theorem run_softInt_refused {s : State} {cur : Word} {v : Nat} {g : Desc} (hp : s.prot = true)
    (hg : s.gateOk v false = some g) (hlow : descDpl g < s.cpl) :
    ∃ n, softInt cur v s = raise 13 (some (idtCode v)) { s with free := n } := by
  obtain ⟨rf, n, hrun, -⟩ := trapRf_cases false s
  have hdeliver := run_deliver_refused (s := { s with free := n }) (cur := cur) (rf := rf) hp hg hlow
  refine ⟨n, ?_⟩
  rw [softInt, run_bind_ok _ hrun]
  exact run_bind_raise _ hdeliver

theorem gate_refuses : GateRefuses := by
  intro i v g s hi hl hp hg hlow
  have hidt (h : s.throughIdt i v) : Raises i s 13 (some (BitVec.ofNat 16 (8 * v + 2))) := by
    obtain ⟨body, hexec, hbody⟩ := softInt_body hi fun _ => h
    obtain ⟨n, hrun⟩ := run_softInt_refused (s := s.start) (cur := s.eip) hp hg hlow
    exact raises_of_raise hexec hl (hbody.trans hrun)
  refine ⟨hidt, fun ⟨hvm, hiopl, hcr4, h16⟩ => ?_⟩
  rcases hi with ⟨k, rfl, rfl⟩ | ⟨rfl, rfl⟩ | ⟨rfl, rfl, hof⟩
  · have hv : s.v86 = true := by rw [State.v86, hp, hvm]; rfl
    have hbody : intBody s.eip k.toNat s.start = (do
        let b ← redirBit k.toNat
        if !b then redirect s.eip k.toNat else if s.start.iopl = 3 then softInt s.eip k.toNat else raiseGP0 : M Unit) s.start := by
      rw [run_intBody, start_v86, hv, if_pos rfl, run_intV86_extended (s := s.start) hcr4]
    rcases run_redirBit_mapless (s := s.start) h16 k.toNat with hmap | hmap
    · right
      obtain ⟨n, hrun⟩ := run_softInt_refused (s := { s.start with free := s.start.free + 1 }) (cur := s.eip) hp hg hlow
      refine raises_of_raise (n := n) (body := intBody s.eip k.toNat) rfl hl (hbody.trans ((run_bind_ok _ hmap).trans ?_))
      exact (congrFun (if_pos hiopl) _).trans hrun
    · left
      exact raises_of_raise (n := s.start.free + 1) (body := intBody s.eip k.toNat) rfl hl
        (hbody.trans (run_bind_raised _ hmap))
  · exact .inr (hidt fun _ => .inl fun n h => Instr.noConfusion h)
  · exact .inr (hidt fun _ => .inl fun n h => Instr.noConfusion h)

/-! ### Redirection -/

theorem setWidth_and (x : Word) (c : Half) : (x.setWidth 16 &&& c).setWidth 32 = x &&& c.setWidth 32 := by
  apply BitVec.eq_of_getLsbD_eq
  intro i hi
  by_cases h : i < 16
  · simp [hi, h]
  · have hc : c.getLsbD i = false := BitVec.getLsbD_of_ge c i (by omega)
    simp [hi, h, hc]

theorem setWidth_setBit (x : Half) {i : Nat} (hi : i < 16) (b : Bool) : (setBit x i b).setWidth 32 = setBit (x.setWidth 32) i b := by
  apply BitVec.eq_of_getLsbD_eq
  intro j hj
  by_cases h : j < 16
  · cases b <;> simp [setBit, hj, h]
  · have hx : x.getLsbD j = false := BitVec.getLsbD_of_ge x j (by omega)
    have hji : ¬ j = i := by omega
    cases b <;> simp [setBit, h, hj, hx, hji, Ne.symm hji]

/-- The image of a redirected interrupt. -/
theorem redirectImage_eq (s : State) :
    (if s.iopl = 3 then setBit (field s.eflags 0 16 : Half) fNT false &&& 0xCFFF#16
      else setBit (setBit (field s.eflags 0 16 : Half) fNT false ||| 0x3000#16) 9 (s.flag fVIF)).toNat = s.redirectImage := by
  have hfield : (field s.eflags 0 16 : Half) = s.eflags.setWidth 16 := by
    apply BitVec.eq_of_getLsbD_eq
    intro i hi
    simp [field, hi]
  have hnt : (setBit (field s.eflags 0 16 : Half) fNT false).setWidth 32 = s.eflags &&& 0xBFFF#32 := by
    rw [hfield]
    exact setWidth_and s.eflags 0xBFFF#16
  have hnat (x : Half) : x.toNat = (x.setWidth 32).toNat := by
    rw [BitVec.toNat_setWidth, Nat.mod_eq_of_lt (by omega)]
  rw [State.redirectImage, hnat]
  congr 1
  by_cases h : s.iopl = 3
  · rw [if_pos h, if_pos h, BitVec.setWidth_and, hnt]
    rfl
  · rw [if_neg h, if_neg h, setWidth_setBit _ (by decide), BitVec.setWidth_or, hnt]
    rfl

/-- The state at the entry of the 8086 program's own handler. -/
def State.redirectedTo (s : State) (n : Nat) : State :=
  s.arrived (State.pushedAll 2 [s.redirectImage, s.seg.cs.sel.toNat, s.eip.toNat] s)
    (BitVec.ofNat 32 (s.num (4 * n) 4 % 0x10000))
    (setBit (setBit s.eflags (if s.iopl = 3 then 9 else 19) false) 8 false)
    { s.seg with cs := Seg.v86 (BitVec.ofNat 16 (s.num (4 * n) 4 / 0x10000)) }

/-- The same with the marks of the return address, and with what debugging has to do. -/
def State.redirectedWith (s : State) (n : Nat) (p : Bool) : State :=
  { s.redirectedTo n with noReturn := s.marksElsewhere, dbg := { s.dbg with pendS := p }, tr := { s.tr with noStep := true } }

theorem nigh_putFlag {s u : State} (h : Nigh s u) (i : Nat) (b : Bool) : Runs (putFlag i b) u fun _ v => Nigh (s.setFlag i b) v :=
  nigh_modify h fun _ _ _ => rfl

theorem run_recordBranch {s : State} (h : s.noLbr = true) (exc : Bool) (a b : Word) : recordBranch exc a b s = .ok () s := by
  simp only [State.noLbr, Bool.and_eq_true, Bool.not_eq_true'] at h
  simp only [recordBranch, run_bind, run_get, h, Bool.false_eq_true, if_false, whenM, run_pure]

theorem nigh_redirect {s u : State} (h : Nigh s u) {n : Nat} (hn : n < 256) (hp : s.plain = true) (hlbr : s.noLbr = true)
    (hc : canPushAll 2 3 s = true) (hroom : s.seg.ss.inLimit (s.pushOff 6) 6 = true) (cur : Word) :
    Runs (redirect cur n) u fun _ t => ∃ p, Nigh (s.redirectedWith n p) t := by
  have ha : (BitVec.ofNat 32 (4 * n)).toNat = 4 * n := by
    rw [BitVec.toNat_ofNat, Nat.mod_eq_of_lt (by omega)]
  refine nigh_get_bind h fun st c => ?_
  refine runs_bind (q := fun ps v => ps = spansAt (4 * n) 4 ∧ Nigh s v)
    ⟨_, _, linearSpans_plain (s := s.drawn st c) hp _ 4 false true (by decide) (by omega), by rw [ha], nigh_drawn s st c⟩
    fun ps v ⟨hps, hv⟩ => ?_
  subst hps
  refine runs_bind (q := fun x v => x = s.num (4 * n) 4 ∧ Nigh s v) ?_ fun x v ⟨hx, hv⟩ => ?_
  · obtain ⟨st, c, rfl⟩ := hv
    exact ⟨_, _, readSpans_plain (s := s.drawn st c) hp (4 * n) 4, rfl, nigh_drawn s st c⟩
  subst hx
  have hroom' : s.seg.ss.inLimit (s.seg.ss.cutSp (s.sp - 6)) 6 = true := hroom
  simp only [drawn_seg, drawn_sp, hroom', Bool.not_true, Bool.false_eq_true, if_false]
  rw [redirectImage_eq (s.drawn st c)]
  refine runs_bind (nigh_pushAll (n := 2) (v := s.redirectImage) (vs := [s.seg.cs.sel.toNat, s.eip.toNat]) hv (by decide) hc)
    fun _ v1 h1 => ?_
  rw [pushedAll_eq] at h1
  refine runs_bind (nigh_putFlag h1 _ _) fun _ v2 h2 => runs_bind (nigh_putFlag h2 _ _) fun _ v3 h3 => ?_
  refine runs_bind (nigh_modify h3 fun _ _ _ => rfl) fun _ v4 h4 => runs_bind (nigh_modify h4 fun _ _ _ => rfl) fun _ v5 h5 => ?_
  have h6 : Nigh (s.redirectedWith n s.dbg.pendS) v5 := h5
  refine nigh_get_bind h6 fun st' c' => ?_
  refine runs_bind (q := fun _ t => Nigh (s.redirectedWith n s.dbg.pendS) t)
    ⟨_, _, run_recordBranch (s := (s.redirectedWith n s.dbg.pendS).drawn st' c') hlbr _ _ _, nigh_drawn _ _ _⟩ fun _ v7 h7 => ?_
  cases (s.drawn st c).flag fTF && bit (s.drawn st c).msr.debugCtl 1 with
  | true => exact runs_mono (nigh_modify h7 fun _ _ _ => rfl) fun _ t ht => ⟨true, ht⟩
  | false => exact runs_pure ⟨_, h7⟩

/-- A redirected interrupt. -/
theorem redirectEntry_completed {s u : State} (x : State) {n : Nat} {p : Bool} (hs : s.ready)
    (hu : Nigh (s.redirectedWith n p) u) : RedirectEntry s (u.completed x) n := by
  obtain ⟨st, c, rfl⟩ := hu
  have hf := completed_eflags (u := (s.redirectedWith n p).drawn st c) (s := x)
    (by rw [show ((s.redirectedWith n p).drawn st c).tr.keepRf = s.tr.keepRf from rfl, hs.2]; rfl)
    (by rw [show ((s.redirectedWith n p).drawn st c).tr.repeats = s.tr.repeats from rfl, hs.2]; rfl)
  exact ⟨⟨State.pushedAll 2 [s.redirectImage, s.seg.cs.sel.toNat, s.eip.toNat] s,
    pushedAll_of hs.1 (pushedAll_seg _ _ _) rfl rfl, rfl, fun _ => rfl⟩, rfl, hf,
    quiet_completed x (State.pushedAll 2 [s.redirectImage, s.seg.cs.sel.toNat, s.eip.toNat] s) _ _ _ _ _ _ st c (l := s.lat) rfl⟩

theorem interrupts_v86 : InterruptsV86 := by
  intro n s hl hp hvm
  have hv : s.start.v86 = true := by rw [start_v86, State.v86, hp, hvm]; rfl
  have hbody : intBody s.eip n.toNat s.start = intV86 s.eip n.toNat s.start := by
    rw [run_intBody, hv, if_pos rfl]
  have hraise {k : Nat} (h : intV86 s.eip n.toNat s.start = raise 13 (some 0) { s.start with free := k }) :
      Raises (.intIb n) s 13 (some 0) := raises_of_raise (n := k) (body := intBody s.eip n.toNat) rfl hl (hbody.trans h)
  have hext (h : bit s.sys.cr4 0 = true) := run_intV86_extended (s := s.start) h s.eip n.toNat
  refine ⟨fun hiopl hcase => ?_, fun hcr4 hmap => ?_, fun hcr4 hbase hlow => ?_, fun hs hlbr hcr4 hmap hplain hc hroom => ?_⟩
  · have hno : ¬ s.start.iopl = 3 := hiopl
    cases hcr4 : bit s.sys.cr4 0 with
    | false =>
      refine hraise (k := s.free) ((run_intV86_plain (s := s.start) hcr4 _ _).trans ?_)
      rw [if_neg hno]
      exact run_raiseGP0 s.start
    | true =>
      have hones {t : State} (k : Nat) (ht : t = { s.start with free := k })
          (hrun : redirBit n.toNat s.start = .ok true t) : Raises (.intIb n) s 13 (some 0) := by
        subst ht
        refine hraise (k := k) ((hext hcr4).trans ((run_bind_ok _ hrun).trans ?_))
        rw [Bool.not_true, if_neg Bool.false_ne_true]
        exact congrFun (if_neg hno) _
      rcases hcase with hcr4' | h16 | hmap
      · rw [hcr4] at hcr4'
        cases hcr4'
      · rcases run_redirBit_mapless (s := s.start) h16 n.toNat with hrun | hrun
        · exact hones _ rfl hrun
        · exact hraise ((hext hcr4).trans (run_bind_raised _ hrun))
      · exact hones s.free rfl (run_redirBit (s := s.start) hmap)
  · exact hraise (k := s.free) ((hext hcr4).trans (run_bind_raised _ (run_redirBit_beyond (s := s.start) hmap)))
  · have hstop : intBody s.eip n.toNat s.start = .error (.fault .redirectionMap) s.start :=
      hbody.trans ((hext hcr4).trans (run_error_bind _ (run_redirBit_stop (s := s.start) hbase hlow)))
    exact exec_of_stop (body := intBody s.eip n.toNat) rfl hl hstop
  · refine completes_of_ends (body := intBody s.eip n.toNat) rfl hl ?_
    obtain ⟨x, t, hrun, p, ht⟩ := nigh_redirect (s := s.start) (Nigh.refl _) n.isLt hplain hlbr
      ((canPushAll_start _ _ s).trans hc) hroom s.eip
    have hred : intBody s.eip n.toNat s.start = redirect s.eip n.toNat s.start :=
      hbody.trans ((hext hcr4).trans (run_bind_ok _ (run_redirBit (s := s.start) hmap)))
    refine ⟨x, t, hred.trans hrun, fun hb => ?_, redirectEntry_completed s (s := s.after) (after_ready hs) ht⟩
    obtain ⟨st, c, rfl⟩ := ht
    have hbr : ((s.start.redirectedWith n.toNat p).drawn st c).tr.branched = s.tr.branched := rfl
    rw [hbr, hs.2] at hb
    cases hb

/-- Settles O52. -/
theorem softwareInterrupts : Obligations.SoftwareInterrupts := ⟨enters_softly, gate_refuses, interrupts_v86⟩

end Sys2Proof.Machine

/-! SUPPORT. INVD, WBINVD, INVLPG and HLT. -/
namespace Sys2Proof.Machine
open Host

/-- An instruction that falls through has passed, if its marks are those it began with but for the single-step trap. -/
theorem passed_of_tr {s s' x : State} {w : Bool} (hs : s.ready) (h : Still s' x) (he : x.eip = s'.nextEip)
    (ht : x.tr = { s.tr with noStep := w }) : Passed s' x := by
  rw [hs.2] at ht
  exact ⟨h, he, congrArg Trans.branched ht, congrArg Trans.keepRf ht, congrArg Trans.repeats ht⟩

/-- An instruction of the highest level completes with what the rest of its body leaves. -/
theorem completes_privileged {i : Instr} {lockOk : Bool} {body : M Unit} {s : State} {q : State → Prop}
    (hi : exec i s = instr lockOk (do requireCpl0; body) s) (hl : s.lockOk lockOk = true) (hp : s.privileged = true)
    (hb : Runs body s.start fun _ u => ∃ s', Passed s' u ∧
      ∀ t : State, t.gpr = u.gpr → t.mem = u.mem → t.stale = u.stale → t.eflags = setBit u.eflags fRF false → Falls s' t → q t) :
    Completes i s q := by
  refine completes_of_ends hi hl ?_
  obtain ⟨x, u, hrun, s', hu, hq⟩ := hb
  have hreq : requireCpl0 s.start = .ok () s.start := by
    rw [run_requireCpl0, show s.start.privileged = true from hp, if_pos rfl]
  refine ⟨x, u, (run_bind_ok _ hreq).trans hrun, fun hbr => ?_, hq _ rfl rfl rfl (hu.eflags (Like.refl u) s) (hu.falls (Like.refl u) s)⟩
  rw [hu.branched] at hbr
  cases hbr

/-- The bytes that a line may lose: each is as it was, or as memory below the caches has it. -/
def LostBytes (keep : Bool) (l : List StaleByte) (m m' : List Cell) : Prop :=
  ∀ k, memRead m' k = memRead m k ∨ ∃ c ∈ l, (keep = true → c.split = true) ∧ c.addr = k ∧ c.old = memRead m' k

theorem LostBytes.refl (keep : Bool) (l : List StaleByte) (m : List Cell) : LostBytes keep l m m := fun _ => .inl rfl

theorem LostBytes.skip {keep : Bool} {c : StaleByte} {l : List StaleByte} {m m' : List Cell} (h : LostBytes keep l m m') :
    LostBytes keep (c :: l) m m' := fun k => (h k).imp_right fun ⟨c', hc, hk⟩ => ⟨c', List.mem_cons_of_mem c hc, hk⟩

theorem LostBytes.lose {keep : Bool} {c : StaleByte} {l : List StaleByte} {m m' : List Cell} (hwf : Memory.wf m = true)
    (hc : keep = true → c.split = true) (h : LostBytes keep l (memWrite m c.addr c.old) m') : LostBytes keep (c :: l) m m' := by
  intro k
  rcases h k with hk | ⟨c', hc', hk⟩
  · rw [memRead_memWrite hwf] at hk
    split at hk
    · next heq => exact .inr ⟨c, List.mem_cons_self, hc, heq.symm, hk.symm⟩
    · exact .inl hk
  · exact .inr ⟨c', List.mem_cons_of_mem c hc', hk⟩

theorem runs_loseLines (keep : Bool) (l : List StaleByte) {s : State} (hwf : Memory.wf s.mem = true) :
    Runs (loseLines keep l) s fun _ t => ∃ m n, t = { s with mem := m, free := n } ∧ LostBytes keep l s.mem m := by
  induction l generalizing s with
  | nil => exact runs_pure ⟨s.mem, s.free, rfl, LostBytes.refl keep [] s.mem⟩
  | cons c l ih =>
    have hskip (n : Nat) : Runs (loseLines keep l) { s with free := n } fun _ t =>
        ∃ m n', t = { s with mem := m, free := n' } ∧ LostBytes keep (c :: l) s.mem m := by
      obtain ⟨x, t, hrun, m, n', ht, hm⟩ := ih (s := { s with free := n }) hwf
      exact ⟨x, t, hrun, m, n', ht, hm.skip⟩
    unfold loseLines
    by_cases hkeep : (keep && !c.split) = true
    · rw [if_pos hkeep]
      exact hskip s.free
    · have hc : keep = true → c.split = true := fun h => by simpa [h] using hkeep
      rw [if_neg hkeep]
      refine runs_bind (q := fun _ t => t = { s with free := s.free + 1 }) ⟨_, _, run_drawBool s, rfl⟩ fun lost t ht => ?_
      subst ht
      cases lost with
      | true =>
        refine runs_bind (runs_modify (q := fun _ t => t = { s with free := s.free + 1, mem := memWrite s.mem c.addr c.old }) rfl)
          fun _ t ht => ?_
        subst ht
        obtain ⟨x, t, hrun, m, n', ht, hm⟩ :=
          ih (s := { s with free := s.free + 1, mem := memWrite s.mem c.addr c.old }) (wf_memWrite hwf)
        exact ⟨x, t, hrun, m, n', ht, LostBytes.lose hwf hc hm⟩
      | false => exact hskip (s.free + 1)

/-- The state whose caches and translations are gone and that has sent a message. -/
def State.purged (s : State) (m : List Cell) (n : Nat) (b : BusMsg) : State :=
  { s with mem := m, free := n, stale := [], cached := false, tlb := [], bus := b :: s.bus }

theorem runs_purge (keep : Bool) (b : BusMsg) {s : State} (hwf : Memory.wf s.mem = true) :
    Runs (do emptyCaches keep; flushTlb; emit b) s fun _ t => ∃ m n, t = s.purged m n b ∧ LostBytes keep s.stale s.mem m := by
  refine runs_bind (q := fun _ t => ∃ m n, t = { s with mem := m, free := n, stale := [], cached := false } ∧
    LostBytes keep s.stale s.mem m) ?_ fun _ t ⟨m, n, ht, hm⟩ => ?_
  · refine runs_get_bind (runs_bind (runs_loseLines keep s.stale hwf) fun _ t ⟨m, n, ht, hm⟩ => ?_)
    subst ht
    exact runs_modify ⟨m, n, rfl, hm⟩
  · subst ht
    refine runs_bind (runs_modify (q := fun _ t => t = { s with mem := m, free := n, stale := [], cached := false, tlb := [] }) rfl)
      fun _ t ht => ?_
    subst ht
    exact ⟨_, _, run_emit b _, m, n, rfl, hm⟩

/-- An instruction that empties the caches. -/
theorem completes_purge {i : Instr} {keep : Bool} {b : BusMsg} {s : State}
    (hi : exec i s = instr false (do requireCpl0; emptyCaches keep; flushTlb; emit b) s) (hs : s.ready)
    (hl : s.lockOk false = true) (hp : s.privileged = true) :
    Completes i s fun t => t.gpr = s.gpr ∧ LostBytes keep s.stale s.mem t.mem ∧ t.stale = [] ∧ FlagsSame s t ∧
      Falls { s with tlb := [], cached := false, bus := b :: s.bus } t := by
  refine completes_privileged hi hl hp (runs_mono (runs_purge keep b (s := s.start) hs.1) ?_)
  rintro _ u ⟨m, n, rfl, hm⟩
  refine ⟨{ s with tlb := [], cached := false, bus := b :: s.bus }, passed_of_tr (w := s.tr.noStep) hs (by constructor <;> rfl) rfl rfl,
    fun t hg hmem hst hf ht => ⟨hg, ?_, hst, hf, ht⟩⟩
  rw [hmem]
  exact hm

/-- Settles O31. -/
theorem cachesAndHalt : Obligations.CachesAndHalt := by
  refine ⟨fun s hs hl hp => ?invd, fun s hs hl hp => ?wbinvd, fun m s hs hl hp => ?invlpg, fun s hs hl hp => ?hlt⟩
  case invd =>
    obtain ⟨t, ht, hg, hm, hrest⟩ := completes_purge (i := .invd) (keep := false) (b := .sync) (by rfl) hs hl hp
    exact ⟨t, ht, hg, fun k => (hm k).imp_right fun ⟨c, hc, _, hk⟩ => ⟨c, hc, hk⟩, hrest⟩
  case wbinvd =>
    obtain ⟨t, ht, hg, hm, hrest⟩ := completes_purge (i := .wbinvd) (keep := true) (b := .flush) (by rfl) hs hl hp
    exact ⟨t, ht, hg, fun k => (hm k).imp_right fun ⟨c, hc, hsplit, hk⟩ => ⟨c, hc, hsplit rfl, hk⟩, hrest⟩
  case invlpg =>
    refine completes_privileged (i := .invlpgM m) rfl hl hp (runs_get_bind (runs_modify ⟨_, ?_, fun t hg hm _ hf ht => ⟨untouched_of hg hm, hf, ht⟩⟩))
    refine passed_of_tr (w := s.tr.noStep) hs (by constructor <;> rfl) rfl rfl
  case hlt =>
    refine completes_privileged (i := .hlt) rfl hl hp (runs_bind (q := fun _ t => t = s.start.sent .halt) ⟨_, _, run_emit _ _, rfl⟩
      fun _ u hu => ?_)
    subst hu
    exact runs_modify ⟨{ s with bus := .halt :: s.bus, lat := { s.lat with activity := .halted } }, passed_of_tr (w := true) hs (by constructor <;> rfl) rfl rfl,
      fun t hg hm _ hf ht => ⟨untouched_of hg hm, hf, ht⟩⟩

end Sys2Proof.Machine

/-! SUPPORT. ARPL, LAR, LSL, VERR and VERW. -/
namespace Sys2Proof.Machine
open Host

theorem like_requireProt {s u : State} (h : Like s u) (hp : s.protMode = true) : Runs requireProt u fun _ v => Like s v := by
  obtain ⟨k, st, n, b, rfl⟩ := h
  refine ⟨(), _, ?_, like_noisy s k st n b⟩
  rw [run_requireProt, show (s.noisy k st n b).protMode = s.protMode from rfl, hp, if_pos rfl]

/-- An instruction completes with ZF as its answer, after what it has written. -/
theorem completes_answer {i : Instr} {lockOk : Bool} {body : M Unit} {s x : State} {ok : Bool} {q : State → Prop}
    (hi : exec i s = instr lockOk body s) (hs : s.ready) (hl : s.lockOk lockOk = true)
    (hb : Runs body s.start fun _ u => Like (x.setFlag fZF ok) u) (hx : Calm s x) (he : x.eip = s.nextEip)
    (hf : x.eflags = s.eflags)
    (hq : ∀ t : State, t.gpr = x.gpr → t.mem = x.mem → t.eflags = flagsAfter s 0x40#32 (if ok then 0x40#32 else 0) →
      Falls s t → q t) : Completes i s q := by
  refine completes_of_like hi hs hl hb (hx.trans (calm_setFlag _ _ _)) he fun t hg hm hft ht => hq t hg hm ?_ ht
  rw [hft, setFlag_zf, flagged_eflags, hf]
  rfl

/-! ### ARPL -/

/-- An operand that is located to be read and perhaps written. -/
theorem like_locUpdate {s u : State} (h : Like s u) {rm : Rm} {w : Nat} (hw : 0 < w / 8) (hc : s.can rm (w / 8) .write = true) :
    Runs (locUpdate rm (w / 8)) u fun p v => Located s w p.1 (s.val w rm) (gprAfter s w rm) (memAfter s w rm) ∧ Like s v := by
  obtain ⟨l, v, hrun, hl, hv⟩ := like_locRm h (write := true) hw hc
  cases rm with
  | reg r =>
    cases hrun
    exact runs_pure ⟨hl, hv⟩
  | mem m =>
    obtain ⟨k, st, n, b, rfl⟩ := h
    have hreach : (s.noisy k st n b).reaches (eaSeg (s.noisy k st n b) m) (eaOffset (s.noisy k st n b) m) (w / 8) (w / 8)
        (kindOf true) = true := by simpa [State.can, kindOf] using hc
    obtain ⟨-, j, hloc⟩ := locMem_can hreach hw
    obtain ⟨j', hnote⟩ := noteHits_run (fun d => d.dataHits ((s.noisy k st n b).lin (eaSeg (s.noisy k st n b) m)
      (eaOffset (s.noisy k st n b) m)) (w / 8) false) (s.noisy k st n b)
    have hle : l = .mem (spansAt ((s.noisy k st n b).ea m) (w / 8)) := by
      have h2 : locMem m (w / 8) true (s.noisy k st n b) = .ok l v := hrun
      rw [hloc] at h2
      cases h2
      rfl
    subst hle
    have hcheck := checkedAccess_reaches (write := true) hreach hw
    refine ⟨(.mem (spansAt ((s.noisy k st n b).ea m) (w / 8)), some ((((s.noisy k st n b).seg.get (eaSeg (s.noisy k st n b) m)).base + eaOffset (s.noisy k st n b) m))), (s.noisy k st n b).withHit j', ?_, hl, (like_noisy s k st n b).withHit j'⟩
    rw [locUpdate, run_bind, run_get]
    dsimp only
    rw [run_bind_ok _ hcheck]
    exact run_bind_ok _ hnote

theorem like_noteWrite {s u : State} (h : Like s u) (la : Option Word) (n : Nat) : Runs (noteWrite la n) u fun _ v => Like s v := by
  cases la with
  | none => exact runs_pure h
  | some a =>
    obtain ⟨k, hk⟩ := noteHits_run (fun d => d.dataHits a.toNat n true) u
    exact ⟨_, _, hk, h.withHit k⟩

theorem rpl_lt_iff (d g : Half) : rpl d < rpl g ↔ d.toNat % 4 < g.toNat % 4 := by
  have h (x : Half) : (rpl x).toNat = x.toNat % 4 := by simp [rpl, field]
  rw [BitVec.lt_def, h, h]

/-- The selector with the lower two bits of another. -/
theorem withRpl_eq (d : Half) (r : Word) :
    (d &&& 0xFFFC#16) ||| (r.setWidth 16 &&& 3#16) = BitVec.ofNat 16 (d.toNat - d.toNat % 4 + r.toNat % 4) := by
  have hsplit : d.toNat - d.toNat % 4 + r.toNat % 4 = 2 ^ 2 * (d.toNat / 2 ^ 2) + r.toNat % 2 ^ 2 := by omega
  have hhigh : ∀ j < 16, (0xFFFC#16).getLsbD j = !decide (j < 2) := by decide
  have hlow : ∀ j < 16, (3#16).getLsbD j = decide (j < 2) := by decide
  apply BitVec.eq_of_getLsbD_eq
  intro j hj
  rw [BitVec.getLsbD_or, BitVec.getLsbD_and, BitVec.getLsbD_and, hhigh j hj, hlow j hj, BitVec.getLsbD_setWidth,
    BitVec.getLsbD_ofNat, hsplit, Nat.testBit_two_pow_mul_add _ (Nat.mod_lt _ (by decide)), decide_eq_true hj]
  by_cases h : j < 2
  · rw [if_pos h, Nat.testBit_mod_two_pow]
    simp [h, BitVec.getLsbD]
  · rw [if_neg h, Nat.testBit_div_two_pow, Nat.sub_add_cancel (Nat.le_of_not_lt h)]
    simp [h, BitVec.getLsbD]

theorem like_arpl {s u : State} (h : Like s u) {rm : Rm} (r : Reg) (hp : s.protMode = true) (hc : s.can rm 2 .write = true) :
    Runs (arplBody rm r) u fun _ v =>
      if (s.val 16 rm).toNat % 4 < (s.r32 r).toNat % 4 then
        Like ((s.wrote 16 rm (BitVec.ofNat 16 ((s.val 16 rm).toNat - (s.val 16 rm).toNat % 4 + (s.r32 r).toNat % 4))).setFlag fZF true) v
      else Like (s.setFlag fZF false) v := by
  refine runs_bind (like_requireProt h hp) fun _ v1 h1 => ?_
  refine runs_bind (like_locUpdate (w := 16) h1 (by decide) hc) fun p v2 ⟨hloc, h2⟩ => ?_
  refine runs_bind (hloc.like_read h2) fun d v3 ⟨hd, h3⟩ => runs_bind (like_readG h3 16 r) fun g v4 ⟨hg, h4⟩ => ?_
  subst hd hg
  have hlow : ((s.r32 r).setWidth 16).toNat % 4 = (s.r32 r).toNat % 4 := by
    rw [BitVec.toNat_setWidth]
    omega
  have hcond : rpl (s.val 16 rm) < rpl ((s.r32 r).setWidth 16) ↔ (s.val 16 rm).toNat % 4 < (s.r32 r).toNat % 4 := by
    rw [rpl_lt_iff, hlow]
  by_cases hup : (s.val 16 rm).toNat % 4 < (s.r32 r).toNat % 4
  · refine runs_if_pos (hcond.2 hup) (runs_bind (like_noteWrite h4 _ _) fun _ v5 h5 => ?_)
    refine runs_bind (hloc.like_write h5 _) fun _ v6 h6 => ?_
    rw [withRpl_eq] at h6
    simp only [if_pos hup]
    exact like_putFlag h6 _ _
  · simp only [if_neg hup]
    exact runs_if_neg (fun h => hup (hcond.1 h)) (like_putFlag h4 _ _)

/-! ### The tests of a descriptor -/

theorem visible_eq (d : Desc) (sel : Half) (cpl : BitVec 2) :
    visible d sel cpl = (decide (cpl ≤ descDpl d) && decide (rpl sel ≤ descDpl d)) := by
  have h (a b : BitVec 2) : (!decide (a > b)) = decide (a ≤ b) := by
    rw [← decide_not]
    exact decide_eq_decide.2 BitVec.not_lt
  rw [visible, h, h]

theorem like_testedDesc {s u : State} (h : Like s u) {sel : Half} {a : Nat} {d : Desc} (hn : isNull sel = false)
    (hd : s.descriptor sel = some (a, d)) : Runs (testedDesc sel) u fun f v => f = some d ∧ Like s v := by
  refine runs_if_neg (by rw [hn]; exact Bool.false_ne_true) (runs_bind (like_fetchDesc h hd) fun f v ⟨⟨w, hf, _⟩, hv⟩ => runs_pure ⟨?_, hv⟩)
  rw [hf]
  rfl

theorem like_testedDesc_none {s u : State} (h : Like s u) {sel : Half} (hn : isNull sel = true ∨ s.descAddr sel = none) :
    Runs (testedDesc sel) u fun f v => f = none ∧ Like s v := by
  cases hnull : isNull sel with
  | true => exact runs_if_pos hnull (runs_pure ⟨rfl, h⟩)
  | false =>
    have ha : s.descAddr sel = none := by simpa [hnull] using hn
    refine runs_if_neg (by rw [hnull]; exact Bool.false_ne_true) (runs_bind (q := fun f v => f = none ∧ Like s v) ?_
      fun f v ⟨hf, hv⟩ => runs_pure ⟨by rw [hf]; rfl, hv⟩)
    refine like_get_bind h fun k st n b => ?_
    rw [noisy_descAddr, ha]
    exact runs_pure ⟨rfl, like_noisy s k st n b⟩

/-- A test sets ZF by the descriptor it has found, or clears it. -/
theorem like_verify {s u : State} (h : Like s u) {ok : Desc → Half → BitVec 2 → Bool} {rm : Rm} {o : Option Desc}
    (hp : s.protMode = true) (hc : s.can rm 2 .read = true)
    (ht : ∀ v, Like s v → Runs (testedDesc (s.val 16 rm)) v fun f w => f = o ∧ Like s w) :
    Runs (verify ok rm) u fun _ v => Like (s.setFlag fZF (o.elim false fun d => ok d (s.val 16 rm) s.cpl)) v := by
  refine runs_bind (like_requireProt h hp) fun _ v1 h1 => ?_
  refine runs_bind (like_readRm (w := 16) h1 (by decide) hc) fun sel v2 ⟨hsel, h2⟩ => ?_
  subst hsel
  refine runs_bind (ht v2 h2) fun f v3 ⟨hf, h3⟩ => like_get_bind h3 fun k st n b => ?_
  subst hf
  cases f with
  | none => exact like_putFlag (like_noisy s k st n b) _ _
  | some d => exact like_putFlag (like_noisy s k st n b) _ _

/-- The state after LAR or LSL has found a descriptor, or none. -/
def State.examined (s : State) (types : List Nat) (value : Desc → Word) (r : Reg) (sel : Half) : Option Desc → State
  | none => s.setFlag fZF false
  | some d =>
    if Machine.examined types d sel s.cpl then (s.setRw (bits s.o32) r ((value d).setWidth _)).setFlag fZF true
    else s.setFlag fZF false

theorem like_examine {s u : State} (h : Like s u) {types : List Nat} {value : Desc → Word} {r : Reg} {rm : Rm} {o : Option Desc}
    (hp : s.protMode = true) (hc : s.can rm 2 .read = true)
    (ht : ∀ v, Like s v → Runs (testedDesc (s.val 16 rm)) v fun f w => f = o ∧ Like s w) :
    Runs (examine types value r rm) u fun _ v => Like (s.examined types value r (s.val 16 rm) o) v := by
  refine runs_bind (like_requireProt h hp) fun _ v1 h1 => like_getW h1 ?_
  refine runs_bind (like_readRm (w := 16) h1 (by decide) hc) fun sel v2 ⟨hsel, h2⟩ => ?_
  subst hsel
  refine runs_bind (ht v2 h2) fun f v3 ⟨hf, h3⟩ => like_get_bind h3 fun k st n b => ?_
  subst hf
  cases f with
  | none => exact like_putFlag (like_noisy s k st n b) _ _
  | some d =>
    rw [State.examined]
    by_cases hok : Machine.examined types d (s.val 16 rm) s.cpl = true
    · rw [if_pos hok]
      exact runs_if_pos hok (runs_bind (like_writeReg (like_noisy s k st n b) _ r _) fun _ v h => like_putFlag h _ _)
    · rw [if_neg hok]
      exact runs_if_neg hok (like_putFlag (like_noisy s k st n b) _ _)

/-- VERR and VERW complete with their answer where they find a descriptor. -/
theorem completes_verify {i : Instr} {ok : Desc → Half → BitVec 2 → Bool} {rm : Rm} {d : Desc} {s : State}
    (hi : exec i s = instr false (verify ok rm) s) (hs : s.ready) (hl : s.lockOk false = true) (hp : s.protMode = true)
    (hc : s.can rm 2 .read = true)
    (ht : ∀ v, Like s.start v → Runs (testedDesc (s.val 16 rm)) v fun f w => f = some d ∧ Like s.start w) :
    Completes i s fun t => Untouched s t ∧
      t.eflags = flagsAfter s 0x40#32 (if ok d (s.val 16 rm) s.cpl then 0x40#32 else 0) ∧ Falls s t := by
  have hrun := like_verify (ok := ok) (Like.refl s.start) hp (by rw [start_can]; exact hc) (o := some d) (by rw [start_val]; exact ht)
  rw [start_val] at hrun
  exact completes_answer (x := s.start) hi hs hl hrun (calm_start s) rfl rfl
    fun t hg hm hf hfalls => ⟨untouched_of hg hm, hf, hfalls⟩

/-- VERR and VERW complete with ZF clear where they find none. -/
theorem completes_verify_none {i : Instr} {ok : Desc → Half → BitVec 2 → Bool} {rm : Rm} {s : State}
    (hi : exec i s = instr false (verify ok rm) s) (hs : s.ready) (hl : s.lockOk false = true) (hp : s.protMode = true)
    (hc : s.can rm 2 .read = true)
    (ht : ∀ v, Like s.start v → Runs (testedDesc (s.val 16 rm)) v fun f w => f = none ∧ Like s.start w) :
    Completes i s fun t => Untouched s t ∧ t.eflags = flagsAfter s 0x40#32 0 ∧ Falls s t := by
  have hrun := like_verify (ok := ok) (Like.refl s.start) hp (by rw [start_can]; exact hc) (o := none) (by rw [start_val]; exact ht)
  exact completes_answer (ok := false) (x := s.start) hi hs hl hrun (calm_start s) rfl rfl
    fun t hg hm hf hfalls => ⟨untouched_of hg hm, hf, hfalls⟩

/-- LAR and LSL complete with their answer where they find a descriptor. -/
theorem completes_examine {i : Instr} {types : List Nat} {value : Desc → Word} {r : Reg} {rm : Rm} {d : Desc} {s : State}
    (hi : exec i s = instr false (examine types value r rm) s) (hs : s.ready) (hl : s.lockOk false = true) (hp : s.protMode = true)
    (hc : s.can rm 2 .read = true)
    (ht : ∀ v, Like s.start v → Runs (testedDesc (s.val 16 rm)) v fun f w => f = some d ∧ Like s.start w) :
    Completes i s fun t =>
      (if examined types d (s.val 16 rm) s.cpl then Wrote s t (bits s.o32) (.reg r) ((value d).setWidth _) else Untouched s t) ∧
      t.eflags = flagsAfter s 0x40#32 (if examined types d (s.val 16 rm) s.cpl then 0x40#32 else 0) ∧ Falls s t := by
  have hrun := like_examine (types := types) (value := value) (r := r) (Like.refl s.start) hp (by rw [start_can]; exact hc)
    (o := some d) (by rw [start_val]; exact ht)
  rw [start_val, State.examined] at hrun
  by_cases hok : examined types d (s.val 16 rm) s.cpl = true
  · simp only [if_pos hok]
    rw [if_pos (show examined types d (s.val 16 rm) s.start.cpl = true from hok), start_o32] at hrun
    refine completes_answer (ok := true) (x := s.start.setRw (bits s.o32) r ((value d).setWidth _)) hi hs hl hrun
      ((calm_start s).trans (calm_setRw _ _ _ _)) (by rw [setRw_eq]; rfl) (by rw [setRw_eq]; rfl) fun t hg hm hf hfalls =>
      ⟨wrote_of_start (rm := .reg r) hs.1 hg (hm.trans (by rw [setRw_eq]; rfl)), hf, hfalls⟩
  · simp only [if_neg hok]
    rw [if_neg (show ¬ examined types d (s.val 16 rm) s.start.cpl = true from hok)] at hrun
    exact completes_answer (ok := false) (x := s.start) hi hs hl hrun (calm_start s) rfl rfl fun t hg hm hf hfalls =>
      ⟨untouched_of hg hm, hf, hfalls⟩

/-- LAR and LSL complete with ZF clear where they find none. -/
theorem completes_examine_none {i : Instr} {types : List Nat} {value : Desc → Word} {r : Reg} {rm : Rm} {s : State}
    (hi : exec i s = instr false (examine types value r rm) s) (hs : s.ready) (hl : s.lockOk false = true) (hp : s.protMode = true)
    (hc : s.can rm 2 .read = true)
    (ht : ∀ v, Like s.start v → Runs (testedDesc (s.val 16 rm)) v fun f w => f = none ∧ Like s.start w) :
    Completes i s fun t => Untouched s t ∧ t.eflags = flagsAfter s 0x40#32 0 ∧ Falls s t := by
  have hrun := like_examine (types := types) (value := value) (r := r) (Like.refl s.start) hp (by rw [start_can]; exact hc)
    (o := none) (by rw [start_val]; exact ht)
  exact completes_answer (ok := false) (x := s.start) hi hs hl hrun (calm_start s) rfl rfl fun t hg hm hf hfalls =>
    ⟨untouched_of hg hm, hf, hfalls⟩

/-! ### The instructions -/

theorem exec_verr (rm : Rm) (s : State) : exec (.verrEw rm) s = instr false (verify (fun d sel cpl =>
    isReadable (descS d) (descType d) && (descConforming d || visible d sel cpl)) rm) s := rfl

theorem exec_verw (rm : Rm) (s : State) : exec (.verwEw rm) s = instr false (verify (fun d sel cpl =>
    isWritable (descS d) (descType d) && visible d sel cpl) rm) s := rfl

theorem exec_lar (r : Reg) (rm : Rm) (s : State) : exec (.larGvEw r rm) s =
    instr false (examine [1, 2, 3, 4, 5, 9, 11, 12] (fun d => field d 32 32 &&& 0x00F0FF00#32) r rm) s := rfl

theorem exec_lsl (r : Reg) (rm : Rm) (s : State) : exec (.lslGvEw r rm) s =
    instr false (examine [1, 2, 3, 9, 11] descLimit r rm) s := rfl

/-- Settles O32. -/
theorem selectorTests : Obligations.SelectorTests := by
  refine ⟨fun rm r s hs hl hp hc => ?arpl, fun m r s hl hp ht => ?readOnly, fun i rm s hi hs hl hp hc hn => ?none,
    fun i rm r a d ok v s hs hl hp hc => ?some⟩
  case arpl =>
    have hrun := like_arpl (Like.refl s.start) (rm := rm) r hp (by rw [start_can]; exact hc)
    simp only [start_val, start_r32] at hrun
    by_cases hup : (s.val 16 rm).toNat % 4 < (s.r32 r).toNat % 4
    · simp only [if_pos hup, decide_eq_true hup] at hrun ⊢
      exact completes_answer (ok := true) (x := s.start.wrote 16 rm _) (by rfl) hs hl hrun ((calm_start s).trans (calm_wrote _ _ _ _))
        rfl rfl fun t hg hm hf hfalls => ⟨wrote_of_start hs.1 hg hm, hf, hfalls⟩
    · simp only [if_neg hup, decide_eq_false hup] at hrun ⊢
      exact completes_answer (ok := false) (x := s.start) (by rfl) hs hl hrun (calm_start s) rfl rfl
        fun t hg hm hf hfalls => ⟨untouched_of hg hm, hf, hfalls⟩
  case readOnly =>
    have hcheck : checkedAccess (eaSeg s.start m) (eaOffset s.start m) 2 2 true s.start = raise 13 (some 0) s.start := by
      rw [checkedAccess, run_bind, run_get, start_eaSeg]
      exact run_bind_raise _ (run_segLinear_type (s := s.start) ht)
    refine raises_of_body (body := arplBody (.mem m) r) (by rfl) hl ?_
    have hprot : requireProt s.start = .ok () s.start := by
      rw [run_requireProt, show s.start.protMode = true from hp, if_pos rfl]
    refine (run_bind_ok _ hprot).trans (run_bind_raise _ ?_)
    rw [locUpdate, run_bind, run_get]
    exact run_bind_raise _ hcheck
  case none =>
    have ht (v : State) (hv : Like s.start v) : Runs (testedDesc (s.val 16 rm)) v fun f w => f = none ∧ Like s.start w :=
      like_testedDesc_none hv (hn.imp_right fun h => h)
    rcases hi with rfl | rfl | ⟨r, rfl | rfl⟩
    · exact completes_verify_none (exec_verr rm s) hs hl hp hc ht
    · exact completes_verify_none (exec_verw rm s) hs hl hp hc ht
    · exact completes_examine_none (exec_lar r rm s) hs hl hp hc ht
    · exact completes_examine_none (exec_lsl r rm s) hs hl hp hc ht
  case some =>
    dsimp only
    intro hnull hd hi
    have ht (v : State) (hv : Like s.start v) : Runs (testedDesc (s.val 16 rm)) v fun f w => f = some d ∧ Like s.start w :=
      like_testedDesc hv hnull hd
    rw [← visible_eq] at hi
    rcases hi with ⟨rfl, rfl, rfl⟩ | ⟨rfl, rfl, rfl⟩ | ⟨rfl, rfl, rfl⟩ | ⟨rfl, rfl, rfl⟩
    · have hdone := completes_verify (exec_verr rm s) hs hl hp hc ht
      exact hdone
    · have hdone := completes_verify (exec_verw rm s) hs hl hp hc ht
      exact hdone
    · have hdone := completes_examine (exec_lar r rm s) hs hl hp hc ht
      exact hdone
    · have hdone := completes_examine (exec_lsl r rm s) hs hl hp hc ht
      exact hdone

end Sys2Proof.Machine

/-! SUPPORT. The control registers. -/
namespace Sys2Proof.Machine
open Host

/-! ### The page-directory-pointer table -/

/-- A part of plain RAM is plain RAM. -/
theorem ramAt_part {s : State} {a k n m : Nat} (h : s.ramAt a n = true) (hk : k + m ≤ n) : s.ramAt (a + k) m = true := by
  obtain ⟨hmtrr, ha, hm, hapic⟩ := (ramAt_iff s a n).1 h
  exact (ramAt_iff s (a + k) m).2 ⟨hmtrr, ha, hm, hapic.imp_right fun h => by omega⟩

theorem run_othersGap {s : State} (h : s.others = []) : othersGap s = .ok () s := by
  rw [othersGap, run_modify, State.othersWrite, h]

/-- The entries that are read, one after another. -/
theorem run_readPdpteList {s : State} (ho : s.others = []) {base : Nat} (hr : s.ramAt base 32 = true) {l : List Nat}
    (hl : ∀ k ∈ l, k < 4) :
    readPdpteList base l s = .ok (l.map fun k => (k, BitVec.ofNat 64 (s.num (base + 8 * k) 8))) s := by
  induction l with
  | nil => rfl
  | cons k ks ih =>
    have hk : k < 4 := hl k List.mem_cons_self
    have hread : physRead (base + 8 * k) 8 s = .ok (s.num (base + 8 * k) 8) s :=
      run_physRead (ramAt_part hr (by omega)) (by decide)
    rw [readPdpteList, run_bind_ok _ (run_othersGap ho), run_bind_ok _ hread,
      run_bind_ok _ (ih fun j hj => hl j (List.mem_cons_of_mem k hj))]
    rfl

/-- An entry of the page-directory-pointer table. -/
def State.pdpteAt (s : State) (cr3 : Word) (k : Nat) : QWord := BitVec.ofNat 64 (s.num ((cr3.toNat &&& 0xFFFFFFE0) + 8 * k) 8)

theorem badPdpte_eq (e : QWord) : badPdpte e = !(!bit e 0 || decide (e &&& Config.pdpteReserved = 0)) := by
  simp [badPdpte]

/-- What a table whose entries are good asks of memory. -/
theorem pdpt_eq_some {s : State} {cr3 : Word} {p : QWord × QWord × QWord × QWord} (h : s.pdpt cr3 = some p) :
    s.ramAt (cr3.toNat &&& 0xFFFFFFE0) 32 = true ∧ (∀ k < 4, badPdpte (s.pdpteAt cr3 k) = false) ∧
      p = (s.pdpteAt cr3 0, s.pdpteAt cr3 1, s.pdpteAt cr3 2, s.pdpteAt cr3 3) := by
  unfold State.pdpt at h
  dsimp only at h
  rw [Option.ite_none_right_eq_some, Bool.and_eq_true, Bool.and_eq_true, Bool.and_eq_true, Bool.and_eq_true] at h
  obtain ⟨⟨⟨⟨⟨hr, h0⟩, h1⟩, h2⟩, h3⟩, hp⟩ := h
  refine ⟨hr, fun k hk => ?_, (Option.some.inj hp).symm⟩
  rw [badPdpte_eq, Bool.not_eq_false']
  interval_cases k
  · exact h0
  · exact h1
  · exact h2
  · exact h3

theorem run_readPdptes {s : State} (ho : s.others = []) (hr : s.ramAt (s.sys.cr3.toNat &&& 0xFFFFFFE0) 32 = true) :
    ∃ e, readPdptes s = .ok e s ∧ ∀ k < 4, e k = s.pdpteAt s.sys.cr3 k := by
  have horder : pdpteOrder s = .ok (List.range 4) s := by
    rw [pdpteOrder, run_bind, run_get]
    dsimp only
    rw [ho]
    rfl
  have hlist := run_readPdpteList ho hr (l := List.range 4) fun k hk => List.mem_range.1 hk
  refine ⟨fun k => (((List.range 4).map fun k => (k, s.pdpteAt s.sys.cr3 k)).lookup k).getD 0, ?_, fun k hk => ?_⟩
  · rw [readPdptes, run_bind_ok _ horder, run_bind, run_get]
    dsimp only
    rw [run_bind_ok _ hlist]
    rfl
  · interval_cases k <;> rfl

/-- The table that CR3 names is loaded, where its entries are good. -/
theorem run_loadPdptes {s : State} (ho : s.others = []) {p : QWord × QWord × QWord × QWord} (hp : s.pdpt s.sys.cr3 = some p) :
    loadPdptes s = .ok () { s with sys := s.sys.withPdpt p } := by
  obtain ⟨hr, hgood, rfl⟩ := pdpt_eq_some hp
  obtain ⟨e, he, hval⟩ := run_readPdptes ho hr
  rw [loadPdptes, run_bind_ok _ he]
  simp only [hval 0 (by decide), hval 1 (by decide), hval 2 (by decide), hval 3 (by decide), hgood 0 (by decide),
    hgood 1 (by decide), hgood 2 (by decide), hgood 3 (by decide), Bool.or_self, Bool.false_eq_true, if_false, run_modify,
    State.setPdptes]
  rfl

/-! ### MOV of a control register -/

/-- The state with other control registers and translations. -/
def State.controlled (s : State) (y : Sys) (l : List TlbEntry) : State := { s with sys := y, tlb := l }

theorem passed_controlled {s : State} (hs : s.ready) (y : Sys) (l : List TlbEntry) :
    Passed (s.controlled y l) (s.start.controlled y l) :=
  passed_of_tr (w := s.tr.noStep) hs (by constructor <;> rfl) rfl rfl

/-- A table that the control registers may ask for. -/
def Sys.loaded (y : Sys) (table : Bool) (p : QWord × QWord × QWord × QWord) : Sys := if table then y.withPdpt p else y

theorem run_tableLoad {s : State} {table : Bool} {cr3 : Word} (h3 : s.sys.cr3 = cr3)
    (h : table = true → s.others = [] ∧ (s.pdpt cr3).isSome = true) :
    whenM table loadPdptes s = .ok () { s with sys := s.sys.loaded table ((s.pdpt cr3).getD (0, 0, 0, 0)) } := by
  cases table with
  | false => rfl
  | true =>
    obtain ⟨ho, hsome⟩ := h rfl
    obtain ⟨p, hp⟩ := Option.isSome_iff_exists.1 hsome
    subst h3
    rw [run_whenM, if_pos rfl, run_loadPdptes ho hp, hp]
    rfl

theorem crExists_eq (n : Fin 8) : crExists n.val = isCr n := by
  revert n
  decide

/-- An instruction that writes control registers and then leaves the status flags undefined completes. -/
theorem completes_controlled {i : Instr} {body w : M Unit} {s : State} {y : Sys} {l : List TlbEntry}
    (hi : exec i s = instr false body s) (hs : s.ready) (hl : s.lockOk false = true)
    (hb : body s.start = (w >>= fun _ => freeArith) s.start) (hw : w s.start = .ok () (s.start.controlled y l)) :
    Completes i s fun t => ∃ f : Word, Untouched s t ∧ t.eflags = flagsAfter s arithMask f ∧ Falls (s.controlled y l) t := by
  refine completes_passed hi hl ?_
  rw [Runs, hb, run_bind_ok _ hw]
  refine runs_mono (like_freeArith (Like.refl _)) ?_
  rintro _ u ⟨f, hu⟩
  refine ⟨s.controlled y l, _, hu, ?_, fun t hg hm hf ht => ⟨f, untouched_of hg hm, hf, ht⟩⟩
  obtain ⟨hstill, he, hbr, hk, hr⟩ := passed_controlled hs y l
  exact ⟨by constructor <;> rfl, he, hbr, hk, hr⟩

/-- MOV to a control register that exists is what it writes, and then undefined flags. -/
theorem run_movToCr {s : State} (hp : s.privileged = true) {n : Fin 8} (hn : isCr n = true) (r : Reg) :
    movToCr n.val r s = ((if n = 0 then writeCr0 (s.r32 r)
      else if n = 2 then modify fun t => { t with sys := { t.sys with cr2 := s.r32 r } }
      else if n = 3 then loadCr3 (s.r32 r) else writeCr4 (s.r32 r) : M Unit) >>= fun _ => freeArith) s := by
  have hreq : requireCpl0 s = .ok () s := by rw [run_requireCpl0, hp, if_pos rfl]
  rw [movToCr, run_bind_ok _ hreq, crExists_eq, hn, Bool.not_true, if_neg Bool.false_ne_true, run_bind, run_get]
  fin_cases n <;> rfl

theorem run_movToCr_bad {s : State} (hp : s.privileged = true) {n : Fin 8} (hn : isCr n = false) (r : Reg) :
    movToCr n.val r s = raise 6 none s := by
  have hreq : requireCpl0 s = .ok () s := by rw [run_requireCpl0, hp, if_pos rfl]
  rw [movToCr, run_bind_ok _ hreq, crExists_eq, hn]
  rfl

theorem run_movFromCr_bad {s : State} (hp : s.privileged = true) {n : Fin 8} (hn : isCr n = false) (r : Reg) :
    movFromCr r n.val s = raise 6 none s := by
  have hreq : requireCpl0 s = .ok () s := by rw [run_requireCpl0, hp, if_pos rfl]
  rw [movFromCr, run_bind_ok _ hreq, crExists_eq, hn]
  rfl

/-- What is left when PE and PG have perhaps changed. -/
theorem run_afterCr0 {s : State} {old new : Word} {table : Bool} (ht : table = (s.paging && s.pae && (bit old 31 != bit new 31)))
    (h : table = true → s.others = [] ∧ (s.pdpt s.sys.cr3).isSome = true) :
    afterCr0 old new s = .ok () (s.controlled (s.sys.loaded table ((s.pdpt s.sys.cr3).getD (0, 0, 0, 0)))
      (if bit old 0 != bit new 0 || bit old 31 != bit new 31 then [] else s.tlb)) := by
  have hflush : whenM (bit old 0 != bit new 0 || bit old 31 != bit new 31) flushTlb s =
      .ok () (s.controlled s.sys (if bit old 0 != bit new 0 || bit old 31 != bit new 31 then [] else s.tlb)) := by
    rw [run_whenM]
    split <;> rfl
  rw [afterCr0, run_bind_ok _ hflush, run_bind, run_get]
  subst ht
  exact run_tableLoad (s := s.controlled s.sys _) rfl h

theorem bit_cr0Value (v : Word) : bit (cr0Value v) 31 = bit v 31 := by
  simp [bit, cr0Value, cr0Mask]

theorem run_writeCr0 {s : State} {v : Word} {table : Bool} (hbad : cr0Bad v = false)
    (ht : table = ((bit s.sys.cr0 31 != bit v 31) && bit v 31 && s.pae))
    (h : table = true → s.others = [] ∧ (s.pdpt s.sys.cr3).isSome = true) :
    writeCr0 v s = .ok () (s.controlled (Sys.loaded { s.sys with cr0 := cr0Value v } table ((s.pdpt s.sys.cr3).getD (0, 0, 0, 0)))
      (if (bit s.sys.cr0 31 != bit v 31) || (bit s.sys.cr0 0 != bit v 0) then [] else s.tlb)) := by
  have hpg : State.paging { s with sys := { s.sys with cr0 := cr0Value v } } = bit v 31 := bit_cr0Value v
  have hpae : State.pae { s with sys := { s.sys with cr0 := cr0Value v } } = s.pae := rfl
  have hafter := run_afterCr0 (s := { s with sys := { s.sys with cr0 := cr0Value v } }) (old := s.sys.cr0) (new := v)
    (table := table) (by rw [hpg, hpae, ht]; ac_rfl) h
  rw [writeCr0, hbad, if_neg Bool.false_ne_true, run_bind, run_get]
  dsimp only
  rw [run_bind, run_modify]
  dsimp only
  rw [hafter, Bool.or_comm]
  rfl

theorem run_loadCr3 {s : State} {v : Word} (h : (s.paging && s.pae) = true → s.others = [] ∧
      (s.pdpt (cr3Value s.pae v)).isSome = true) :
    loadCr3 v s = .ok () (s.controlled
      (Sys.loaded { s.sys with cr3 := cr3Value s.pae v } (s.paging && s.pae) ((s.pdpt (cr3Value s.pae v)).getD (0, 0, 0, 0)))
      (s.tlb.filter fun e => e.global && bit s.sys.cr4 7)) := by
  have hput : putCr3 v s = .ok () (s.controlled { s.sys with cr3 := cr3Value s.pae v }
      (s.tlb.filter fun e => e.global && bit s.sys.cr4 7)) := rfl
  rw [loadCr3, run_bind_ok _ hput, run_bind, run_get]
  exact run_tableLoad (s := s.controlled { s.sys with cr3 := cr3Value s.pae v } _) rfl h

theorem run_writeCr4 {s : State} {v : Word} {changed : Bool} (hres : v &&& 0xFFFFFE00#32 = 0)
    (hc : changed = decide ((s.sys.cr4 ^^^ v) &&& 0xB0#32 ≠ 0))
    (h : (changed && s.paging && bit v 5) = true → s.others = [] ∧ (s.pdpt s.sys.cr3).isSome = true) :
    writeCr4 v s = .ok () (s.controlled
      (Sys.loaded { s.sys with cr4 := v } (changed && s.paging && bit v 5) ((s.pdpt s.sys.cr3).getD (0, 0, 0, 0)))
      (if changed then [] else s.tlb)) := by
  rw [writeCr4, if_neg (fun hne => hne hres), run_bind, run_get]
  dsimp only
  rw [run_bind, run_modify, ← hc]
  dsimp only
  cases changed with
  | false => rfl
  | true =>
    refine (run_whenM true _ _).trans ((if_pos rfl).trans ?_)
    rw [flushTlb, run_bind, run_modify]
    exact run_tableLoad (s := s.controlled { s.sys with cr4 := v } []) rfl h

theorem exec_movToCr (n : Fin 8) (r : Reg) (s : State) : exec (.movCdRd n r) s = instr false (movToCr n.val r) s := rfl
theorem exec_movFromCr (n : Fin 8) (r : Reg) (s : State) : exec (.movRdCd r n) s = instr false (movFromCr r n.val) s := rfl

/-- MOV from a control register that exists. -/
theorem like_movFromCr {s u : State} (h : Like s u) (hp : s.privileged = true) {n : Fin 8} (hn : isCr n = true) (r : Reg) :
    Runs (movFromCr r n.val) u fun _ v => ∃ f : Word, Like ((s.setR32 r (s.sys.cr n)).flagged arithMask f) v := by
  refine runs_bind (like_requireCpl0 h hp) fun _ v1 h1 => ?_
  rw [crExists_eq, hn, Bool.not_true, if_neg Bool.false_ne_true]
  refine like_get_bind h1 fun k st c b => ?_
  have hval : (if n.val = 0 then s.sys.cr0 else if n.val = 2 then s.sys.cr2 else if n.val = 3 then s.sys.cr3 else s.sys.cr4) =
      s.sys.cr n := by fin_cases n <;> rfl
  rw [noisy_sys, hval]
  exact runs_bind (like_putR32 (like_noisy s k st c b) r _) fun _ v hv => like_freeArith hv

/-- Write CR2. -/
def writeCr2 (v : Word) : M Unit := modify fun t => { t with sys := { t.sys with cr2 := v } }

theorem run_writeCr2 (v : Word) (s : State) : writeCr2 v s = .ok () (s.controlled { s.sys with cr2 := v } s.tlb) := rfl

theorem writeCr2_eq (v : Word) (s : State) : ((if (2 : Fin 8) = 0 then writeCr0 v
    else if (2 : Fin 8) = 2 then modify fun t => { t with sys := { t.sys with cr2 := v } }
    else if (2 : Fin 8) = 3 then loadCr3 v else writeCr4 v : M Unit) >>= fun _ => freeArith) s =
      (writeCr2 v >>= fun _ => freeArith) s := rfl

theorem movControl : MovControl := by
  refine ⟨fun r n s hs hl hp hn => ?read, fun r s hs hl hp => ?cr0, fun r s hs hl hp => ?cr2, fun r s hs hl hp => ?cr3,
    fun r s hs hl hp => ?cr4⟩
  case read =>
    refine completes_of_some_like (exec_movFromCr n r s) hs hl (runs_mono (like_movFromCr (Like.refl s.start) hp hn r) ?_)
    rintro _ u ⟨f, hu⟩
    refine ⟨_, hu, ((calm_start s).trans (calm_setR32 _ _ _)).trans (calm_flagged _ _ _), rfl, fun t hg hm hf ht =>
      ⟨f, ?_, hf, ht⟩⟩
    rw [← wrote_reg32] at hg
    exact wrote_of_start hs.1 hg hm
  case cr0 =>
    dsimp only
    intro h1 h2 ht
    have hbad : cr0Bad (s.r32 r) = false := by rw [cr0Bad, h1, h2]; rfl
    refine completes_controlled (exec_movToCr 0 r s) hs hl (run_movToCr (s := s.start) hp rfl r) (w := writeCr0 (s.r32 r)) ?_
    exact run_writeCr0 (s := s.start) hbad rfl ht
  case cr2 =>
    exact completes_controlled (exec_movToCr 2 r s) hs hl ((run_movToCr (s := s.start) hp rfl r).trans (writeCr2_eq _ _))
      (run_writeCr2 (s.r32 r) s.start)
  case cr3 =>
    dsimp only
    intro ht
    exact completes_controlled (exec_movToCr 3 r s) hs hl (run_movToCr (s := s.start) hp rfl r) (w := loadCr3 (s.r32 r))
      (run_loadCr3 (s := s.start) ht)
  case cr4 =>
    dsimp only
    intro hres ht
    refine completes_controlled (exec_movToCr 4 r s) hs hl (run_movToCr (s := s.start) hp rfl r) (w := writeCr4 (s.r32 r)) ?_
    exact run_writeCr4 (s := s.start) hres rfl ht

theorem movControlFaults : MovControlFaults := by
  refine ⟨fun r s hl hp h => ?_, fun r s hl hp h => ?_, fun r n s hl hp hn => ⟨?_, ?_⟩⟩
  · have hbad : cr0Bad (s.r32 r) = true := by
      rw [cr0Bad, Bool.or_eq_true]
      exact h
    have hw : writeCr0 (s.r32 r) s.start = raise 13 (some 0) s.start := by
      rw [writeCr0, hbad, if_pos rfl, run_raiseGP0]
    exact raises_of_body (exec_movToCr 0 r s) hl ((run_movToCr (s := s.start) hp rfl r).trans (run_bind_raise _ hw))
  · have hw : writeCr4 (s.r32 r) s.start = raise 13 (some 0) s.start := by
      rw [writeCr4, if_pos h, run_raiseGP0]
    exact raises_of_body (exec_movToCr 4 r s) hl ((run_movToCr (s := s.start) hp rfl r).trans (run_bind_raise _ hw))
  · exact raises_of_body (exec_movToCr n r s) hl (run_movToCr_bad (s := s.start) hp hn r)
  · exact raises_of_body (exec_movFromCr n r s) hl (run_movFromCr_bad (s := s.start) hp hn r)

/-! ### The machine status word -/

theorem like_storeWord_reg {s u : State} (h : Like s u) (r : Reg) (v : Half) :
    Runs (storeWord (.reg r) v) u fun _ t => ∃ x : Word, x.setWidth 16 = v ∧ Like (s.wrote (bits s.o32) (.reg r) (x.setWidth _)) t := by
  refine like_get_bind h fun k st n b => ?_
  have hu := like_noisy s k st n b
  simp only [noisy_o32]
  cases hw : s.o32 with
  | true =>
    refine runs_bind (like_draw hu 16) fun f w hw => runs_mono (like_putR32 hw r _) fun _ t ht => ⟨(f ++ v : BitVec 32), ?_, ?_⟩
    · apply BitVec.eq_of_getLsbD_eq
      intro i hi
      rw [BitVec.getLsbD_setWidth, BitVec.getLsbD_append]
      simp [hi]
    · rw [bits, if_pos rfl, BitVec.setWidth_eq, wrote_reg32]
      exact ht
  | false =>
    refine runs_mono (like_putR16 hu r v) fun _ t ht => ⟨v.setWidth 32, by simp, ?_⟩
    rw [wrote_reg]
    simpa [State.setRw, bits] using ht

/-- An instruction that stores a 16-bit item in a register completes. -/
theorem completes_storeWord_reg {i : Instr} {body : M Unit} {r : Reg} {v : Half} {s : State} (hi : exec i s = instr false body s)
    (hs : s.ready) (hl : s.lockOk false = true)
    (hb : ∀ q : Unit → State → Prop, (∀ u, Like s.start u → Runs (storeWord (.reg r) v) u q) → Runs body s.start q) :
    Completes i s fun t =>
      (∃ x : Word, x.setWidth 16 = v ∧ Wrote s t (bits s.o32) (.reg r) (x.setWidth _)) ∧ FlagsSame s t ∧ Falls s t := by
  refine completes_of_some_like hi hs hl (hb _ fun u hu => runs_mono (like_storeWord_reg hu r v) ?_)
  rintro _ t ⟨x, hx, ht⟩
  exact ⟨_, ht, (calm_start s).trans (calm_wrote _ _ _ _), rfl, fun t hg hm hf hfalls =>
    ⟨⟨x, hx, wrote_of_start hs.1 hg hm⟩, hf, hfalls⟩⟩

/-- An instruction that stores a 16-bit item in memory completes. -/
theorem completes_storeWord_mem {i : Instr} {body : M Unit} {m : Ea} {v : Half} {s : State} (hi : exec i s = instr false body s)
    (hs : s.ready) (hl : s.lockOk false = true) (hc : s.can (.mem m : Rm) 2 .write = true)
    (hb : ∀ q : Unit → State → Prop, (∀ u, Like s.start u → Runs (storeWord (.mem m) v) u q) → Runs body s.start q) :
    Completes i s fun t =>
      (t.gpr = s.gpr ∧ Stored s t (s.ea m) 2 v.toNat) ∧ FlagsSame s t ∧ Falls s t := by
  have hc' : s.start.can (.mem m : Rm) (16 / 8) .write = true := by rw [start_can]; exact hc
  exact completes_wrote (w := 16) (rm := .mem m) (v := v) hi hs hl (hb _ fun u hu => like_get_bind hu fun k st n b =>
    like_writeRm (w := 16) (like_noisy s.start k st n b) v (by decide) hc')

theorem field_low (x : Word) : (field x 0 16 : Half) = x.setWidth 16 := by
  apply BitVec.eq_of_getLsbD_eq
  intro i hi
  simp [field, hi]

/-- CR0 as LMSW writes it. -/
theorem lmsw_eq (old : Word) (v : Half) :
    blend 0xE#32 old (zx32 v) ||| (zx32 v &&& 1#32) = (old &&& 0xFFFFFFF1#32) ||| (v.setWidth 32 &&& 0xF#32) := by
  rw [blend, BitVec.or_assoc, ← BitVec.and_or_distrib_left]
  rfl

/-- The state after LMSW. -/
def State.statusWord (s : State) (v : Half) : State :=
  s.controlled { s.sys with cr0 := (s.sys.cr0 &&& 0xFFFFFFF1#32) ||| (v.setWidth 32 &&& 0xF#32) }
    (if s.prot = bit ((s.sys.cr0 &&& 0xFFFFFFF1#32) ||| (v.setWidth 32 &&& 0xF#32)) 0 then s.tlb else [])

theorem like_lmsw {s u : State} (h : Like s u) (hp : s.privileged = true) {rm : Rm} (hc : s.can rm 2 .read = true) :
    Runs (lmswBody rm) u fun _ t => Like (s.statusWord (s.val 16 rm)) t := by
  refine runs_bind (like_requireCpl0 h hp) fun _ v1 h1 => runs_bind (like_readRm (w := 16) h1 (by decide) hc) fun x v2 ⟨hx, h2⟩ => ?_
  subst hx
  refine like_get_bind h2 fun k st n b => ?_
  rw [noisy_sys]
  dsimp only
  rw [lmsw_eq]
  let new := (s.sys.cr0 &&& 0xFFFFFFF1#32) ||| ((s.val 16 rm).setWidth 32 &&& 0xF#32)
  have hpg : (bit s.sys.cr0 31 != bit new 31) = false := by
    have h31 : bit new 31 = bit s.sys.cr0 31 := by simp [new, bit]
    rw [h31, bne_self_eq_false]
  let y := s.controlled { s.sys with cr0 := new } s.tlb
  refine runs_bind (runs_modify (q := fun _ t => t = y.noisy k st n b) rfl) fun _ t ht => ?_
  subst ht
  refine ⟨(), _, run_afterCr0 (s := y.noisy k st n b) (old := s.sys.cr0) (new := new) (table := false) ?_ (fun h => Bool.noConfusion h), ?_⟩
  · rw [hpg, Bool.and_false]
  · have htlb : (if (bit s.sys.cr0 0 != bit new 0 || bit s.sys.cr0 31 != bit new 31) = true then [] else s.tlb) =
        if s.prot = bit new 0 then s.tlb else [] := by
      rw [hpg, Bool.or_false, State.prot]
      cases bit s.sys.cr0 0 <;> cases bit new 0 <;> rfl
    refine ⟨k, st, n, b, ?_⟩
    rw [State.statusWord, ← htlb]
    rfl

theorem movesStatusWord : MovesStatusWord := by
  refine ⟨fun rm s hs hl hc => ?smsw, fun rm s hs hl hp hc => ?lmsw, fun s hs hl hp => ?clts⟩
  case smsw =>
    have hb (q : Unit → State → Prop) (h : ∀ u, Like s.start u → Runs (storeWord rm (s.sys.cr0.setWidth 16)) u q) :
        Runs (smswBody rm) s.start q := by
      refine runs_get_bind ?_
      rw [field_low]
      exact h _ (Like.refl s.start)
    cases rm with
    | reg r => exact completes_storeWord_reg (i := .smswEw (.reg r)) rfl hs hl hb
    | mem m => exact completes_storeWord_mem (i := .smswEw (.mem m)) rfl hs hl hc hb
  case lmsw =>
    have hrun := like_lmsw (Like.refl s.start) hp (rm := rm) (by rw [start_can]; exact hc)
    rw [start_val] at hrun
    exact completes_passed (i := .lmswEw rm) rfl hl (runs_mono hrun fun _ u hu => ⟨s.statusWord (s.val 16 rm), _, hu,
      passed_controlled hs _ _, fun t hg hm hf ht => ⟨untouched_of hg hm, hf, ht⟩⟩)
  case clts =>
    have hbit : setBit s.sys.cr0 3 false = s.sys.cr0 &&& 0xFFFFFFF7#32 := rfl
    exact completes_privileged (i := .clts) rfl hl hp (runs_modify ⟨s.controlled { s.sys with cr0 := setBit s.sys.cr0 3 false } s.tlb,
      passed_controlled hs _ _, fun t hg hm _ hf ht => ⟨untouched_of hg hm, hf, ht⟩⟩)

/-- Settles O49. -/
theorem controlRegisters : Obligations.ControlRegisters := ⟨movControl, movControlFaults, movesStatusWord⟩

end Sys2Proof.Machine

/-! SUPPORT. The descriptor-table registers, LDTR and TR. -/
namespace Sys2Proof.Machine
open Host

/-! ### LGDT, LIDT, SGDT and SIDT -/

theorem like_accessEa {s u : State} (h : Like s u) {m : Ea} {k : Word} {n align : Nat} {write : Bool} (hn : 0 < n)
    (hf : eaFits s m k = true) (hr : s.reaches (eaSeg s m) (eaPlus s m k) n align (kindOf write) = true) :
    Runs (accessEa m k n align write) u fun ps t => ps = spansAt (s.lin (eaSeg s m) (eaPlus s m k)) n ∧ Like s t := by
  refine runs_bind (q := fun _ t => Like s t) ?_ fun _ t ht => ?_
  · refine like_get_bind h fun j st c b => ?_
    rw [eaFits, noisy_eaOffset, ← eaFits, hf, if_pos rfl]
    exact runs_pure (like_noisy s j st c b)
  · refine like_get_bind ht fun j st c b => ?_
    rw [noisy_eaSeg, eaPlus, noisy_eaOffset]
    exact like_access (like_noisy s j st c b) hr hn

/-- What LGDT and LIDT load. -/
def State.tableAt (s : State) (m : Ea) : TableReg :=
  { base := if s.o32 then BitVec.ofNat 32 (s.num (s.lin (eaSeg s m) (eaPlus s m 2)) 4)
      else BitVec.ofNat 32 (s.num (s.lin (eaSeg s m) (eaPlus s m 2)) 4) &&& 0xFFFFFF#32,
    limit := BitVec.ofNat 16 (s.num (s.lin (eaSeg s m) (eaPlus s m 0)) 2) }

theorem like_loadTable {s u : State} (h : Like s u) {m : Ea} (put : TableReg → Sys → Sys) (hp : s.privileged = true)
    (h0 : s.reaches (eaSeg s m) (eaPlus s m 0) 2 1 .read = true) (hf : eaFits s m 2 = true)
    (h2 : s.reaches (eaSeg s m) (eaPlus s m 2) 4 1 .read = true) :
    Runs (loadTable m put) u fun _ v => Like { s with sys := put (s.tableAt m) s.sys } v := by
  refine runs_bind (like_requireCpl0 h hp) fun _ v1 hv1 => like_get_bind hv1 fun k st n b => ?_
  refine runs_bind (like_readEa (like_noisy s k st n b) (by decide) (eaFits_zero s m) h0) fun x v2 ⟨hx, hv2⟩ => ?_
  refine runs_bind (like_readEa hv2 (by decide) hf h2) fun y v3 ⟨hy, hv3⟩ => ?_
  subst hx hy
  exact like_modify (f := fun t => { t with sys := put (s.tableAt m) t.sys }) hv3 fun _ _ _ _ _ => rfl

theorem completes_loadTable {i : Instr} {m : Ea} {put : TableReg → Sys → Sys} {s : State}
    (hi : exec i s = instr false (loadTable m put) s) (hs : s.ready) (hl : s.lockOk false = true) (hp : s.privileged = true)
    (h0 : s.reaches (eaSeg s m) (eaPlus s m 0) 2 1 .read = true) (hf : eaFits s m 2 = true)
    (h2 : s.reaches (eaSeg s m) (eaPlus s m 2) 4 1 .read = true) :
    Completes i s fun t => Untouched s t ∧ FlagsSame s t ∧ Falls { s with sys := put (s.tableAt m) s.sys } t := by
  have hea (k : Word) : eaPlus s.start m k = eaPlus s m k := by rw [eaPlus, start_eaOffset, ← eaPlus]
  have hfit : eaFits s.start m 2 = true := by rw [eaFits, start_eaOffset, ← eaFits, hf]
  have hrun := like_loadTable (Like.refl s.start) (m := m) put hp (by rw [start_eaSeg, start_reaches, hea]; exact h0) hfit
    (by rw [start_eaSeg, start_reaches, hea]; exact h2)
  have htable : s.start.tableAt m = s.tableAt m := by
    simp only [State.tableAt, hea, start_eaSeg, start_lin, start_num, start_o32]
  rw [htable] at hrun
  exact completes_passed hi hl (runs_mono hrun fun _ u hu => ⟨s.controlled (put (s.tableAt m) s.sys) s.tlb, _, hu,
    passed_controlled hs (put (s.tableAt m) s.sys) s.tlb, fun t hg hm hf ht => ⟨untouched_of hg hm, hf, ht⟩⟩)

/-- The base that SGDT and SIDT store. -/
theorem storedBase_low (base : Word) (f : Byte) :
    (f ++ (field base 0 24 : BitVec 24) : BitVec 32) &&& 0xFFFFFF#32 = base &&& 0xFFFFFF#32 := by
  have hmask : ∀ i < 32, (0xFFFFFF#32).getLsbD i = decide (i < 24) := by decide
  apply BitVec.eq_of_getLsbD_eq
  intro i hi
  rw [BitVec.getLsbD_and, BitVec.getLsbD_and, hmask i hi, BitVec.getLsbD_append]
  by_cases h : i < 24 <;> simp [field, h]

theorem like_storeTable {s u : State} (h : Like s u) {m : Ea} (t : TableReg) (hf : eaFits s m 2 = true)
    (h0 : s.reaches (eaSeg s m) (eaPlus s m 0) 2 4 .write = true) (h2 : s.reaches (eaSeg s m) (eaPlus s m 2) 4 1 .write = true) :
    Runs (storeTable m t) u fun _ v => ∃ f : Word, (s.o32 = true → f = t.base) ∧ f &&& 0xFFFFFF#32 = t.base &&& 0xFFFFFF#32 ∧
      Like ((s.stored (s.lin (eaSeg s m) (eaPlus s m 0)) 2 t.limit.toNat).stored (s.lin (eaSeg s m) (eaPlus s m 2)) 4 f.toNat) v := by
  have hp := State.plain_of_reaches h0
  refine like_get_bind h fun k st n b => runs_bind (like_draw (like_noisy s k st n b) 8) fun f v1 hv1 => ?_
  refine runs_bind (like_accessEa hv1 (write := true) (by decide) (eaFits_zero s m) h0) fun lo v2 ⟨hlo, hv2⟩ => ?_
  refine runs_bind (like_accessEa hv2 (write := true) (by decide) hf h2) fun hi v3 ⟨hhi, hv3⟩ => ?_
  subst hlo hhi
  refine runs_bind (like_writeSpans hv3 hp _ 2 _) fun _ v4 hv4 => ?_
  refine runs_mono (like_writeSpans hv4 hp _ 4 _) fun _ v5 hv5 => ⟨_, fun ho => ?_, ?_, hv5⟩
  · rw [noisy_o32, ho, if_pos rfl]
  · cases ho : (s.noisy k st n b).o32 with
    | true => rw [if_pos rfl]
    | false => exact storedBase_low t.base f

theorem completes_storeTable {i : Instr} {m : Ea} {r : TableReg} {s : State} {body : M Unit} (hi : exec i s = instr false body s)
    (hb : body s.start = storeTable m r s.start) (hs : s.ready) (hl : s.lockOk false = true)
    (h0 : s.reaches (eaSeg s m) (eaPlus s m 0) 2 4 .write = true) (hf : eaFits s m 2 = true)
    (h2 : s.reaches (eaSeg s m) (eaPlus s m 2) 4 1 .write = true) :
    Completes i s fun t => ∃ (f : Word) (u : State),
      (s.o32 = true → f = r.base) ∧ f &&& 0xFFFFFF#32 = r.base &&& 0xFFFFFF#32 ∧
        Stored s u (s.lin (eaSeg s m) (eaPlus s m 0)) 2 r.limit.toNat ∧
        Stored u t (s.lin (eaSeg s m) (eaPlus s m 2)) 4 f.toNat ∧ t.gpr = s.gpr ∧ FlagsSame s t ∧ Falls s t := by
  have hea (k : Word) : eaPlus s.start m k = eaPlus s m k := by rw [eaPlus, start_eaOffset, ← eaPlus]
  have hfit : eaFits s.start m 2 = true := by rw [eaFits, start_eaOffset, ← eaFits, hf]
  have hrun := like_storeTable (Like.refl s.start) (m := m) r hfit (by rw [start_eaSeg, start_reaches, hea]; exact h0)
    (by rw [start_eaSeg, start_reaches, hea]; exact h2)
  simp only [hea, start_eaSeg, start_lin, start_o32] at hrun
  refine completes_of_some_like hi hs hl ?_
  rw [Runs, hb]
  refine runs_mono hrun ?_
  rintro _ u ⟨f, hbase, hlow, hu⟩
  refine ⟨_, hu, ((calm_start s).trans (calm_stored _ _ _ _)).trans (calm_stored _ _ _ _), rfl, fun t hg hm hft ht =>
    ⟨f, s.stored (s.lin (eaSeg s m) (eaPlus s m 0)) 2 r.limit.toNat, hbase, hlow, stored_memWriteList hs.1 rfl,
      stored_memWriteList (wf_memWriteList hs.1) hm, hg, hft, ht⟩⟩

theorem movesTables : MovesTables := by
  refine ⟨fun idt m s hs hl hp h0 hf h2 => ?_, fun idt m s hs hl h0 hf h2 => ?_⟩
  · cases idt with
    | true => exact completes_loadTable (i := .lidtMs m) (put := fun t y => { y with idtr := t }) rfl hs hl hp h0 hf h2
    | false => exact completes_loadTable (i := .lgdtMs m) (put := fun t y => { y with gdtr := t }) rfl hs hl hp h0 hf h2
  · cases idt with
    | true => exact completes_storeTable (i := .sidtMs m) (r := s.sys.idtr) rfl rfl hs hl h0 hf h2
    | false => exact completes_storeTable (i := .sgdtMs m) (r := s.sys.gdtr) rfl rfl hs hl h0 hf h2

/-! ### The busy flag of a TSS -/

/-- A byte of a number in memory. -/
theorem num_byte (s : State) (a : Nat) {i n : Nat} (h : i < n) : s.num a n / 256 ^ i % 256 = s.num (a + i) 1 := by
  obtain ⟨j, rfl⟩ : ∃ j, n = i + (1 + j) := ⟨n - i - 1, by omega⟩
  rw [num_add, num_add s (a + i) 1 j, Nat.add_mul_div_left _ _ (Nat.pow_pos (by decide)), Nat.div_eq_of_lt (num_lt s a i),
    Nat.zero_add, Nat.pow_one, Nat.add_mul_mod_self_left, Nat.mod_eq_of_lt (show s.num (a + i) 1 < 256 from num_lt s (a + i) 1)]

theorem num_one (s : State) (a : Nat) : s.num a 1 = (memRead s.mem a).toNat := by
  simp [State.num, memBytes, leNat]

theorem memRead_of_num {s t : State} {a b : Nat} (h : t.num a 1 = s.num b 1) : memRead t.mem a = memRead s.mem b := by
  rw [num_one, num_one] at h
  exact BitVec.eq_of_toNat_eq h

theorem setBit_busy (v : Nat) : (setBit (BitVec.ofNat 32 v) 9 true).toNat = (v ||| 512) % 2 ^ 32 := by
  rw [setBit, if_pos rfl, BitVec.toNat_or, BitVec.toNat_ofNat, Nat.or_mod_two_pow]
  rfl

/-- Setting the busy flag in the upper half of a descriptor writes one byte. -/
theorem stored_busy {s t : State} {a : Nat}
    (h : Stored s t (a + 4) 4 (setBit (BitVec.ofNat 32 (s.num (a + 4) 4)) 9 true).toNat) :
    Stored s t (a + 5) 1 (s.num (a + 5) 1 ||| 2) := by
  obtain ⟨hval, hrest⟩ := h
  have hlt : (s.num (a + 4) 4 ||| 512) < 2 ^ 32 := Nat.or_lt_two_pow (num_lt s _ 4) (by decide)
  rw [setBit_busy, Nat.mod_eq_of_lt hlt, Nat.mod_eq_of_lt (show _ < 256 ^ 4 from hlt)] at hval
  have hbyte (i : Nat) (hi : i < 4) : t.num (a + 4 + i) 1 = (s.num (a + 4 + i) 1 ||| 512 / 256 ^ i % 256) := by
    rw [← num_byte t (a + 4) hi, hval, ← num_byte s (a + 4) hi, show (256 : Nat) = 2 ^ 8 from rfl, ← Nat.pow_mul,
      Nat.or_div_two_pow, Nat.or_mod_two_pow]
  refine ⟨?_, fun k hk => ?_⟩
  · have h1 := hbyte 1 (by decide)
    have hlt : (s.num (a + 5) 1 ||| 2) < 2 ^ 8 := Nat.or_lt_two_pow (num_lt s _ 1) (by decide)
    rw [show 256 ^ 1 = 2 ^ 8 from rfl, Nat.mod_eq_of_lt hlt]
    exact h1
  · by_cases hout : k < a + 4 ∨ a + 4 + 4 ≤ k
    · exact hrest k hout
    · obtain ⟨i, hi, rfl⟩ : ∃ i < 4, k = a + 4 + i := ⟨k - (a + 4), by omega, by omega⟩
      refine memRead_of_num ((hbyte i hi).trans ?_)
      have hne : i ≠ 1 := by omega
      interval_cases i
      · exact Nat.or_zero _
      · exact absurd rfl hne
      · exact Nat.or_zero _
      · exact Nat.or_zero _

/-- The busy flag of a descriptor in memory is bit 1 of its type. -/
theorem busy_of_type {s : State} {a : Nat} {d : Desc} (hd : d = BitVec.ofNat 64 (s.num a 8)) (h : descType d = 1 ∨ descType d = 9) :
    (s.num (a + 4) 4).testBit 9 = false := by
  have hsum : s.num a 8 = 2 ^ 32 * s.num (a + 4) 4 + s.num a 4 := (num_add s a 4 4).trans (Nat.add_comm _ _)
  have hlow : s.num a 4 < 2 ^ 32 := num_lt s a 4
  have hbit : (descType d).getLsbD 1 = false := by rcases h with h | h <;> rw [h] <;> rfl
  have hd41 : (descType d).getLsbD 1 = (s.num (a + 4) 4).testBit 9 := by
    have hd' : (descType d).getLsbD 1 = d.getLsbD 41 := by simp [descType, field]
    rw [hd', hd, hsum, BitVec.getLsbD_ofNat, Nat.testBit_two_pow_mul_add _ hlow]
    rfl
  rw [← hd41, hbit]

theorem like_putBusy {s u : State} (h : Like s u) (hp : s.plain = true) (a : Nat) :
    Runs (putBusy (spansAt a 4) true) u fun b t => b = (s.num a 4).testBit 9 ∧
      Like (s.stored a 4 (setBit (BitVec.ofNat 32 (s.num a 4)) 9 true).toNat) t := by
  refine runs_bind (q := fun _ t => Like s t) ?_ fun _ v hv => ?_
  · obtain ⟨k, st, n, b, rfl⟩ := h
    exact ⟨_, _, accessGap_plain (s := s.noisy k st n b) hp, like_noisy s k st n b⟩
  · refine like_locked hv fun v1 h1 => runs_bind (like_readSpans h1 hp a 4) fun x v2 ⟨hx, h2⟩ => ?_
    subst hx
    exact runs_bind (like_writeSpans h2 hp a 4 _) fun _ v3 h3 => runs_pure ⟨rfl, h3⟩

theorem like_takeBusy {s u : State} (h : Like s u) (hp : s.plain = true) {a : Nat} (sel : Half)
    (hb : (s.num a 4).testBit 9 = false) :
    Runs (takeBusy sel (spansAt a 4)) u fun _ t => Like (s.stored a 4 (setBit (BitVec.ofNat 32 (s.num a 4)) 9 true).toNat) t := by
  refine runs_bind (like_putBusy h hp a) fun b v ⟨hbusy, hv⟩ => ?_
  rw [hbusy, hb]
  exact runs_pure hv

/-! ### LLDT and LTR -/

theorem privileged_of_cpl {s : State} (hp : s.protMode = true) (hc : s.cpl = 0) : s.privileged = true := by
  rw [State.protMode, Bool.and_eq_true] at hp
  rw [State.privileged, hp.1, hp.2, hc]
  rfl

/-- The state with LDTR written. -/
def State.withLdtr (s : State) (g : Seg) : State := { s with sys := { s.sys with ldtr := g } }

/-- The state with TR written. -/
def State.withTr (s : State) (g : Seg) : State := { s with sys := { s.sys with tr := g } }

theorem like_lldt_null {s u : State} (h : Like s u) {rm : Rm} (hp : s.protMode = true) (hc : s.cpl = 0)
    (hr : s.can rm 2 .read = true) (hn : isNull (s.val 16 rm) = true) :
    Runs (lldtBody rm) u fun _ t => Like (s.withLdtr (s.sys.ldtr.nulled (s.val 16 rm))) t := by
  refine runs_bind (like_requireProt h hp) fun _ v1 h1 => runs_bind (like_requireCpl0 h1 (privileged_of_cpl hp hc)) fun _ v2 h2 => ?_
  refine runs_bind (like_readRm (w := 16) h2 (by decide) hr) fun sel v3 ⟨hsel, h3⟩ => ?_
  subst hsel
  exact runs_if_pos hn (like_modify (f := fun t => t.withLdtr (t.sys.ldtr.nulled (s.val 16 rm))) h3 fun _ _ _ _ _ => rfl)

theorem like_lldt {s u : State} (h : Like s u) {rm : Rm} {a : Nat} {d : Desc} (hp : s.protMode = true) (hc : s.cpl = 0)
    (hr : s.can rm 2 .read = true) (hn : isNull (s.val 16 rm) = false) (hti : bit (s.val 16 rm) 2 = false)
    (hd : s.descriptor (s.val 16 rm) = some (a, d)) (hs : descS d = false) (ht : descType d = 2) (hpres : descP d = true) :
    Runs (lldtBody rm) u fun _ t => Like (s.withLdtr (Seg.ofDesc (s.val 16 rm) d)) t := by
  refine runs_bind (like_requireProt h hp) fun _ v1 h1 => runs_bind (like_requireCpl0 h1 (privileged_of_cpl hp hc)) fun _ v2 h2 => ?_
  refine runs_bind (like_readRm (w := 16) h2 (by decide) hr) fun sel v3 ⟨hsel, h3⟩ => ?_
  subst hsel
  rw [hn, if_neg Bool.false_ne_true, hti, if_neg Bool.false_ne_true]
  refine runs_bind (like_needDesc h3 13 hd) fun p v4 ⟨_, hpd, h4⟩ => ?_
  obtain ⟨w, d'⟩ := p
  obtain rfl : d' = d := hpd
  have htype : (descS d' || decide (descType d' ≠ 2)) = false := by rw [hs, ht]; rfl
  refine runs_if_neg (fun h => Bool.false_ne_true (htype.symm.trans h)) ?_
  rw [hpres, Bool.not_true, if_neg Bool.false_ne_true]
  exact like_modify (f := fun t => t.withLdtr (Seg.ofDesc (s.val 16 rm) d')) h4 fun _ _ _ _ _ => rfl

theorem like_ltr {s u : State} (h : Like s u) {rm : Rm} {a : Nat} {d : Desc} (hp : s.protMode = true) (hc : s.cpl = 0)
    (hr : s.can rm 2 .read = true) (hn : isNull (s.val 16 rm) = false) (hti : bit (s.val 16 rm) 2 = false)
    (hd : s.descriptor (s.val 16 rm) = some (a, d)) (hs : descS d = false) (ht : descType d = 1 ∨ descType d = 9)
    (hpres : descP d = true) :
    Runs (ltrBody rm) u fun _ t => Like ((s.stored (a + 4) 4 (setBit (BitVec.ofNat 32 (s.num (a + 4) 4)) 9 true).toNat).withTr
      { Seg.ofDesc (s.val 16 rm) d with type := descType d ||| 2 }) t := by
  obtain ⟨-, -, -, ⟨hplain, hle⟩, hdn⟩ := State.descriptor_eq_some.1 hd
  refine runs_bind (like_requireProt h hp) fun _ v1 h1 => runs_bind (like_requireCpl0 h1 (privileged_of_cpl hp hc)) fun _ v2 h2 => ?_
  refine runs_bind (like_readRm (w := 16) h2 (by decide) hr) fun sel v3 ⟨hsel, h3⟩ => ?_
  subst hsel
  rw [hn, if_neg Bool.false_ne_true, hti, if_neg Bool.false_ne_true]
  refine runs_bind (like_needDesc h3 13 hd) fun p v4 ⟨hw, hpd, h4⟩ => ?_
  obtain ⟨w, d'⟩ := p
  obtain rfl : d' = d := hpd
  have htype : (descS d' || (decide (descType d' ≠ 1) && decide (descType d' ≠ 9))) = false := by
    rcases ht with ht | ht <;> rw [hs, ht] <;> rfl
  refine runs_if_neg (fun h => Bool.false_ne_true (htype.symm.trans h)) ?_
  rw [hpres, Bool.not_true, if_neg Bool.false_ne_true]
  have hw4 : (w + 4).toNat = a + 4 := hw ▸ toNat_add_lt (k := 4) (hw ▸ hle) (by decide)
  refine runs_bind (q := fun ps t => ps = spansAt (a + 4) 4 ∧ Like s t) ?_ fun ps v5 ⟨hps, h5⟩ => ?_
  · obtain ⟨k, st, n, b, rfl⟩ := h4
    exact ⟨_, _, linearSpans_plain (s := s.noisy k st n b) hplain (w + 4) 4 true false (by decide) (by omega), by rw [hw4],
      like_noisy s k st n b⟩
  · subst hps
    refine runs_bind (like_takeBusy h5 hplain _ (busy_of_type hdn ht)) fun _ v6 h6 => ?_
    have hty : (Seg.ofDesc (s.val 16 rm) d').type = descType d' := by
      unfold Seg.ofDesc
      rw [hs]
      rfl
    dsimp only
    rw [hty]
    exact like_modify (f := fun t => t.withTr { Seg.ofDesc (s.val 16 rm) d' with type := descType d' ||| 2 }) h6 fun _ _ _ _ _ => rfl

theorem passed_withLdtr {s : State} (hs : s.ready) (g : Seg) : Passed (s.withLdtr g) (s.start.withLdtr g) :=
  passed_of_tr (w := s.tr.noStep) hs (by constructor <;> rfl) rfl rfl

theorem passed_withTr {s : State} (hs : s.ready) (a n v : Nat) (g : Seg) : Passed (s.withTr g) ((s.start.stored a n v).withTr g) :=
  passed_of_tr (w := s.tr.noStep) hs (by constructor <;> rfl) rfl rfl

theorem movesTaskRegisters : MovesTaskRegisters := by
  refine ⟨fun rm s hs hl hp hc hr => ⟨fun hn => ?null, fun a d hn hti hd hds ht hpres => ?lldt,
    fun a d hn hti hd hds ht hpres => ?ltr⟩, fun i sel rm s hi hs hl hp hc => ?store⟩
  case null =>
    have hrun := like_lldt_null (Like.refl s.start) hp hc (rm := rm) (by rw [start_can]; exact hr) (by rw [start_val]; exact hn)
    rw [start_val] at hrun
    exact completes_passed (i := .lldtEw rm) rfl hl (runs_mono hrun fun _ u hu => ⟨_, _, hu, passed_withLdtr hs _,
      fun t hg hm hf ht => ⟨untouched_of hg hm, hf, ht⟩⟩)
  case lldt =>
    have hrun := like_lldt (Like.refl s.start) hp hc (rm := rm) (a := a) (d := d) (by rw [start_can]; exact hr)
      (by rw [start_val]; exact hn) (by rw [start_val]; exact hti) (by rw [start_val]; exact hd) hds ht hpres
    rw [start_val] at hrun
    exact completes_passed (i := .lldtEw rm) rfl hl (runs_mono hrun fun _ u hu => ⟨_, _, hu, passed_withLdtr hs _,
      fun t hg hm hf ht => ⟨untouched_of hg hm, hf, ht⟩⟩)
  case ltr =>
    have hrun := like_ltr (Like.refl s.start) hp hc (rm := rm) (a := a) (d := d) (by rw [start_can]; exact hr)
      (by rw [start_val]; exact hn) (by rw [start_val]; exact hti) (by rw [start_val]; exact hd) hds ht hpres
    rw [start_val] at hrun
    exact completes_passed (i := .ltrEw rm) rfl hl (runs_mono hrun fun _ u hu => ⟨_, _, hu, passed_withTr hs _ _ _ _,
      fun t hg hm hf ht => ⟨hg, stored_busy (stored_memWriteList hs.1 hm), hf, ht⟩⟩)
  case store =>
    have hbody : ∃ body, exec i s = instr false body s ∧ ∀ q : Unit → State → Prop,
        (∀ u, Like s.start u → Runs (storeWord rm sel) u q) → Runs body s.start q := by
      have hprot : Runs requireProt s.start fun _ v => v = s.start := by
        refine ⟨(), _, ?_, rfl⟩
        rw [run_requireProt, show s.start.protMode = true from hp, if_pos rfl]
      rcases hi with ⟨rfl, rfl⟩ | ⟨rfl, rfl⟩
      · exact ⟨sldtBody rm, rfl, fun q h => runs_bind hprot fun _ v hv => hv ▸ runs_get_bind (h _ (Like.refl _))⟩
      · exact ⟨strBody rm, rfl, fun q h => runs_bind hprot fun _ v hv => hv ▸ runs_get_bind (h _ (Like.refl _))⟩
    obtain ⟨body, hexec, hb⟩ := hbody
    cases rm with
    | reg r => exact completes_storeWord_reg hexec hs hl hb
    | mem m => exact completes_storeWord_mem hexec hs hl hc hb

/-- Settles O50. -/
theorem descriptorTables : Obligations.DescriptorTables := ⟨movesTables, movesTaskRegisters⟩

end Sys2Proof.Machine

/-! SUPPORT. The floating-point instructions and WAIT. -/
namespace Sys2Proof.Machine
open Host

/-! ### Which body an instruction has -/

theorem exec_fpuLoad {m : Ea} {i : Instr} {op n align : Nat} (h : IsFpuLoad m i op n align) (s : State) :
    exec i s = instr false (fpuLoad s.eip op m n align) s := by
  cases h <;> rfl

theorem exec_fpuStore {m : Ea} {i : Instr} {op n align : Nat} (h : IsFpuStore m i op n align) (s : State) :
    exec i s = instr false (fpuStoreTo s.eip op m n align) s := by
  cases h <;> rfl

theorem exec_fpuFlags {i : Instr} {op : Nat} (h : IsFpuFlags i op) (s : State) :
    exec i s = instr false (fcomiBody s.eip op) s := by
  cases h <;> rfl

/-- The operand of an instruction on the register stack: the condition of FCMOVcc. -/
def State.fpuCond (s : State) : Option Cond → Nat
  | none => 0
  | some k => if s.cond k then 1 else 0

theorem exec_fpuReg {i : Instr} {op : Nat} {c : Option Cond} (h : IsFpuReg i op c) (s : State) :
    ∃ body, exec i s = instr false body s ∧ body s.start = fpuReg s.eip op (s.fpuCond c) s.start := by
  cases c with
  | none => exact ⟨fpuReg s.eip op 0, by cases h <;> rfl, rfl⟩
  | some k =>
    refine ⟨fcmovBody s.eip op k, by cases h <;> rfl, ?_⟩
    rw [fcmovBody, run_bind, run_get]
    dsimp only
    rw [start_cond, State.fpuCond, ofBool]

/-- An instruction that waits. -/
theorem exec_waiting {i : Instr} (h : IsWaiting i) (s : State) :
    ∃ body b, exec i s = instr false body s ∧ body s.start = esc s.eip b s.start := by
  cases h with
  | load h => exact ⟨_, _, exec_fpuLoad h s, rfl⟩
  | store h => exact ⟨_, _, exec_fpuStore h s, rfl⟩
  | flags h => exact ⟨_, _, exec_fpuFlags h s, rfl⟩
  | reg h =>
    obtain ⟨body, hexec, hbody⟩ := exec_fpuReg h s
    exact ⟨body, _, hexec, hbody⟩
  | fldenv m => exact ⟨fpuLoadImage s.eip 339 m 14 28, _, rfl, rfl⟩
  | frstor m => exact ⟨fpuLoadImage s.eip 367 m 94 108, _, rfl, rfl⟩
  | fldcw m => exact ⟨fldcwBody s.eip m, _, rfl, rfl⟩

theorem exec_esc {i : Instr} (h : IsEsc i) (s : State) :
    ∃ body b, exec i s = instr false body s ∧ body s.start = escNoWait b s.start := by
  cases h with
  | waits h =>
    obtain ⟨body, b, hexec, hbody⟩ := exec_waiting h s
    exact ⟨body, _, hexec, hbody⟩
  | fstenv m => exact ⟨fpuStoreImage 341 m 14 28, _, rfl, rfl⟩
  | fsave m => exact ⟨fpuStoreImage 368 m 94 108, _, rfl, rfl⟩
  | fstcw m => exact ⟨fnstcwBody m, _, rfl, rfl⟩
  | fstsw m => exact ⟨fnstswBody m, _, rfl, rfl⟩
  | fstswAx => exact ⟨fnstswAxBody, _, rfl, rfl⟩
  | finit => exact ⟨fninitBody, _, rfl, rfl⟩
  | fclex => exact ⟨fnclexBody 424, _, rfl, rfl⟩

/-! ### #NM and pending errors -/

theorem notAvailable : NotAvailable := by
  refine ⟨fun i s h hl hcr0 => ?_, fun s hl hcr0 => ?_⟩
  · obtain ⟨body, b, hexec, hbody⟩ := exec_esc h s
    refine raises_of_body hexec hl (hbody.trans ?_)
    rw [escNoWait, run_bind, run_get]
    exact congrFun (if_pos hcr0) _
  · refine raises_of_body (i := .waitFwait) (body := waitBody s.eip) rfl hl ?_
    rw [waitBody, run_bind, run_get]
    exact congrFun (if_pos hcr0) _

/-- Before a waiting instruction a pending error is reported, ignored or waited for. -/
theorem exec_pending {i : Instr} {s : State}
    (h : IsWaiting i ∧ (bit s.sys.cr0 2 || bit s.sys.cr0 3) = false ∨
      i = .waitFwait ∧ (bit s.sys.cr0 1 && bit s.sys.cr0 3) = false) (hp : bit s.fpu.sw 7 = true) :
    ∃ body b, exec i s = instr false body s ∧ body s.start = pendingError s.eip b s.start := by
  rcases h with ⟨hi, hcr0⟩ | ⟨rfl, hcr0⟩
  · obtain ⟨body, b, hexec, hbody⟩ := exec_waiting hi s
    refine ⟨body, b, hexec, hbody.trans ?_⟩
    have hno : ¬ (bit s.start.sys.cr0 2 || bit s.start.sys.cr0 3) = true := by
      rw [show (bit s.start.sys.cr0 2 || bit s.start.sys.cr0 3) = false from hcr0]
      exact Bool.false_ne_true
    rw [esc, escNoWait, run_bind, run_get]
    refine (congrFun (if_neg hno) _).trans ?_
    rw [run_bind, run_get]
    exact congrFun (if_pos hp) _
  · refine ⟨waitBody s.eip, pure (), rfl, ?_⟩
    have hno : ¬ (bit s.start.sys.cr0 1 && bit s.start.sys.cr0 3) = true := by
      rw [show (bit s.start.sys.cr0 1 && bit s.start.sys.cr0 3) = false from hcr0]
      exact Bool.false_ne_true
    rw [waitBody, run_bind, run_get]
    refine (congrFun (if_neg hno) _).trans ?_
    exact congrFun (if_pos hp) _

/-- The state in which the processor waits before an instruction. -/
def State.held (s : State) : State :=
  { s with lat := { s.lat with ferr := true }, tr := { s.tr with keepRf := true, noStep := true } }

theorem held_completed (s : State) : Quiet { s with lat := { s.lat with ferr := true } } (s.held.completed s) :=
  ⟨⟨⟨rfl, rfl, rfl, rfl, rfl, rfl, rfl, rfl, rfl, rfl, rfl, rfl, rfl, rfl⟩, rfl, rfl, rfl, rfl, rfl, rfl, rfl, rfl, rfl⟩, rfl⟩

theorem pendingErrors : PendingError := by
  intro i s h hl hp
  obtain ⟨body, b, hexec, hbody⟩ := exec_pending h hp
  rw [pendingError, run_bind, run_get] at hbody
  refine ⟨fun hne => raises_of_body hexec hl (hbody.trans (congrFun (if_pos hne) _)), fun hne hign hs => ?_⟩
  have hno : ¬ bit s.start.sys.cr0 5 = true := by
    rw [show bit s.start.sys.cr0 5 = false from hne]
    exact Bool.false_ne_true
  have hwait : ¬ s.start.lat.ignne = true := by
    rw [show s.start.lat.ignne = false from hign]
    exact Bool.false_ne_true
  have hrun : body s.start = .ok () s.held :=
    hbody.trans ((congrFun (if_neg hno) _).trans (congrFun (if_neg hwait) _))
  refine completes_of_ends hexec hl ⟨(), s.held, hrun, fun hbr => ?_, rfl, ⟨rfl, fun _ => rfl⟩, rfl, held_completed s⟩
  have htr : s.held.tr.branched = s.tr.branched := rfl
  rw [htr, hs.2] at hbr
  cases hbr

/-- Settles O55. -/
theorem fpuExceptions : Obligations.FpuExceptions := ⟨notAvailable, pendingErrors⟩

end Sys2Proof.Machine

/-! SUPPORT. What the floating-point instructions leave. -/
namespace Sys2Proof.Machine
open Host

theorem like_putFpu {s u : State} (h : Like s u) (f : Fpu) : Runs (putFpu f) u fun _ v => Like (s.fpuAs f) v :=
  like_modify h fun _ _ _ _ _ => rfl

theorem like_escNoWait {s u : State} (h : Like s u) (hon : s.fpuOn = true) {body : M Unit} {q : Unit → State → Prop}
    (hb : ∀ v, Like s v → Runs body v q) : Runs (escNoWait body) u q := by
  rw [State.fpuOn, Bool.and_eq_true, Bool.and_eq_true, Bool.not_eq_true', Bool.not_eq_true'] at hon
  obtain ⟨⟨-, h2⟩, h3⟩ := hon
  refine like_get_bind h fun k st n b => ?_
  rw [noisy_sys, h2, h3, Bool.or_self, if_neg Bool.false_ne_true]
  exact hb _ (like_noisy s k st n b)

theorem fpuOn_of_goes {s : State} (h : s.fpuGoes = true) : s.fpuOn = true := by
  rw [State.fpuGoes, Bool.and_eq_true] at h
  exact h.1

theorem lockOk_of_fpuOn {s : State} (h : s.fpuOn = true) : s.lockOk false = true := by
  rw [State.fpuOn, Bool.and_eq_true, Bool.and_eq_true] at h
  exact h.1.1

theorem like_esc {s u : State} (h : Like s u) (hg : s.fpuGoes = true) {cur : Word} {body : M Unit} {q : Unit → State → Prop}
    (hb : ∀ v, Like s v → Runs body v q) : Runs (esc cur body) u q := by
  refine like_escNoWait h (fpuOn_of_goes hg) fun v hv => like_get_bind hv fun k st n b => ?_
  have hv' := like_noisy s k st n b
  rw [State.fpuGoes, Bool.and_eq_true, Bool.or_eq_true, Bool.and_eq_true, Bool.not_eq_true', Bool.not_eq_true'] at hg
  obtain ⟨-, hno | ⟨hne, hign⟩⟩ := hg
  · refine runs_if_neg (fun hp => ?_) (hb _ hv')
    exact Bool.false_ne_true (hno.symm.trans hp)
  · by_cases hp : fpuPending (s.noisy k st n b).fpu = true
    · refine runs_if_pos hp (runs_get_bind ?_)
      refine runs_if_neg (fun h5 => Bool.false_ne_true (hne.symm.trans h5)) (runs_if_pos hign (hb _ hv'))
    · exact runs_if_neg hp (hb _ hv')

theorem like_writeEa {s u : State} (h : Like s u) {m : Ea} {n align : Nat} (v : Nat) (hn : 0 < n)
    (hc : s.fpuCan m n align .write = true) : Runs (writeEa m 0 n align v) u fun _ t => Like (s.stored (s.eaAt m) n v) t := by
  refine runs_bind (like_accessEa h (write := true) hn (eaFits_zero s m) hc) fun ps t ⟨hps, ht⟩ => ?_
  subst hps
  exact like_writeSpans ht (State.plain_of_reaches hc) _ _ _

theorem like_readEaAt {s u : State} (h : Like s u) {m : Ea} {n align : Nat} (hn : 0 < n) (hc : s.fpuCan m n align .read = true) :
    Runs (readEa m 0 n align) u fun x t => x = s.num (s.eaAt m) n ∧ Like s t := like_readEa h hn (eaFits_zero s m) hc

theorem start_eaAt (s : State) (m : Ea) : s.start.eaAt m = s.eaAt m := by
  simp only [State.eaAt, eaPlus, start_eaSeg, start_eaOffset, start_lin]

theorem start_fpuCan (s : State) (m : Ea) (n align : Nat) (k : Access) : s.start.fpuCan m n align k = s.fpuCan m n align k := by
  simp only [State.fpuCan, eaPlus, start_eaSeg, start_eaOffset, start_reaches]

/-! ### Completion -/

theorem passed_fpuAs {s x : State} (hs : s.ready) (hx : Calm s x) (he : x.eip = s.nextEip) (f : Fpu) :
    Passed (s.fpuAs f) (x.fpuAs f) := by
  have hlat : (x.fpuAs f).lat = (s.fpuAs f).lat := congrArg (fun l : Latches => { l with ferr := l.ferr && bit f.sw 7 }) hx.lat
  refine ⟨⟨hx.cpl, hx.seg, hx.sys, hx.dbg, rfl, hx.msr, hx.apic, hx.smm, hlat, hx.tlb, hx.map, hx.events, hx.bus, hx.cached,
    hx.others, hx.noReturn⟩, he, ?_, ?_, ?_⟩
  · exact hx.branched.trans (by rw [hs.2]; rfl)
  · exact hx.keepRf.trans (by rw [hs.2]; rfl)
  · exact hx.repeats.trans (by rw [hs.2]; rfl)

/-- A floating-point instruction completes with the FPU state that its body leaves. -/
theorem completes_fpu {i : Instr} {body : M Unit} {s x : State} {f : Fpu} {q : State → Prop} (hi : exec i s = instr false body s)
    (hs : s.ready) (hl : s.lockOk false = true) (hb : Runs body s.start fun _ u => Like (x.fpuAs f) u) (hx : Calm s x)
    (he : x.eip = s.nextEip)
    (hq : ∀ t : State, t.gpr = x.gpr → t.mem = x.mem → t.eflags = setBit x.eflags fRF false → Falls (s.fpuAs f) t → q t) :
    Completes i s q :=
  completes_passed hi hl (runs_mono hb fun _ _ hu => ⟨_, _, hu, passed_fpuAs hs hx he f, hq⟩)

/-- One that writes neither registers nor memory. -/
theorem completes_fpu_only {i : Instr} {body : M Unit} {s : State} {f : Fpu} (hi : exec i s = instr false body s)
    (hs : s.ready) (hl : s.lockOk false = true) (hb : Runs body s.start fun _ u => Like (s.start.fpuAs f) u) :
    Completes i s fun t => Untouched s t ∧ FlagsSame s t ∧ Falls (s.fpuAs f) t :=
  completes_fpu hi hs hl hb (calm_start s) rfl fun _ hg hm hf ht => ⟨untouched_of hg hm, hf, ht⟩

/-- One that stores its operand. -/
theorem completes_fpu_stored {i : Instr} {body : M Unit} {s : State} {f : Fpu} {a n v : Nat} (hi : exec i s = instr false body s)
    (hs : s.ready) (hl : s.lockOk false = true) (hb : Runs body s.start fun _ u => Like ((s.start.stored a n v).fpuAs f) u) :
    Completes i s fun t => t.gpr = s.gpr ∧ Stored s t a n v ∧ FlagsSame s t ∧ Falls (s.fpuAs f) t :=
  completes_fpu hi hs hl hb ((calm_start s).trans (calm_stored _ _ _ _)) rfl fun _ hg hm hf ht =>
    ⟨hg, stored_memWriteList hs.1 hm, hf, ht⟩

/-! ### Instructions whose pointers are kept -/

theorem like_fpuReg {s u : State} (h : Like s u) (hg : s.fpuGoes = true) (cur : Word) (op x : Nat) :
    Runs (fpuReg cur op x) u fun _ v =>
      Like (s.fpuAs (withIp s.fpu s.seg.cs.sel cur (Config.fpuRun op s.o32 x s.fpu))) v :=
  like_esc h hg fun v hv => like_get_bind hv fun k st n b => by
    rw [noisy_o32]
    exact like_putFpu (like_noisy s k st n b) _

theorem like_fpuLoad {s u : State} (h : Like s u) (hg : s.fpuGoes = true) (cur : Word) (op : Nat) {m : Ea} {n align : Nat} (hn : 0 < n)
    (hc : s.fpuCan m n align .read = true) :
    Runs (fpuLoad cur op m n align) u fun _ v => Like (s.fpuAs (withDp (s.seg.get (eaSeg s m)).sel (eaOffset s m)
      (withIp s.fpu s.seg.cs.sel cur (Config.fpuRun op s.o32 (s.num (s.eaAt m) n) s.fpu)))) v :=
  like_esc h hg fun v hv => like_get_bind hv fun k st c b => by
    rw [noisy_o32, noisy_eaSeg, noisy_eaOffset]
    refine runs_bind (like_readEaAt (like_noisy s k st c b) hn hc) fun x v hx => ?_
    obtain ⟨rfl, hv⟩ := hx
    exact like_putFpu hv _

theorem like_fpuStoreTo {s u : State} (h : Like s u) (hg : s.fpuGoes = true) (cur : Word) (op : Nat) {m : Ea} {n align : Nat} (hn : 0 < n)
    (hc : s.fpuCan m n align .write = true) :
    Runs (fpuStoreTo cur op m n align) u fun _ v =>
      Like ((s.stored (s.eaAt m) n (Config.fpuStore op s.o32 s.fpu)).fpuAs (withDp (s.seg.get (eaSeg s m)).sel (eaOffset s m)
        (withIp s.fpu s.seg.cs.sel cur (Config.fpuRun op s.o32 0 s.fpu)))) v :=
  like_esc h hg fun v hv => like_get_bind hv fun k st c b => by
    rw [noisy_o32, noisy_eaSeg, noisy_eaOffset]
    exact runs_bind (like_writeEa (like_noisy s k st c b) _ hn hc) fun _ v hv => like_putFpu hv _

theorem like_fcomi {s u : State} (h : Like s u) (hg : s.fpuGoes = true) (cur : Word) (op : Nat) :
    Runs (fcomiBody cur op) u fun _ v => ∃ f : Word,
      Like ((s.flagged arithMask (setBit (setBit (setBit f fZF (bit (Config.fpuCompare op s.fpu) 2)) fPF
        (bit (Config.fpuCompare op s.fpu) 1)) fCF (bit (Config.fpuCompare op s.fpu) 0))).fpuAs
          (withIp s.fpu s.seg.cs.sel cur (Config.fpuRun op s.o32 0 s.fpu))) v :=
  like_esc h hg fun v hv => like_get_bind hv fun k st n b => by
    rw [noisy_o32]
    refine runs_bind (like_draw (like_noisy s k st n b) 32) fun f v hv => ?_
    exact runs_bind (like_putFlagsMasked hv _ _) fun _ v hv => runs_mono (like_putFpu hv _) fun _ v hv => ⟨f, hv⟩

theorem fpuLoad_pos {m : Ea} {i : Instr} {op n align : Nat} (h : IsFpuLoad m i op n align) : 0 < n := by
  cases h <;> decide

theorem fpuStore_pos {m : Ea} {i : Instr} {op n align : Nat} (h : IsFpuStore m i op n align) : 0 < n := by
  cases h <;> decide

/-- Settles O33. -/
theorem floatingPoint : Obligations.FloatingPoint := by
  refine ⟨fun i op c s hi hs hg => ?reg, fun m i op n align s hi hs hg hc => ?load, fun i op s hi hs hg => ?flags,
    fun m i op n align s hi hs hg hc => ?store⟩
  case reg =>
    have hl := lockOk_of_fpuOn (fpuOn_of_goes hg)
    obtain ⟨body, hexec, hbody⟩ := exec_fpuReg hi s
    have hrun := like_fpuReg (Like.refl s.start) hg s.eip op (s.fpuCond c)
    rw [start_o32] at hrun
    have hdone := completes_fpu_only hexec hs hl (by rw [Runs, hbody]; exact hrun)
    cases c with
    | none => exact hdone
    | some k => exact hdone
  case load =>
    have hl := lockOk_of_fpuOn (fpuOn_of_goes hg)
    have hrun := like_fpuLoad (Like.refl s.start) hg s.eip op (m := m) (align := align) (fpuLoad_pos hi) (by rw [start_fpuCan]; exact hc)
    rw [start_o32, start_eaAt, start_num, start_eaSeg, start_eaOffset] at hrun
    exact completes_fpu_only (exec_fpuLoad hi s) hs hl hrun
  case flags =>
    have hl := lockOk_of_fpuOn (fpuOn_of_goes hg)
    have hrun := like_fcomi (Like.refl s.start) hg s.eip op
    rw [start_o32] at hrun
    refine completes_passed (exec_fpuFlags hi s) hl (runs_mono hrun ?_)
    rintro _ u ⟨f, hu⟩
    exact ⟨_, _, hu, passed_fpuAs hs ((calm_start s).trans (calm_flagged _ _ _)) rfl _, fun t hg hm hf ht =>
      ⟨f, untouched_of hg hm, hf, ht⟩⟩
  case store =>
    have hl := lockOk_of_fpuOn (fpuOn_of_goes hg)
    have hrun := like_fpuStoreTo (Like.refl s.start) hg s.eip op (m := m) (align := align) (fpuStore_pos hi) (by rw [start_fpuCan]; exact hc)
    rw [start_o32, start_eaAt, start_eaSeg, start_eaOffset] at hrun
    exact completes_fpu_stored (exec_fpuStore hi s) hs hl hrun

/-! ### Control instructions -/

theorem like_fnstsw {s u : State} (h : Like s u) (hon : s.fpuOn = true) {m : Ea} (f : Fpu → Half)
    (hc : s.fpuCan m 2 2 .write = true) :
    Runs (escNoWait (do let t ← get; writeEa m 0 2 2 (f t.fpu).toNat)) u fun _ v =>
      Like (s.stored (s.eaAt m) 2 (f s.fpu).toNat) v :=
  like_escNoWait h hon fun v hv => like_get_bind hv fun k st n b => like_writeEa (like_noisy s k st n b) _ (by decide) hc

theorem like_fldcw {s u : State} (h : Like s u) (hg : s.fpuGoes = true) (cur : Word) {m : Ea} (hc : s.fpuCan m 2 2 .read = true) :
    Runs (fldcwBody cur m) u fun _ v =>
      Like (s.fpuAs (fpuSummed { s.fpu with cw := BitVec.ofNat 16 (s.num (s.eaAt m) 2) })) v :=
  like_esc h hg fun v hv => runs_bind (like_readEaAt hv (by decide) hc) fun x v hx => by
    obtain ⟨rfl, hv⟩ := hx
    exact like_get_bind hv fun k st n b => like_putFpu (like_noisy s k st n b) _

theorem imageSize_pos {o32 : Bool} {narrow wide : Nat} (hn : 0 < narrow) (hw : 0 < wide) : 0 < imageSize o32 narrow wide := by
  cases o32 with
  | true => exact hw
  | false => exact hn

theorem like_fpuLoadImage {s u : State} (h : Like s u) (hg : s.fpuGoes = true) (cur : Word) (op : Nat) {m : Ea} {narrow wide : Nat}
    (hn : 0 < narrow) (hw : 0 < wide) (hc : s.fpuCan m (imageSize s.o32 narrow wide) (bytes s.o32) .read = true) :
    Runs (fpuLoadImage cur op m narrow wide) u fun _ v =>
      Like (s.fpuAs (Config.fpuRun op s.o32 (s.num (s.eaAt m) (imageSize s.o32 narrow wide)) s.fpu)) v :=
  like_esc h hg fun v hv => like_get_bind hv fun k st n b => by
    rw [noisy_o32]
    refine runs_bind (like_readEaAt (like_noisy s k st n b) (imageSize_pos hn hw) hc) fun x v hx => ?_
    obtain ⟨rfl, hv⟩ := hx
    exact like_putFpu hv _

theorem like_fpuStoreImage {s u : State} (h : Like s u) (hon : s.fpuOn = true) (op : Nat) {m : Ea} {narrow wide : Nat}
    (hn : 0 < narrow) (hw : 0 < wide) (hc : s.fpuCan m (imageSize s.o32 narrow wide) (bytes s.o32) .write = true) :
    Runs (fpuStoreImage op m narrow wide) u fun _ v =>
      Like ((s.stored (s.eaAt m) (imageSize s.o32 narrow wide) (Config.fpuStore op s.o32 s.fpu)).fpuAs
        (Config.fpuRun op s.o32 0 s.fpu)) v :=
  like_escNoWait h hon fun v hv => like_get_bind hv fun k st n b => by
    rw [noisy_o32]
    exact runs_bind (like_writeEa (like_noisy s k st n b) _ (imageSize_pos hn hw) hc) fun _ v hv => like_putFpu hv _

/-- WAIT goes on where no error is pending, or where it is ignored. -/
theorem like_wait {s u : State} (h : Like s u) (cur : Word) (hcr0 : (bit s.sys.cr0 1 && bit s.sys.cr0 3) = false)
    (hp : bit s.fpu.sw 7 = false ∨ (bit s.sys.cr0 5 = false ∧ s.lat.ignne = true)) :
    Runs (waitBody cur) u fun _ v => Like s v := by
  refine like_get_bind h fun k st n b => ?_
  have hu := like_noisy s k st n b
  refine runs_if_neg (fun h => Bool.false_ne_true (hcr0.symm.trans h)) ?_
  rcases hp with hno | ⟨hne, hign⟩
  · exact runs_if_neg (fun h => Bool.false_ne_true (hno.symm.trans h)) (runs_pure hu)
  · by_cases hp : fpuPending (s.noisy k st n b).fpu = true
    · refine runs_if_pos hp (runs_get_bind ?_)
      exact runs_if_neg (fun h5 => Bool.false_ne_true (hne.symm.trans h5)) (runs_if_pos hign (runs_pure hu))
    · exact runs_if_neg hp (runs_pure hu)

/-- An instruction that stores a 16-bit register of the FPU. -/
theorem completes_fnstsw {i : Instr} {m : Ea} {f : Fpu → Half} {s : State}
    (hi : exec i s = instr false (escNoWait (do let t ← get; writeEa m 0 2 2 (f t.fpu).toNat)) s) (hs : s.ready)
    (hon : s.fpuOn = true) (hc : s.fpuCan m 2 2 .write = true) :
    Completes i s fun t => t.gpr = s.gpr ∧ Stored s t (s.eaAt m) 2 (f s.fpu).toNat ∧ FlagsSame s t ∧ Falls s t := by
  have hrun := like_fnstsw (Like.refl s.start) hon (m := m) f (by rw [start_fpuCan]; exact hc)
  rw [start_eaAt] at hrun
  exact completes_of_like hi hs (lockOk_of_fpuOn hon) hrun ((calm_start s).trans (calm_stored _ _ _ _)) rfl
    fun t hg hm hf ht => ⟨hg, stored_memWriteList hs.1 hm, hf, ht⟩

theorem completes_loadImage {i : Instr} {m : Ea} {op narrow wide : Nat} {s : State}
    (hi : exec i s = instr false (fpuLoadImage s.eip op m narrow wide) s) (hs : s.ready) (hg : s.fpuGoes = true)
    (hn : 0 < narrow) (hw : 0 < wide) (hc : s.fpuCan m (imageSize s.o32 narrow wide) (bytes s.o32) .read = true) :
    Completes i s fun t => Untouched s t ∧ FlagsSame s t ∧
      Falls (s.fpuAs (Config.fpuRun op s.o32 (s.num (s.eaAt m) (imageSize s.o32 narrow wide)) s.fpu)) t := by
  have hrun := like_fpuLoadImage (Like.refl s.start) hg s.eip op (m := m) hn hw (by rw [start_fpuCan, start_o32]; exact hc)
  rw [start_o32, start_eaAt, start_num] at hrun
  exact completes_fpu_only hi hs (lockOk_of_fpuOn (fpuOn_of_goes hg)) hrun

theorem completes_storeImage {i : Instr} {m : Ea} {op narrow wide : Nat} {s : State}
    (hi : exec i s = instr false (fpuStoreImage op m narrow wide) s) (hs : s.ready) (hon : s.fpuOn = true)
    (hn : 0 < narrow) (hw : 0 < wide) (hc : s.fpuCan m (imageSize s.o32 narrow wide) (bytes s.o32) .write = true) :
    Completes i s fun t => t.gpr = s.gpr ∧ Stored s t (s.eaAt m) (imageSize s.o32 narrow wide) (Config.fpuStore op s.o32 s.fpu) ∧
      FlagsSame s t ∧ Falls (s.fpuAs (Config.fpuRun op s.o32 0 s.fpu)) t := by
  have hrun := like_fpuStoreImage (Like.refl s.start) hon op (m := m) hn hw (by rw [start_fpuCan, start_o32]; exact hc)
  rw [start_o32, start_eaAt] at hrun
  exact completes_fpu_stored hi hs (lockOk_of_fpuOn hon) hrun

/-- Settles O34. -/
theorem fpuControl : Obligations.FpuControl := by
  refine ⟨fun s hs hon => ?finit, fun s hs hon => ?fclex, fun s hs hon => ?ax, fun i m v s hi hs hon hc => ?word,
    fun m s hs hg hc => ?fldcw, fun i m op k s hi hs hg hc => ?load, fun i m op k s hi hs hon hc => ?store,
    fun s hs hl hcr0 hp => ?wait⟩
  case finit =>
    exact completes_fpu_only (i := .finitFninit) rfl hs (lockOk_of_fpuOn hon)
      (like_escNoWait (Like.refl s.start) hon fun v hv => like_get_bind hv fun k st n b => like_putFpu (like_noisy s.start k st n b) _)
  case fclex =>
    refine completes_fpu_only (i := .fclexFnclex) rfl hs (lockOk_of_fpuOn hon)
      (like_escNoWait (Like.refl s.start) hon fun v hv => like_get_bind hv fun k st n b => ?_)
    rw [noisy_o32, start_o32]
    exact like_putFpu (like_noisy s.start k st n b) _
  case ax =>
    refine completes_wrote (i := .fstswAxFnstswAx) (w := 16) (rm := .reg .eax) (v := s.fpu.sw) rfl hs (lockOk_of_fpuOn hon)
      (like_escNoWait (Like.refl s.start) hon fun v hv => like_get_bind hv fun k st n b => ?_)
    exact like_putR16 (like_noisy s.start k st n b) .eax s.fpu.sw
  case word =>
    rcases hi with ⟨rfl, rfl⟩ | ⟨rfl, rfl⟩
    · exact completes_fnstsw (i := .fstcwFnstcw m) (f := Fpu.cw) rfl hs hon hc
    · exact completes_fnstsw (i := .fstswFnstsw m) (f := Fpu.sw) rfl hs hon hc
  case fldcw =>
    have hrun := like_fldcw (Like.refl s.start) hg s.eip (m := m) (by rw [start_fpuCan]; exact hc)
    rw [start_eaAt, start_num] at hrun
    exact completes_fpu_only (i := .fldcw m) rfl hs (lockOk_of_fpuOn (fpuOn_of_goes hg)) hrun
  case load =>
    rcases hi with ⟨rfl, rfl, rfl⟩ | ⟨rfl, rfl, rfl⟩
    · exact completes_loadImage (i := .fldenv m) rfl hs hg (by decide) (by decide) hc
    · exact completes_loadImage (i := .frstor m) rfl hs hg (by decide) (by decide) hc
  case store =>
    rcases hi with ⟨rfl, rfl, rfl⟩ | ⟨rfl, rfl, rfl⟩
    · exact completes_storeImage (i := .fstenvFnstenv m) rfl hs hon (by decide) (by decide) hc
    · exact completes_storeImage (i := .fsaveFnsave m) rfl hs hon (by decide) (by decide) hc
  case wait =>
    exact completes_of_like (i := .waitFwait) rfl hs hl (like_wait (Like.refl s.start) s.eip hcr0 hp) (calm_start s) rfl
      fun t hg hm hf ht => ⟨untouched_of hg hm, hf, ht⟩

end Sys2Proof.Machine

/-! SUPPORT. The flags of sums and differences, and the shifts. -/
namespace Sys2Proof.Machine
open Host

/-! ### The result -/

/-- An even number of members is the complement of their sum modulo 2. -/
theorem even_filter (f : Nat → Bool) (l : List Nat) :
    decide ((l.filter f).length % 2 = 0) = !(l.foldr (fun i b => f i ^^ b) false) := by
  induction l with
  | nil => rfl
  | cons i l ih =>
    rw [List.foldr_cons, List.filter_cons]
    cases hf : f i with
    | false => simpa using ih
    | true =>
      rw [if_pos rfl, List.length_cons, Bool.true_xor, ← ih, ← decide_not]
      exact decide_eq_decide.2 (by omega)

theorem parity_eq {w : Nat} (x : BitVec w) :
    parity x = decide (((List.range 8).filter x.getLsbD).length % 2 = 0) := by
  rw [even_filter, show List.range 8 = [0, 1, 2, 3, 4, 5, 6, 7] from rfl]
  simp only [parity, bit, List.foldr_cons, List.foldr_nil, Bool.xor_false, Bool.xor_assoc]

/-- ZF, SF and PF say of the result what they are for. -/
theorem szp_result {w : Nat} (r : BitVec w) (cf af of : Bool) :
    (szp r cf af of).zf = decide (r.toNat = 0) ∧ (szp r cf af of).sf = decide (r.toInt < 0) ∧
      (szp r cf af of).pf = decide (((List.range 8).filter r.getLsbD).length % 2 = 0) := by
  refine ⟨decide_eq_decide.2 ?_, BitVec.msb_eq_toInt, parity_eq r⟩
  rw [← BitVec.toNat_inj]
  rfl

/-! ### Sums and differences -/

/-- Bit 4 of a number of five bits or more. -/
theorem getLsbD_four {w : Nat} (x : BitVec w) : x.getLsbD 4 = decide (16 ≤ x.toNat % 32) := by
  rw [BitVec.getLsbD, Nat.testBit_eq_decide_div_mod_eq]
  exact decide_eq_decide.2 (by omega)

/-- A number of `w` bits lies in the lower half or in the upper half, as its sign says. -/
theorem halves {w : Nat} (hw : 0 < w) (x : BitVec w) : 2 ^ w = 2 * 2 ^ (w - 1) ∧ x.toNat < 2 * 2 ^ (w - 1) ∧
    msb x = decide (2 ^ (w - 1) ≤ x.toNat) ∧
    x.toInt = if 2 ^ (w - 1) ≤ x.toNat then (x.toNat : Int) - 2 * (2 ^ (w - 1) : Nat) else x.toNat := by
  have hpow : 2 ^ w = 2 * 2 ^ (w - 1) := by
    rw [← Nat.pow_succ', Nat.succ_eq_add_one, Nat.sub_add_cancel hw]
  have hlt : x.toNat < 2 * 2 ^ (w - 1) := hpow ▸ x.isLt
  refine ⟨hpow, hlt, BitVec.msb_eq_decide x, ?_⟩
  rw [BitVec.toInt_eq_toNat_cond, hpow]
  generalize 2 ^ (w - 1) = h at hlt ⊢
  split <;> split <;> omega

theorem toNat_carry {w : Nat} (hw : 8 ≤ w) (c : Bool) :
    (BitVec.ofNat w (ofBool c)).toNat = if c then 1 else 0 := by
  have h1 : 1 < 2 ^ w := Nat.one_lt_two_pow (by omega)
  rw [BitVec.toNat_ofNat]
  cases c with
  | true => exact Nat.mod_eq_of_lt h1
  | false => rfl

theorem mod_32_of_mod {w : Nat} (hw : 8 ≤ w) (x : Nat) : x % 2 ^ w % 32 = x % 32 :=
  Nat.mod_mod_of_dvd x (Nat.pow_dvd_pow 2 (show 5 ≤ w by omega))

/-- Three bits of which an odd number are set. -/
theorem xor_decide {p q r c : Prop} [Decidable p] [Decidable q] [Decidable r] [Decidable c]
    (h : c ↔ ((p ↔ ¬ q) ↔ ¬ r)) : (decide p ^^ decide q ^^ decide r) = decide c := by
  by_cases hp : p <;> by_cases hq : q <;> by_cases hr : r <;> simp [hp, hq, hr, h]

theorem add_flags {w : Nat} (a b : BitVec w) (c : Bool) (hw : 8 ≤ w) :
    let k : Nat := if c then 1 else 0
    let p := addFlags a b c
    p.1.toNat = (a.toNat + b.toNat + k) % 2 ^ w ∧ p.2.cf = decide (2 ^ w ≤ a.toNat + b.toNat + k) ∧
      p.2.of = decide (p.1.toInt ≠ a.toInt + b.toInt + k) ∧ p.2.af = (a ^^^ b ^^^ p.1).getLsbD 4 := by
  dsimp only
  have hk : (if c then 1 else 0 : Nat) ≤ 1 := by split <;> decide
  have hn : ofBool c = if c then 1 else 0 := rfl
  have hr : (addFlags a b c).1.toNat = (a.toNat + b.toNat + if c then 1 else 0) % 2 ^ w := by
    rw [addFlags, BitVec.toNat_add, BitVec.toNat_add, toNat_carry hw, Nat.mod_add_mod]
  refine ⟨hr, rfl, ?_, ?_⟩
  · obtain ⟨hpow, ha, hma, hia⟩ := halves (by omega) a
    obtain ⟨-, hb, hmb, hib⟩ := halves (by omega) b
    obtain ⟨-, hrl, hmr, hir⟩ := halves (by omega) (addFlags a b c).1
    have hof : (addFlags a b c).2.of = (msb a == msb b && msb (addFlags a b c).1 != msb a) := rfl
    rw [hof, hma, hmb, hmr, hia, hib, hir]
    rw [hpow] at hr
    generalize (addFlags a b c).1.toNat = r at *
    generalize 2 ^ (w - 1) = h at *
    generalize a.toNat = x at *
    generalize b.toNat = y at *
    generalize (if c = true then 1 else 0 : Nat) = k at *
    have hcase : x + y + k < 2 * h ∧ r = x + y + k ∨ 2 * h ≤ x + y + k ∧ r + 2 * h = x + y + k := by
      rcases Nat.lt_or_ge (x + y + k) (2 * h) with hlt | hge
      · exact .inl ⟨hlt, by rw [hr, Nat.mod_eq_of_lt hlt]⟩
      · refine .inr ⟨hge, ?_⟩
        rw [hr, Nat.mod_eq_sub_mod hge, Nat.mod_eq_of_lt (by omega)]
        omega
    by_cases h1 : h ≤ x <;> by_cases h2 : h ≤ y <;> by_cases h3 : h ≤ r <;> simp [h1, h2, h3] <;> omega
  · have haf : (addFlags a b c).2.af = decide (15 < a.toNat % 16 + b.toNat % 16 + if c then 1 else 0) := rfl
    rw [haf, BitVec.getLsbD_xor, BitVec.getLsbD_xor, getLsbD_four, getLsbD_four, getLsbD_four, hr, mod_32_of_mod hw]
    generalize (if c = true then 1 else 0 : Nat) = k at *
    refine (xor_decide ?_).symm
    omega

/-- A difference modulo a number, without a borrow and with one. -/
theorem difference_cases {m r x y k : Nat} (hr : r = (m - k + (m - y + x)) % m) (hx : x < m) (hy : y < m) (hk : k ≤ 1) (hm : 1 < m) :
    r = x - y - k ∧ y + k ≤ x ∨ r + y + k = x + m ∧ x < y + k := by
  rcases Nat.lt_or_ge x (y + k) with hlt | hge
  · right
    rw [show m - k + (m - y + x) = (x + m - y - k) + m by omega, Nat.add_mod_right, Nat.mod_eq_of_lt (by omega)] at hr
    omega
  · left
    rw [show m - k + (m - y + x) = (x - y - k) + m + m by omega, Nat.add_mod_right, Nat.add_mod_right,
      Nat.mod_eq_of_lt (by omega)] at hr
    omega

theorem sub_flags {w : Nat} (a b : BitVec w) (c : Bool) (hw : 8 ≤ w) :
    let k : Nat := if c then 1 else 0
    let p := subFlags a b c
    (p.1.toNat : Int) = (a.toNat - b.toNat - k : Int) % 2 ^ w ∧ p.2.cf = decide ((a.toNat : Int) - b.toNat - k < 0) ∧
      p.2.of = decide (p.1.toInt ≠ a.toInt - b.toInt - k) ∧ p.2.af = (a ^^^ b ^^^ p.1).getLsbD 4 := by
  dsimp only
  have hk : (if c then 1 else 0 : Nat) ≤ 1 := by split <;> decide
  obtain ⟨hpow, ha, hma, hia⟩ := halves (by omega) a
  obtain ⟨-, hb, hmb, hib⟩ := halves (by omega) b
  obtain ⟨-, hrl, hmr, hir⟩ := halves (by omega) (subFlags a b c).1
  have h32 : 2 * 2 ^ (w - 1) = 32 * 2 ^ (w - 5) := by
    rw [← hpow, show (32 : Nat) = 2 ^ 5 from rfl, ← Nat.pow_add, Nat.add_sub_cancel' (by omega)]
  have hr : (subFlags a b c).1.toNat = a.toNat - b.toNat - (if c then 1 else 0) ∧ b.toNat + (if c then 1 else 0) ≤ a.toNat ∨
      (subFlags a b c).1.toNat + b.toNat + (if c then 1 else 0) = a.toNat + 2 * 2 ^ (w - 1) ∧
        a.toNat < b.toNat + (if c then 1 else 0) := by
    have hval : (subFlags a b c).1.toNat =
        (2 ^ w - (if c then 1 else 0) + (2 ^ w - b.toNat + a.toNat)) % 2 ^ w := by
      rw [subFlags, BitVec.toNat_sub, BitVec.toNat_sub, toNat_carry hw, Nat.add_mod_mod]
    exact difference_cases (hpow ▸ hval) ha hb hk (by omega)
  have hof : (subFlags a b c).2.of = (msb a != msb b && msb (subFlags a b c).1 != msb a) := rfl
  have hcf : (subFlags a b c).2.cf = decide (a.toNat < b.toNat + if c then 1 else 0) := rfl
  have haf : (subFlags a b c).2.af = decide (a.toNat % 16 < b.toNat % 16 + if c then 1 else 0) := rfl
  rw [hof, hcf, haf, hma, hmb, hmr, hia, hib, hir, BitVec.getLsbD_xor, BitVec.getLsbD_xor, getLsbD_four, getLsbD_four,
    getLsbD_four, show ((2 : Int) ^ w) = ((2 ^ w : Nat) : Int) by simp, hpow]
  generalize (subFlags a b c).1.toNat = r at *
  generalize 2 ^ (w - 1) = h at *
  generalize 2 ^ (w - 5) = z at *
  generalize a.toNat = x at *
  generalize b.toNat = y at *
  generalize (if c = true then 1 else 0 : Nat) = k at *
  refine ⟨?_, decide_eq_decide.2 (by omega), ?_, (xor_decide ?_).symm⟩
  · rcases hr with ⟨hr, hle⟩ | ⟨hr, hlt⟩
    · rw [Int.emod_eq_of_lt (by omega) (by omega)]
      omega
    · rw [← Int.add_emod_right, Int.emod_eq_of_lt (by omega) (by omega)]
      omega
  · by_cases h1 : h ≤ x <;> by_cases h2 : h ≤ y <;> by_cases h3 : h ≤ r <;> simp [h1, h2, h3] <;> omega
  · omega

/-! ### Shifts -/

theorem times_succ {α : Type} (f : α → α) (n : Nat) (x : α) : times f (n + 1) x = f (times f n x) := by
  induction n generalizing x with
  | zero => rfl
  | succ n ih => exact ih (f x)

theorem times_shl {w : Nat} (hw : 0 < w) (a : BitVec w) (c : Bool) (n : Nat) :
    times (shiftStep .shl) (n + 1) (a, c) = (a <<< (n + 1), a.getLsbD (w - (n + 1)) && decide (n + 1 ≤ w)) := by
  have hmsb (n : Nat) : msb (a <<< n) = (a.getLsbD (w - (n + 1)) && decide (n + 1 ≤ w)) := by
    have hs : w - (n + 1) = w - 1 - n := by omega
    rw [msb, BitVec.msb_eq_getLsbD_last, BitVec.getLsbD_shiftLeft, hs]
    by_cases h : n + 1 ≤ w
    · have h1 : ¬ w - 1 < n := by omega
      simp [h, h1, hw]
    · have h1 : w - 1 < n := by omega
      simp [h, h1]
  induction n with
  | zero =>
    rw [times_succ]
    have h0 := hmsb 0
    rw [BitVec.shiftLeft_zero] at h0
    exact Prod.ext rfl h0
  | succ n ih =>
    rw [times_succ, ih]
    exact Prod.ext (BitVec.shiftLeft_add a (n + 1) 1).symm (hmsb (n + 1))

theorem times_shr {w : Nat} (a : BitVec w) (c : Bool) (n : Nat) :
    times (shiftStep .shr) (n + 1) (a, c) = (a >>> (n + 1), a.getLsbD n) := by
  induction n with
  | zero => rfl
  | succ n ih =>
    rw [times_succ, ih]
    exact Prod.ext (BitVec.shiftRight_add a (n + 1) 1).symm (by simp [shiftStep, bit])

theorem times_sar {w : Nat} (a : BitVec w) (c : Bool) (n : Nat) :
    times (shiftStep .sar) (n + 1) (a, c) = (a.sshiftRight (n + 1), (a.sshiftRight n).getLsbD 0) := by
  induction n with
  | zero => 
    rw [times_succ]
    exact Prod.ext rfl (by simp [times, shiftStep, bit])
  | succ n ih =>
    rw [times_succ, ih]
    exact Prod.ext BitVec.sshiftRight_add.symm rfl

theorem getLsbD_twoPow_if {w k i : Nat} (hi : i < w) (b : Bool) :
    (if b then BitVec.twoPow w k else 0 : BitVec w).getLsbD i = (b && decide (i = k)) := by
  cases b with
  | true => simp [eq_comm, hi]
  | false => simp

section
variable {w i : Nat} (hi : i < w) (x : BitVec w) (c : Bool)
include hi

theorem getLsbD_rolStep : (shiftStep .rol (x, c)).1.getLsbD i = ((!decide (i < 1) && x.getLsbD (i - 1)) || msb x && decide (i = 0)) := by
  rw [shiftStep, BitVec.getLsbD_or, getLsbD_twoPow_if hi, BitVec.getLsbD_shiftLeft, decide_eq_true hi, Bool.true_and]

theorem getLsbD_rclStep : (shiftStep .rcl (x, c)).1.getLsbD i = ((!decide (i < 1) && x.getLsbD (i - 1)) || c && decide (i = 0)) := by
  rw [shiftStep, BitVec.getLsbD_or, getLsbD_twoPow_if hi, BitVec.getLsbD_shiftLeft, decide_eq_true hi, Bool.true_and]

theorem getLsbD_rorStep : (shiftStep .ror (x, c)).1.getLsbD i = (x.getLsbD (1 + i) || x.getLsbD 0 && decide (i = w - 1)) := by
  rw [shiftStep, BitVec.getLsbD_or, getLsbD_twoPow_if hi, BitVec.getLsbD_ushiftRight, bit]

theorem getLsbD_rcrStep : (shiftStep .rcr (x, c)).1.getLsbD i = (x.getLsbD (1 + i) || c && decide (i = w - 1)) := by
  rw [shiftStep, BitVec.getLsbD_or, getLsbD_twoPow_if hi, BitVec.getLsbD_ushiftRight]

end

/-- Rotating left by one more, by fewer than the width, is rotating once more. -/
theorem rotateLeft_step {w n : Nat} (x : BitVec w) (c : Bool) (h : n + 1 < w) :
    (shiftStep .rol (x.rotateLeft n, c)).1 = x.rotateLeft (n + 1) := by
  apply BitVec.eq_of_getLsbD_eq
  intro i hi
  rw [getLsbD_rolStep hi, msb, BitVec.msb_eq_getLsbD_last, BitVec.getLsbD_rotateLeft, BitVec.getLsbD_rotateLeft, BitVec.getLsbD_rotateLeft, Nat.mod_eq_of_lt h,
    Nat.mod_eq_of_lt (show n < w by omega)]
  have htop : decide (w - 1 < n) = false := decide_eq_false (by omega)
  rcases Nat.eq_zero_or_pos i with rfl | hpos
  · have hplace : w - 1 - n = w - (n + 1) + 0 := by omega
    simp [htop, hplace, show w - 1 < w by omega]
  · have h0 : decide (i = 0) = false := decide_eq_false (by omega)
    have h1 : decide (i < 1) = false := decide_eq_false (by omega)
    have hlt : decide (i - 1 < n) = decide (i < n + 1) := decide_eq_decide.2 (by omega)
    have hlow : w - n + (i - 1) = w - (n + 1) + i := by omega
    have hhigh : i - 1 - n = i - (n + 1) := by omega
    rw [h0, h1, hlt, hlow, hhigh, decide_eq_true (show i - 1 < w by omega), decide_eq_true hi]
    simp

/-- Rotating right by one more, by fewer than the width, is rotating once more. -/
theorem rotateRight_step {w n : Nat} (x : BitVec w) (c : Bool) (h : n + 1 < w) :
    (shiftStep .ror (x.rotateRight n, c)).1 = x.rotateRight (n + 1) := by
  apply BitVec.eq_of_getLsbD_eq
  intro i hi
  rw [getLsbD_rorStep hi, BitVec.getLsbD_rotateRight, BitVec.getLsbD_rotateRight, BitVec.getLsbD_rotateRight, Nat.mod_eq_of_lt h,
    Nat.mod_eq_of_lt (show n < w by omega)]
  rcases Nat.lt_or_ge (1 + i) w with hlt | hge
  · have htop : decide (i = w - 1) = false := decide_eq_false (by omega)
    have hsplit : decide (1 + i < w - n) = decide (i < w - (n + 1)) := decide_eq_decide.2 (by omega)
    have hlow : n + (1 + i) = n + 1 + i := by omega
    have hhigh : 1 + i - (w - n) = i - (w - (n + 1)) := by omega
    rw [htop, hsplit, hlow, hhigh, decide_eq_true hlt, decide_eq_true hi, Bool.and_false, Bool.or_false]
  · have htop : decide (i = w - 1) = true := decide_eq_true (by omega)
    have hout : decide (1 + i < w) = false := decide_eq_false (by omega)
    have hno : decide (1 + i < w - n) = false := decide_eq_false (by omega)
    have hno' : decide (i < w - (n + 1)) = false := decide_eq_false (by omega)
    have hbit : i - (w - (n + 1)) = n + 0 := by omega
    rw [htop, hout, hno, hno', hbit, decide_eq_true (show 0 < w - n by omega), decide_eq_true hi]
    simp

theorem rotateLeft_zero {w : Nat} (x : BitVec w) : x.rotateLeft 0 = x := by
  apply BitVec.eq_of_getLsbD_eq
  intro i hi
  simp [hi]

theorem rotateRight_zero {w : Nat} (x : BitVec w) : x.rotateRight 0 = x := by
  apply BitVec.eq_of_getLsbD_eq
  intro i hi
  simp [hi]

theorem times_rol {w n : Nat} (x : BitVec w) (c : Bool) (h : n < w) : (times (shiftStep .rol) n (x, c)).1 = x.rotateLeft n := by
  induction n with
  | zero => exact (rotateLeft_zero x).symm
  | succ n ih =>
    have hpair : times (shiftStep .rol) n (x, c) = (x.rotateLeft n, (times (shiftStep .rol) n (x, c)).2) :=
      Prod.ext (ih (by omega)) rfl
    rw [times_succ, hpair]
    exact rotateLeft_step x _ h

theorem times_ror {w n : Nat} (x : BitVec w) (c : Bool) (h : n < w) : (times (shiftStep .ror) n (x, c)).1 = x.rotateRight n := by
  induction n with
  | zero => exact (rotateRight_zero x).symm
  | succ n ih =>
    have hpair : times (shiftStep .ror) n (x, c) = (x.rotateRight n, (times (shiftStep .ror) n (x, c)).2) :=
      Prod.ext (ih (by omega)) rfl
    rw [times_succ, hpair]
    exact rotateRight_step x _ h

/-! ### Rotates through CF -/

/-- A word and CF as one word, in which CF is the highest bit. -/
def withCf {w : Nat} (p : BitVec w × Bool) : BitVec (w + 1) := BitVec.cons p.2 p.1

theorem getLsbD_withCf {w : Nat} (p : BitVec w × Bool) (i : Nat) : (withCf p).getLsbD i = if i = w then p.2 else p.1.getLsbD i :=
  BitVec.getLsbD_cons p.2 p.1 i

theorem withCf_parts {w : Nat} (p : BitVec w × Bool) : (withCf p).setWidth w = p.1 ∧ (withCf p).getLsbD w = p.2 := by
  refine ⟨?_, by rw [getLsbD_withCf, if_pos rfl]⟩
  apply BitVec.eq_of_getLsbD_eq
  intro i hi
  rw [BitVec.getLsbD_setWidth, getLsbD_withCf, if_neg (Nat.ne_of_lt hi), decide_eq_true hi, Bool.true_and]

theorem withCf_rcl {w : Nat} (hw : 0 < w) (p : BitVec w × Bool) (c : Bool) :
    withCf (shiftStep .rcl p) = (shiftStep .rol (withCf p, c)).1 := by
  obtain ⟨x, b⟩ := p
  apply BitVec.eq_of_getLsbD_eq
  intro i hi
  have hmsb : msb (withCf (x, b)) = b := BitVec.msb_cons
  rw [getLsbD_withCf, getLsbD_rolStep hi, hmsb, getLsbD_withCf, if_neg (show ¬ i - 1 = w by omega)]
  by_cases htop : i = w
  · rw [if_pos htop, decide_eq_false (show ¬ i < 1 by omega), decide_eq_false (show ¬ i = 0 by omega), htop, Bool.and_false,
      Bool.or_false, Bool.not_false, Bool.true_and]
    exact BitVec.msb_eq_getLsbD_last x
  · rw [if_neg htop, getLsbD_rclStep (by omega)]

theorem withCf_rcr {w : Nat} (hw : 0 < w) (p : BitVec w × Bool) (c : Bool) :
    withCf (shiftStep .rcr p) = (shiftStep .ror (withCf p, c)).1 := by
  obtain ⟨x, b⟩ := p
  apply BitVec.eq_of_getLsbD_eq
  intro i hi
  rw [getLsbD_withCf, getLsbD_rorStep hi, getLsbD_withCf, getLsbD_withCf, if_neg (show ¬ 0 = w by omega), Nat.add_sub_cancel]
  by_cases htop : i = w
  · have hout : x.getLsbD (1 + i) = false := BitVec.getLsbD_of_ge _ _ (by omega)
    rw [if_pos htop, if_neg (by omega), hout, decide_eq_true htop, Bool.false_or, Bool.and_true]
    rfl
  · rw [if_neg htop, getLsbD_rcrStep (by omega), decide_eq_false htop, Bool.and_false, Bool.or_false]
    by_cases hnext : 1 + i = w
    · have hout : x.getLsbD (1 + i) = false := BitVec.getLsbD_of_ge _ _ (by omega)
      rw [if_pos hnext, hout, decide_eq_true (show i = w - 1 by omega), Bool.false_or, Bool.and_true]
    · rw [if_neg hnext, decide_eq_false (show ¬ i = w - 1 by omega), Bool.and_false, Bool.or_false]

/-- Steps through CF are steps of the longer word. -/
theorem withCf_times {w : Nat} {f : BitVec w × Bool → BitVec w × Bool} {g : BitVec (w + 1) × Bool → BitVec (w + 1) × Bool}
    (h : ∀ p c, withCf (f p) = (g (withCf p, c)).1) (n : Nat) (p : BitVec w × Bool) (c : Bool) :
    withCf (times f n p) = (times g n (withCf p, c)).1 := by
  induction n with
  | zero => rfl
  | succ n ih =>
    rw [times_succ, times_succ]
    exact (h _ _).trans (by rw [ih])

/-! ### The statement -/

theorem rotateLeft_mod {w : Nat} (x : BitVec w) (n : Nat) : x.rotateLeft (n % w) = x.rotateLeft n := by
  rw [BitVec.rotateLeft, BitVec.rotateLeft, Nat.mod_mod]

theorem rotateRight_mod {w : Nat} (x : BitVec w) (n : Nat) : x.rotateRight (n % w) = x.rotateRight n := by
  rw [BitVec.rotateRight, BitVec.rotateRight, Nat.mod_mod]

theorem shiftValue_rcl {w : Nat} (hw : 0 < w) (a : BitVec w) (c : Bool) (n : Nat) :
    shiftValue .rcl a c n = (((BitVec.cons c a).rotateLeft n).setWidth w, ((BitVec.cons c a).rotateLeft n).getLsbD w) := by
  have hx : withCf (times (shiftStep .rcl) (n % (w + 1)) (a, c)) = (BitVec.cons c a).rotateLeft n := by
    rw [withCf_times (withCf_rcl hw) _ _ false, times_rol _ _ (Nat.mod_lt _ (Nat.succ_pos w)), rotateLeft_mod]
    rfl
  obtain ⟨h1, h2⟩ := withCf_parts (times (shiftStep .rcl) (n % (w + 1)) (a, c))
  rw [← hx, h1, h2]
  rfl

theorem shiftValue_rcr {w : Nat} (hw : 0 < w) (a : BitVec w) (c : Bool) (n : Nat) :
    shiftValue .rcr a c n = (((BitVec.cons c a).rotateRight n).setWidth w, ((BitVec.cons c a).rotateRight n).getLsbD w) := by
  have hx : withCf (times (shiftStep .rcr) (n % (w + 1)) (a, c)) = (BitVec.cons c a).rotateRight n := by
    rw [withCf_times (withCf_rcr hw) _ _ false, times_ror _ _ (Nat.mod_lt _ (Nat.succ_pos w)), rotateRight_mod]
    rfl
  obtain ⟨h1, h2⟩ := withCf_parts (times (shiftStep .rcr) (n % (w + 1)) (a, c))
  rw [← hx, h1, h2]
  rfl

theorem shiftValue_rol {w : Nat} (hw : 0 < w) (a : BitVec w) (c : Bool) (n : Nat) :
    shiftValue .rol a c n = (a.rotateLeft n, (a.rotateLeft n).getLsbD 0) := by
  have hx := times_rol a c (Nat.mod_lt n hw)
  rw [rotateLeft_mod] at hx
  rw [← hx]
  rfl

theorem shiftValue_ror {w : Nat} (hw : 0 < w) (a : BitVec w) (c : Bool) (n : Nat) :
    shiftValue .ror a c n = (a.rotateRight n, (a.rotateRight n).getLsbD (w - 1)) := by
  have hx := times_ror a c (Nat.mod_lt n hw)
  rw [rotateRight_mod] at hx
  rw [← hx, ← BitVec.msb_eq_getLsbD_last]
  rfl

/-- Settles O41. -/
theorem flagRules : Obligations.FlagRules := by
  refine ⟨fun w a b c hw => ?_, fun w a b c hw => ?_, fun w a c n hw hn => ?_⟩
  · obtain ⟨hr, hcf, hof, haf⟩ := add_flags a b c hw
    obtain ⟨hzf, hsf, hpf⟩ := szp_result (addFlags a b c).1 (addFlags a b c).2.cf (addFlags a b c).2.af (addFlags a b c).2.of
    exact ⟨hr, hcf, hof, haf, hzf, hsf, hpf⟩
  · obtain ⟨hr, hcf, hof, haf⟩ := sub_flags a b c hw
    obtain ⟨hzf, hsf, hpf⟩ := szp_result (subFlags a b c).1 (subFlags a b c).2.cf (subFlags a b c).2.af (subFlags a b c).2.of
    exact ⟨hr, hcf, hof, haf, hzf, hsf, hpf⟩
  · obtain ⟨n, rfl⟩ : ∃ k, n = k + 1 := ⟨n - 1, by omega⟩
    have hpos : 0 < w := by omega
    exact ⟨times_shl hpos a c n, times_shr a c n, times_sar a c n, shiftValue_rol hpos a c _, shiftValue_ror hpos a c _,
      shiftValue_rcl hpos a c _, shiftValue_rcr hpos a c _⟩

end Sys2Proof.Machine

/-! SUPPORT. The model-specific registers, RDTSC, RDPMC and CPUID. -/
namespace Sys2Proof.Machine
open Host

/-! ### The register table against the accessors of the model -/

/-- What a write comes to, by its verdict and what a legal write leaves. -/
def MsrVerdict.outcome (m : Msrs) : MsrVerdict → MsrWrite
  | .takes => .ok m
  | .gp => .gp
  | .stops k => .refused k

/-- A row of the table says what the model reads and writes at its address. -/
structure MsrRow.Sound (r : MsrRow) : Prop where
  reads : ∀ m : Msrs, ∃ v, m.read r.addr = some v ∧ v &&& ~~~r.unfixed m = r.get m &&& ~~~r.unfixed m
  writes : ∀ (m : Msrs) (v : QWord), m.write r.addr v = (r.verdict v).outcome (r.put v m)
  mtrr : Machine.isMtrr r.addr = r.isMtrr

theorem blend_and_mask {w : Nat} (mask old new : BitVec w) : blend mask old new &&& mask = new &&& mask := by
  ext k hk
  simp only [blend, BitVec.getElem_and, BitVec.getElem_or, BitVec.getElem_not]
  cases mask[k] <;> simp

/-- A register whose bits outside a mask read as free values. -/
theorem reads_blend {w : Nat} {mask free v : BitVec w} {o : Option (BitVec w)} (h : o = some (blend mask free v)) :
    ∃ x, o = some x ∧ x &&& ~~~~~~mask = v &&& ~~~~~~mask :=
  ⟨_, h, by simp only [BitVec.not_not]; exact blend_and_mask mask free v⟩

theorem checked_legal (mask v : QWord) (legal : QWord → Bool) (m : Msrs) :
    (if legal v = true then checked (~~~mask) v m else .gp) = (takesIf mask legal v).outcome m := by
  unfold checked takesIf
  cases legal v with
  | false =>
    rw [if_neg Bool.false_ne_true, if_neg fun h => Bool.false_ne_true h.2]
    rfl
  | true =>
    rw [if_pos rfl]
    by_cases h : v &&& ~~~mask = 0
    · rw [if_neg (not_not.2 h), if_pos ⟨h, rfl⟩]
      rfl
    · rw [if_pos h, if_neg fun hc => h hc.1]
      rfl

theorem checked_none (v : QWord) (m : Msrs) : checked (~~~~~~0) v m = .ok m := by
  rw [checked, BitVec.not_not]
  exact if_neg (not_not.2 BitVec.and_zero)

theorem checked_all (v : QWord) (m : Msrs) : checked (~~~0) v m = if v ≠ 0 then .gp else .ok m := by
  have hand : v &&& ~~~0 = v := BitVec.and_allOnes
  rw [checked, hand]

theorem checked_eq (mask v : QWord) (m : Msrs) : checked (~~~mask) v m = (takesIf mask (fun _ => true) v).outcome m :=
  checked_legal mask v (fun _ => true) m

theorem isTypeAt_eq (v : QWord) (k : Nat) : isTypeAt v k = legalType (field v (8 * k) 8) := by
  unfold isTypeAt legalType
  generalize (field v (8 * k) 8 : Byte) = e
  have hnum (n : Nat) (hn : n < 256) : e.toNat = n ↔ e = BitVec.ofNat 8 n := by
    constructor
    · rintro rfl
      simp
    · rintro rfl
      simpa using hn
  rw [Bool.eq_iff_iff]
  simp only [List.contains_eq_mem, List.mem_cons, List.not_mem_nil, or_false, decide_eq_true_eq, Bool.decide_or,
    Bool.or_eq_true, hnum 0 (by decide), hnum 1 (by decide), hnum 4 (by decide), hnum 5 (by decide), hnum 6 (by decide)]
  rfl

theorem takesEnds_eq (v : QWord) (m : Msrs) :
    (if v = 0 ∨ v = allOnes then MsrWrite.ok m else .refused .mcCtlWrite) = (takesEnds v).outcome m := by
  unfold takesEnds allOnes
  split <;> rfl

theorem apicBaseAfter_eq (old v : QWord) :
    apicBaseAfter old v = (v &&& ~~~0x900#64) ||| (old &&& 0x100#64) ||| (old &&& v &&& 0x800#64) := by
  have h9 : 0x900#64 = BitVec.twoPow 64 8 ||| BitVec.twoPow 64 11 := by decide
  have h8 : 0x100#64 = BitVec.twoPow 64 8 := by decide
  have h11 : 0x800#64 = BitVec.twoPow 64 11 := by decide
  rw [h9, h8, h11]
  ext k hk
  unfold apicBaseAfter setBit bit
  by_cases e8 : k = 8
  · subst e8
    cases h : old.getLsbD 8 <;> cases old.getLsbD 11 && v.getLsbD 11 <;> simp [← BitVec.getLsbD_eq_getElem, h]
  by_cases e11 : k = 11
  · subst e11
    cases old.getLsbD 8 <;> cases h : old.getLsbD 11 <;> cases h' : v.getLsbD 11 <;> simp [← BitVec.getLsbD_eq_getElem, h, h']
  · cases old.getLsbD 8 <;> cases old.getLsbD 11 && v.getLsbD 11 <;>
      simp [BitVec.getElem_twoPow, e8, e11]

theorem field_low32 (v : QWord) : (field v 0 32 : Word) = v.setWidth 32 := by
  ext k hk
  simp [field]

theorem cut_eq_and {w : Nat} (v : BitVec w) (n : Nat) : (v.setWidth n).setWidth w = v &&& (BitVec.allOnes n).setWidth w := by
  ext k hk
  by_cases h : k < n
  · simp [h, BitVec.getLsbD_eq_getElem hk]
  · simp [h]

theorem widened_and_not {n : Nat} (x : BitVec n) (w : Nat) : x.setWidth w &&& ~~~(BitVec.allOnes n).setWidth w = 0 := by
  ext k hk
  by_cases h : k < n
  · simp [h]
  · simp [BitVec.getLsbD_of_ge x k (not_lt.1 h)]

theorem tscAfter_eq (v : QWord) : (field v 0 32 : Word).setWidth 64 = v &&& 0xFFFFFFFF#64 := by
  rw [field_low32]
  exact cut_eq_and v 32

/-- Reading the address register of a bank, or of the bank that P5_MC_ADDR shows. -/
theorem mcAddr_known (m : Msrs) (b : Fin Config.mcBanks) :
    let u : QWord := if bit (m.mc[b]).status 58 then 0 else 0xFFFFFFFFF#64
    m.mcAddr b &&& ~~~u = (if bit (m.mc[b]).status 58 then (m.mc[b]).addr else 0) &&& ~~~u := by
  intro u
  unfold u Msrs.mcAddr
  split
  · rfl
  · exact (widened_and_not _ 64).trans (BitVec.zero_and (x := ~~~0xFFFFFFFFF#64)).symm

theorem msrSingles_sound : ∀ r ∈ msrSingles, r.Sound := by
  have hread {a : Nat} {x : Msrs → QWord} (h : ∀ m, Msrs.read m a = some (x m)) (m : Msrs) :
      ∃ v, m.read a = some v ∧ v &&& ~~~0#64 = x m &&& ~~~0#64 := ⟨_, h m, rfl⟩
  simp only [msrSingles, List.forall_mem_append, List.forall_mem_cons, List.not_mem_nil, false_implies, implies_true, and_true]
  refine ⟨⟨?_, ?_, ?_, ?_, ?_, ?_, ?_, ?_, ?_⟩, ?_, ?_, ?_, ?_, ?_, ?_, ?_, ?_, ?_, ?_, ?_, ?_, ?_⟩
  · exact ⟨fun m => ⟨_, rfl, mcAddr_known m p5Bank⟩, fun _ _ => rfl, rfl⟩
  · exact ⟨hread fun _ => rfl, fun _ _ => rfl, rfl⟩
  · exact ⟨hread fun _ => rfl, fun m v => congrArg (fun x => MsrWrite.ok { m with tsc := x }) (tscAfter_eq v), rfl⟩
  · exact ⟨hread fun _ => rfl, fun m v => congrArg (fun x => MsrWrite.ok { m with apicBase := x }) (apicBaseAfter_eq m.apicBase v), rfl⟩
  · exact ⟨fun m => reads_blend rfl, fun m v => checked_eq eblMask v _, rfl⟩
  · exact ⟨fun m => ⟨_, rfl, by simp⟩, fun _ _ => rfl, rfl⟩
  · exact ⟨fun m => ⟨_, rfl, by simp⟩, fun _ _ => rfl, rfl⟩
  · exact ⟨hread fun _ => rfl, fun m v => congrArg (fun x : Word => MsrWrite.ok { m with perfCtr0 := x.signExtend 40 }) (field_low32 v), rfl⟩
  · exact ⟨hread fun _ => rfl, fun m v => congrArg (fun x : Word => MsrWrite.ok { m with perfCtr1 := x.signExtend 40 }) (field_low32 v), rfl⟩
  · exact ⟨hread fun _ => rfl, fun _ _ => rfl, rfl⟩
  · exact ⟨hread fun _ => rfl, fun _ _ => rfl, rfl⟩
  · exact ⟨fun m => reads_blend rfl, fun m v => checked_eq 7#64 v _, rfl⟩
  · exact ⟨hread fun _ => rfl, fun m v => takesEnds_eq v { m with mcgCtl := v }, rfl⟩
  · exact ⟨hread fun _ => rfl, fun m v => (congrArg (fun x : Word => checked _ v { m with evntSel0 := x }) (field_low32 v)).trans
      (checked_eq _ v _), rfl⟩
  · exact ⟨hread fun _ => rfl, fun m v => (congrArg (fun x : Word => checked _ v { m with evntSel1 := x }) (field_low32 v)).trans
      (checked_eq _ v _), rfl⟩
  · exact ⟨hread fun _ => rfl, fun m v => (congrArg (fun x : Word => checked _ v { m with debugCtl := x }) (field_low32 v)).trans
      (checked_eq _ v _), rfl⟩
  · exact ⟨hread fun _ => rfl, fun _ _ => rfl, rfl⟩
  · exact ⟨hread fun _ => rfl, fun _ _ => rfl, rfl⟩
  · exact ⟨hread fun _ => rfl, fun _ _ => rfl, rfl⟩
  · exact ⟨hread fun _ => rfl, fun _ _ => rfl, rfl⟩
  · refine ⟨fun m => ⟨_, rfl, blend_and_mask _ _ _⟩, fun m v => ?_, rfl⟩
    have h := checked_eq (~~~3#64) v { m with robCr := v }
    rwa [BitVec.not_not] at h
  · exact ⟨fun m => reads_blend rfl, fun m v => (congrArg (fun b => if b = true then checked (~~~mtrrDefMask) v { m with mtrrDef := v } else .gp)
      (isTypeAt_eq v 0).symm).trans (checked_legal _ v (fun v => isTypeAt v 0) _), rfl⟩

/-! ### The blocks of the memory-type ranges and of the machine-check banks -/

/-- The registers that come in blocks, read. -/
def Msrs.readBlock (m : Msrs) (a : Nat) : Option QWord :=
  match varIndex a, fixIndex a, mcIndex a with
  | some i, _, _ => some (if a % 2 = 0 then blend mtrrBaseMask (Config.msrReserved a) m.mtrrBase[i]
      else blend mtrrMaskMask (Config.msrReserved a) m.mtrrMask[i])
  | none, some i, _ => some m.mtrrFix[i]
  | none, none, some (b, r) => m.readMc b r
  | none, none, none => none

/-- The registers that come in blocks, written. -/
def Msrs.writeBlock (m : Msrs) (a : Nat) (v : QWord) : MsrWrite :=
  match varIndex a, fixIndex a, mcIndex a with
  | some i, _, _ =>
    if a % 2 = 0 then
      if legalType (field v 0 8) then checked (~~~mtrrBaseMask) v { m with mtrrBase := m.mtrrBase.set i v } else .gp
    else checked (~~~mtrrMaskMask) v { m with mtrrMask := m.mtrrMask.set i v }
  | none, some i, _ => if legalFixed v then .ok { m with mtrrFix := m.mtrrFix.set i v } else .gp
  | none, none, some (b, r) => m.writeMc b r v
  | none, none, none => .gp

/-- An address of no single register. -/
def NoSingle (a : Nat) : Prop := a ∉ msrSingles.map MsrRow.addr

theorem noSingle_iff (a : Nat) : NoSingle a ↔ a ∉ [0x0, 0x1, 0x10, 0x1B, 0x2A, 0x79, 0x8B, 0xC1, 0xC2, 0xFE, 0x179, 0x17A, 0x17B,
    0x186, 0x187, 0x1D9, 0x1DB, 0x1DC, 0x1DD, 0x1DE, 0x1E0, 0x2FF] := Iff.rfl

theorem read_noSingle {a : Nat} (h : NoSingle a) (m : Msrs) : m.read a = m.readBlock a := by
  simp only [noSingle_iff, List.mem_cons, List.not_mem_nil, or_false, not_or] at h
  simp (disch := omega) only [Msrs.read, if_neg, Msrs.readBlock]
  cases varIndex a <;> cases fixIndex a <;> cases mcIndex a <;> rfl

theorem write_noSingle {a : Nat} (h : NoSingle a) (m : Msrs) (v : QWord) : m.write a v = m.writeBlock a v := by
  simp only [noSingle_iff, List.mem_cons, List.not_mem_nil, or_false, not_or] at h
  simp (disch := omega) only [Msrs.write, if_neg, Msrs.writeBlock]
  cases varIndex a <;> cases fixIndex a <;> cases mcIndex a <;> rfl

theorem msrVariable_sound : ∀ r ∈ msrVariable, r.Sound := by
  have hvar : ∀ i : Fin Config.vcnt, NoSingle (0x200 + 2 * i.val) ∧ varIndex (0x200 + 2 * i.val) = some i ∧
      NoSingle (0x201 + 2 * i.val) ∧ varIndex (0x201 + 2 * i.val) = some i := by
    simp only [noSingle_iff]
    decide
  simp only [msrVariable, List.mem_flatMap, List.mem_finRange, true_and, forall_exists_index, List.mem_cons, List.not_mem_nil, or_false]
  rintro r i (rfl | rfl)
  · obtain ⟨hn, hv, -, -⟩ := hvar i
    have heven : (0x200 + 2 * i.val) % 2 = 0 := by omega
    refine ⟨fun m => reads_blend (mask := 0xFFFFFF0FF#64) (free := Config.msrReserved (0x200 + 2 * i.val)) ?_, fun m v => ?_, ?_⟩
    · simp only [read_noSingle hn, Msrs.readBlock, hv, if_pos heven]
      rfl
    · simp only [write_noSingle hn, Msrs.writeBlock, hv, if_pos heven]
      exact (congrArg (fun b => if b = true then checked (~~~mtrrBaseMask) v { m with mtrrBase := m.mtrrBase.set i v } else .gp)
        (isTypeAt_eq v 0).symm).trans (checked_legal _ v (fun v => isTypeAt v 0) _)
    · simp [Machine.isMtrr, hv]
  · obtain ⟨-, -, hn, hv⟩ := hvar i
    have hodd : ¬ (0x201 + 2 * i.val) % 2 = 0 := by omega
    refine ⟨fun m => reads_blend (mask := 0xFFFFFF800#64) (free := Config.msrReserved (0x201 + 2 * i.val)) ?_, fun m v => ?_, ?_⟩
    · simp only [read_noSingle hn, Msrs.readBlock, hv, if_neg hodd]
      rfl
    · simp only [write_noSingle hn, Msrs.writeBlock, hv, if_neg hodd]
      exact checked_eq _ v _
    · simp [Machine.isMtrr, hv]

theorem msrFixed_sound : ∀ r ∈ msrFixed, r.Sound := by
  have hfix : ∀ i : Fin Config.fixedMtrrs, NoSingle (fixedAddrs[i.val]?.getD 0) ∧ varIndex (fixedAddrs[i.val]?.getD 0) = none ∧
      fixIndex (fixedAddrs[i.val]?.getD 0) = some i := by
    simp only [noSingle_iff]
    decide
  simp only [msrFixed, List.mem_map, List.mem_finRange, true_and, forall_exists_index]
  rintro r i rfl
  obtain ⟨hn, hv, hf⟩ := hfix i
  refine ⟨fun m => ⟨_, ?_, rfl⟩, fun m v => ?_, ?_⟩
  · simp only [read_noSingle hn, Msrs.readBlock, hv, hf]
  · simp only [write_noSingle hn, Msrs.writeBlock, hv, hf]
    have hall : legalFixed v = (List.range 8).all (isTypeAt v) :=
      congrArg ((List.range 8).all ·) (funext fun k => (isTypeAt_eq v k).symm)
    rw [hall]
    have h := checked_legal (~~~0) v (fun v => (List.range 8).all (isTypeAt v)) { m with mtrrFix := m.mtrrFix.set i v }
    rw [checked_none] at h
    exact h
  · simp [Machine.isMtrr, hf]

theorem msrBank_sound {a : Nat} {b : Fin Config.mcBanks} (h0 : mcIndex a = some (b, .ctl)) (h1 : mcIndex (a + 1) = some (b, .status))
    (h2 : mcIndex (a + 2) = some (b, .addr)) (ha : 0x400 ≤ a) : ∀ r ∈ msrBank a b, r.Sound := by
  have hfar (k : Nat) : NoSingle (a + k) ∧ varIndex (a + k) = none ∧ fixIndex (a + k) = none := by
    refine ⟨?_, ?_, ?_⟩
    · simp only [noSingle_iff, List.mem_cons, List.not_mem_nil, or_false, not_or]
      omega
    · exact dif_neg (by omega)
    · simp (disch := omega) only [fixIndex, if_neg, dif_neg]
  have hread (k : Nat) (m : Msrs) {r : McReg} (hk : mcIndex (a + k) = some (b, r)) : m.read (a + k) = m.readMc b r := by
    obtain ⟨hn, hv, hf⟩ := hfar k
    simp only [read_noSingle hn, Msrs.readBlock, hv, hf, hk]
  have hwrite (k : Nat) (m : Msrs) (v : QWord) {r : McReg} (hk : mcIndex (a + k) = some (b, r)) :
      m.write (a + k) v = m.writeMc b r v := by
    obtain ⟨hn, hv, hf⟩ := hfar k
    simp only [write_noSingle hn, Msrs.writeBlock, hv, hf, hk]
  have hmtrr (k : Nat) : Machine.isMtrr (a + k) = false := by
    obtain ⟨hn, hv, hf⟩ := hfar k
    have hne : a + k ≠ 0x2FF := by omega
    simp [Machine.isMtrr, hv, hf, hne]
  simp only [msrBank, List.forall_mem_append, List.forall_mem_cons, List.not_mem_nil, false_implies, implies_true, and_true]
  refine ⟨⟨⟨fun m => ?_, fun m v => ?_, hmtrr 0⟩, ⟨fun m => ⟨_, hread 1 m h1, rfl⟩, fun m v => ?_, hmtrr 1⟩⟩, ?_⟩
  · refine ⟨_, hread 0 m h0, ?_⟩
    by_cases hb : b = 0
    · simp [hb]
    · simp only [Msrs.mcCtl, if_neg hb]
  · refine (hwrite 0 m v h0).trans ?_
    unfold Msrs.writeMc
    by_cases hb : b = 0
    · simp only [if_pos hb]
      rfl
    by_cases hv0 : v = 0
    · subst hv0
      simp only [if_neg hb]
      rfl
    by_cases hv1 : v = allOnes
    · subst hv1
      simp only [if_neg hb]
      rfl
    · have hends : takesEnds v = .stops .mcCtlWrite := if_neg (not_or.2 ⟨hv0, hv1⟩)
      simp only [if_neg hb, if_neg hv1, if_neg hv0, hends]
      rfl
  · refine (hwrite 1 m v h1).trans ?_
    exact (checked_all v { m with mc := m.mc.set b { m.mc[b] with status := 0 } }).symm.trans (checked_eq 0 v _)
  · by_cases hb : b = 4
    · simp [hb]
    · rw [if_neg hb]
      simp only [List.forall_mem_cons, List.not_mem_nil, false_implies, implies_true, and_true]
      refine ⟨fun m => ⟨_, (hread 2 m h2).trans (if_neg hb), mcAddr_known m b⟩, fun m v => hwrite 2 m v h2, hmtrr 2⟩

theorem msrTable_sound : ∀ r ∈ msrTable, r.Sound := by
  simp only [msrTable, List.forall_mem_append]
  refine ⟨⟨⟨⟨⟨⟨⟨msrSingles_sound, msrVariable_sound⟩, msrFixed_sound⟩, ?_⟩, ?_⟩, ?_⟩, ?_⟩, ?_⟩
  · exact msrBank_sound rfl rfl rfl (by decide)
  · exact msrBank_sound rfl rfl rfl (by decide)
  · exact msrBank_sound rfl rfl rfl (by decide)
  · exact msrBank_sound rfl rfl rfl (by decide)
  · exact msrBank_sound rfl rfl rfl (by decide)

/-- The addresses of the table. -/
def msrAddrs : List Nat :=
  [0x0, 0x1, 0x10, 0x1B, 0x2A, 0x79, 0x8B, 0xC1, 0xC2, 0xFE, 0x179, 0x17A, 0x17B, 0x186, 0x187, 0x1D9, 0x1DB, 0x1DC, 0x1DD,
    0x1DE, 0x1E0, 0x2FF] ++ List.range' 0x200 16 ++ fixedAddrs ++ [0x400, 0x401, 0x402, 0x404, 0x405, 0x406, 0x408, 0x409, 0x40A,
    0x40C, 0x40D, 0x410, 0x411, 0x412]

theorem msrTable_addrs : msrTable.map MsrRow.addr = msrAddrs := rfl

/-- The machine-check addresses outside the table are those of MCi_MISC and of the absent MC4_ADDR. -/
theorem mcIndex_outside (k : Fin 20) (h : 0x400 + k.val ∉ msrAddrs) :
    ∃ b r, mcIndex (0x400 + k.val) = some (b, r) ∧ (r = .misc ∨ b = 4 ∧ r = .addr) := by
  have hk : ∀ k : Fin 20, 0x400 + k.val ∉ msrAddrs →
      (mcIndex (0x400 + k.val)).any (fun p => p.2 = .misc ∨ p.1 = 4 ∧ p.2 = .addr) = true := by
    unfold msrAddrs
    decide
  obtain ⟨⟨b, r⟩, hp, hr⟩ := (Option.any_eq_true _ _).1 (hk k h)
  exact ⟨b, r, hp, of_decide_eq_true hr⟩

theorem readMc_outside {b : Fin Config.mcBanks} {r : McReg} (h : r = .misc ∨ b = 4 ∧ r = .addr) (m : Msrs) :
    m.readMc b r = none ∧ ∀ v, m.writeMc b r v = .gp := by
  obtain rfl | ⟨rfl, rfl⟩ := h
  · exact ⟨rfl, fun _ => rfl⟩
  · exact ⟨rfl, fun _ => rfl⟩

theorem not_in_msrTable {a : Nat} (h : ∀ r ∈ msrTable, a ≠ r.addr) (m : Msrs) : m.read a = none ∧ ∀ v, m.write a v = .gp := by
  have haddr : a ∉ msrAddrs := fun hm => by
    obtain ⟨r, hr, he⟩ := List.mem_map.1 (msrTable_addrs ▸ hm)
    exact h r hr he.symm
  have hn : NoSingle a := fun hm => haddr (List.mem_append_left _ (List.mem_append_left _ (List.mem_append_left _ hm)))
  have hfixed : a ∉ fixedAddrs := fun hm => haddr (List.mem_append_left _ (List.mem_append_right _ hm))
  have hrange : a ∉ List.range' 0x200 16 := fun hm => haddr (List.mem_append_left _ (List.mem_append_left _ (List.mem_append_right _ hm)))
  have hv : varIndex a = none := dif_neg fun hc => hrange (List.mem_range'_1.2 (by omega))
  have hf : fixIndex a = none := by
    simp only [fixedAddrs, List.mem_cons, List.not_mem_nil, or_false, not_or] at hfixed
    simp (disch := omega) only [fixIndex, if_neg, dif_neg]
  rw [read_noSingle hn]
  simp only [write_noSingle hn, Msrs.readBlock, Msrs.writeBlock, hv, hf]
  by_cases hr : 0x400 ≤ a ∧ a ≤ 0x413
  · obtain ⟨k, rfl⟩ : ∃ k : Fin 20, a = 0x400 + k.val := ⟨⟨a - 0x400, by omega⟩, by simp only; omega⟩
    obtain ⟨b, r, hb, hbr⟩ := mcIndex_outside k haddr
    simp only [hb]
    exact readMc_outside hbr m
  · have hm : mcIndex a = none := if_neg hr
    simp only [hm, implies_true, and_true]

/-! ### RDMSR and WRMSR -/

theorem read_of_row {r : MsrRow} (hr : r ∈ msrTable) {s : State} (ha : (s.r32 .ecx).toNat = r.addr) :
    ∃ v, s.msr.read s.gpr.ecx.toNat = some v ∧ v &&& ~~~r.unfixed s.msr = r.get s.msr &&& ~~~r.unfixed s.msr := by
  obtain ⟨v, hv, heq⟩ := (msrTable_sound r hr).reads s.msr
  exact ⟨v, (congrArg s.msr.read ha).trans hv, heq⟩

theorem write_of_row {r : MsrRow} (hr : r ∈ msrTable) {s : State} (ha : (s.r32 .ecx).toNat = r.addr) :
    s.msr.write s.gpr.ecx.toNat s.edxEax = (r.verdict s.edxEax).outcome (r.put s.edxEax s.msr) :=
  (congrArg (s.msr.write · s.edxEax) ha).trans ((msrTable_sound r hr).writes s.msr s.edxEax)

theorem run_privileged {s : State} (hp : s.privileged = true) (f : State → M Unit) :
    (do requireCpl0; let s ← get; f s : M Unit) s = f s s := by
  rw [run_bind, run_requireCpl0, if_pos hp]
  rfl

/-- RDMSR at the highest level. -/
theorem run_rdmsr {s : State} (hp : s.privileged = true) :
    rdmsr s = (match s.msr.read s.gpr.ecx.toNat with
      | none => raiseGP0
      | some v => do
        putR32 .edx (field v 32 32)
        putR32 .eax (field v 0 32) : M Unit) s :=
  run_privileged hp _

/-- The state in which WRMSR has written a register, whose last-branch registers are these where trace messages go on. -/
def MsrRow.written (r : MsrRow) (s : State) (a b c d : Word) : State :=
  let m := r.put s.edxEax s.msr
  { s with msr := if r.addr = 0x1D9 ∧ s.edxEax.getLsbD 6 = true then m.withBranches a b c d else m,
           tlb := if r.isMtrr then [] else s.tlb }

/-- What WRMSR does with a value that a register takes. -/
def wroteMsr (a : Nat) (m : Msrs) : M Unit := do
  modify fun s => { s with msr := m }
  whenM (isMtrr a) flushTlb
  whenM (decide (a = 0x1D9) && bit m.debugCtl 6) loseBranches

/-- WRMSR at the highest level. -/
theorem run_wrmsr {s : State} (hp : s.privileged = true) :
    wrmsr s = (match s.msr.write s.gpr.ecx.toNat s.edxEax with
      | .gp => raiseGP0
      | .refused r => refuse r
      | .ok m => wroteMsr s.gpr.ecx.toNat m : M Unit) s :=
  run_privileged hp _

theorem runs_loseBranches (s : State) :
    Runs loseBranches s fun _ u => ∃ a b c d : Word, u = { s with msr := s.msr.withBranches a b c d, free := s.free + 4 } :=
  ⟨_, _, rfl, _, _, _, _, rfl⟩

theorem runs_wroteMsr (a : Nat) (m : Msrs) (s : State) : Runs (wroteMsr a m) s fun _ u => ∃ (n : Nat) (b c d e : Word),
    u = { s with msr := if a = 0x1D9 ∧ bit m.debugCtl 6 = true then m.withBranches b c d e else m,
                 tlb := if isMtrr a then [] else s.tlb, free := n } := by
  refine runs_bind (runs_modify (q := fun _ t => t = { s with msr := m }) rfl) fun _ t ht => ?_
  subst ht
  refine runs_bind (q := fun _ t => t = { s with msr := m, tlb := if isMtrr a then [] else s.tlb }) ?_ fun _ t ht => ?_
  · cases h : isMtrr a with
    | true => exact ⟨_, _, rfl, rfl⟩
    | false => exact ⟨_, _, rfl, rfl⟩
  · subst ht
    by_cases h : a = 0x1D9 ∧ bit m.debugCtl 6 = true
    · simp only [if_pos h]
      rw [show (decide (a = 0x1D9) && bit m.debugCtl 6) = true by simpa using h]
      exact runs_mono (runs_loseBranches _) fun _ u ⟨b, c, d, e, hu⟩ => ⟨_, b, c, d, e, hu⟩
    · simp only [if_neg h]
      rw [show (decide (a = 0x1D9) && bit m.debugCtl 6) = false by simpa using h]
      exact runs_pure ⟨s.free, 0, 0, 0, 0, rfl⟩

/-- The bit of a legal value that turns trace messages on. -/
theorem traceBit_written {m x : Msrs} {v : QWord} (h : m.write 0x1D9 v = .ok x) : bit x.debugCtl 6 = v.getLsbD 6 := by
  have hw : checked (~~~0x7F#64) v { m with debugCtl := field v 0 32 } = .ok x := h
  unfold checked at hw
  split at hw
  · cases hw
  · cases hw
    simp [bit, field]

/-- A body that meets a case the model refuses stops its instruction. -/
theorem exec_of_refuse {i : Instr} {lockOk : Bool} {body : M Unit} {s u : State} {k : Refusal} (hi : exec i s = instr lockOk body s)
    (hl : s.lockOk lockOk = true) (hb : body s.start = .error (.refused k) u) : exec i s = .refused k := by
  have hlock : (s.ins.lock && !lockOk) = false := by
    simpa [State.lockOk] using congrArg not hl
  have hrun := run_error_bind (fun _ => finish s) hb
  unfold State.start at hrun
  rw [hi, instr, hlock, if_neg Bool.false_ne_true, hrun]

/-! ### Counters and identification -/

theorem not_above0 {s : State} (h : s.prot = false ∨ s.cpl = 0) : s.above0 = false := by
  unfold State.above0
  rcases h with h | h <;> simp [h]

theorem completes_counter {i : Instr} {body : M Unit} {s : State} {hi lo : Word} {q : State → Prop}
    (hx : exec i s = instr false body s) (hs : s.ready) (hl : s.lockOk false = true)
    (hb : body s.start = .ok () ((s.start.setR32 .edx hi).setR32 .eax lo))
    (hq : ∀ t : State, t.gpr = ((s.setR32 .edx hi).setR32 .eax lo).gpr → MemSame s t → FlagsSame s t → Falls s t → q t) :
    Completes i s q :=
  completes_of_like hx hs hl ⟨_, _, hb, (Like.refl _)⟩ (by constructor <;> rfl) rfl
    fun t hg hm hf ht => hq t hg (memSame_of_eq hm) hf ht

/-- CPUID, by the leaf that EAX asks for. -/
theorem run_cpuid (s : State) : ∃ a b c d : Word,
    cpuid s = .ok () { s with gpr := { s.gpr with eax := a, ebx := b, ecx := c, edx := d } } ∧
    (s.r32 .eax = 0 → a = 2 ∧ b = 0x756E6547#32 ∧ c = 0x6C65746E#32 ∧ d = 0x49656E69#32) ∧
    (s.r32 .eax = 1 → a = State.reset.r32 .edx ∧ b = 0 ∧ c = 0 ∧ ∀ k ∈ [0, 1, 4, 5, 7, 8, 12, 14], bit d k = true) := by
  have hflags : ∀ k ∈ [0, 1, 4, 5, 7, 8, 12, 14], bit cpuidFlags k = true := by
    have hnamed : ∀ k ∈ [0, 1, 4, 5, 7, 8, 12, 14], bit 0x51B3#32 k = true := by decide
    intro k hk
    exact (BitVec.getLsbD_or ..).trans ((congrArg _ (hnamed k hk)).trans (Bool.or_true _))
  have hleaf {x : Word × Word × Word × Word} (h : (if s.gpr.eax = 0 then (2, 0x756E6547#32, 0x6C65746E#32, 0x49656E69#32)
      else if s.gpr.eax = 1 then (resetEdx, 0, 0, cpuidFlags)
      else (Config.cpuidValue s.gpr.eax 0, Config.cpuidValue s.gpr.eax 1, Config.cpuidValue s.gpr.eax 2,
        Config.cpuidValue s.gpr.eax 3) : Word × Word × Word × Word) = x) :
      cpuid s = .ok () { s with gpr := { s.gpr with eax := x.1, ebx := x.2.1, ecx := x.2.2.1, edx := x.2.2.2 } } := by
    subst h
    rfl
  by_cases h0 : s.gpr.eax = 0
  · exact ⟨_, _, _, _, hleaf (if_pos h0), fun _ => ⟨rfl, rfl, rfl, rfl⟩, fun h => absurd (h0.symm.trans h) (by decide)⟩
  rw [if_neg h0] at hleaf
  by_cases h1 : s.gpr.eax = 1
  · exact ⟨_, _, _, _, hleaf (if_pos h1), fun h => absurd h h0, fun _ => ⟨rfl, rfl, rfl, hflags⟩⟩
  · exact ⟨_, _, _, _, hleaf (if_neg h1), fun h => absurd h h0, fun h => absurd h h1⟩

/-- The upper part of a counter of 40 bits. -/
theorem high_counter (c : BitVec Config.perfBits) : (field c 32 32 &&& 0xFF#32 : Word) = field (c.setWidth 64) 32 32 := by
  have hones : 0xFF#32 = (BitVec.allOnes 8).setWidth 32 := by decide
  rw [hones]
  ext k hk
  simp only [field, BitVec.getElem_and, BitVec.getElem_extractLsb', BitVec.getElem_setWidth, BitVec.getLsbD_allOnes,
    BitVec.getLsbD_setWidth]
  by_cases h : k < 8
  · rw [decide_eq_true h, decide_eq_true (show 32 + k < 64 by omega), Bool.and_true, Bool.true_and]
  · rw [BitVec.getLsbD_of_ge c (32 + k) (show 40 ≤ 32 + k by omega), Bool.false_and, Bool.and_false]

/-- Settles O30. -/
theorem modelRegisters : Obligations.ModelRegisters := by
  refine ⟨fun r s hr hs hl hp ha => ?rdmsr, fun r s hr hs hl hp ha hv => ?wrmsr, fun r s hr hl hp ha hv => ?gp,
    fun r k s hr hl hp ha hv => ?stops, fun s hl hp ha => ?absent, fun s hs hl hb => ?rdtsc, fun c s hs hl hb hc => ?rdpmc,
    fun s hl h0 h1 => ?noCounter, fun s hs hl => ?cpuid⟩
  case rdmsr =>
    obtain ⟨v, hv, heq⟩ := read_of_row hr ha
    refine completes_counter (i := .rdmsr) rfl hs hl ?_ fun t hg hm hf ht => ⟨v, heq, hg, hm, hf, ht⟩
    rw [run_rdmsr (s := s.start) hp]
    rw [show s.start.msr.read s.start.gpr.ecx.toNat = some v from hv]
    rfl
  case wrmsr =>
    have hw := write_of_row hr ha
    rw [hv] at hw
    have htrace : (r.addr = 0x1D9 ∧ bit (r.put s.edxEax s.msr).debugCtl 6 = true) ↔ (r.addr = 0x1D9 ∧ s.edxEax.getLsbD 6 = true) := by
      refine and_congr_right fun h9 => ?_
      rw [show s.gpr.ecx.toNat = 0x1D9 from ha.trans h9] at hw
      rw [traceBit_written hw]
    have hrun : Runs wrmsr s.start fun _ u => ∃ (n : Nat) (b c d e : Word), u = { r.written s.start b c d e with free := n } := by
      obtain ⟨x, u, hu, n, b, c, d, e, rfl⟩ := runs_wroteMsr s.start.gpr.ecx.toNat (r.put s.edxEax s.msr) s.start
      refine ⟨x, _, ?_, n, b, c, d, e, rfl⟩
      rw [run_wrmsr (s := s.start) hp,
        show s.start.msr.write s.start.gpr.ecx.toNat s.start.edxEax = .ok (r.put s.edxEax s.msr) from hw]
      refine hu.trans ?_
      rw [show s.start.gpr.ecx.toNat = r.addr from ha, (msrTable_sound r hr).mtrr]
      simp only [htrace]
      rfl
    refine completes_passed (i := .wrmsr) rfl hl (runs_mono hrun ?_)
    rintro _ u ⟨n, b, c, d, e, rfl⟩
    refine ⟨r.written s b c d e, _, Like.refl _, passed_of_tr (w := s.tr.noStep) hs (by constructor <;> rfl) rfl rfl,
      fun t hg hm hf ht => ⟨b, c, d, e, untouched_of hg hm, hf, ht⟩⟩
  case gp =>
    have hw := write_of_row hr ha
    rw [hv] at hw
    refine raises_of_body (i := .wrmsr) rfl hl ?_
    rw [run_wrmsr (s := s.start) hp, show s.start.msr.write s.start.gpr.ecx.toNat s.start.edxEax = .gp from hw]
    rfl
  case stops =>
    have hw := write_of_row hr ha
    rw [hv] at hw
    refine exec_of_refuse (i := .wrmsr) (u := s.start) rfl hl ?_
    rw [run_wrmsr (s := s.start) hp, show s.start.msr.write s.start.gpr.ecx.toNat s.start.edxEax = .refused k from hw]
    rfl
  case absent =>
    obtain ⟨hread, hwrite⟩ := not_in_msrTable ha s.msr
    refine ⟨raises_of_body (i := .rdmsr) rfl hl ?_, raises_of_body (i := .wrmsr) rfl hl ?_⟩
    · rw [run_rdmsr (s := s.start) hp, show s.start.msr.read s.start.gpr.ecx.toNat = none from hread]
      rfl
    · rw [run_wrmsr (s := s.start) hp, show s.start.msr.write s.start.gpr.ecx.toNat s.start.edxEax = .gp from hwrite _]
      rfl
  case rdtsc =>
    have hok : ¬(bit s.start.sys.cr4 2 && s.start.above0) = true := by
      rcases hb with hb | hb
      · rw [show bit s.start.sys.cr4 2 = false from hb]
        exact Bool.false_ne_true
      · simp [show s.start.above0 = false from not_above0 hb]
    exact completes_counter (i := .rdtsc) rfl hs hl ((run_rdtsc s.start).trans (if_neg hok)) fun t hg hm hf ht => ⟨hg, hm, hf, ht⟩
  case rdpmc =>
    have hok : ¬(!bit s.start.sys.cr4 8 && s.start.above0) = true := by
      rcases hb with hb | hb
      · rw [show bit s.start.sys.cr4 8 = true from hb]
        exact Bool.false_ne_true
      · simp [show s.start.above0 = false from not_above0 hb]
    have hsel : ¬(s.start.gpr.ecx ≠ 0 ∧ s.start.gpr.ecx ≠ 1) := fun ⟨h0, h1⟩ => hc.elim (fun h => h0 h.1) (fun h => h1 h.1)
    have hcount : s.start.perfCounter = c := by
      rcases hc with ⟨h0, rfl⟩ | ⟨h1, rfl⟩
      · exact if_pos h0
      · exact if_neg fun h0 => absurd (h0.symm.trans h1) (by decide)
    refine completes_counter (i := .rdpmc) rfl hs hl ?_ fun t hg hm hf ht => ⟨hg, hm, hf, ht⟩
    rw [← high_counter c]
    rw [run_rdpmc, if_neg hok, if_neg hsel, hcount]
    rfl
  case noCounter => 
    refine raises_of_body (i := .rdpmc) rfl hl ((run_rdpmc s.start).trans ?_)
    rw [if_pos (show s.start.gpr.ecx ≠ 0 ∧ s.start.gpr.ecx ≠ 1 from ⟨h0, h1⟩), ite_self]
  case cpuid =>
    obtain ⟨a, b, c, d, hrun, h0, h1⟩ := run_cpuid s.start
    refine completes_of_like (i := .cpuid) rfl hs hl ⟨_, _, hrun, Like.refl _⟩ (by constructor <;> rfl) rfl
      fun t hg hm hf ht => ⟨⟨a, b, c, d, hg, h0, h1⟩, memSame_of_eq hm, hf, ht⟩

end Sys2Proof.Machine

/-! SUPPORT. IRET in real-address mode, at the same level of protected mode and in virtual-8086 mode. -/
namespace Sys2Proof.Machine
open Host

/-! ### The end of every IRET -/

/-- What IRET does once CS, EIP and the flags are loaded. -/
def iretTail (wide : Bool) (s : State) : M Unit := do
  let t ← get
  whenM (s.badRestart t.seg.cs.sel t.eip t.sys.cr3 wide) (stop .mcRestart)
  modify fun t => { t with noReturn := s.frameTaken }
  iretDone

theorem run_iret_frame {s : State} {wide : Bool} (hv : ¬(s.v86 && s.iopl ≠ 3 && (wide || !bit s.sys.cr4 0)) = true)
    (ht : ¬(s.prot && !s.flag fVM && s.flag fNT) = true) :
    iret wide s = (do iretFrame wide; iretTail wide s : M Unit) s := by
  unfold iret
  rw [run_bind, run_get]
  dsimp only
  rw [if_neg hv, if_neg ht]
  rfl

/-- The state in which an IRET ends that has loaded what `y` has. -/
def State.returnedTo (s y : State) : State :=
  { y with noReturn := s.frameTaken, lat := { y.lat with nmiBlocked := false }, tr := { y.tr with branched := true, keepRf := true } }

theorem like_iretTail {s y u : State} {wide : Bool} (h : Like y u) (hb : s.badRestart y.seg.cs.sel y.eip y.sys.cr3 wide = false) :
    Runs (iretTail wide s) u fun _ v => Like (s.returnedTo y) v := by
  refine like_get_bind h fun k st n b => ?_
  rw [show s.badRestart (y.noisy k st n b).seg.cs.sel (y.noisy k st n b).eip (y.noisy k st n b).sys.cr3 wide = false from hb]
  refine runs_bind (runs_pure (q := fun _ t => Like y t) (like_noisy y k st n b)) fun _ t ht => ?_
  refine runs_bind (like_modify ht fun _ _ _ _ _ => rfl) fun _ v hv => ?_
  exact like_modify hv fun _ _ _ _ _ => rfl

theorem run_iretTail_barred {s y u : State} {wide : Bool} (h : Like y u)
    (hb : s.badRestart y.seg.cs.sel y.eip y.sys.cr3 wide = true) : ∃ v, iretTail wide s u = .error (.fault .mcRestart) v := by
  obtain ⟨k, st, n, b, rfl⟩ := h
  refine ⟨y.noisy k st n b, ?_⟩
  rw [iretTail, run_bind, run_get]
  dsimp only
  rw [show s.badRestart (y.noisy k st n b).seg.cs.sel (y.noisy k st n b).eip (y.noisy k st n b).sys.cr3 wide = true from hb]
  rfl

theorem badRestart_start (s : State) (sel : Half) (off : Word) :
    s.start.badRestart sel off s.sys.cr3 s.o32 = s.barred sel off := rfl

section
variable {s y : State} {inner : M Unit} {sel : Half} {off : Word} {q : State → Prop}

/-- An IRET to an address that a machine check has barred stops. -/
theorem iret_stops (hi : iret s.o32 s.start = (do inner; iretTail s.o32 s.start : M Unit) s.start) (hl : s.lockOk false = true)
    (hb : Runs inner s.start fun _ u => Like y u) (hcs : y.seg.cs.sel = sel) (he : y.eip = off) (hsys : y.sys.cr3 = s.sys.cr3)
    (hbar : s.barred sel off = true) : exec .iretIretd s = .fault .mcRestart := by
  obtain ⟨x, u, hrun, hu⟩ := hb
  rw [← badRestart_start, ← hcs, ← he, ← hsys] at hbar
  obtain ⟨v, hv⟩ := run_iretTail_barred hu hbar
  refine exec_of_stop (i := .iretIretd) (body := iretBody) (u := v) rfl hl ?_
  exact hi.trans ((run_bind_ok _ hrun).trans hv)

/-- Any other completes. -/
theorem iret_completes (hi : iret s.o32 s.start = (do inner; iretTail s.o32 s.start : M Unit) s.start) (hl : s.lockOk false = true)
    (hlbr : y.noLbr = true)
    (hb : Runs inner s.start fun _ u => Like y u) (hcs : y.seg.cs.sel = sel) (he : y.eip = off) (hsys : y.sys.cr3 = s.sys.cr3)
    (hbar : s.barred sel off = false) (hq : ∀ u, Like (s.returnedTo y) u → q (u.completed s)) : Completes .iretIretd s q := by
  obtain ⟨x, u, hrun, hu⟩ := hb
  rw [← badRestart_start, ← hcs, ← he, ← hsys] at hbar
  obtain ⟨x', v, hrun', hv⟩ := like_iretTail (s := s.start) hu hbar
  refine completes_of_like_ends (i := .iretIretd) (body := iretBody) rfl hl (x := s.returnedTo y) ⟨x', v, ?_, hv⟩ (fun _ => hlbr) hq
  exact hi.trans ((run_bind_ok _ hrun).trans hrun')

end

/-! ### The frame -/

theorem run_peek {s : State} {j n : Nat} (hn : 0 < n) (hc : s.canPop j n = true) : ∃ k, peek j n s = .ok (s.item j n) (s.withHit k) :=
  segRead_reaches hc hn

theorem run_iretFrame {s : State} {wide : Bool} (h0 : s.canPop 0 (bytes wide) = true) (h1 : s.canPop (bytes wide) (bytes wide) = true)
    (h2 : s.canPop (2 * bytes wide) (bytes wide) = true) :
    let off := BitVec.ofNat 32 (s.item 0 (bytes wide))
    let sel := BitVec.ofNat 16 (s.item (bytes wide) (bytes wide))
    let fl := BitVec.ofNat 32 (s.item (2 * bytes wide) (bytes wide))
    ∃ k, iretFrame wide s =
      (if !s.prot then iretReal wide off sel fl
      else if s.flag fVM then iretInV86 wide off sel fl
      else if wide && bit fl fVM && s.cpl = 0 then iretToV86 off sel fl
      else iretProt wide off sel fl) (s.withHit k) := by
  intro off sel fl
  obtain ⟨k0, e0⟩ := run_peek (bytes_pos _) h0
  obtain ⟨k1, e1⟩ := run_peek (s := s.withHit k0) (bytes_pos _) h1
  obtain ⟨k2, e2⟩ := run_peek (s := (s.withHit k0).withHit k1) (bytes_pos _) h2
  refine ⟨k2, ?_⟩
  unfold iretFrame
  rw [run_bind, run_get]
  dsimp only
  rw [show (if wide = true then 4 else 2) = bytes wide from rfl]
  rw [run_bind_ok _ e0, run_bind_ok _ e1, run_bind_ok _ e2]
  rfl

/-! ### The loads -/

/-- CS, EIP, the stack pointer and the flags loaded, after the accessed flag of a descriptor. -/
def State.returned (s : State) (o : Option Nat) (g : Seg) (off x f : Word) : State :=
  { (s.setSp x).markedAcc o with seg := { s.seg with cs := g }, eip := off, eflags := f }

/-- CS and EIP loaded. -/
def State.withCsAt (s : State) (g : Seg) (off : Word) : State := { s with eip := off, seg := { s.seg with cs := g } }

theorem returned_eq (s : State) (o : Option Nat) (g : Seg) (off x f : Word) :
    { ((s.markedAcc o).withCsAt g off).setSp x with eflags := f } = s.returned o g off x f := by
  have hg : (((s.markedAcc o).withCsAt g off).setSp x).gpr = (s.setSp x).gpr :=
    setSp_gpr_ss (t := (s.markedAcc o).withCsAt g off) (markedAcc_frame s o).1 (by rw [markedAcc_eq]; rfl) x
  have hm : ((s.setSp x).markedAcc o).mem = (s.markedAcc o).mem := by
    rw [setSp_eq]
    cases o <;> rfl
  rw [setSp_eq, hg, State.returned, markedAcc_eq (s.setSp x), hm, setSp_eq s, State.withCsAt, (markedAcc_frame s o).2.2.2.2,
    markedAcc_eq s]

theorem withCsAt_top (s : State) (o : Option Nat) (g : Seg) (off : Word) (n : Nat) :
    ((s.markedAcc o).withCsAt g off).seg.ss.cutSp (((s.markedAcc o).withCsAt g off).sp + BitVec.ofNat 32 n) = s.popOff n := by
  rw [markedAcc_eq]
  rfl

theorem like_returned {s u : State} {o : Option Nat} (h : Like (s.markedAcc o) u) (g : Seg) (off : Word) (m f : Word) (n : Nat) :
    Runs (do
      modify fun s : State => { s with eip := off, seg := { s.seg with cs := g } }
      addSp (BitVec.ofNat 32 n)
      putFlagsMasked m f : M Unit) u fun _ v => Like (s.returned o g off (s.popOff n) (blend m s.eflags f)) v := by
  refine runs_bind (like_modify (f := fun s => s.withCsAt g off) h fun _ _ _ _ _ => rfl) fun _ v hv => ?_
  refine runs_bind (like_addSp hv _) fun _ w hw => runs_mono (like_putFlagsMasked hw m f) fun _ t ht => ?_
  rw [withCsAt_top] at ht
  have hf : (((s.markedAcc o).withCsAt g off).setSp (s.popOff n)).eflags = s.eflags := by
    rw [setSp_eflags]
    exact (markedAcc_frame s o).2.2.1
  rw [← returned_eq, ← hf]
  exact ht

/-- What has not been touched by a return to the same level. -/
theorem returned_still (s : State) (o : Option Nat) (g : Seg) (off x f : Word) :
    Still { s with seg := { s.seg with cs := g } } (s.returned o g off x f) := by
  rw [State.returned, markedAcc_eq, setSp_eq]
  constructor <;> rfl

/-! ### IRET at the same level -/

/-- What IRET has done besides: NMIs are no longer blocked, the marks of its frame are forgotten. -/
def State.unblocked (s : State) : State :=
  { s with lat := { s.lat with nmiBlocked := false }, noReturn := s.noReturn.filter fun r => r.esp ≠ s.r32 .esp }

theorem Still.returnedTo {s y : State} {g : Segs} (h : Still { s.start with seg := g } y) :
    Still { s.unblocked with seg := g } (s.returnedTo y) where
  cpl := h.cpl
  seg := h.seg
  sys := h.sys
  dbg := h.dbg
  fpu := h.fpu
  msr := h.msr
  apic := h.apic
  smm := h.smm
  lat := congrArg (fun l : Latches => { l with nmiBlocked := false }) h.lat
  tlb := h.tlb
  map := h.map
  events := h.events
  bus := h.bus
  cached := h.cached
  others := h.others
  noReturn := rfl

theorem iret_same {s : State} {o : Option Nat} {g : Seg} {off x f : Word} {sel : Half} (hs : s.ready) (hl : s.lockOk false = true)
    (hlbr : s.noLbr = true) (hv : ¬(s.v86 && s.iopl ≠ 3 && (s.o32 || !bit s.sys.cr4 0)) = true)
    (ht : ¬(s.prot && !s.flag fVM && s.flag fNT) = true) (hg : g.sel = sel)
    (hb : Runs (iretFrame s.o32) s.start fun _ u => Like (s.start.returned o g off x f) u) :
    if s.barred sel off = true then exec .iretIretd s = .fault .mcRestart
    else Completes .iretIretd s fun t => t.gpr = (s.setSp x).gpr ∧ Accessed s t o ∧ t.eip = off ∧ t.eflags = f ∧
      Quiet { s.unblocked with seg := { s.seg with cs := g } } t := by
  have hi : iret s.o32 s.start = (do iretFrame s.o32; iretTail s.o32 s.start : M Unit) s.start :=
    run_iret_frame (s := s.start) hv ht
  have hsys : (s.start.returned o g off x f).sys.cr3 = s.sys.cr3 := congrArg Sys.cr3 (returned_still s.start o g off x f).sys
  split
  · next hbar => exact iret_stops hi hl hb hg rfl hsys hbar
  · next hbar =>
    have hmsr : (s.start.returned o g off x f).noLbr = true := by
      unfold State.noLbr
      rw [(returned_still s.start o g off x f).msr]
      exact hlbr
    refine iret_completes hi hl hmsr hb hg rfl hsys (Bool.eq_false_iff.2 hbar) fun u hu => ⟨?_, ?_, ?_, ?_, ?_⟩
    · obtain ⟨k, st, n, b, rfl⟩ := hu
      refine (markedAcc_frame _ o).1.trans ?_
      rw [start_setSp]
      rfl
    · obtain ⟨k, st, n, b, rfl⟩ := hu
      refine accessed_of hs.1 (show ((s.start.setSp x).markedAcc o).mem = _ from ?_)
      rw [start_setSp, markedAcc_start, setSp_eq]
      cases o <;> rfl
    · obtain ⟨k, st, n, b, rfl⟩ := hu
      rfl
    · obtain ⟨k, st, n, b, rfl⟩ := hu
      rfl
    · refine Still.quiet (Still.like ?_ hu) s
      exact (returned_still s.start o g off x f).returnedTo

theorem three_items (wide : Bool) : (if wide = true then 12 else 6 : Word) = BitVec.ofNat 32 (3 * bytes wide) := by
  cases wide <;> rfl

theorem like_iretReal {s u : State} (h : Like s u) {wide : Bool} {off0 : Word} {sel : Half} {fl : Word}
    (hlim : (if wide then off0 else off0 &&& 0xFFFF#32).toNat ≤ s.seg.cs.limit.toNat) :
    Runs (iretReal wide off0 sel fl) u fun _ v => Like (s.returned none (s.seg.cs.real sel)
      (if wide then off0 else off0 &&& 0xFFFF#32) (s.popOff (3 * bytes wide))
      (blend (if wide then 0x257FD5#32 else 0x7FD5#32) s.eflags fl)) v := by
  refine like_get_bind h fun k st n b => ?_
  rw [noisy_seg, if_neg (not_lt.2 hlim), three_items]
  exact like_returned (o := none) (like_noisy s k st n b) _ _ _ _ _

theorem like_iretInV86 {s u : State} (h : Like s u) {wide : Bool} {off0 : Word} {sel : Half} {fl : Word} (hi : s.iopl = 3)
    (hlim : (if wide then off0 else off0 &&& 0xFFFF#32).toNat ≤ 0xFFFF) :
    Runs (iretInV86 wide off0 sel fl) u fun _ v => Like (s.returned none (Seg.v86 sel)
      (if wide then off0 else off0 &&& 0xFFFF#32) (s.popOff (3 * bytes wide))
      (blend (if wide then 0x254FD5#32 else 0x4FD5#32) s.eflags fl)) v := by
  refine like_get_bind h fun k st n b => ?_
  rw [show (s.noisy k st n b).iopl = 3 from hi, if_pos rfl, if_neg (not_lt.2 hlim), three_items]
  exact like_returned (o := none) (like_noisy s k st n b) _ _ _ _ _

theorem like_iretVme {s u : State} (h : Like s u) {wide : Bool} (hw : wide = false) {off0 : Word} {sel : Half} {fl : Word}
    (hi : s.iopl ≠ 3) (hfl : ¬(bit fl fTF || (bit fl fIF && s.flag fVIP)) = true) :
    Runs (iretInV86 wide off0 sel fl) u fun _ v => Like (s.returned none (Seg.v86 sel)
      (if wide then off0 else off0 &&& 0xFFFF#32) (s.popOff (3 * bytes wide)) (setBit (blend 0x4DD5#32 s.eflags fl) 19 (bit fl 9))) v := by
  subst hw
  refine like_get_bind h fun k st n b => ?_
  rw [show (s.noisy k st n b).iopl = s.iopl from rfl, if_neg hi,
    show (s.noisy k st n b).flag fVIP = s.flag fVIP from rfl, if_neg hfl]
  have hb := runs_bind (like_returned (o := none) (like_noisy s k st n b) (Seg.v86 sel) (off0 &&& 0xFFFF#32) 0x4DD5#32 fl 6)
    fun _ v hv => like_putFlag hv fVIF (bit fl fIF)
  exact hb

theorem iretMask_eq (s : State) : iretMask s.o32 s.cpl s.iopl = iretWrites s := by
  unfold iretMask iretWrites
  by_cases hi : s.cpl ≤ s.iopl
  · simp only [if_pos hi]
    by_cases hc : s.cpl = 0#2 <;> cases s.o32 <;> simp [hc]
  · simp only [if_neg hi]
    by_cases hc : s.cpl = 0#2 <;> cases s.o32 <;> simp [hc]

theorem like_iretProt {s u : State} (h : Like s u) {sel : Half} {off off0 fl : Word} {a : Nat} {d : Desc}
    (hoff : off = (if s.o32 then off0 else off0 &&& 0xFFFF#32)) (hn : isNull sel = false)
    (hd : s.descriptor sel = some (a, d)) (hcode : descCode d = true) (hr : rpl sel = s.cpl) (hdpl : csDplBad sel d = false)
    (hp : descP d = true) (hlim : off.toNat ≤ (descLimit d).toNat) :
    Runs (iretProt s.o32 off0 sel fl) u fun _ v => Like (s.returned (accessedByte a d) (Seg.ofDesc sel d) off
      (s.popOff (3 * bytes s.o32)) (blend (iretWrites s) s.eflags fl)) v := by
  obtain ⟨w0, -, -, hreach, -⟩ := State.descriptor_eq_some.1 hd
  refine like_get_bind h fun k st n b => ?_
  rw [← hoff]
  refine runs_bind (like_returnTarget (like_noisy s k st n b) hn hd hcode (by rw [hr]; exact BitVec.lt_irrefl _) hdpl hp hlim)
    fun p v ⟨hw, hd', hv⟩ => ?_
  obtain ⟨w', d'⟩ := p
  obtain rfl : d' = d := hd'
  dsimp only
  rw [noisy_cpl, if_pos hr, show (s.noisy k st n b).iopl = s.iopl from rfl, iretMask_eq]
  exact runs_bind (like_setDescAccessed hv hw hreach) fun _ v4 h4 => like_returned h4 _ _ _ _ _

theorem csDplBad_of {sel : Half} {d : Desc} (h : if descConforming d then descDpl d ≤ rpl sel else descDpl d = rpl sel) :
    csDplBad sel d = false := by
  unfold csDplBad
  cases hconf : descConforming d with
  | true =>
    rw [hconf, if_pos rfl] at h
    simpa using h
  | false =>
    rw [hconf, if_neg Bool.false_ne_true] at h
    simpa using h

/-- The offset to which an IRET returns. -/
def State.iretOff (s : State) : Word := s.cutTarget (BitVec.ofNat 32 (s.item 0 (bytes s.o32)))
/-- The selector of the code segment to which an IRET returns. -/
def State.iretSel (s : State) : Half := BitVec.ofNat 16 (s.item (bytes s.o32) (bytes s.o32))
/-- The flags that an IRET finds. -/
def State.iretFlags (s : State) : Word := BitVec.ofNat 32 (s.item (2 * bytes s.o32) (bytes s.o32))

section
variable {s : State} (h0 : s.canPop 0 (bytes s.o32) = true) (h1 : s.canPop (bytes s.o32) (bytes s.o32) = true)
  (h2 : s.canPop (2 * bytes s.o32) (bytes s.o32) = true)
include h0 h1 h2

/-- The frame of an IRET at the state its body starts from. -/
theorem run_iretFrame_start :
    let off := BitVec.ofNat 32 (s.item 0 (bytes s.o32))
    ∃ k, iretFrame s.o32 s.start =
      (if !s.prot then iretReal s.o32 off s.iretSel s.iretFlags
      else if s.flag fVM then iretInV86 s.o32 off s.iretSel s.iretFlags
      else if s.o32 && bit s.iretFlags fVM && s.cpl = 0 then iretToV86 off s.iretSel s.iretFlags
      else iretProt s.o32 off s.iretSel s.iretFlags) (s.start.withHit k) := by
  have h := run_iretFrame (s := s.start) (wide := s.o32) (by simpa using h0) (by simpa using h1) (by simpa using h2)
  simp only [start_item] at h
  exact h

end

theorem run_iret_low {s : State} (hp : s.prot = true) (hv : s.flag fVM = true) (hi : s.iopl ≠ 3)
    (ho : s.o32 = true ∨ bit s.sys.cr4 0 = false) : iretBody s = raise 13 (some 0) s := by
  have hcond : (s.v86 && s.iopl ≠ 3 && (s.o32 || !bit s.sys.cr4 0)) = true := by
    have hi' : ¬ s.iopl = 3#2 := hi
    rcases ho with h | h <;> simp [State.v86, hp, hv, hi', h]
  have hiret : iret s.o32 s = raise 13 (some 0) s := by
    unfold iret
    rw [run_bind, run_get]
    dsimp only
    rw [if_pos hcond]
    rfl
  exact hiret

theorem run_iretInV86_beyond {s : State} {wide : Bool} {off0 : Word} {sel : Half} {fl : Word} (hi : s.iopl = 3)
    (hlim : 0xFFFF < (if wide then off0 else off0 &&& 0xFFFF#32).toNat) :
    iretInV86 wide off0 sel fl s = raise 13 (some 0) s := by
  unfold iretInV86
  rw [run_bind, run_get]
  dsimp only
  rw [if_pos hi, if_pos hlim]
  rfl

theorem run_iretInV86_flags {s : State} {wide : Bool} {off0 : Word} {sel : Half} {fl : Word} (hi : s.iopl ≠ 3)
    (hfl : (bit fl fTF || (bit fl fIF && s.flag fVIP)) = true) :
    iretInV86 wide off0 sel fl s = raise 13 (some 0) s := by
  unfold iretInV86
  rw [run_bind, run_get]
  dsimp only
  rw [if_neg hi, if_pos hfl]
  rfl

/-- An IRET whose loads raise an exception raises it. -/
theorem iret_raises {s : State} {k : BitVec 4} {v : Nat} {c : Option Half} (hl : s.lockOk false = true)
    (hv : ¬(s.v86 && s.iopl ≠ 3 && (s.o32 || !bit s.sys.cr4 0)) = true) (ht : ¬(s.prot && !s.flag fVM && s.flag fNT) = true)
    (hb : iretFrame s.o32 s.start = raise v c (s.start.withHit k)) : Raises .iretIretd s v c := by
  have hi : iret s.o32 s.start = (do iretFrame s.o32; iretTail s.o32 s.start : M Unit) s.start :=
    run_iret_frame (s := s.start) hv ht
  exact raises_of_body_withHit (i := .iretIretd) (body := iretBody) rfl hl (hi.trans (run_bind_raised _ hb))

theorem returnsInV86 : ReturnsInV86 := by
  refine ⟨fun s hl hp hv hi ho => ?low, fun s hl hp hv => ?_⟩
  case low => exact raises_of_body (i := .iretIretd) (body := iretBody) rfl hl (run_iret_low (s := s.start) hp hv hi ho)
  dsimp only
  intro h0 h1 h2
  obtain ⟨k, hframe⟩ := run_iretFrame_start h0 h1 h2
  rw [hp, Bool.not_true, if_neg Bool.false_ne_true, if_pos hv] at hframe
  have hnt : ¬(s.prot && !s.flag fVM && s.flag fNT) = true := by simp [hv]
  refine ⟨fun hi hlim => ?beyond, fun hi hlim hs hlbr => ?three, fun hi hvme ho => ?vme⟩
  case beyond =>
    exact iret_raises (k := k) hl (by simp [hi]) hnt (hframe.trans (run_iretInV86_beyond (s := s.start.withHit k) hi hlim))
  case three =>
    have hb : Runs (iretFrame s.o32) s.start fun _ u => Like (s.start.returned none (Seg.v86 s.iretSel) s.iretOff
        (s.start.popOff (3 * bytes s.o32)) (blend (if s.o32 then 0x254FD5#32 else 0x4FD5#32) s.eflags s.iretFlags)) u := by
      rw [Runs, hframe]
      exact like_iretInV86 ((Like.refl s.start).withHit k) hi hlim
    rw [start_popOff] at hb
    have hdone := iret_same hs hl hlbr (by simp [hi]) hnt rfl hb
    exact hdone
  case vme => 
    have hiff : (bit s.iretFlags 8 = true ∨ bit s.iretFlags 9 = true ∧ s.flag fVIP = true) ↔
        (bit s.iretFlags fTF || (bit s.iretFlags fIF && s.flag fVIP)) = true := by
      rw [Bool.or_eq_true, Bool.and_eq_true]
      rfl
    split
    · next hc =>
      exact iret_raises (k := k) hl (by simp [ho, hvme]) hnt
        (hframe.trans (run_iretInV86_flags (s := s.start.withHit k) hi (hiff.1 hc)))
    · next hc =>
      intro hs hlbr
      have hb : Runs (iretFrame s.o32) s.start fun _ u => Like (s.start.returned none (Seg.v86 s.iretSel) s.iretOff
          (s.start.popOff (3 * bytes s.o32)) (setBit (blend 0x4DD5#32 s.eflags s.iretFlags) 19 (bit s.iretFlags 9))) u := by
        rw [Runs, hframe]
        exact like_iretVme ((Like.refl s.start).withHit k) ho hi fun h => hc (hiff.2 h)
      rw [start_popOff] at hb
      exact iret_same hs hl hlbr (by simp [ho, hvme]) hnt rfl hb

theorem returnsFromHandler : ReturnsFromHandler := by
  intro s hs hl hlbr
  dsimp only
  intro h0 h1 h2
  obtain ⟨k, hframe⟩ := run_iretFrame_start h0 h1 h2
  have hreal (hp : s.prot = false) (hlim : s.iretOff.toNat ≤ s.seg.cs.limit.toNat) := by
    have hb : Runs (iretFrame s.o32) s.start fun _ u => Like (s.start.returned none (s.seg.cs.real s.iretSel) s.iretOff
        (s.start.popOff (3 * bytes s.o32)) (blend (if s.o32 then 0x257FD5#32 else 0x7FD5#32) s.eflags s.iretFlags)) u := by
      rw [hp, Bool.not_false, if_pos rfl] at hframe
      rw [Runs, hframe]
      exact like_iretReal ((Like.refl s.start).withHit k) hlim
    rw [start_popOff] at hb
    exact iret_same hs hl hlbr (by simp [State.v86, hp]) (by simp [hp]) (sel := s.iretSel) rfl hb
  refine ⟨fun hp hlim hbar => ?stops, fun hp hlim hbar => ?real, fun a d hp hv hnt hvm hn hd hcode hr hdpl hpres hlim => ?prot⟩
  case stops =>
    have h := hreal hp hlim
    rw [if_pos (show s.barred s.iretSel s.iretOff = true from hbar)] at h
    exact h
  case real =>
    have h := hreal hp hlim
    rw [if_neg (show ¬ s.barred s.iretSel s.iretOff = true from Bool.eq_false_iff.1 hbar)] at h
    exact h
  case prot =>
    have hv86 : (s.o32 && bit s.iretFlags fVM && s.cpl = 0) = false := by
      cases ho : s.o32 with
      | false => rfl
      | true =>
        by_cases hc : s.cpl = 0
        · rw [show bit s.iretFlags fVM = false from hvm ho hc]
          rfl
        · rw [decide_eq_false hc, Bool.and_false]
    have hb : Runs (iretFrame s.o32) s.start fun _ u => Like (s.start.returned (accessedByte a d) (Seg.ofDesc s.iretSel d) s.iretOff
        (s.start.popOff (3 * bytes s.o32)) (blend (iretWrites s) s.eflags s.iretFlags)) u := by
      rw [hp, Bool.not_true, if_neg Bool.false_ne_true, hv, if_neg Bool.false_ne_true, if_neg (Bool.eq_false_iff.1 hv86)] at hframe
      rw [Runs, hframe]
      exact like_iretProt ((Like.refl s.start).withHit k) rfl hn hd hcode hr (csDplBad_of hdpl) hpres hlim
    rw [start_popOff] at hb
    exact iret_same hs hl hlbr (by simp [State.v86, hv]) (by simp [hnt]) (sel := s.iretSel) rfl hb

/-- Settles O26. -/
theorem interruptReturns : Obligations.InterruptReturns := ⟨returnsFromHandler, returnsInV86⟩

end Sys2Proof.Machine

/-! SUPPORT. Returns to an outer level and to virtual-8086 mode. -/
namespace Sys2Proof.Machine
open Host

/-! ### The descriptors -/

theorem outerCode_eq_some {s : State} {sel : Half} {off : Word} {c : Nat × Desc} (h : s.outerCode sel off = some c) :
    isNull sel = false ∧ s.descriptor sel = some c ∧ descCode c.2 = true ∧ s.cpl < rpl sel ∧ csDplBad sel c.2 = false ∧
      descP c.2 = true ∧ off.toNat ≤ (descLimit c.2).toNat := by
  unfold State.outerCode at h
  cases hn : isNull sel with
  | true => simp [hn] at h
  | false =>
    rw [hn, if_neg Bool.false_ne_true] at h
    cases hd : s.descriptor sel with
    | none => rw [hd] at h; cases h
    | some p =>
      obtain ⟨a, d⟩ := p
      rw [hd] at h
      dsimp only at h
      rw [Option.ite_none_right_eq_some, Bool.and_eq_true, Bool.and_eq_true, Bool.and_eq_true, Bool.and_eq_true,
        decide_eq_true_eq, decide_eq_true_eq] at h
      obtain ⟨⟨⟨⟨⟨hcode, hr⟩, hdpl⟩, hp⟩, hlim⟩, he⟩ := h
      cases he
      refine ⟨rfl, rfl, hcode, hr, ?_, hp, hlim⟩
      unfold csDplBad
      cases hconf : descConforming d with
      | true => simpa [hconf] using hdpl
      | false => simpa [hconf] using hdpl

theorem outerStack_eq_some {s : State} {sel : Half} {n : BitVec 2} {c : Nat × Desc} (h : s.outerStack sel n = some c) :
    isNull sel = false ∧ s.descriptor sel = some c ∧ rpl sel = n ∧ descDpl c.2 = n ∧
      isWritable (descS c.2) (descType c.2) = true ∧ descP c.2 = true := by
  unfold State.outerStack at h
  cases hn : isNull sel with
  | true => simp [hn] at h
  | false =>
    rw [hn, if_neg Bool.false_ne_true] at h
    cases hd : s.descriptor sel with
    | none => rw [hd] at h; cases h
    | some p =>
      obtain ⟨a, d⟩ := p
      rw [hd] at h
      dsimp only at h
      rw [Option.ite_none_right_eq_some, Bool.and_eq_true, Bool.and_eq_true, Bool.and_eq_true,
        decide_eq_true_eq, decide_eq_true_eq] at h
      obtain ⟨⟨⟨⟨hr, hdpl⟩, hw⟩, hp⟩, he⟩ := h
      cases he
      exact ⟨rfl, rfl, hr, hdpl, hw, hp⟩

theorem like_returnStack {s u : State} (h : Like s u) {sel : Half} {n : BitVec 2} {k : Nat × Desc} (hk : s.outerStack sel n = some k) :
    Runs (returnStack sel n) u fun p t => p.1.toNat = k.1 ∧ p.2 = k.2 ∧ Like s t := by
  obtain ⟨hn, hd, hr, hdpl, hw, hp⟩ := outerStack_eq_some hk
  unfold returnStack
  rw [hn, if_neg Bool.false_ne_true]
  refine runs_bind (like_needDesc h 13 hd) fun p v ⟨ha, hd', hv⟩ => ?_
  obtain ⟨a', d'⟩ := p
  obtain rfl : d' = k.2 := hd'
  simp only [hr, hdpl, hw, hp, ne_eq, not_true, decide_false, Bool.or_self, Bool.not_true, Bool.false_eq_true, if_false]
  exact runs_pure ⟨ha, rfl, hv⟩

/-! ### The loads -/

/-- CS, SS, the stack pointer and the level of a return to an outer level. -/
def State.toOuter (s : State) (sel ssel : Half) (d e : Desc) (off esp : Word) : State :=
  { s with eip := off, cpl := rpl sel, gpr := { s.gpr with esp := (Seg.ofDesc ssel e).withSp s.gpr.esp esp },
           seg := ({ s.seg with cs := Seg.ofDesc sel d, ss := Seg.ofDesc ssel e } : Segs).onReturn (rpl sel) }

/-- A return to an outer level, with the accessed flags of both descriptors. -/
def State.outer (s : State) (sel ssel : Half) (c k : Nat × Desc) (off esp : Word) : State :=
  ((s.markedAcc (accessedByte c.1 c.2)).markedAcc (accessedByte k.1 k.2)).toOuter sel ssel c.2 k.2 off esp

theorem like_enterOuter {s u : State} (h : Like s u) {wide : Bool} {sel ssel : Half} {off a newESP imm esp : Word} {c k : Nat × Desc}
    (ha : a.toNat = c.1) (hc : s.sysReach c.1 8) (hk : s.outerStack ssel (rpl sel) = some k)
    (hesp : esp = (if wide then newESP else newESP &&& 0xFFFF#32) + imm) :
    Runs (enterOuter wide sel off a c.2 ssel newESP imm) u fun _ v => Like (s.outer sel ssel c k off esp) v := by
  obtain ⟨w0, -, -, hreach, -⟩ := State.descriptor_eq_some.1 (outerStack_eq_some hk).2.1
  refine runs_bind (like_returnStack h hk) fun p v ⟨hw, hd, hv⟩ => ?_
  obtain ⟨w, d⟩ := p
  obtain rfl : d = k.2 := hd
  refine runs_bind (like_accessedSpan hv ha hc) fun cp v1 ⟨hcp, h1⟩ => ?_
  refine runs_bind (like_accessedSpan h1 hw hreach) fun sp v2 ⟨hsp, h2⟩ => ?_
  subst hcp hsp
  refine runs_bind (like_markAccessed h2 hc.1 _) fun _ v3 h3 => ?_
  refine runs_bind (like_markAccessed h3 ((calm_markedAcc _ _).plain.trans hc.1) _) fun _ v4 h4 => ?_
  rw [← hesp]
  exact like_modify (f := fun x => x.toOuter sel ssel c.2 k.2 off esp) h4 fun _ _ _ _ _ => rfl

theorem markedAcc_wf {s : State} (hs : Memory.wf s.mem = true) (o : Option Nat) : Memory.wf (s.markedAcc o).mem = true := by
  cases o with
  | none => exact hs
  | some a => exact wf_memWriteList hs

theorem accessedSeq_two {s t : State} (hs : Memory.wf s.mem = true) {o p : Option Nat}
    (hm : t.mem = ((s.markedAcc o).markedAcc p).mem) : AccessedSeq [o, p] s t := by
  refine ⟨(s.markedAcc o).mem, accessed_of hs rfl, t.mem, ?_, fun _ => rfl⟩
  rw [← markedAcc_eq s o]
  exact accessed_of (markedAcc_wf hs o) hm

theorem outer_frame (s : State) (sel ssel : Half) (c k : Nat × Desc) (off esp : Word) :
    s.outer sel ssel c k off esp = { s.toOuter sel ssel c.2 k.2 off esp with
      mem := ((s.markedAcc (accessedByte c.1 c.2)).markedAcc (accessedByte k.1 k.2)).mem } := by
  rw [State.outer, markedAcc_eq (s.markedAcc (accessedByte c.1 c.2)), markedAcc_eq s]
  rfl

theorem outerEntry_of {s t : State} {sel ssel : Half} {c k : Nat × Desc} {off esp : Word} (hs : Memory.wf s.mem = true)
    (hm : t.mem = (s.outer sel ssel c k off esp).mem) (hg : t.gpr = (s.outer sel ssel c k off esp).gpr)
    (hseg : t.seg = (s.outer sel ssel c k off esp).seg) (hq : QuietButSeg { s with cpl := rpl sel } t) : OuterEntry s t sel ssel c k esp := by
  rw [outer_frame] at hg hseg
  refine ⟨accessedSeq_two hs hm, hg.trans ?_, hseg, hq⟩
  rfl

/-! ### Far RET -/

/-- An item of two bytes is its lower half. -/
theorem item_cut (s : State) (j : Nat) :
    (if s.o32 then BitVec.ofNat 32 (s.item j (bytes s.o32)) else BitVec.ofNat 32 (s.item j (bytes s.o32)) &&& 0xFFFF#32) =
      BitVec.ofNat 32 (s.item j (bytes s.o32)) := by
  cases ho : s.o32 with
  | true => rfl
  | false =>
    have hlt : s.item j 2 < 2 ^ 16 := num_lt s _ 2
    rw [if_neg Bool.false_ne_true]
    apply BitVec.eq_of_toNat_eq
    have hmod : s.item j 2 % 2 ^ 32 = s.item j 2 := Nat.mod_eq_of_lt (by omega)
    rw [BitVec.toNat_and, BitVec.toNat_ofNat, show bytes false = 2 from rfl, hmod]
    exact (Nat.and_two_pow_sub_one_eq_mod _ 16).trans (Nat.mod_eq_of_lt hlt)

theorem like_retFarOuter {s u : State} (h : Like s u) {imm : Half} {c k : Nat × Desc} {sel ssel : Half} {off : Word}
    (hm : s.mode8086 = false) (h0 : s.canPop 0 (bytes s.o32) = true) (h1 : s.canPop (bytes s.o32) (bytes s.o32) = true)
    (h2 : s.canPop (2 * bytes s.o32 + imm.toNat) (bytes s.o32) = true) (h3 : s.canPop (3 * bytes s.o32 + imm.toNat) (bytes s.o32) = true)
    (hsel : sel = BitVec.ofNat 16 (s.item (bytes s.o32) (bytes s.o32)))
    (hoff : off = s.cutTarget (BitVec.ofNat 32 (s.item 0 (bytes s.o32))))
    (hssel : ssel = BitVec.ofNat 16 (s.item (3 * bytes s.o32 + imm.toNat) (bytes s.o32)))
    (hc : s.outerCode sel off = some c) (hk : s.outerStack ssel (rpl sel) = some k) :
    Runs (retFarBody imm) u fun _ v => Like ((s.outer sel ssel c k off
      (BitVec.ofNat 32 (s.item (2 * bytes s.o32 + imm.toNat) (bytes s.o32)) + imm.setWidth 32)).jumped off) v := by
  obtain ⟨hn, hd, hcode, hr, hdpl, hp, hlim⟩ := outerCode_eq_some hc
  obtain ⟨w0, -, -, hreach, -⟩ := State.descriptor_eq_some.1 hd
  refine like_get_bind h fun j st n b => ?_
  rw [noisy_o32]
  refine runs_bind (like_peek (like_noisy s j st n b) (bytes_pos _) h0) fun x v ⟨hx, hv⟩ => ?_
  refine runs_bind (like_peek hv (bytes_pos _) h1) fun y v2 ⟨hy, hv2⟩ => ?_
  subst hx hy
  have hmode : (s.noisy j st n b).mode8086 = false := hm
  rw [hmode, if_neg Bool.false_ne_true, noisy_cutTarget, ← hsel, ← hoff]
  have hlow : ¬ rpl sel < s.cpl := fun hlt => absurd (BitVec.lt_trans hlt hr) (BitVec.lt_irrefl _)
  refine runs_bind (like_returnTarget hv2 hn hd hcode hlow hdpl hp hlim) fun p v3 ⟨hw, hd', hv3⟩ => ?_
  obtain ⟨w', d'⟩ := p
  obtain rfl : d' = c.2 := hd'
  dsimp only
  rw [noisy_cpl, if_neg fun he => absurd (he ▸ hr) (BitVec.lt_irrefl _)]
  refine runs_bind (like_peek hv3 (bytes_pos _) h2) fun x v4 ⟨hx, h4⟩ => ?_
  refine runs_bind (like_peek h4 (bytes_pos _) h3) fun y v5 ⟨hy, h5⟩ => ?_
  subst hx hy
  rw [← hssel]
  refine runs_bind (like_enterOuter h5 hw hreach hk ?_) fun _ v6 h6 => like_jumpTo h6 off
  rw [item_cut]
  rfl

/-- A return to an outer level has touched nothing else. -/
theorem outer_still (s : State) (sel ssel : Half) (c k : Nat × Desc) (off esp : Word) :
    Still { s with cpl := rpl sel, seg := (s.outer sel ssel c k off esp).seg } (s.outer sel ssel c k off esp) := by
  rw [outer_frame]
  constructor <;> rfl

theorem outer_start (s : State) (sel ssel : Half) (c k : Nat × Desc) (off esp : Word) :
    s.start.outer sel ssel c k off esp = s.outer sel ssel c k off esp := by
  rw [State.outer, markedAcc_start, markedAcc_start]
  rfl

theorem retFar_outer {i : Instr} {imm : Half} {c k : Nat × Desc} {s : State} (hi : exec i s = instr false (retFarBody imm) s)
    (hs : s.ready) (hl : s.lockOk false = true) (hlbr : s.noLbr = true) {sel ssel : Half} {off esp : Word}
    (hb : Runs (retFarBody imm) s.start fun _ v => Like ((s.outer sel ssel c k off esp).jumped off) v) :
    Completes i s fun t => OuterEntry s t sel ssel c k esp ∧ t.eip = off ∧ FlagsSame s t := by
  have hland : Landed { s with cpl := rpl sel, seg := (s.outer sel ssel c k off esp).seg } (s.outer sel ssel c k off esp) := by
    refine ⟨outer_still s sel ssel c k off esp, ?_, ?_, ?_, ?_⟩ <;> rw [outer_frame]
    · rfl
    · exact congrArg Trans.branched hs.2
    · exact congrArg Trans.keepRf hs.2
    · exact congrArg Trans.repeats hs.2
  exact completes_landed hi hl hland hlbr hb fun u hg hm ⟨he, hf, hq⟩ => ⟨outerEntry_of hs.1 hm hg hq.2 hq.1, he, hf⟩

/-! ### IRET -/

theorem like_iretOuter {s u : State} (h : Like s u) {c k : Nat × Desc} {sel ssel : Half} {off off0 esp fl : Word}
    (h3 : s.canPop (3 * bytes s.o32) (bytes s.o32) = true) (h4 : s.canPop (4 * bytes s.o32) (bytes s.o32) = true)
    (hoff : off = s.cutTarget off0) (hesp : esp = BitVec.ofNat 32 (s.item (3 * bytes s.o32) (bytes s.o32)))
    (hssel : ssel = BitVec.ofNat 16 (s.item (4 * bytes s.o32) (bytes s.o32)))
    (hc : s.outerCode sel off = some c) (hk : s.outerStack ssel (rpl sel) = some k) :
    Runs (iretProt s.o32 off0 sel fl) u fun _ v => Like ((s.outer sel ssel c k off esp).flagged (iretWrites s) fl) v := by
  obtain ⟨hn, hd, hcode, hr, hdpl, hp, hlim⟩ := outerCode_eq_some hc
  obtain ⟨w0, -, -, hreach, -⟩ := State.descriptor_eq_some.1 hd
  refine like_get_bind h fun j st n b => ?_
  rw [show (if s.o32 = true then off0 else off0 &&& 0xFFFF#32) = off from hoff.symm]
  have hlow : ¬ rpl sel < s.cpl := fun hlt => absurd (BitVec.lt_trans hlt hr) (BitVec.lt_irrefl _)
  refine runs_bind (like_returnTarget (like_noisy s j st n b) hn hd hcode hlow hdpl hp hlim) fun p v3 ⟨hw, hd', hv3⟩ => ?_
  obtain ⟨w', d'⟩ := p
  obtain rfl : d' = c.2 := hd'
  dsimp only
  rw [noisy_cpl, if_neg fun he => absurd (he ▸ hr) (BitVec.lt_irrefl _), show (s.noisy j st n b).iopl = s.iopl from rfl,
    iretMask_eq, show (if s.o32 = true then 4 else 2) = bytes s.o32 from rfl]
  refine runs_bind (like_peek hv3 (bytes_pos _) h3) fun x v4 ⟨hx, h4'⟩ => ?_
  refine runs_bind (like_peek h4' (bytes_pos _) h4) fun y v5 ⟨hy, h5⟩ => ?_
  subst hx hy
  rw [← hssel]
  refine runs_bind (like_enterOuter h5 hw hreach hk ?_) fun _ v6 h6 => like_putFlagsMasked h6 _ _
  rw [item_cut, hesp]
  exact (add_zero _).symm

/-- An IRET to another level completes where no machine check has barred a return. -/
theorem iret_elsewhere {s y : State} {n : BitVec 2} (hl : s.lockOk false = true) (hlbr : s.noLbr = true) (hm : s.mode8086 = false) (hnt : s.flag fNT = false)
    (hno : s.noReturn = []) (hy : Still { s with cpl := n, seg := y.seg } y)
    (hb : Runs (iretFrame s.o32) s.start fun _ u => Like y u) :
    Completes .iretIretd s fun t => t.gpr = y.gpr ∧ t.mem = y.mem ∧ t.eip = y.eip ∧ t.eflags = y.eflags ∧ t.seg = y.seg ∧
      QuietButSeg { s with cpl := n, lat := { s.lat with nmiBlocked := false } } t := by
  have hv : s.flag fVM = false ∧ s.prot = true := by
    simpa [State.mode8086, and_comm] using hm
  have hi : iret s.o32 s.start = (do iretFrame s.o32; iretTail s.o32 s.start : M Unit) s.start :=
    run_iret_frame (s := s.start) (by simp [State.v86, show s.start.flag fVM = false from hv.1])
      (by simp [show s.start.flag fNT = false from hnt])
  have hbar : s.barred y.seg.cs.sel y.eip = false := by simp [State.barred, hno]
  have hmsr : y.noLbr = true := by
    unfold State.noLbr
    rw [hy.msr]
    exact hlbr
  refine iret_completes hi hl hmsr hb rfl rfl (congrArg Sys.cr3 hy.sys) hbar fun u hu => ?_
  have hquiet := (Still.like (s := { s with cpl := n, seg := y.seg, lat := { s.lat with nmiBlocked := false } }) (x := s.returnedTo y)
    ⟨hy.cpl, rfl, hy.sys, hy.dbg, hy.fpu, hy.msr, hy.apic, hy.smm,
      congrArg (fun l : Latches => { l with nmiBlocked := false }) hy.lat, hy.tlb, hy.map, hy.events, hy.bus, hy.cached, hy.others,
      by simp [State.returnedTo, State.frameTaken, hno]⟩ hu).quiet s
  obtain ⟨k, st, c, b, rfl⟩ := hu
  exact ⟨rfl, rfl, rfl, rfl, rfl, hquiet.1⟩

theorem outer_flags (s : State) (sel ssel : Half) (c k : Nat × Desc) (off esp : Word) :
    (s.outer sel ssel c k off esp).eflags = s.eflags ∧ (s.outer sel ssel c k off esp).eip = off := by
  rw [outer_frame]
  exact ⟨rfl, rfl⟩

theorem iret_outer {s : State} {c k : Nat × Desc} {sel ssel : Half} {off esp m f : Word} (hs : s.ready) (hl : s.lockOk false = true)
    (hlbr : s.noLbr = true) (hm : s.mode8086 = false) (hnt : s.flag fNT = false) (hno : s.noReturn = [])
    (hb : Runs (iretFrame s.o32) s.start fun _ u => Like ((s.outer sel ssel c k off esp).flagged m f) u) :
    Completes .iretIretd s fun t =>
      OuterEntry { s with lat := { s.lat with nmiBlocked := false } } t sel ssel c k esp ∧ t.eip = off ∧
        t.eflags = blend m s.eflags f := by
  have hstill := outer_still s sel ssel c k off esp
  obtain ⟨t, ht, hg, hmem, he, hf, hseg, hq⟩ := iret_elsewhere (y := (s.outer sel ssel c k off esp).flagged m f) hl hlbr hm hnt hno (n := rpl sel) ⟨hstill.cpl, rfl, hstill.sys,
    hstill.dbg, hstill.fpu, hstill.msr, hstill.apic, hstill.smm, hstill.lat, hstill.tlb, hstill.map, hstill.events, hstill.bus,
    hstill.cached, hstill.others, hstill.noReturn⟩ hb
  obtain ⟨hflags, hoff⟩ := outer_flags s sel ssel c k off esp
  refine ⟨t, ht, ?_, he.trans hoff, hf.trans (congrArg (blend m · f) hflags)⟩
  refine outerEntry_of (off := off) (s := { s with lat := { s.lat with nmiBlocked := false } }) hs.1 (hmem.trans ?_) (hg.trans ?_) (hseg.trans ?_) hq
  all_goals
    unfold State.outer
    cases accessedByte c.1 c.2 <;> cases accessedByte k.1 k.2 <;> rfl

/-! ### IRETD to virtual-8086 mode -/

/-- The state in virtual-8086 mode with what the frame of IRETD names. -/
def State.toV86 (s : State) (off fl : Word) (sel : Half) (v : Nat → Nat) : State :=
  let h := fun k : Nat => Seg.v86 (BitVec.ofNat 16 (v k))
  { s with eip := off, cpl := 3, eflags := definedFlags fl, gpr := { s.gpr with esp := BitVec.ofNat 32 (v 12) },
           seg := { es := h 20, cs := Seg.v86 sel, ss := h 16, ds := h 24, fs := h 28, gs := h 32 } }

/-- What lies above the frame of an IRET to the same level. -/
def State.aboveFrame (s : State) (k : Nat) : Nat := s.num (s.lin .ss (s.sp + BitVec.ofNat 32 k)) 4

theorem like_iretToV86 {s u : State} (h : Like s u) {off fl : Word} {sel : Half} (hsp : s.sp.toNat + 12 < 2 ^ 32)
    (hlim : s.seg.ss.inLimit (s.sp + 12) 24 = true)
    (hr : ∀ j < 6, s.reaches .ss (s.sp + BitVec.ofNat 32 (12 + 4 * j)) 4 4 .read = true) (hoff : off.toNat ≤ 0xFFFF) :
    Runs (iretToV86 off sel fl) u fun _ v => Like (s.toV86 off fl sel s.aboveFrame) v := by
  have hread {u : State} (h : Like s u) (j : Nat) (hj : j < 6) :
      Runs (segRead .ss (s.sp + BitVec.ofNat 32 (12 + 4 * j)) 4 4) u fun x v => x = s.aboveFrame (12 + 4 * j) ∧ Like s v :=
    like_segRead h (hr j hj) (by decide)
  refine like_get_bind h fun k st n b => ?_
  simp only [noisy_sp, noisy_seg, hlim, Bool.not_true, Bool.or_false, decide_eq_true_eq, if_neg (not_le.2 hsp)]
  refine runs_bind (hread (like_noisy s k st n b) 0 (by decide)) fun _ v ⟨hx, h1⟩ => ?_
  subst hx
  refine runs_bind (hread h1 1 (by decide)) fun _ v ⟨hx, h2⟩ => ?_
  subst hx
  refine runs_bind (hread h2 2 (by decide)) fun _ v ⟨hx, h3⟩ => ?_
  subst hx
  refine runs_bind (hread h3 3 (by decide)) fun _ v ⟨hx, h4⟩ => ?_
  subst hx
  refine runs_bind (hread h4 4 (by decide)) fun _ v ⟨hx, h5⟩ => ?_
  subst hx
  refine runs_bind (hread h5 5 (by decide)) fun _ v ⟨hx, h6⟩ => ?_
  subst hx
  rw [if_neg (not_lt.2 hoff)]
  exact like_modify (f := fun x => x.toV86 off fl sel s.aboveFrame) h6 fun _ _ _ _ _ => rfl

theorem not_toV86 {s : State} (h : s.o32 = true → s.cpl = 0 → bit s.iretFlags fVM = false) :
    (s.o32 && bit s.iretFlags fVM && s.cpl = 0) = false := by
  cases ho : s.o32 with
  | false => rfl
  | true =>
    by_cases hc : s.cpl = 0
    · rw [h ho hc]
      rfl
    · rw [decide_eq_false hc, Bool.and_false]

theorem protected_of {s : State} (hm : s.mode8086 = false) : s.prot = true ∧ s.flag fVM = false := by
  simpa [State.mode8086] using hm

/-- Settles O48. -/
theorem outerReturns : Obligations.OuterReturns := by
  refine ⟨fun i imm c k s hi hs hl hlbr hm => ?far, fun c k s hs hl hlbr hm hnt => ?outer, fun s hs hl hlbr hm hnt ho hcpl hno => ?v86⟩
  case far =>
    dsimp only
    intro h0 h1 h2 h3 hc hk
    have hex : exec i s = instr false (retFarBody imm) s := by
      rcases hi with ⟨rfl, rfl⟩ | rfl <;> rfl
    have hb := like_retFarOuter (Like.refl s.start) (imm := imm) (c := c) (k := k) (sel := BitVec.ofNat 16 (s.item (bytes s.o32) (bytes s.o32)))
      (ssel := BitVec.ofNat 16 (s.item (3 * bytes s.o32 + imm.toNat) (bytes s.o32)))
      (off := s.cutTarget (BitVec.ofNat 32 (s.item 0 (bytes s.o32)))) hm (by simpa using h0) (by simpa using h1) (by simpa using h2)
      (by simpa using h3) (by rw [start_item, start_o32]) (by rw [start_item, start_o32]; rfl) (by rw [start_item, start_o32]) hc hk
    rw [outer_start, start_item, start_o32] at hb
    exact retFar_outer hex hs hl hlbr hb
  case outer =>
    dsimp only
    intro hno hpop hvm hc hk
    have h0 : s.canPop 0 (bytes s.o32) = true := by simpa using hpop 0 (by decide)
    have h1 : s.canPop (bytes s.o32) (bytes s.o32) = true := by simpa using hpop 1 (by decide)
    obtain ⟨j, hframe⟩ := run_iretFrame_start h0 h1 (hpop 2 (by decide))
    rw [(protected_of hm).1, (protected_of hm).2, Bool.not_true, if_neg Bool.false_ne_true, if_neg Bool.false_ne_true,
      if_neg (Bool.eq_false_iff.1 (not_toV86 hvm))] at hframe
    refine iret_outer (off := s.iretOff) hs hl hlbr hm hnt hno ?_
    rw [Runs, hframe, ← outer_start]
    exact like_iretOuter (s := s.start) ((Like.refl s.start).withHit j) (by simpa using hpop 3 (by decide))
      (by simpa using hpop 4 (by decide)) rfl (by rw [start_item, start_o32]) (by rw [start_item, start_o32]) hc hk
  case v86 =>
    dsimp only
    intro hpop hvm hsp hlim hr hoff
    rw [← show bytes s.o32 = 4 from congrArg bytes ho] at hpop
    have h0 : s.canPop 0 (bytes s.o32) = true := by simpa using hpop 0 (by decide)
    have h1 : s.canPop (bytes s.o32) (bytes s.o32) = true := by simpa using hpop 1 (by decide)
    obtain ⟨j, hframe⟩ := run_iretFrame_start h0 h1 (hpop 2 (by decide))
    have hfl : s.iretFlags = BitVec.ofNat 32 (s.item 8 4) := by rw [State.iretFlags, ho]; rfl
    have hsel : s.iretSel = BitVec.ofNat 16 (s.item 4 4) := by rw [State.iretSel, ho]; rfl
    have hto : (s.o32 && bit s.iretFlags fVM && s.cpl = 0) = true := by rw [hfl, hvm, ho, hcpl]; rfl
    rw [(protected_of hm).1, (protected_of hm).2, Bool.not_true, if_neg Bool.false_ne_true, if_neg Bool.false_ne_true,
      if_pos hto, hfl, hsel, show bytes s.o32 = 4 from congrArg bytes ho] at hframe
    have hb : Runs (iretFrame s.o32) s.start fun _ u => Like (s.start.toV86 (BitVec.ofNat 32 (s.item 0 4)) (BitVec.ofNat 32 (s.item 8 4))
        (BitVec.ofNat 16 (s.item 4 4)) s.aboveFrame) u := by
      rw [Runs, hframe]
      exact like_iretToV86 ((Like.refl s.start).withHit j) hsp hlim hr hoff
    obtain ⟨t, ht, hg, hmem, he, hf, hseg, hq⟩ := iret_elsewhere hl hlbr hm hnt hno (n := 3) (by constructor <;> rfl) hb
    exact ⟨t, ht, hg, memSame_of_eq hmem, he, hf, hseg, hq⟩

end Sys2Proof.Machine

/-! SUPPORT. Frames on the stack of an inner privilege level. -/
namespace Sys2Proof.Machine
open Host

/-! ### The stack of the TSS -/

theorem stackOf_eq_some {s : State} {n : BitVec 2} {k : InnerStack} (h : s.stackOf n = some k) :
    let wide := bit s.sys.tr.type 3
    let at_ := if wide then 4 + 8 * n.toNat else 2 + 4 * n.toNat
    let size := if wide then 4 else 2
    at_ + size + 1 ≤ s.sys.tr.limit.toNat ∧ s.sysReach (s.sys.tr.base + BitVec.ofNat 32 at_).toNat size ∧
      s.sysReach (s.sys.tr.base + BitVec.ofNat 32 (at_ + size)).toNat 2 ∧
      k.sel = BitVec.ofNat 16 (s.num (s.sys.tr.base + BitVec.ofNat 32 (at_ + size)).toNat 2) ∧ isNull k.sel = false ∧
      s.descriptor k.sel = some (k.addr, k.desc) ∧ rpl k.sel = n ∧ descDpl k.desc = n ∧
      isWritable (descS k.desc) (descType k.desc) = true ∧ descP k.desc = true ∧
      k.esp = BitVec.ofNat 32 (s.num (s.sys.tr.base + BitVec.ofNat 32 at_).toNat size) := by
  intro wide at_ size
  unfold State.stackOf at h
  rw [Option.ite_none_right_eq_some, Bool.and_eq_true, Bool.and_eq_true, Bool.and_eq_true, decide_eq_true_eq,
    Bool.not_eq_true', plainAt_iff, plainAt_iff] at h
  obtain ⟨⟨⟨⟨hlim, hesp⟩, hss⟩, hnull⟩, h⟩ := h
  split at h
  · cases h
  · next a d hd =>
    rw [Option.ite_none_right_eq_some, Bool.and_eq_true, Bool.and_eq_true, Bool.and_eq_true, decide_eq_true_eq,
      decide_eq_true_eq] at h
    obtain ⟨⟨⟨⟨hr, hdpl⟩, hw⟩, hp⟩, he⟩ := h
    obtain rfl := Option.some.inj he
    exact ⟨hlim, hesp, hss, rfl, hnull, hd, hr, hdpl, hw, hp, rfl⟩

theorem nigh_innerStack {s u : State} (h : Nigh s u) {n : BitVec 2} {k : InnerStack} (hk : s.stackOf n = some k) :
    Runs (innerStack n) u fun p t => p.1 = k.sel ∧ p.2.1.toNat = k.addr ∧ p.2.2.1 = k.desc ∧ p.2.2.2 = k.esp ∧ Nigh s t := by
  obtain ⟨hlim, hesp, hss, hsel, hnull, hd, hr, hdpl, hw, hp, he⟩ := stackOf_eq_some hk
  have h32 : s.sys.tr.tss32 = bit s.sys.tr.type 3 := rfl
  refine nigh_get_bind h fun st c => ?_
  simp only [drawn_sys, h32]
  have hat : (if bit s.sys.tr.type 3 = true then 8 + 8 * n.toNat else 4 + 4 * n.toNat) =
      (if bit s.sys.tr.type 3 = true then 4 + 8 * n.toNat else 2 + 4 * n.toNat) + (if bit s.sys.tr.type 3 = true then 4 else 2) := by
    split <;> omega
  rw [hat]
  refine runs_if_neg (not_lt.2 hlim) (runs_bind (nigh_sysRead (nigh_drawn s st c) hesp (by split <;> decide)) fun x v ⟨hx, h1⟩ => ?_)
  refine runs_bind (nigh_sysRead h1 hss (by decide)) fun y v ⟨hy, h2⟩ => ?_
  subst hx hy
  rw [← hsel, hnull, if_neg Bool.false_ne_true]
  refine runs_bind (nigh_needDesc h2 10 hd) fun p v ⟨ha, hd', h3⟩ => ?_
  obtain ⟨a', d'⟩ := p
  obtain rfl : d' = k.desc := hd'
  simp only [hr, hdpl, hw, hp, ne_eq, not_true, decide_false, Bool.or_self, Bool.not_true, Bool.false_eq_true, if_false]
  exact runs_pure ⟨rfl, ha, rfl, he.symm, h3⟩

/-! ### The frame -/

theorem spansFree_of_roomBelow (s : State) {g : Seg} {n : Nat} {t : Word} {vs : List Nat} (h : roomBelow g n t vs.length = true) :
    SpansFree s g false n t vs := by
  induction vs generalizing t with
  | nil => trivial
  | cons v vs ih =>
    simp only [List.length_cons, roomBelow, Bool.and_eq_true, decide_eq_true_eq] at h
    obtain ⟨⟨hlim, hle⟩, hrest⟩ := h
    exact ⟨⟨hlim, by rw [Bool.false_and, Bool.false_and], hle⟩, ih hrest⟩

theorem room_of_roomBelow {g : Seg} {n k : Nat} {t : Word} (h : roomBelow g n t k = true) : g.room t n k = true := by
  rw [Seg.room, List.all_eq_true]
  intro i hi
  rw [List.mem_range] at hi
  induction k generalizing t i with
  | zero => omega
  | succ k ih =>
    simp only [roomBelow, Bool.and_eq_true] at h
    obtain ⟨⟨hlim, -⟩, hrest⟩ := h
    cases i with
    | zero => simpa using hlim
    | succ i =>
      have hi' := ih hrest i (by omega)
      rw [Seg.cutSp_sub, BitVec.sub_sub, ← BitVec.ofNat_add] at hi'
      have hoff : n + n * (i + 1) = n * (i + 1 + 1) := by ring
      rwa [hoff] at hi'

/-- The state with a frame on the stack of an inner level, and both accessed flags set. -/
def State.innerFramed (s : State) (k : InnerStack) (n : Nat) (items : List Nat) (o : Option Nat) : State :=
  (State.storedAll n (pushPlaces k.seg n (k.seg.cutSp k.esp) items) (s.markedAcc (accessedByte k.addr k.desc))).markedAcc o

theorem innerFramed_eq (s : State) (k : InnerStack) (n : Nat) (items : List Nat) (o : Option Nat) :
    s.innerFramed k n items o = { s with mem := (s.innerFramed k n items o).mem } := by
  rw [State.innerFramed, markedAcc_eq, storedAll_eq, markedAcc_eq s]

/-- Every place is found, then the accessed flag of the stack, the frame and that of the code segment are written. -/
theorem nigh_innerFrame {s u : State} (h : Nigh s u) {k : InnerStack} {n : BitVec 2} (hk : s.stackOf n = some k) {a : Nat} {d : Desc}
    {w wk : Word} (hw : w.toNat = a) (hwk : wk.toNat = k.addr) (hr : s.sysReach a 8) {size : Nat} (hn : 0 < size) {items : List Nat}
    (code : Half) (hroom : roomBelow k.seg size (k.seg.cutSp k.esp) items.length = true) {rest : M Unit} {q : Unit → State → Prop}
    (hq : ∀ v, Nigh (s.innerFramed k size items (accessedByte a d)) v → Runs rest v q) :
    Runs (do
      let sp ← accessedSpan wk k.desc
      let ps ← pushSpans k.seg false code size (k.seg.cutSp k.esp) items
      let cp ← accessedSpan w d
      markAccessed sp
      storeItems size ps
      markAccessed cp
      rest) u q := by
  obtain ⟨-, -, -, -, -, hd, -, -, -, -, -⟩ := stackOf_eq_some hk
  obtain ⟨-, -, -, hrk, -⟩ := State.descriptor_eq_some.1 hd
  refine runs_bind (nigh_accessedSpan h hwk hrk) fun sp v1 ⟨hsp, h1⟩ => ?_
  refine runs_bind (nigh_pushSpans h1 hr.1 hn code (spansFree_of_roomBelow s hroom)) fun ps v2 ⟨hps, h2⟩ => ?_
  refine runs_bind (nigh_accessedSpan h2 hw hr) fun cp v3 ⟨hcp, h3⟩ => ?_
  subst hsp hps hcp
  have hp1 : (s.markedAcc (accessedByte k.addr k.desc)).plain = true := (calm_markedAcc _ _).plain.trans hr.1
  refine runs_bind (nigh_markAccessed h3 hr.1 _) fun _ v4 h4 => runs_bind (nigh_storeItems h4 hp1 size _) fun _ v5 h5 => ?_
  refine runs_bind (nigh_markAccessed h5 ?_ _) fun _ v6 h6 => hq v6 h6
  rw [storedAll_eq]
  exact hp1

theorem storedBelow_of {g : Seg} {n : Nat} {p : Word} {vs : List Nat} {s t : State} (hs : Memory.wf s.mem = true)
    (hm : t.mem = (State.storedAll n (pushPlaces g n p vs) s).mem) : StoredBelow g n p vs s t := by
  induction vs generalizing s p with
  | nil => exact memSame_of_eq hm
  | cons v vs ih => exact ⟨_, stored_memWriteList hs rfl, ih (wf_memWriteList hs) hm⟩

theorem storedAll_wf {s : State} (hs : Memory.wf s.mem = true) (n : Nat) (l : List (Nat × Nat)) :
    Memory.wf (State.storedAll n l s).mem = true := by
  induction l generalizing s with
  | nil => exact hs
  | cons p l ih => exact ih (wf_memWriteList hs)

theorem innerFrame_of {s t : State} {k : InnerStack} {n : Nat} {items : List Nat} {a : Nat} {d : Desc} (hs : Memory.wf s.mem = true)
    (hm : t.mem = (s.innerFramed k n items (accessedByte a d)).mem) : InnerFrame s t k n items a d := by
  have hwf := markedAcc_wf hs (accessedByte k.addr k.desc)
  refine ⟨(s.markedAcc (accessedByte k.addr k.desc)).mem,
    (State.storedAll n (pushPlaces k.seg n (k.seg.cutSp k.esp) items) (s.markedAcc (accessedByte k.addr k.desc))).mem,
    accessed_of hs rfl, ?_, ?_⟩
  · rw [← markedAcc_eq]
    exact storedBelow_of hwf rfl
  · have hall := storedAll_eq n (pushPlaces k.seg n (k.seg.cutSp k.esp) items) (s.markedAcc (accessedByte k.addr k.desc))
    refine accessed_of (storedAll_wf hwf _ _) (hm.trans ?_)
    rw [State.innerFramed, hall, markedAcc_eq s]

/-- The stack pointer register under a frame. -/
theorem espAfter_eq (k : InnerStack) (old : Word) (n count : Nat) :
    k.seg.withSp old (k.seg.below (k.seg.cutSp k.esp) n count) = k.espAfter old n count := by
  unfold InnerStack.espAfter Seg.withSp Seg.below
  have hdb : k.seg.db = bit k.desc 54 := rfl
  rw [hdb]
  split
  · rfl
  · next h =>
    have hcut (x : Word) : k.seg.cutSp x = x &&& 0xFFFF#32 := by
      rw [Seg.cutSp, hdb, if_neg h]
    rw [blend, hcut (_ - _), BitVec.and_assoc]
    rfl

end Sys2Proof.Machine

/-! SUPPORT. Deliveries to an inner privilege level, and calls through gates. -/
namespace Sys2Proof.Machine
open Host

/-! ### Deliveries -/

theorem handlerInner_eq_some {s : State} {g : Desc} {a : Nat} {d : Desc} (h : s.handlerInner g = some (a, d)) :
    isNull (gateSel g) = false ∧ s.seg.cs.valid = true ∧ s.seg.ss.valid = true ∧ s.descriptor (gateSel g) = some (a, d) ∧
      descCode d = true ∧ descConforming d = false ∧ descP d = true ∧ (gateOff g).toNat ≤ (descLimit d).toNat ∧
      (if s.flag fVM then descDpl d = 0 ∧ gateWide g = true else descDpl d < s.cpl) := by
  unfold State.handlerInner at h
  rw [Option.ite_none_left_eq_some, Bool.or_eq_true, Bool.or_eq_true, not_or, not_or, Bool.not_eq_true, Bool.not_eq_true',
    Bool.not_eq_false, Bool.not_eq_true', Bool.not_eq_false] at h
  obtain ⟨⟨⟨hn, hcs⟩, hss⟩, h⟩ := h
  split at h
  · cases h
  · next a' d' hd =>
    rw [Option.ite_none_right_eq_some, Bool.and_eq_true, Bool.and_eq_true, Bool.and_eq_true, Bool.and_eq_true,
      decide_eq_true_eq, Bool.not_eq_true'] at h
    obtain ⟨⟨⟨⟨⟨hcode, hconf⟩, hp⟩, hlim⟩, hlev⟩, he⟩ := h
    cases he
    refine ⟨hn, hcs, hss, hd, hcode, hconf, hp, hlim, ?_⟩
    split
    · next hv => simpa [hv] using hlev
    · next hv => simpa [hv] using hlev

/-- The segment registers at the entry of a handler at an inner level. -/
def State.innerSegs (s : State) (g : Desc) (d : Desc) (k : InnerStack) : Segs :=
  let x : Segs := { s.seg with cs := Seg.code (gateSel g) d (descDpl d), ss := k.seg }
  if s.flag fVM then x.nullData else x

/-- The state at the entry of a handler at an inner level. -/
def State.arrivedInner (s : State) (g : Desc) (k : InnerStack) (a : Nat) (d : Desc) (image : Word) (code : Option Half) : State :=
  let n := bytes (gateWide g)
  let items := s.innerFrame image code
  let x := s.innerFramed k n items (accessedByte a d)
  ({ s with cpl := descDpl d } : State).arrived
    { x with gpr := { s.gpr with esp := k.espAfter (if s.flag fVM then k.esp else s.gpr.esp) n items.length } }
    (gateOff g) (entryFlags s.eflags g) (s.innerSegs g d k)

theorem nigh_deliverInner {s u : State} (h : Nigh s u) {e : Entry} {g : Desc} {w : Word} {a : Nat} {d : Desc} {k : InnerStack}
    {n : BitVec 2} {segs : List Half} {whole : Bool} (hn : n = descDpl d)
    (hk : s.stackOf (descDpl d) = some k) (hw : w.toNat = a) (hr : s.sysReach a 8)
    (hitems : segs.map BitVec.toNat = if s.flag fVM then
      [s.seg.gs.sel.toNat, s.seg.fs.sel.toNat, s.seg.ds.sel.toNat, s.seg.es.sel.toNat] else []) (hwhole : whole = s.flag fVM)
    (hlim : (gateOff g).toNat ≤ (descLimit d).toNat)
    (hroom : roomBelow k.seg (bytes (gateWide g)) (k.seg.cutSp k.esp) (s.innerFrame (e.image s) e.code).length = true) :
    Runs (deliverInner e (Gate.ofDesc g) w d n segs whole) u fun _ t =>
      Nigh { s.arrivedInner g k a d (e.image s) e.code with
        seg := { s.seg with cs := Seg.code (gateSel g) d (descDpl d), ss := k.seg } } t := by
  subst hn
  refine nigh_get_bind h fun st c => ?_
  refine runs_bind (nigh_innerStack (nigh_drawn s st c) hk) fun p v ⟨hsel, hak, hdk, hesp, hv⟩ => ?_
  obtain ⟨sel, wk, dk, esp⟩ := p
  obtain rfl : sel = k.sel := hsel
  obtain rfl : dk = k.desc := hdk
  obtain rfl : esp = k.esp := hesp
  have himage : e.image (s.drawn st c) = e.image s := rfl
  have hframe : segs.map BitVec.toNat ++ [s.seg.ss.sel.toNat, s.gpr.esp.toNat, (e.image s).toNat, s.seg.cs.sel.toNat, s.eip.toNat] ++
      (e.code.map BitVec.toNat).toList = s.innerFrame (e.image s) e.code := by
    rw [hitems]
    rfl
  have hsize : (if (Gate.ofDesc g).wide = true then 4 else 2) = bytes (gateWide g) := rfl
  have hsegk : Seg.ofDesc k.sel k.desc = k.seg := rfl
  simp only [himage, drawn_seg, drawn_eip, drawn_gpr, hframe, hsize, hsegk, room_of_roomBelow hroom, Bool.not_true, Bool.false_eq_true,
    if_false]
  refine runs_if_neg (not_lt.2 hlim) (nigh_innerFrame hv hk hw hak hr (bytes_pos (gateWide g)) k.sel hroom fun v1 h1 => ?_)
  rw [innerFramed_eq] at h1
  refine runs_mono (nigh_modify h1 fun _ _ _ => rfl) fun _ t ht => ?_
  rw [State.arrivedInner, ← espAfter_eq, ← handlerFlags_eq, ← hwhole]
  exact ht

theorem nigh_gateInner {s u : State} (h : Nigh s u) {e : Entry} {g : Desc} {a : Nat} {d : Desc} {k : InnerStack}
    (hd : s.handlerInner g = some (a, d)) (hk : s.stackOf (descDpl d) = some k)
    (hroom : roomBelow k.seg (bytes (gateWide g)) (k.seg.cutSp k.esp) (s.innerFrame (e.image s) e.code).length = true) :
    Runs (deliverGate e (Gate.ofDesc g)) u fun _ t => Nigh (s.arrivedInner g k a d (e.image s) e.code) t := by
  obtain ⟨hn, hcs, hss, hdesc, hcode, hconf, hp, hlim, hlev⟩ := handlerInner_eq_some hd
  obtain ⟨w, -, -, hr, -⟩ := State.descriptor_eq_some.1 hdesc
  refine nigh_get_bind h fun st n => ?_
  have hnull : isNull (Gate.ofDesc g).sel = false := hn
  simp only [drawn_seg, hcs, hss, Bool.and_self, Bool.not_true, Bool.false_eq_true, if_false, hnull]
  refine runs_bind (nigh_needDesc (nigh_drawn s st n) 13 (show s.descriptor (Gate.ofDesc g).sel = some (a, d) from hdesc))
    fun p v ⟨hw, hd', hv⟩ => ?_
  obtain ⟨w', d'⟩ := p
  obtain rfl : d' = d := hd'
  simp only [hcode, hp, hconf, drawn_cpl, drawn_flag, Bool.not_true, Bool.false_eq_true, if_false, Bool.false_or]
  cases hvm : s.flag fVM with
  | true =>
    rw [hvm, if_pos rfl] at hlev
    obtain ⟨h0, hwide⟩ := hlev
    have hlow : ¬ descDpl d' > s.cpl := by
      rw [h0]
      exact Nat.not_lt_zero _
    rw [if_neg hlow, if_pos rfl]
    refine nigh_get_bind hv fun st n => ?_
    have hwide' : (Gate.ofDesc g).wide = true := hwide
    simp only [hwide', hconf, h0, ne_eq, not_true, decide_false, Bool.or_self, Bool.not_true, Bool.false_eq_true, if_false]
    refine runs_bind (nigh_deliverInner (nigh_drawn s st n) h0.symm hk hw hr (by rw [hvm]; rfl) hvm.symm hlim hroom) fun _ x hx => ?_
    refine runs_mono (nigh_modify hx (f := fun s => { s with seg := s.seg.nullData }) fun _ _ _ => rfl) fun _ t ht => ?_
    rw [State.arrivedInner, State.innerSegs, hvm]
    rw [State.arrivedInner, hvm] at ht
    exact ht
  | false =>
    rw [hvm, if_neg Bool.false_ne_true] at hlev
    have hlow : ¬ descDpl d' > s.cpl := fun hgt => absurd (BitVec.lt_trans hgt hlev) (BitVec.lt_irrefl _)
    have hne : ¬ descDpl d' = s.cpl := fun he => absurd (he ▸ hlev) (BitVec.lt_irrefl _)
    rw [if_neg hlow, if_neg Bool.false_ne_true]
    refine runs_if_neg (fun he => hne (of_decide_eq_true he)) ?_
    refine runs_mono (nigh_deliverInner hv rfl hk hw hr (by rw [hvm]; rfl) hvm.symm hlim hroom) fun _ t ht => ?_
    rw [State.arrivedInner, State.innerSegs, hvm]
    rw [State.arrivedInner, hvm] at ht
    exact ht

/-- What an entry at an inner level leaves of registers and memory. -/
theorem innerEntry_of {s t : State} {g : Desc} {k : InnerStack} {a : Nat} {d : Desc} {image : Word} {code : Option Half}
    (hs : Memory.wf s.mem = true) (hm : t.mem = (s.arrivedInner g k a d image code).mem)
    (hg : t.gpr = (s.arrivedInner g k a d image code).gpr) (he : t.eip = gateOff g) (hf : t.eflags = entryFlags s.eflags g)
    (hq : Quiet { s with cpl := descDpl d, noReturn := s.marksElsewhere, seg := s.innerSegs g d k } t) :
    InnerEntry s t g k a d image code := by
  refine ⟨innerFrame_of hs hm, hg, he, hf, hq.2.trans ?_, hq.1⟩
  unfold State.innerSegs
  cases hv : s.flag fVM <;> rfl

theorem innerFrame_length (s : State) (image : Word) (code : Option Half) :
    (s.innerFrame image code).length = (if s.flag fVM then 4 else 0) + 5 + (code.map BitVec.toNat).toList.length := by
  unfold State.innerFrame
  cases s.flag fVM <;> simp <;> omega

/-! ### Exceptions -/

theorem enters_inner {s u b : State} {x : Exc} {g : Desc} {a : Nat} {d : Desc} {k : InnerStack} (hb : rollback s u x = b)
    (hv : x.vec ≠ 1) (hwf : Memory.wf b.mem = true) (hp : b.prot = true) (hlbr : b.noLbr = true)
    (hg : b.gateOk x.vec false = some g) (hd : b.handlerInner g = some (a, d)) (hk : b.stackOf (descDpl d) = some k)
    (hroom : roomBelow k.seg (bytes (gateWide g)) (k.seg.cutSp k.esp) (b.innerFrame 0 x.code).length = true) :
    ∃ t, takeException s u x = .next t ∧ InnerEntry b t g k a d (setBit b.eflags 16 true) x.code := by
  have hins : b.ins = Ins.clear := by rw [← hb, rollback_ins]
  have hroom' : roomBelow k.seg (bytes (gateWide g)) (k.seg.cutSp k.esp) (b.innerFrame (setBit b.eflags 16 true) x.code).length = true := by
    rwa [innerFrame_length] at hroom ⊢
  refine takeException_of_deliver hb (runs_mono (nigh_deliver (s' := b.arrivedInner g k a d (setBit b.eflags 16 true) x.code)
    (Nigh.refl b) (entry_notAbort x b) (entry_notDebug hv b) hlbr rfl fun v hv' =>
    runs_if_pos hp (runs_deliverProt hv' hg fun w hw => ?_)) fun _ t ⟨stepping, ht⟩ => ?_)
  · rw [← entry_image hv] at hroom' ⊢
    exact nigh_gateInner (e := x.entry b) hw hd hk hroom'
  · have hlat := latches_of_settled (s := b.arrivedInner g k a d (setBit b.eflags 16 true) x.code) ht
    have hq := quiet_settled (s := { b with cpl := descDpl d }) (x := b) hins ht hlat
      (apic_of_arrived (s := { b with cpl := descDpl d }) ht)
    obtain ⟨st, n, rfl⟩ := ht
    exact innerEntry_of hwf rfl rfl rfl rfl hq

/-! ### Software interrupts -/

theorem innerEntry_completed {s u : State} (x : State) {g : Desc} {k : InnerStack} {a : Nat} {d : Desc} {image : Word}
    {stepping : Bool} (hs : s.ready)
    (hu : Nigh ((s.arrivedInner g k a d image none).settled s.marksElsewhere false stepping) u) :
    InnerEntry s (u.interrupted.completed x) g k a d image none := by
  have hlat := latches_of_settled hu
  obtain ⟨st, n, rfl⟩ := hu
  have hf := eflags_completed x hs.2
    (u := (((s.arrivedInner g k a d image none).settled s.marksElsewhere false stepping).drawn st n).interrupted)
    rfl rfl (entryFlags_rf s.eflags g)
  exact innerEntry_of hs.1 rfl rfl rfl hf (quiet_completed (s := { s with cpl := descDpl d }) x _ _ _ _ _ _ _ st n
    (l := ((s.arrivedInner g k a d image none).settled s.marksElsewhere false stepping).lat) hlat)

section
variable {v : Nat} {g : Desc} {a : Nat} {d : Desc} {k : InnerStack} {s : State} (hs : s.ready)
  (hlbr : s.noLbr = true) (hp : s.prot = true) (hg : s.gateOk v true = some g) (hd : s.handlerInner g = some (a, d))
  (hk : s.stackOf (descDpl d) = some k)
  (hroom : roomBelow k.seg (bytes (gateWide g)) (k.seg.cutSp k.esp) (s.innerFrame 0 none).length = true)
include hs hlbr hp hg hd hk hroom

/-- The delivery of a software interrupt to an inner level. -/
theorem runs_soft_inner {rf : Option Bool} {u : State} (hrf : rf = none ∨ rf = some false) (hu : Nigh s.start u) :
    Runs (deliver (softEntry s.eip v rf)) u fun _ t =>
      ∃ image, SoftImage s image ∧ InnerEntry s.after (t.interrupted.completed s) g k a d image none := by
  have hg' : s.after.gateOk v true = some g := hg
  have hd' : s.after.handlerInner g = some (a, d) := by
    rw [← hd, State.handlerInner, State.handlerInner, show s.after.descriptor (gateSel g) = s.descriptor (gateSel g) from rfl]
    rfl
  have hk' : s.after.stackOf (descDpl d) = some k := hk
  exact runs_mono (nigh_deliver (s := s.after) (s' := s.after.arrivedInner g k a d ((softEntry s.eip v rf).image s.after) none) hu
    (softEntry_notAbort _ v rf) (softEntry_notDebug _ v rf) hlbr rfl fun w hw =>
    runs_if_pos hp (runs_deliverProt (s := s.after) hw (e := softEntry s.eip v rf) hg' fun y hy =>
      nigh_gateInner hy hd' hk' (by rw [innerFrame_length] at hroom ⊢; exact hroom)))
    fun _ t ⟨_, ht⟩ => ⟨_, softEntry_image hrf s, innerEntry_completed s (after_ready hs) ht⟩

theorem enters_softly_inner {i : Instr} (hi : IsSoftInt i v s) (hl : s.lockOk false = true) (hidt : s.throughIdt i v) :
    Completes i s fun t => ∃ image, SoftImage s image ∧ InnerEntry s.after t g k a d image none :=
  completes_interrupted hi (fun _ => hidt) hl fun _ _ hrf hu => runs_soft_inner hs hlbr hp hg hd hk hroom hrf hu

/-- INT n from virtual-8086 mode with a TSS that has no map. -/
theorem enters_softly_mapless {n : Byte} (hv : v = n.toNat) (hl : s.lockOk false = true) (hm : s.mapless) :
    Raises (.intIb n) s 13 (some 0) ∨
      Completes (.intIb n) s fun t => ∃ image, SoftImage s image ∧ InnerEntry s.after t g k a d image none := by
  subst hv
  obtain ⟨hvm, hiopl, hcr4, h16⟩ := hm
  have hv : s.start.v86 = true := by rw [start_v86, State.v86, hp, hvm]; rfl
  have hbody : intBody s.eip n.toNat s.start = (do
      let b ← redirBit n.toNat
      if !b then redirect s.eip n.toNat else if s.start.iopl = 3 then softInt s.eip n.toNat else raiseGP0 : M Unit) s.start := by
    rw [run_intBody, hv, if_pos rfl, run_intV86_extended (s := s.start) hcr4]
  rcases run_redirBit_mapless (s := s.start) h16 n.toNat with hmap | hmap
  · right
    obtain ⟨x, t, hrun, hq⟩ := runs_softInt (s := { s.start with free := s.start.free + 1 }) (cur := s.eip) (v := n.toNat)
      (q := fun _ t => (t.tr.branched = true → t.noLbr = true) ∧
        ∃ image, SoftImage s image ∧ InnerEntry s.after (t.completed s) g k a d image none)
      fun rf u hrf hu => runs_mono (runs_soft_inner hs hlbr hp hg hd hk hroom hrf
        (Nigh.trans ⟨s.start.stale, s.start.free + 1, rfl⟩ hu)) fun _ _ hq => ⟨fun hb => Bool.noConfusion hb, hq⟩
    refine completes_of_ends (body := intBody s.eip n.toNat) rfl hl ⟨x, t, ?_, hq⟩
    exact hbody.trans ((run_bind_ok _ hmap).trans ((congrFun (if_pos hiopl) _).trans hrun))
  · left
    exact raises_of_raise (n := s.start.free + 1) (body := intBody s.eip n.toNat) rfl hl
      (hbody.trans (run_bind_raised _ hmap))

end

end Sys2Proof.Machine

/-! SUPPORT. Calls and jumps through call gates. -/
namespace Sys2Proof.Machine
open Host

theorem callGate_eq_some {s : State} {sel : Half} {inner : Bool} {g : Desc} {a : Nat} {d : Desc} (h : s.callGate sel inner = some (g, a, d)) :
    ∃ ga, isNull sel = false ∧ s.descriptor sel = some (ga, g) ∧ descS g = false ∧ ((descType g) = 4 ∨ (descType g) = 12) ∧
      ¬ descDpl g < s.cpl ∧ ¬ descDpl g < rpl sel ∧ descP g = true ∧ isNull (gateSel g) = false ∧
      s.descriptor (gateSel g) = some (a, d) ∧ descCode d = true ∧ descP d = true ∧ (gateOff g).toNat ≤ (descLimit d).toNat ∧
      (if inner then descConforming d = false ∧ descDpl d < s.cpl
        else if descConforming d then descDpl d ≤ s.cpl else descDpl d = s.cpl) := by
  unfold State.callGate at h
  rw [Option.ite_none_left_eq_some, Bool.not_eq_true] at h
  obtain ⟨hn, h⟩ := h
  split at h
  · cases h
  · next ga g' hg =>
    rw [Option.ite_none_left_eq_some] at h
    obtain ⟨hgate, h⟩ := h
    simp only [Bool.or_eq_true, not_or, Bool.not_eq_true, decide_eq_false_iff_not] at hgate
    split at h
    · cases h
    · next a' d' hd =>
      rw [Option.ite_none_right_eq_some, Bool.and_eq_true, Bool.and_eq_true, Bool.and_eq_true, decide_eq_true_eq] at h
      obtain ⟨⟨⟨⟨hcode, hp⟩, hlim⟩, hlev⟩, he⟩ := h
      cases he
      obtain ⟨⟨⟨⟨⟨hs, hty⟩, hcpl⟩, hrpl⟩, hpg⟩, hng⟩ := hgate
      rw [Bool.not_eq_false', Bool.or_eq_true, decide_eq_true_eq, decide_eq_true_eq] at hty
      rw [Bool.not_eq_false'] at hpg
      refine ⟨ga, hn, hg, hs, hty, hcpl, hrpl, hpg, hng, hd, hcode, hp, hlim, ?_⟩
      cases inner with
      | true => simpa using hlev
      | false => cases hconf : descConforming d <;> simpa [hconf] using hlev

/-! ### Calls to an inner level -/

theorem noisy_markedAcc (s : State) (o : Option Nat) (k : BitVec 4) (st : List StaleByte) (n : Nat) (b : Bool) :
    (s.noisy k st n b).markedAcc o = (s.markedAcc o).noisy k st n b := by
  cases o <;> rfl

theorem noisy_storedAll (n : Nat) (l : List (Nat × Nat)) (s : State) (k : BitVec 4) (st : List StaleByte) (c : Nat) (b : Bool) :
    State.storedAll n l (s.noisy k st c b) = (State.storedAll n l s).noisy k st c b := by
  induction l generalizing s with
  | nil => rfl
  | cons p l ih => exact ih (s.stored p.1 n p.2)

theorem noisy_innerFramed (s : State) (x : InnerStack) (n : Nat) (items : List Nat) (o : Option Nat) (k : BitVec 4)
    (st : List StaleByte) (c : Nat) (b : Bool) :
    (s.noisy k st c b).innerFramed x n items o = (s.innerFramed x n items o).noisy k st c b := by
  rw [State.innerFramed, noisy_markedAcc, noisy_storedAll, noisy_markedAcc, State.innerFramed]

theorem like_gateParams {s u : State} (h : Like s u) {w : Nat} (hw : 0 < w) (j c : Nat) (hc : ∀ i, j ≤ i → i < j + c → s.canPop (w * i) w = true) :
    Runs (gateParams w j c) u fun ps v => ps = (List.range' j c).map (fun i => s.item (w * i) w) ∧ Like s v := by
  induction c generalizing j u with
  | zero => exact runs_pure ⟨rfl, h⟩
  | succ c ih =>
    unfold gateParams
    rw [Nat.mul_comm]
    refine runs_bind (like_peek h hw (hc j le_rfl (by omega))) fun x v ⟨hx, hv⟩ => ?_
    refine runs_bind (ih hv (j + 1) fun i hi hlt => hc i (by omega) (by omega)) fun ps t ⟨hps, ht⟩ => ?_
    subst hx hps
    exact runs_pure ⟨rfl, ht⟩

theorem like_hitsBelow {s u : State} (h : Like s u) (g : Seg) (n : Nat) (t : Word) (vs : List Nat) :
    Runs (hitsBelow g n t vs) u fun _ v => Like s v := by
  induction vs generalizing t u with
  | nil => exact runs_pure h
  | cons v vs ih => exact runs_bind (like_noteHits h _) fun _ w hw => ih hw _

/-- The state on the stack of an inner level, before CALL jumps. -/
def State.calledInner (s : State) (csel : Half) (k : InnerStack) (w : Nat) (items : List Nat) (a : Nat) (d : Desc) : State :=
  { s.innerFramed k w items (accessedByte a d) with
    cpl := descDpl d, gpr := { s.gpr with esp := k.espAfter s.gpr.esp w items.length },
    seg := { s.seg with cs := Seg.code csel d (descDpl d), ss := k.seg } }

/-- What a call through a gate pushes: the old stack, the parameters, the return address. -/
def State.gateItems (s : State) (w count : Nat) : List Nat :=
  [s.seg.ss.sel.toNat, s.gpr.esp.toNat] ++ ((List.range count).map fun j => s.item (w * j) w).reverse ++
    [s.seg.cs.sel.toNat, s.eip.toNat]

theorem gateItems_length (s : State) (w count : Nat) : (s.gateItems w count).length = 4 + count := by
  simp [State.gateItems]
  omega

theorem like_callInner {s u : State} (h : Like s u) {w count : Nat} (hw : 0 < w) {csel : Half} {wa : Word} {a : Nat} {d : Desc} {off : Word}
    {k : InnerStack} (hk : s.stackOf (descDpl d) = some k) (ha : wa.toNat = a) (hr : s.sysReach a 8)
    (hlim : off.toNat ≤ (descLimit d).toNat) (hc : ∀ j < count, s.canPop (w * j) w = true)
    (hroom : roomBelow k.seg w (k.seg.cutSp k.esp) (4 + count) = true) :
    Runs (callInner w count csel wa d off) u fun _ v => Like ((s.calledInner csel k w (s.gateItems w count) a d).jumped off) v := by
  refine like_get_bind h fun j st n b => ?_
  refine runs_bind (nigh_innerStack (Nigh.refl (s.noisy j st n b)) hk) fun p v ⟨hsel, hak, hdk, hesp, hv⟩ => ?_
  obtain ⟨sel, wk, dk, esp⟩ := p
  obtain rfl : sel = k.sel := hsel
  obtain rfl : dk = k.desc := hdk
  obtain rfl : esp = k.esp := hesp
  have hsegk : Seg.ofDesc k.sel k.desc = k.seg := rfl
  simp only [hsegk, room_of_roomBelow hroom, Bool.not_true, Bool.false_eq_true, if_false, if_neg (not_lt.2 hlim)]
  have hlike : Like s v := (like_noisy s j st n b).trans hv.like
  refine runs_bind (like_gateParams hlike hw 0 count fun i _ hi => hc i (by omega)) fun ps v1 ⟨hps, h1⟩ => ?_
  subst hps
  obtain ⟨j', st', n', b', rfl⟩ := h1
  have hitems : [s.seg.ss.sel.toNat, s.gpr.esp.toNat] ++ ((List.range' 0 count).map fun i => s.item (w * i) w).reverse ++
      [s.seg.cs.sel.toNat, s.eip.toNat] = s.gateItems w count := by
    rw [← List.range_eq_range']
    rfl
  simp only [noisy_seg, noisy_gpr, noisy_eip, hitems]
  rw [← gateItems_length s w] at hroom
  refine nigh_innerFrame (Nigh.refl (s.noisy j' st' n' b')) hk ha hak hr hw k.sel hroom fun v2 h2 => ?_
  rw [noisy_innerFramed] at h2
  refine runs_bind (like_hitsBelow ((like_noisy _ j' st' n' b').trans h2.like) k.seg w _ _) fun _ v3 h3 => ?_
  rw [innerFramed_eq] at h3
  refine runs_bind (like_modify h3 fun _ _ _ _ _ => rfl) fun _ v4 h4 => ?_
  refine runs_mono (like_jumpTo h4 off) fun _ t ht => ?_
  rw [State.calledInner, ← espAfter_eq, innerFramed_eq]
  exact ht

/-- Far CALL and JMP through a gate come to what the gate leads to. -/
theorem like_throughGate {s u : State} (h : Like s u) {call : Bool} {sel : Half} {off0 : Word} {inner : Bool} {g : Desc} {a : Nat} {d : Desc}
    (hm : s.mode8086 = false) (hg : s.callGate sel inner = some (g, a, d)) {q : Unit → State → Prop}
    (hq : ∀ w v, w.toNat = a → Like s v → Runs (
      if !call && !descConforming d && descDpl d ≠ s.cpl then raiseGP (gateSel g)
      else if call && !descConforming d && descDpl d < s.cpl then
        callInner (bytes (gateWide g)) (field g 32 5 : BitVec 5).toNat (gateSel g) w d (gateOff g)
      else if (gateOff g).toNat > (descLimit d).toNat then raiseGP0
      else do
        whenM call (callFrame (bytes (gateWide g)))
        enterCode (gateSel g) w d (gateOff g)) v q) :
    Runs (farTransfer call sel off0) u q := by
  obtain ⟨ga, hn, hdg, hs, hty, hcpl, hrpl, hpg, hng, hd, hcode, hp, hlim, hlev⟩ := callGate_eq_some hg
  have hty' : (descType g).toNat = 4 ∨ (descType g).toNat = 12 := by
    rcases hty with h | h <;> rw [h] <;> decide
  have hlow : ¬ descDpl d > s.cpl := by
    cases inner with
    | true =>
      rw [if_pos rfl] at hlev
      exact fun hgt => absurd (BitVec.lt_trans hgt hlev.2) (BitVec.lt_irrefl _)
    | false =>
      rw [if_neg Bool.false_ne_true] at hlev
      split at hlev
      · exact BitVec.not_lt.2 hlev
      · rw [hlev]
        exact BitVec.lt_irrefl _
  refine like_get_bind h fun k st n b => ?_
  refine runs_if_neg (Bool.eq_false_iff.1 hm) (like_get_bind (like_noisy s k st n b) fun k st n b => ?_)
  rw [hn, if_neg Bool.false_ne_true]
  refine runs_bind (like_needDesc (like_noisy s k st n b) 13 hdg) fun p v ⟨hw, hd', hv⟩ => ?_
  obtain ⟨w', g'⟩ := p
  obtain rfl : g' = g := hd'
  dsimp only
  rw [hs, Bool.not_false, if_pos rfl, if_pos hty']
  refine like_get_bind hv fun k st n b => ?_
  have hpriv : (decide (descDpl g' < (s.noisy k st n b).cpl) || decide (descDpl g' < rpl sel)) = false := by
    rw [noisy_cpl, decide_eq_false hcpl, decide_eq_false hrpl]
    rfl
  simp only [hpriv, hpg, hng, Bool.not_true, Bool.false_eq_true, if_false]
  refine runs_bind (like_needDesc (like_noisy s k st n b) 13 hd) fun p v ⟨hw, hd', hv⟩ => ?_
  obtain ⟨w', d'⟩ := p
  obtain rfl : d' = d := hd'
  simp only [hcode, hp, noisy_cpl, if_neg hlow, Bool.not_true, Bool.false_eq_true, if_false]
  exact hq _ _ hw hv

/-! ### Calls and jumps at the same level -/

/-- The state with the return address of a CALL through a gate pushed, or without for a JMP. -/
def State.gateFramed (s : State) (call : Bool) (w : Nat) : State :=
  if call then State.pushedAll w [s.seg.cs.sel.toNat, s.eip.toNat] s else s

theorem calm_gateFramed (s : State) (call : Bool) (w : Nat) : Calm s (s.gateFramed call w) := by
  cases call with
  | true => exact calm_pushedAll _ _ _
  | false => exact Calm.refl s

theorem gateFramed_eflags (s : State) (call : Bool) (w : Nat) : (s.gateFramed call w).eflags = s.eflags := by
  cases call with
  | true => exact (pushedAll_frame _ _ _).2
  | false => rfl

theorem like_gateSame {s u : State} (h : Like s u) {call : Bool} {w : Nat} (hn : 0 < w) {sel : Half} {wa : Word} {a : Nat} {d : Desc}
    {off : Word} (hw : wa.toNat = a) (hr : s.sysReach a 8) (hc : call = true → canPushAll w 2 s = true) :
    Runs (do whenM call (callFrame w); enterCode sel wa d off) u fun _ v =>
      Like ((((s.gateFramed call w).markedAcc (accessedByte a d)).withSeg .cs (Seg.code sel d s.cpl)).jumped off) v := by
  have hframe : Runs (whenM call (callFrame w)) u fun _ t => Like (s.gateFramed call w) t := by
    cases call with
    | true => exact like_callFrame h hn (hc rfl)
    | false => exact runs_pure h
  have hcalm := calm_gateFramed s call w
  refine runs_bind hframe fun _ t ht => ?_
  have henter := like_enterCode ht (sel := sel) (off := off) hw ⟨hcalm.plain.trans hr.1, hr.2⟩ (d := d)
  rwa [hcalm.cpl] at henter

/-- The state after the push of a return address, as the instruction shows it. -/
def State.gatePushed (s : State) (call : Bool) (w : Nat) : State :=
  if call then State.pushedAll w [s.seg.cs.sel.toNat, s.nextEip.toNat] s else s

theorem start_gateFramed (s : State) (call : Bool) (w : Nat) : s.start.gateFramed call w = (s.gatePushed call w).start := by
  cases call with
  | true => exact start_pushedAll _ _ s
  | false => rfl

theorem gatePushed_wf {s : State} (h : Memory.wf s.mem = true) (call : Bool) (w : Nat) : Memory.wf (s.gatePushed call w).mem = true := by
  cases call with
  | true => exact pushedAll_wf _ _ h
  | false => exact h

theorem storedAll_start (n : Nat) (l : List (Nat × Nat)) (s : State) : State.storedAll n l s.start = (State.storedAll n l s).start := by
  induction l generalizing s with
  | nil => rfl
  | cons p l ih => exact ih (s.stored p.1 n p.2)

theorem innerFramed_start (s : State) (k : InnerStack) (n : Nat) (items : List Nat) (o : Option Nat) :
    s.start.innerFramed k n items o = (s.innerFramed k n items o).start := by
  rw [State.innerFramed, markedAcc_start, storedAll_start, markedAcc_start, State.innerFramed]

theorem like_farSame {s u : State} (h : Like s u) {call : Bool} {sel : Half} {off0 : Word} {g : Desc} {a : Nat} {d : Desc}
    (hm : s.mode8086 = false) (hg : s.callGate sel false = some (g, a, d))
    (hc : call = true → canPushAll (bytes (gateWide g)) 2 s = true) :
    Runs (farTransfer call sel off0) u fun _ v =>
      Like ((((s.gateFramed call (bytes (gateWide g))).markedAcc (accessedByte a d)).withSeg .cs
        (Seg.code (gateSel g) d s.cpl)).jumped (gateOff g)) v := by
  obtain ⟨-, -, -, -, -, -, -, -, -, hd, -, -, hlim, hlev⟩ := callGate_eq_some hg
  obtain ⟨-, -, -, hr, -⟩ := State.descriptor_eq_some.1 hd
  rw [if_neg Bool.false_ne_true] at hlev
  have hlevel : (!call && !descConforming d && decide (descDpl d ≠ s.cpl)) = false ∧
      (call && !descConforming d && decide (descDpl d < s.cpl)) = false := by
    cases hconf : descConforming d with
    | true => simp
    | false =>
      rw [hconf, if_neg Bool.false_ne_true] at hlev
      rw [hlev, decide_eq_false (BitVec.lt_irrefl _)]
      simp
  refine like_throughGate h hm hg fun w x hw hx => ?_
  refine runs_if_neg (Bool.eq_false_iff.1 hlevel.1) (runs_if_neg (Bool.eq_false_iff.1 hlevel.2) (runs_if_neg (not_lt.2 hlim) ?_))
  exact like_gateSame hx (bytes_pos (gateWide g)) hw hr hc

theorem like_farInner {s u : State} (h : Like s u) {sel : Half} {off0 : Word} {g : Desc} {a : Nat} {d : Desc} {k : InnerStack}
    (hm : s.mode8086 = false) (hg : s.callGate sel true = some (g, a, d)) (hk : s.stackOf (descDpl d) = some k)
    (hc : ∀ j < (field g 32 5 : BitVec 5).toNat, s.canPop (bytes (gateWide g) * j) (bytes (gateWide g)) = true)
    (hroom : roomBelow k.seg (bytes (gateWide g)) (k.seg.cutSp k.esp) (4 + (field g 32 5 : BitVec 5).toNat) = true) :
    Runs (farTransfer true sel off0) u fun _ v => Like ((s.calledInner (gateSel g) k (bytes (gateWide g))
      (s.gateItems (bytes (gateWide g)) (field g 32 5 : BitVec 5).toNat) a d).jumped (gateOff g)) v := by
  obtain ⟨-, -, -, -, -, -, -, -, -, hd, -, -, hlim, hlev⟩ := callGate_eq_some hg
  obtain ⟨-, -, -, hr, -⟩ := State.descriptor_eq_some.1 hd
  rw [if_pos rfl] at hlev
  have hinner : (true && !descConforming d && decide (descDpl d < s.cpl)) = true := by
    rw [hlev.1, decide_eq_true hlev.2]
    rfl
  refine like_throughGate h hm hg fun w x hw hx => ?_
  exact runs_if_neg Bool.false_ne_true (runs_if_pos hinner (like_callInner hx (bytes_pos (gateWide g)) hk hw hr hlim hc hroom))

/-- CALL and JMP through a gate at the same level. -/
theorem gate_same {call : Bool} {f : FarForm} {g : Desc} {a : Nat} {d : Desc} {s : State} (hs : s.ready) (hl : s.lockOk false = true)
    (hlbr : s.noLbr = true) (hm : s.mode8086 = false) (hok : f.ok s = true) (hg : s.callGate (f.sel s) false = some (g, a, d))
    (hc : call = true → canPushAll (bytes (gateWide g)) 2 s = true) :
    Completes (f.instr call) s fun t =>
      (∃ u, (if call then FarFrame (bytes (gateWide g)) s u else Untouched s u) ∧ t.gpr = u.gpr ∧
        Accessed u t (accessedByte a d)) ∧
        Jumps { s with seg := { s.seg with cs := Seg.code (gateSel g) d s.cpl } } t (gateOff g) := by
  obtain ⟨body, hex, hb⟩ := like_farForm (call := call) hok fun v hv =>
    like_farSame hv (sel := f.sel s) (off0 := f.off s) hm hg fun h => (canPushAll_start _ _ s).trans (hc h)
  have hcalm : Calm s ((s.start.gateFramed call (bytes (gateWide g))).markedAcc (accessedByte a d)) :=
    ((calm_start s).trans (calm_gateFramed s.start call _)).trans (calm_markedAcc _ _)
  have hfl : ((s.start.gateFramed call (bytes (gateWide g))).markedAcc (accessedByte a d)).eflags = s.eflags :=
    (markedAcc_frame _ _).2.2.1.trans (gateFramed_eflags s.start call _)
  have hland := landed_withSeg hs hcalm hfl { s.seg with cs := Seg.code (gateSel g) d s.cpl }
  have hx : ((s.start.gateFramed call (bytes (gateWide g))).markedAcc (accessedByte a d)).withSeg .cs (Seg.code (gateSel g) d s.start.cpl) =
      { (s.start.gateFramed call (bytes (gateWide g))).markedAcc (accessedByte a d) with
        seg := { s.seg with cs := Seg.code (gateSel g) d s.cpl } } := by
    rw [State.withSeg, hcalm.seg]
    rfl
  rw [hx] at hb
  refine completes_landed hex hl hland hlbr hb fun u hg hm hj => ⟨⟨s.gatePushed call (bytes (gateWide g)), ?_, ?_, ?_⟩, hj⟩
  · cases call with
    | true => exact pushedAll_of hs.1 (calm_pushedAll _ _ s).seg rfl rfl
    | false => exact untouched_of rfl rfl
  · refine (hg.trans (markedAcc_frame _ _).1).trans ?_
    rw [start_gateFramed]
    rfl
  · refine accessed_of (gatePushed_wf hs.1 call _) (hm.trans ?_)
    dsimp only
    rw [start_gateFramed, markedAcc_start]
    rfl

/-- CALL through a gate to an inner level. -/
theorem gate_inner {f : FarForm} {g : Desc} {a : Nat} {d : Desc} {k : InnerStack} {s : State} (hs : s.ready)
    (hl : s.lockOk false = true) (hlbr : s.noLbr = true) (hm : s.mode8086 = false) (hok : f.ok s = true)
    (hg : s.callGate (f.sel s) true = some (g, a, d)) (hk : s.stackOf (descDpl d) = some k)
    (hc : ∀ j < (field g 32 5 : BitVec 5).toNat, s.canPop (bytes (gateWide g) * j) (bytes (gateWide g)) = true)
    (hroom : roomBelow k.seg (bytes (gateWide g)) (k.seg.cutSp k.esp) (4 + (field g 32 5 : BitVec 5).toNat) = true) :
    Completes (f.instr true) s fun t =>
      InnerFrame s t k (bytes (gateWide g)) (s.start.gateItems (bytes (gateWide g)) (field g 32 5 : BitVec 5).toNat) a d ∧
        t.gpr = { s.gpr with esp := k.espAfter s.gpr.esp (bytes (gateWide g)) (4 + (field g 32 5 : BitVec 5).toNat) } ∧
        t.eip = gateOff g ∧ FlagsSame s t ∧
        t.seg = { s.seg with cs := Seg.code (gateSel g) d (descDpl d), ss := k.seg } ∧
        QuietButSeg { s with cpl := descDpl d } t := by
  obtain ⟨body, hex, hb⟩ := like_farForm (call := true) hok fun v hv =>
    like_farInner hv (sel := f.sel s) (off0 := f.off s) hm hg hk (fun j hj => (start_canPop _ _ _).trans (hc j hj)) hroom
  have hland : Landed { s with cpl := descDpl d, seg := { s.seg with cs := Seg.code (gateSel g) d (descDpl d), ss := k.seg } }
      (s.start.calledInner (gateSel g) k (bytes (gateWide g))
        (s.start.gateItems (bytes (gateWide g)) (field g 32 5 : BitVec 5).toNat) a d) := by
    rw [State.calledInner, innerFramed_eq]
    exact ⟨by constructor <;> rfl, rfl, congrArg Trans.branched hs.2, congrArg Trans.keepRf hs.2, congrArg Trans.repeats hs.2⟩
  refine completes_landed hex hl hland hlbr hb fun u hg hm ⟨he, hf, hq⟩ => ⟨?_, ?_, he, hf, hq.2, hq.1⟩
  · refine innerFrame_of hs.1 (hm.trans ?_)
    change (s.start.innerFramed k _ _ (accessedByte a d)).mem = _
    rw [innerFramed_start]
    rfl
  · rw [hg, ← gateItems_length s.start (bytes (gateWide g))]
    rfl

/-- Settles O47. -/
theorem innerTransfers : Obligations.InnerTransfers := by
  refine ⟨fun f g a d k s hs hl hlbr hm hok hg hk => ?_, fun call f g a d s hs hl hlbr hm hok hg hc => gate_same hs hl hlbr hm hok hg hc,
    fun i v g a d k s hi hs hl hlbr hp hg hidt hd hk hroom => enters_softly_inner hs hlbr hp hg hd hk hroom hi hl hidt,
    fun n g a d k s hs hl hlbr hp hg hm hd hk hroom => enters_softly_mapless hs hlbr hp hg hd hk hroom rfl hl hm, ?_⟩
  · dsimp only
    intro hc hroom
    have hdone := gate_inner hs hl hlbr hm hok hg hk hc hroom
    rw [State.gateItems] at hdone
    simp only [start_item] at hdone
    exact hdone
  · intro s u x g a d k hk hv hwf
    dsimp only
    intro hp hlbr hg hd hstack hroom
    obtain ⟨-, -, hf, -, -, -, hm⟩ := rollback_frame (s := s) (u := u) hk
    obtain ⟨t, ht, hentry⟩ := enters_inner rfl hv (hm ▸ hwf) hp hlbr hg hd hstack hroom
    rw [hf] at hentry
    exact ⟨t, ht, hentry⟩

end Sys2Proof.Machine

/-! SUPPORT. The slots of the save map, and RSM. -/
namespace Sys2Proof.Machine
open Host

/-! ### A slot in RAM -/

theorem run_spanOf_ram {s : State} {a n : Nat} (h : s.ramAt a n = true) (hn : 0 < n) (len : Nat) :
    ∃ p : Span, spanOf ⟨a, false, false⟩ len s = .ok p s ∧ p.pa = a ∧ p.len = len ∧ p.apic = false := by
  obtain ⟨hmtrr, ha, -, hapic⟩ := (ramAt_iff s a n).1 h
  have hin : inApicPage s a = false := by
    unfold inApicPage
    rcases hapic with hoff | hbelow | habove
    · simp [hoff]
    · simp; omega
    · simp; omega
  cases ht : s.typeOf a false false with
  | none => simp [State.typeOf, mtrrType, hmtrr] at ht
  | some t =>
    refine ⟨{ pa := a, len := len, apic := false, cacheable := decide (t ≠ .uc) && decide (t ≠ .wc) && !bit s.sys.cr0 30,
              wb := decide (t = .wb) }, ?_, rfl, rfl, rfl⟩
    simp only [spanOf, run_bind, run_get, busAddr_ram ha, ht, hin, run_pure]

theorem slotSpans_covers {s : State} {b off : Word} {a n : Nat} (ha : slotAddr b off = a) (h : s.ramAt a n = true)
    (hn : 0 < n) (hlt : a + n ≤ 2 ^ 32) : ∃ ps, slotSpans b off n s = .ok ps s ∧ Covers ps a n := by
  rw [slotSpans, ha]
  by_cases hone : n ≤ 0x1000 - a % 0x1000
  · obtain ⟨p, hp, hpa, hlen, hapic⟩ := run_spanOf_ram h hn n
    refine ⟨[p], ?_, hpa, hapic, hlen.le, ?_⟩
    · rw [if_pos hone, run_bind_ok _ hp, run_pure]
    · rw [hlen, Nat.sub_self]
      exact rfl
  · generalize hk : 0x1000 - a % 0x1000 = k at hone ⊢
    have hkp : 0 < k := by omega
    have hnext : slotAddr b (off + BitVec.ofNat 32 k) = a + k := by
      unfold slotAddr at ha ⊢
      rw [← BitVec.add_assoc, BitVec.toNat_add, ha, BitVec.toNat_ofNat]
      omega
    obtain ⟨p, hp, hpa, hplen, hpapic⟩ := run_spanOf_ram (n := k) (by simpa using ramAt_part (k := 0) (m := k) h (by omega)) hkp k
    obtain ⟨q, hq, hqa, hqlen, hqapic⟩ := run_spanOf_ram (ramAt_part (k := k) (m := n - k) h (by omega)) (by omega) (n - k)
    refine ⟨[p, q], ?_, hpa, hpapic, by omega, ?_, hqapic, by omega, ?_⟩
    · rw [if_neg hone, run_bind_ok _ hp, hnext, run_bind_ok _ hq, run_pure]
    · rw [hqa, hplen]
    · rw [hplen, hqlen, Nat.sub_self]
      exact rfl

theorem loadSpans_ram {s : State} (ha : s.lat.a20m = false) (hm : s.map = []) {ps : List Span} {a n : Nat} (h : Covers ps a n) :
    loadSpans ps s = .ok (memBytes s.mem a n) s := by
  induction ps generalizing a n with
  | nil =>
    have hn : n = 0 := h
    subst hn
    rfl
  | cons p ps ih =>
    obtain ⟨rfl, -, hl, hr⟩ := h
    simp only [loadSpans, run_bind, loadBytes_ram ha hm, ih hr, run_pure]
    rw [← memBytes_add, Nat.add_sub_cancel' hl]

theorem storeSpans_ram {s : State} (ha : s.lat.a20m = false) (hm : s.map = []) {ps : List Span} {a : Nat} {bs : List Byte}
    (h : Covers ps a bs.length) :
    ∃ st fr, storeSpans ps bs s = .ok () { s with mem := memWriteList s.mem a bs, stale := st, free := fr } := by
  induction ps generalizing a bs s with
  | nil =>
    have hn : bs.length = 0 := h
    rw [List.length_eq_zero_iff] at hn
    subst hn
    exact ⟨s.stale, s.free, rfl⟩
  | cons p ps ih =>
    obtain ⟨rfl, -, hl, hr⟩ := h
    obtain ⟨st, fr, hb⟩ := storeBytes_ram ha hm p.pa (bs.take p.len) p.wb
    obtain ⟨st', fr', hc⟩ := ih
      (s := { s with mem := memWriteList s.mem p.pa (bs.take p.len), stale := st, free := fr }) ha hm
      (bs := bs.drop p.len) (by rw [List.length_drop]; exact hr)
    refine ⟨st', fr', ?_⟩
    simp only [storeSpans, run_bind, hb, hc]
    conv_rhs => rw [← List.take_append_drop p.len bs, memWriteList_append, List.length_take, Nat.min_eq_left hl]

theorem whole_alone {s : State} (h : s.others = []) (ps : List Span) : whole ps s = true := by
  simp [whole, h]

/-- The save map lies in RAM below 4 GBytes, and no other agent writes. -/
structure SaveMapAt (s : State) (b : Word) : Prop where
  room : b.toNat + 0x10000 ≤ 2 ^ 32
  ram : s.ramAt (b.toNat + 0xFE00) 0x200 = true
  alone : s.others = []

theorem slotAddr_eq {b off : Word} (hb : b.toNat + 0x10000 ≤ 2 ^ 32) (hoff : off.toNat < 0x8000) :
    slotAddr b off = b.toNat + 0x8000 + off.toNat := by
  unfold slotAddr
  rw [BitVec.toNat_add, BitVec.toNat_add]
  simp only [BitVec.toNat_ofNat]
  omega

theorem SaveMapAt.covers {s : State} {b : Word} (h : SaveMapAt s b) {off : Word} {n : Nat} (hlo : 0x7E00 ≤ off.toNat)
    (hn : 0 < n) (hhi : off.toNat + n ≤ 0x8000) :
    ∃ ps, slotSpans b off n s = .ok ps s ∧ Covers ps (b.toNat + 0x8000 + off.toNat) n := by
  have hroom := h.room
  refine slotSpans_covers (slotAddr_eq hroom (by omega)) ?_ hn (by omega)
  have := ramAt_part (k := off.toNat - 0x7E00) (m := n) h.ram (by omega)
  rwa [show b.toNat + 0xFE00 + (off.toNat - 0x7E00) = b.toNat + 0x8000 + off.toNat by omega] at this

/-- A slot is read as memory holds it. -/
theorem SaveMapAt.getSlot {s : State} {b : Word} (h : SaveMapAt s b) {off : Word} {n : Nat} (hlo : 0x7E00 ≤ off.toNat)
    (hn : 0 < n) (hhi : off.toNat + n ≤ 0x8000) :
    getSlot b off n s = .ok (s.num (b.toNat + 0x8000 + off.toNat) n) s := by
  obtain ⟨-, ha, hm, -⟩ := (ramAt_iff _ _ _).1 h.ram
  obtain ⟨ps, hps, hcov⟩ := h.covers hlo hn hhi
  rw [Machine.getSlot, run_bind_ok _ hps, readVia, covers_anyApic hcov, if_neg Bool.false_ne_true]
  simp only [loadRuns, run_bind, run_othersGap h.alone, run_get, whole_alone h.alone, if_true, loadSpans_ram ha hm hcov, run_pure,
    State.num]

/-- A slot that is written changes its bytes in memory and nothing else. -/
theorem SaveMapAt.putSlot {s : State} {b : Word} (h : SaveMapAt s b) {off : Word} {n : Nat} (v : Nat) (hlo : 0x7E00 ≤ off.toNat)
    (hn : 0 < n) (hhi : off.toNat + n ≤ 0x8000) :
    ∃ st fr, putSlot b off n v s = .ok () (s.withBytes (b.toNat + 0x8000 + off.toNat) n v st fr) := by
  obtain ⟨-, ha, hm, -⟩ := (ramAt_iff _ _ _).1 h.ram
  obtain ⟨ps, hps, hcov⟩ := h.covers hlo hn hhi
  rw [Machine.putSlot, run_bind_ok _ hps, writeVia, covers_anyApic hcov, if_neg Bool.false_ne_true]
  simp only [storeRuns, run_bind, run_othersGap h.alone, run_get, whole_alone h.alone, if_true]
  exact storeSpans_ram ha hm (by rwa [leBytes_length])

/-! ### The reads of RSM -/

theorem SaveMapAt.getSlot32 {s : State} (h : SaveMapAt s s.smm.smbase) {off : Word} (hlo : 0x7E00 ≤ off.toNat)
    (hhi : off.toNat + 4 ≤ 0x8000) : getSlot32 s.smm.smbase off s = .ok (s.slot32 off.toNat) s := by
  rw [Machine.getSlot32, run_bind_ok _ (h.getSlot hlo (by decide) hhi)]
  rfl

theorem SaveMapAt.getSlots {s : State} (h : SaveMapAt s s.smm.smbase) (mask : Word) {l : List Word}
    (hl : ∀ off ∈ l, 0x7E00 ≤ off.toNat ∧ off.toNat + 4 ≤ 0x8000) :
    getSlots s.smm.smbase mask l s = .ok (l.map fun off => s.slot32 off.toNat &&& mask) s := by
  induction l with
  | nil => rfl
  | cons off l ih =>
    obtain ⟨hlo, hhi⟩ := hl off List.mem_cons_self
    rw [Machine.getSlots, run_bind_ok _ (h.getSlot32 hlo hhi), run_bind_ok _ (ih fun o ho => hl o (List.mem_cons_of_mem _ ho))]
    rfl

theorem slot32_low (s : State) (off : Nat) : s.slot32 off &&& 0xFFFF#32 = (s.slotSel off).setWidth 32 := by
  unfold State.slot32 State.slotSel
  apply BitVec.eq_of_toNat_eq
  rw [BitVec.toNat_and, show (0xFFFF#32).toNat = 2 ^ 16 - 1 from rfl, Nat.and_two_pow_sub_one_eq_mod]
  simp only [BitVec.toNat_setWidth, BitVec.toNat_ofNat]
  omega

theorem and_ones (v : Word) : v &&& 0xFFFFFFFF#32 = v := BitVec.and_allOnes

theorem field_selector (v : Half) : (field (v.setWidth 32 : Word) 0 16 : Half) = v := by
  rw [field_low]
  apply BitVec.eq_of_toNat_eq
  rw [BitVec.toNat_setWidth, BitVec.toNat_setWidth]
  omega

/-- The slots that RSM loads into registers, in its order. -/
def State.slotWords (s : State) : List Word := ((writableSlots s).map Prod.fst).map fun off => s.slot32 off.toNat
/-- The fixed slots, in its order. -/
def State.slotFixed (s : State) : List Word := ((fixedSlots s).map Prod.fst).map fun off => s.slot32 off.toNat
/-- The selector slots, in its order. -/
def State.slotSels (s : State) : List Word := ((selectorSlots s).map Prod.fst).map fun off => (s.slotSel off.toNat).setWidth 32

theorem getSlots_words {s : State} (h : SaveMapAt s s.smm.smbase) :
    getSlots s.smm.smbase 0xFFFFFFFF#32 ((writableSlots s).map Prod.fst) s = .ok s.slotWords s ∧
    getSlots s.smm.smbase 0xFFFFFFFF#32 ((fixedSlots s).map Prod.fst) s = .ok s.slotFixed s ∧
    getSlots s.smm.smbase 0xFFFF#32 ((selectorSlots s).map Prod.fst) s = .ok s.slotSels s := by
  refine ⟨?_, ?_, ?_⟩
  · rw [h.getSlots _ (by simp [writableSlots])]
    simp only [and_ones]
    rfl
  · rw [h.getSlots _ (by simp [fixedSlots])]
    simp only [and_ones]
    rfl
  · rw [h.getSlots _ (by simp [selectorSlots])]
    simp only [slot32_low]
    rfl

theorem slotImage_eq (s : State) :
    s.slot32 0x7FFC :: (s.slotFixed ++ s.slotSels ++ [wordAt s.slotWords 0 &&& 0x20000#32]) = s.smmReadOnly := rfl

/-- What RSM leaves, but for what its completion does. -/
def State.resumed (s : State) : State :=
  let t := s.smmLoaded (s.slot32 0x7FFC) s.slotWords s.slotFixed s.slotSels (s.slot32 0x7EF8)
  { t with tlb := [], smm := { t.smm with inSmm := false } }

theorem run_rsm {s : State} (h : SaveMapAt s s.smm.smbase) (hin : s.smm.inSmm = true) (h0 : cr0Bad (s.slot32 0x7FFC) = false)
    (hpae : (bit (s.slot32 0x7FFC) 31 && bit s.smm.saved.cr4 5) = false) (himage : s.smmReadOnly = s.smm.saved.image)
    (hres : s.reservedBytes s.smm.smbase = s.smm.saved.reserved) (hhalt : s.slot 0x7F02 2 % 2 = 0) (hio : s.slot 0x7F00 2 = 0)
    (cur : Word) : rsm cur s = .ok () s.resumed := by
  obtain ⟨hw, hf, hg⟩ := getSlots_words h
  have hcr0 : getSlot32 s.smm.smbase 0x7FFC#32 s = .ok (s.slot32 0x7FFC) s := h.getSlot32 (by decide) (by decide)
  have hbase : getSlot32 s.smm.smbase 0x7EF8#32 s = .ok (s.slot32 0x7EF8) s := h.getSlot32 (by decide) (by decide)
  have hh : getSlot s.smm.smbase 0x7F02#32 2 s = .ok (s.slot 0x7F02 2) s := h.getSlot (by decide) (by decide) (by decide)
  have hi : getSlot s.smm.smbase 0x7F00#32 2 s = .ok (s.slot 0x7F00 2) s := h.getSlot (by decide) (by decide) (by decide)
  have hpg (w f g : List Word) (b : Word) : ((s.smmLoaded (s.slot32 0x7FFC) w f g b).paging &&
      (s.smmLoaded (s.slot32 0x7FFC) w f g b).pae) = false := by
    have : (s.smmLoaded (s.slot32 0x7FFC) w f g b).paging = bit (s.slot32 0x7FFC) 31 := bit_cr0Value _
    rw [this]
    exact hpae
  have hsame : ¬ (s.slot32 0x7FFC :: (s.slotFixed ++ s.slotSels ++ [wordAt s.slotWords 0 &&& 0x20000#32]) ≠ s.smm.saved.image ∨
      s.reservedBytes s.smm.smbase ≠ s.smm.saved.reserved) := by
    rw [slotImage_eq]
    exact fun hne => hne.elim (absurd himage) (absurd hres)
  rw [rsm, run_bind, run_get]
  dsimp only
  rw [hin, Bool.not_true, if_neg Bool.false_ne_true, run_bind_ok _ hcr0, h0, if_neg Bool.false_ne_true, run_bind_ok _ hw,
    run_bind_ok _ hf, run_bind_ok _ hg, run_bind_ok _ hh, run_bind_ok _ hi, run_bind_ok _ hbase, run_bind, run_get]
  dsimp only
  simp only [Bool.or_eq_true, decide_eq_true_eq]
  rw [if_neg hsame]
  simp only [run_bind, run_modify, run_get, hpg, whenM, Bool.false_eq_true, if_false, run_pure, applyIoRestart, hio, if_true,
    applyHaltRestart, hhalt]
  rfl

theorem resumes {s : State} (hs : s.ready) (hl : s.lockOk false = true) (hin : s.smm.inSmm = true) (h : SaveMapAt s s.smm.smbase)
    (h0 : cr0Bad (s.slot32 0x7FFC) = false) (hpae : (bit (s.slot32 0x7FFC) 31 && bit s.smm.saved.cr4 5) = false)
    (himage : s.smmReadOnly = s.smm.saved.image) (hres : s.reservedBytes s.smm.smbase = s.smm.saved.reserved)
    (hhalt : s.slot 0x7F02 2 % 2 = 0) (hio : s.slot 0x7F00 2 = 0) : exec .rsm s = .next (s.start.resumed.completed s) := by
  have htr : s.start.resumed.tr = { Trans.clear with keepRf := true, noStep := true } :=
    congrArg (fun x : Trans => { x with keepRf := true, noStep := true }) hs.2
  have hrun : rsm s.eip s.start = .ok () s.start.resumed :=
    run_rsm (s := s.start) ⟨h.room, h.ram, h.alone⟩ hin h0 hpae himage hres hhalt hio s.eip
  refine (show exec .rsm s = instr false (rsm s.eip) s from rfl).trans (instr_next hl hrun fun hb => ?_)
  rw [htr] at hb
  cases hb

end Sys2Proof.Machine

/-! SUPPORT. RSM leaves system-management mode. -/
namespace Sys2Proof.Machine
open Host

/-- Where no breakpoint was hit and no step is to be reported, completion leaves the debug registers as they are. -/
theorem completed_dbg_unhit {u s0 : State} (hl : u.tr.lateHits = false) (hh : u.tr.hit = 0) (hn : u.tr.noStep = true) :
    (u.completed s0).dbg = u.dbg := by
  have hb : u.reportedHits s0 = 0#4 := by simp [State.reportedHits, hl, hh]
  simp [State.completed, hb, hl, hn]

theorem completed_eflags_kept {u s0 : State} (h : u.tr.keepRf = true) : (u.completed s0).eflags = u.eflags := by
  simp [State.completed, h]

theorem hidden_zx (r : Seg) (v : Half) : r.hidden (v.setWidth 32) = { r with sel := v } := by
  rw [Seg.hidden, field_selector]

/-- The state in which an illegal CR0 in the save map leaves the processor. -/
def State.shutAt (s : State) (cur : Word) : State :=
  { s with bus := .shutdown :: s.bus, eip := cur, smm := { s.smm with inSmm := false },
           lat := { s.lat with activity := .shutdown }, tr := { s.tr with keepRf := true, noStep := true } }

theorem run_rsm_bad {s : State} (h : SaveMapAt s s.smm.smbase) (hin : s.smm.inSmm = true) (h0 : cr0Bad (s.slot32 0x7FFC) = true)
    (cur : Word) : rsm cur s = .ok () (s.shutAt cur) := by
  have hcr0 : getSlot32 s.smm.smbase 0x7FFC#32 s = .ok (s.slot32 0x7FFC) s := h.getSlot32 (by decide) (by decide)
  rw [rsm, run_bind, run_get]
  dsimp only
  rw [hin, Bool.not_true, if_neg Bool.false_ne_true, run_bind_ok _ hcr0, h0, if_pos rfl, run_bind_ok _ (run_emit _ _), run_modify]
  rfl

theorem run_rsm_outside {s : State} (h : s.smm.inSmm = false) (cur : Word) : rsm cur s = raise 6 none s := by
  rw [rsm, run_bind, run_get]
  dsimp only
  rw [h, Bool.not_false, if_pos rfl]
  rfl

theorem exec_rsm (s : State) : exec .rsm s = instr false (rsm s.eip) s := rfl

theorem rsm_resumes {s : State} (hs : s.ready) (hl : s.lockOk false = true) (hin : s.smm.inSmm = true)
    (h : SaveMapAt s s.smm.smbase) (h0 : cr0Bad (s.slot32 0x7FFC) = false)
    (hpae : (bit (s.slot32 0x7FFC) 31 && bit s.smm.saved.cr4 5) = false)
    (himage : s.smmReadOnly = s.smm.saved.image) (hres : s.reservedBytes s.smm.smbase = s.smm.saved.reserved)
    (hhalt : s.slot 0x7F02 2 % 2 = 0) (hio : s.slot 0x7F00 2 = 0) {q : State → Prop} (hq : q (s.start.resumed.completed s)) :
    Completes .rsm s q := ⟨_, resumes hs hl hin h h0 hpae himage hres hhalt hio, hq⟩

theorem rsm_shutDown {s : State} (hs : s.ready) (hl : s.lockOk false = true) (hin : s.smm.inSmm = true)
    (h : SaveMapAt s s.smm.smbase) (h0 : cr0Bad (s.slot32 0x7FFC) = true) {q : State → Prop}
    (hq : q ((s.start.shutAt s.eip).completed s)) : Completes .rsm s q := by
  have hrun : rsm s.eip s.start = .ok () (s.start.shutAt s.eip) :=
    run_rsm_bad (s := s.start) ⟨h.room, h.ram, h.alone⟩ hin h0 s.eip
  refine ⟨_, (exec_rsm s).trans (instr_next hl hrun fun hb => ?_), hq⟩
  have htr : (s.start.shutAt s.eip).tr = { Trans.clear with keepRf := true, noStep := true } :=
    congrArg (fun x : Trans => { x with keepRf := true, noStep := true }) hs.2
  rw [htr] at hb
  cases hb

theorem leavesSmm : LeavesSmm := by
  refine ⟨fun s hs hl _ hin hroom hram h0 hpae himage halone hres hhalt hio => ?_,
    fun s hs hl hin hroom hram halone h0 => ?_, fun s hout => ?_⟩
  · have htr : s.start.resumed.tr = { Trans.clear with keepRf := true, noStep := true } :=
      congrArg (fun x : Trans => { x with keepRf := true, noStep := true }) hs.2
    have hdbg : (s.start.resumed.completed s).dbg = s.start.resumed.dbg :=
      completed_dbg_unhit (by rw [htr]; rfl) (by rw [htr]; rfl) (by rw [htr])
    have hflags : (s.start.resumed.completed s).eflags = s.start.resumed.eflags := completed_eflags_kept (by rw [htr])
    refine rsm_resumes hs hl hin ⟨hroom, hram, halone⟩ h0 hpae himage hres hhalt hio
      ⟨rfl, rfl, hflags, rfl, hidden_zx _ _, hidden_zx _ _, hidden_zx _ _, hidden_zx _ _, hidden_zx _ _, hidden_zx _ _, ?_, hdbg,
        rfl, rfl, rfl, fun k => rfl, rfl, rfl, rfl, rfl, rfl⟩
    have htrSeg := hidden_zx s.smm.saved.tr (s.slotSel 0x7FC4)
    have hldtr := hidden_zx s.smm.saved.ldtr (s.slotSel 0x7FC0)
    rw [← htrSeg, ← hldtr]
    rfl
  · have htr : (s.start.shutAt s.eip).tr = { Trans.clear with keepRf := true, noStep := true } :=
      congrArg (fun x : Trans => { x with keepRf := true, noStep := true }) hs.2
    have hdbg : ((s.start.shutAt s.eip).completed s).dbg = s.dbg :=
      completed_dbg_unhit (by rw [htr]; rfl) (by rw [htr]; rfl) (by rw [htr])
    have hflags : ((s.start.shutAt s.eip).completed s).eflags = s.eflags := completed_eflags_kept (by rw [htr])
    exact rsm_shutDown hs hl hin ⟨hroom, hram, halone⟩ h0
      ⟨⟨rfl, fun k => rfl⟩, rfl, hflags, rfl, rfl, rfl, hdbg, rfl, rfl, rfl, rfl, rfl, rfl, rfl, rfl⟩
  · cases hl : s.lockOk false with
    | false => exact raises_of_lock (exec_rsm s) hl
    | true => exact raises_of_body (exec_rsm s) hl (run_rsm_outside (s := s.start) hout s.eip)

end Sys2Proof.Machine

/-! SUPPORT. The entry to system-management mode. -/
namespace Sys2Proof.Machine
open Host

/-! ### The stores into the save map -/

/-- Memory after stores one after another: offset, number of bytes and value. -/
def memStores (base : Nat) (l : List (Nat × Nat × Nat)) (m : List Cell) : List Cell :=
  l.foldl (fun m x => memWriteList m (base + x.1) (leBytes x.2.1 x.2.2)) m

theorem memStores_wf {base : Nat} (l : List (Nat × Nat × Nat)) {m : List Cell} (h : Memory.wf m = true) :
    Memory.wf (memStores base l m) = true := by
  induction l generalizing m with
  | nil => exact h
  | cons x l ih => exact ih (wf_memWriteList h)

theorem memStores_apart {base k : Nat} {l : List (Nat × Nat × Nat)} {m : List Cell} (h : Memory.wf m = true)
    (hl : ∀ x ∈ l, k < base + x.1 ∨ base + x.1 + x.2.1 ≤ k) : memRead (memStores base l m) k = memRead m k := by
  induction l generalizing m with
  | nil => rfl
  | cons x l ih =>
    have hx := hl x List.mem_cons_self
    rw [memStores, List.foldl_cons]
    exact (ih (wf_memWriteList h) fun y hy => hl y (List.mem_cons_of_mem _ hy)).trans
      (memRead_memWriteList_out h (by rwa [leBytes_length]))

/-- Two slots that do not overlap: offset and number of bytes. -/
def slotsApart (x y : Nat × Nat) : Bool := decide (x.1 + x.2 ≤ y.1) || decide (y.1 + y.2 ≤ x.1)

/-- A slot that no later store reaches holds what was stored. -/
theorem memStores_num {base : Nat} {l : List (Nat × Nat × Nat)} {m : List Cell} (h : Memory.wf m = true)
    (hl : (l.map fun x => (x.1, x.2.1)).Pairwise fun x y => slotsApart x y = true) {x : Nat × Nat × Nat} (hx : x ∈ l)
    (hv : x.2.2 < 256 ^ x.2.1) : leNat (memBytes (memStores base l m) (base + x.1) x.2.1) = x.2.2 := by
  induction l generalizing m with
  | nil => cases hx
  | cons y l ih =>
    rw [List.map_cons, List.pairwise_cons] at hl
    obtain ⟨hy, hrest⟩ := hl
    rw [memStores, List.foldl_cons]
    rcases List.mem_cons.1 hx with rfl | hmem
    · rw [memBytes_congr (m' := memWriteList m (base + x.1) (leBytes x.2.1 x.2.2)) fun k h1 h2 => ?_]
      · have hb := memBytes_memWriteList (a := base + x.1) (bs := leBytes x.2.1 x.2.2) h
        rw [leBytes_length] at hb
        rw [hb, leNat_leBytes, Nat.mod_eq_of_lt hv]
      · refine memStores_apart (wf_memWriteList h) fun z hz => ?_
        have hz' := hy (z.1, z.2.1) (List.mem_map_of_mem (f := fun x => (x.1, x.2.1)) hz)
        simp only [slotsApart, Bool.or_eq_true, decide_eq_true_eq] at hz'
        omega
    · exact ih (wf_memWriteList h) hrest hmem

/-- The state after such stores. -/
def State.slotted (s : State) (base : Nat) (l : List (Nat × Nat × Nat)) (st : List StaleByte) (fr : Nat) : State :=
  { s with mem := memStores base l s.mem, stale := st, free := fr }

theorem SaveMapAt.slotted {s : State} {b : Word} (h : SaveMapAt s b) (base : Nat) (l : List (Nat × Nat × Nat))
    (st : List StaleByte) (fr : Nat) : SaveMapAt (s.slotted base l st fr) b := ⟨h.room, h.ram, h.alone⟩

theorem slotted_append (s : State) (base : Nat) (l l' : List (Nat × Nat × Nat)) (st st' : List StaleByte) (fr fr' : Nat) :
    (s.slotted base l st fr).slotted base l' st' fr' = s.slotted base (l ++ l') st' fr' := by
  unfold State.slotted memStores
  rw [List.foldl_append]

/-- A computation that stores slots of the save map, and nothing else. -/
def Saves (b : Word) (x : M Unit) (l : List (Nat × Nat × Nat)) : Prop :=
  ∀ s : State, SaveMapAt s b → ∃ st fr, x s = .ok () (s.slotted (b.toNat + 0x8000) l st fr)

theorem saves_putSlot {b off : Word} {n : Nat} (v : Nat) (hlo : 0x7E00 ≤ off.toNat) (hn : 0 < n)
    (hhi : off.toNat + n ≤ 0x8000) : Saves b (putSlot b off n v) [(off.toNat, n, v)] :=
  fun _ h => h.putSlot v hlo hn hhi

theorem saves_bind {b : Word} {x : M Unit} {y : M Unit} {l l' : List (Nat × Nat × Nat)} (hx : Saves b x l) (hy : Saves b y l') :
    Saves b (do x; y) (l ++ l') := by
  intro s h
  obtain ⟨st, fr, hrun⟩ := hx s h
  obtain ⟨st', fr', hrun'⟩ := hy _ (h.slotted _ l st fr)
  exact ⟨st', fr', by rw [run_bind_ok _ hrun, hrun', slotted_append]⟩

/-- Doubleword slots as stores. -/
def slotStores (l : List (Word × Word)) : List (Nat × Nat × Nat) := l.map fun x => (x.1.toNat, 4, x.2.toNat)

theorem saves_putSlots {b : Word} {l : List (Word × Word)} (hl : ∀ off ∈ l.map Prod.fst, 0x7E00 ≤ off.toNat ∧ off.toNat + 4 ≤ 0x8000) :
    Saves b (putSlots b l) (slotStores l) := by
  induction l with
  | nil => exact fun s _ => ⟨s.stale, s.free, rfl⟩
  | cons x l ih =>
    obtain ⟨hlo, hhi⟩ := hl x.1 List.mem_cons_self
    exact saves_bind (saves_putSlot _ hlo (by decide) hhi) (ih fun off ho => hl off (List.mem_cons_of_mem _ ho))

/-- What an SMI stores, in the order in which it does. -/
def State.smmStores (s : State) : List (Nat × Nat × Nat) :=
  [(0x7FFC, 4, s.sys.cr0.toNat)] ++ (slotStores (writableSlots s) ++ (slotStores (fixedSlots s) ++ (slotStores (selectorSlots s) ++
    ([(0x7F02, 2, ofBool s.smmRecord.halted)] ++ ([(0x7F00, 2, 0)] ++ [(0x7EF8, 4, s.smm.smbase.toNat)])))))

/-- The stores of an SMI. -/
def storeSmm (s : State) : M Unit := do
  putSlot s.smm.smbase 0x7FFC#32 4 s.sys.cr0.toNat
  putSlots s.smm.smbase (writableSlots s)
  putSlots s.smm.smbase (fixedSlots s)
  putSlots s.smm.smbase (selectorSlots s)
  putSlot s.smm.smbase 0x7F02#32 2 (ofBool s.smmRecord.halted)
  putSlot s.smm.smbase 0x7F00#32 2 0
  putSlot s.smm.smbase 0x7EF8#32 4 s.smm.smbase.toNat

theorem saves_storeSmm (s : State) : Saves s.smm.smbase (storeSmm s) s.smmStores := by
  refine saves_bind (saves_putSlot _ (by decide) (by decide) (by decide)) (saves_bind (saves_putSlots ?_)
    (saves_bind (saves_putSlots ?_) (saves_bind (saves_putSlots ?_) (saves_bind (saves_putSlot _ (by decide) (by decide) (by decide))
      (saves_bind (saves_putSlot _ (by decide) (by decide) (by decide)) (saves_putSlot _ (by decide) (by decide) (by decide)))))))
  · simp [writableSlots]
  · simp [fixedSlots]
  · simp [selectorSlots]

theorem smmStores_apart (s : State) :
    (s.smmStores.map fun x => (x.1, x.2.1)).Pairwise fun x y => slotsApart x y = true := by
  have hconst : (s.smmStores.map fun x => (x.1, x.2.1)) = State.reset.smmStores.map fun x => (x.1, x.2.1) := rfl
  rw [hconst]
  decide

theorem smmStores_eq (s : State) : s.smmStores =
    [(0x7FFC, 4, s.sys.cr0.toNat), (0x7FF4, 4, s.eflags.toNat), (0x7FF0, 4, s.eip.toNat), (0x7FEC, 4, s.gpr.edi.toNat),
     (0x7FE8, 4, s.gpr.esi.toNat), (0x7FE4, 4, s.gpr.ebp.toNat), (0x7FE0, 4, s.gpr.esp.toNat), (0x7FDC, 4, s.gpr.ebx.toNat),
     (0x7FD8, 4, s.gpr.edx.toNat), (0x7FD4, 4, s.gpr.ecx.toNat), (0x7FD0, 4, s.gpr.eax.toNat), (0x7FF8, 4, s.sys.cr3.toNat),
     (0x7FCC, 4, (s.dbg.dr6 ||| s.dbg.heldBits).toNat), (0x7FC8, 4, s.dbg.dr7.toNat), (0x7F94, 4, s.sys.idtr.base.toNat),
     (0x7F88, 4, s.sys.gdtr.base.toNat), (0x7EFC, 4, smmRevision.toNat), (0x7FC4, 4, s.sys.tr.sel.toNat),
     (0x7FC0, 4, s.sys.ldtr.sel.toNat), (0x7FBC, 4, s.seg.gs.sel.toNat), (0x7FB8, 4, s.seg.fs.sel.toNat),
     (0x7FB4, 4, s.seg.ds.sel.toNat), (0x7FB0, 4, s.seg.ss.sel.toNat), (0x7FAC, 4, s.seg.cs.sel.toNat),
     (0x7FA8, 4, s.seg.es.sel.toNat), (0x7F02, 2, if s.lat.activity = .halted then 1 else 0), (0x7F00, 2, 0),
     (0x7EF8, 4, s.smm.smbase.toNat)] := by
  have hz (v : Half) : (zx32 v).toNat = v.toNat := by
    rw [zx32, BitVec.toNat_setWidth]
    omega
  have hb : ofBool s.smmRecord.halted = if s.lat.activity = .halted then 1 else 0 := by
    unfold State.smmRecord
    by_cases hact : s.lat.activity = .halted <;> simp [hact, ofBool]
  rw [State.smmStores, hb]
  simp only [slotStores, writableSlots, fixedSlots, selectorSlots, List.map_cons, List.map_nil, hz, List.cons_append,
    List.nil_append]
  rfl

/-- Every slot of the save map is stored. -/
theorem saveMap_sub (s : State) : ∀ x ∈ s.saveMap, x ∈ s.smmStores := by
  simp only [State.saveMap, List.forall_mem_cons, List.not_mem_nil, false_imp_iff, implies_true, and_true]
  rw [smmStores_eq]
  simp only [List.mem_cons, true_or, or_true, and_self]

theorem smmStores_lt (s : State) : ∀ x ∈ s.smmStores, x.2.2 < 256 ^ x.2.1 := by
  have hw (v : Word) : v.toNat < 256 ^ 4 := v.isLt
  have hh (v : Half) : v.toNat < 256 ^ 4 := v.isLt.trans (by decide)
  have hb : (if s.lat.activity = .halted then 1 else 0) < 256 ^ 2 := by split <;> decide
  rw [smmStores_eq]
  simp only [List.forall_mem_cons, hw, hh, hb, true_and, List.not_mem_nil, false_imp_iff, implies_true, and_true]
  decide

/-- The slots lie in the 512 bytes of the map. -/
theorem smmStores_within (s : State) : ∀ x ∈ s.smmStores, 0x7E00 ≤ x.1 ∧ x.1 + x.2.1 ≤ 0x8000 := by
  rw [smmStores_eq]
  simp

/-! ### The entry -/

/-- The state at the first store of an SMI. -/
def State.smiBegun (s : State) : State := { s with bus := .smiAck :: s.bus, smm := { s.smm with inSmm := true } }

/-- The registers that an SMI leaves undefined, drawn: the general registers, and DR6. -/
def drawSmm : M (Gprs × Word) := do
  let eax ← draw 32
  let ecx ← draw 32
  let edx ← draw 32
  let ebx ← draw 32
  let esp ← draw 32
  let ebp ← draw 32
  let esi ← draw 32
  let edi ← draw 32
  let f ← draw 32
  pure (⟨eax, ecx, edx, ebx, esp, ebp, esi, edi⟩, (f &&& 0xE00F#32) ||| 0xFFFF0FF0#32)

theorem run_drawSmm (s : State) : ∃ x fr, drawSmm s = .ok x { s with free := fr } := by
  simp only [drawSmm, run_bind, run_draw, run_pure]
  exact ⟨_, _, rfl⟩

theorem run_drawSmm_slotted (s : State) (base : Nat) (l : List (Nat × Nat × Nat)) (st : List StaleByte) (fr : Nat) :
    ∃ x fr', drawSmm (s.slotted base l st fr) = .ok x (s.slotted base l st fr') := run_drawSmm _

theorem run_enterSmm {s : State} (h : SaveMapAt s s.smm.smbase) :
    ∃ st fr g dr6 bs, enterSmm s = .ok ()
      ((s.smiBegun.slotted (s.smm.smbase.toNat + 0x8000) s.smmStores st fr).smmEntry g dr6 { s.smmRecord with reserved := bs }) := by
  obtain ⟨st, fr, hrun⟩ := saves_storeSmm s s.smiBegun ⟨h.room, h.ram, h.alone⟩
  obtain ⟨⟨g, dr6⟩, fr', hdraw⟩ := run_drawSmm_slotted s.smiBegun (s.smm.smbase.toNat + 0x8000) s.smmStores st fr
  have hbody : enterSmm s = (do
      storeSmm s
      let x ← drawSmm
      modify fun u => u.smmEntry x.1 x.2 { s.smmRecord with reserved := u.reservedBytes s.smm.smbase } : M Unit) s.smiBegun := by
    rw [enterSmm, run_bind, run_get]
    dsimp only
    rw [run_bind_ok _ (run_emit _ _), run_bind, run_modify]
    simp only [storeSmm, drawSmm, bind_assoc, pure_bind]
    rfl
  rw [hbody, run_bind_ok _ hrun, run_bind_ok _ hdraw, run_modify]
  exact ⟨st, fr', g, dr6, (s.smiBegun.slotted (s.smm.smbase.toNat + 0x8000) s.smmStores st fr').reservedBytes s.smm.smbase, rfl⟩

/-- An SMI that is due is taken at the boundary. -/
theorem boundary_smi {s u : State} (h : s.smiDue = true) (hu : enterSmm s = .ok () u) : boundary s = .ok .stay u := by
  simp only [State.smiDue, Bool.and_eq_true, Bool.or_eq_true, Bool.not_eq_true', decide_eq_true_eq, List.isEmpty_iff] at h
  obtain ⟨⟨⟨⟨⟨⟨⟨hev, hapic⟩, hT⟩, hstop⟩, hsmi⟩, hin⟩, hinh⟩, hact⟩ := h
  have hboot : s.booting = false := by
    rcases hact with h | h <;> rw [State.booting, h] <;> rfl
  have htakes : s.takesSmi = true := by
    rcases hact with h | h <;> rw [State.takesSmi, hsmi, hin, hinh, h] <;> rfl
  simp only [boundary, run_bind, run_get, nextEvent_none hev, hboot, arrive, run_ite, Bool.false_eq_true, if_false, run_pure,
    settleApic_idle hapic, attend, hT, Bool.and_false, hstop, htakes, if_true, hu]

theorem step_stays {s p u : State} (hp : s.prelude = p) (hlen : p.ins.len = 0) (hb : boundary p = .ok .stay u) :
    step s = .next u := by
  subst hp
  simp only [step, hlen, hb, ne_eq, not_true_eq_false, if_false]

/-- What an SMI leaves of the registers. -/
theorem smmEntry_cs (b : Word) : ({ Seg.smm with sel := field b 4 16, base := b } : Seg) = smmSeg (field b 4 16) b := rfl

/-- The stores of the SMI, as memory shows them. -/
theorem smmStores_memory {p t : State} (hwf : Memory.wf p.mem = true)
    (ht : t.mem = memStores (p.smm.smbase.toNat + 0x8000) p.smmStores p.mem) :
    (∀ x ∈ p.saveMap, t.num (p.smm.smbase.toNat + 0x8000 + x.1) x.2.1 = x.2.2) ∧
    ∀ k, k < p.smm.smbase.toNat + 0xFE00 ∨ p.smm.smbase.toNat + 0x10000 ≤ k → memRead t.mem k = memRead p.mem k := by
  refine ⟨fun x hx => ?_, fun k hk => ?_⟩
  · have hmem := saveMap_sub p x hx
    rw [State.num, ht]
    exact memStores_num hwf (smmStores_apart p) hmem (smmStores_lt p x hmem)
  · rw [ht]
    refine memStores_apart hwf fun x hx => ?_
    obtain ⟨h1, h2⟩ := smmStores_within p x hx
    omega

/-- The state that an SMI leaves, with what it draws. -/
def State.smiTaken (p : State) (st : List StaleByte) (fr : Nat) (g : Gprs) (dr6 : Word) (bs : List Byte) : State :=
  (p.smiBegun.slotted (p.smm.smbase.toNat + 0x8000) p.smmStores st fr).smmEntry g dr6 { p.smmRecord with reserved := bs }

theorem smiTaken_mem (p : State) (st : List StaleByte) (fr : Nat) (g : Gprs) (dr6 : Word) (bs : List Byte) :
    (p.smiTaken st fr g dr6 bs).mem = memStores (p.smm.smbase.toNat + 0x8000) p.smmStores p.mem := by
  dsimp only [State.smiTaken, State.smmEntry, State.slotted, State.smiBegun]

theorem entersSmm : EntersSmm := by
  intro s hs hins hdue halone
  dsimp only
  intro hroom hram
  have hwf : Memory.wf s.prelude.mem = true := wf_prelude (s := s) hs.1
  obtain ⟨m, st0, c, n, tl, x, hpre⟩ := idles_prelude s
  generalize hp : s.prelude = p at hpre hwf ⊢
  have hdue' : p.smiDue = true := by rw [hpre]; exact hdue
  have hmap : SaveMapAt p p.smm.smbase := by rw [hpre]; exact ⟨hroom, hram, halone⟩
  have hlen : p.ins.len = 0 := by rw [hpre]; exact congrArg Ins.len hins
  have hbase : s.smm.smbase = p.smm.smbase := by rw [hpre]; rfl
  obtain ⟨st, fr, g, dr6, bs, hrun⟩ := run_enterSmm hmap
  rw [hbase]
  obtain ⟨hslots, hframe⟩ := smmStores_memory hwf (smiTaken_mem p st fr g dr6 bs)
  refine ⟨p.smiTaken st fr g dr6 bs, step_stays hp hlen (boundary_smi hdue' hrun), hslots, hframe, ?_, rfl, rfl, rfl, rfl, rfl, rfl, ?_, ?_, rfl, rfl, rfl, rfl,
    rfl, rfl, rfl, rfl, rfl, rfl, rfl⟩
  · exact ⟨rfl, rfl, rfl, rfl, rfl, rfl, rfl, rfl, rfl, rfl, rfl, rfl, rfl⟩
  · intro r hr
    cases r with
    | cs => exact absurd rfl hr
    | es | ss | ds | fs | gs => rfl
  · rfl

/-- Settles O60. -/
theorem resumeFromSmm : Obligations.ResumeFromSmm := ⟨entersSmm, leavesSmm⟩

end Sys2Proof.Machine

/-! SUPPORT. Loads and stores in the page of the local APIC. -/
namespace Sys2Proof.Machine
open Host

/-! ### The access -/

/-- What `State.apicAt` asks of an operand. -/
structure ApicOperand (s : State) (m : Ea) (k : Access) (off : Nat) : Prop where
  o32 : s.o32 = true
  paging : s.paging = false
  mtrr : bit s.msr.mtrrDef 11 = false
  a20m : s.lat.a20m = false
  on : s.apicOn = true
  allows : (s.seg.get (eaSeg s m)).allows (eaSeg s m) k s.prot = true
  limit : (s.seg.get (eaSeg s m)).inLimit (eaOffset s m) 4 = true
  aligned : s.ea m % 4 = 0
  low : Config.apicPage ≤ s.ea m
  high : s.ea m < Config.apicPage + 0x1000
  off_eq : s.ea m - Config.apicPage = off

theorem apicAt_eq_some {s : State} {m : Ea} {k : Access} {off : Nat} (h : s.apicAt m k = some off) : ApicOperand s m k off := by
  unfold State.apicAt at h
  dsimp only at h
  split at h
  · next hc =>
    simp only [Bool.and_eq_true, Bool.not_eq_true', decide_eq_true_eq] at hc
    obtain ⟨⟨⟨⟨⟨⟨⟨⟨⟨h1, h2⟩, h3⟩, h4⟩, h5⟩, h6⟩, h7⟩, h8⟩, h9⟩, h10⟩ := hc
    exact ⟨h1, h2, h3, h4, h5, h6, h7, h8, h9, h10, Option.some.inj h⟩
  · exact absurd h (Option.some_ne_none off).symm

theorem ApicOperand.off_aligned {s : State} {m : Ea} {k : Access} {off : Nat} (h : ApicOperand s m k off) : off % 4 = 0 := by
  have h1 := h.aligned
  have h2 := h.low
  have h3 := h.off_eq
  simp only [Config.apicPage] at h2 h3
  omega

theorem ApicOperand.start {s : State} {m : Ea} {k : Access} {off : Nat} (h : ApicOperand s m k off) :
    ApicOperand s.start m k off := by
  obtain ⟨h1, h2, h3, h4, h5, h6, h7, h8, h9, h10, h11⟩ := h
  refine ⟨h1, h2, h3, h4, h5, ?_, ?_, ?_, ?_, ?_, ?_⟩ <;> simp only [start_eaSeg, start_eaOffset, start_ea]
  · exact h6
  · exact h7
  · exact h8
  · exact h9
  · exact h10
  · exact h11

/-- The span of an operand in the APIC page. -/
def IsApicSpan (p : Span) (off : Nat) : Prop := p.apic = true ∧ p.len = 4 ∧ p.pa % 4 = 0 ∧ p.pa - Config.apicPage = off

theorem run_access_apic {s : State} {m : Ea} {write : Bool} {off : Nat} (h : ApicOperand s m (kindOf write) off) :
    ∃ p k, access (eaSeg s m) (eaOffset s m) 4 4 write s = .ok [p] (s.withHit k) ∧ IsApicSpan p off := by
  obtain ⟨-, hpg, hmtrr, ha20, hon, hallow, hlim, hal, hlow, hhigh, hoff⟩ := h
  generalize hla : (s.seg.get (eaSeg s m)).base + eaOffset s m = la
  have hea : s.ea m = la.toNat := by
    rw [← hla]
    rfl
  rw [hea] at hal hlow hhigh hoff
  have htr : translate la write (decide (s.cpl = 3)) s = .ok { pa := la.toNat, pcd := false, pwt := false } s := by
    simp [translate, hpg]
  have hin : inApicPage s la.toNat = true := by simp [inApicPage, hon, hlow, hhigh]
  have hspan : ∃ p, spanOf { pa := la.toNat, pcd := false, pwt := false } 4 s = .ok p s ∧ IsApicSpan p off := by
    cases ht : s.typeOf la.toNat false false with
    | none => simp [State.typeOf, mtrrType, hmtrr] at ht
    | some t =>
      refine ⟨{ pa := la.toNat, len := 4, apic := true, cacheable := decide (t ≠ .uc) && decide (t ≠ .wc) && !bit s.sys.cr0 30,
                wb := decide (t = .wb) }, ?_, rfl, rfl, hal, hoff⟩
      simp only [spanOf, run_bind, run_get, busAddr_ram ha20, ht, hin, run_pure]
  obtain ⟨p, hp, hip⟩ := hspan
  have hspans : alignedSpans s.alignOn la 4 4 write (decide (s.cpl = 3)) s = .ok [p] s := by
    have hno : (s.alignOn && decide (la.toNat % 4 ≠ 0)) = false := by simp [hal]
    rw [alignedSpans, hno, if_neg Bool.false_ne_true, linearSpans, if_pos (by omega), run_bind]
    simp only [pageSpan, run_bind, htr, hp, run_pure]
  have hlin := run_segLinear hallow hlim
  rw [hla, kindOf] at hlin
  have hcheck : checkedAccess (eaSeg s m) (eaOffset s m) 4 4 write s = .ok (la, [p]) s := by
    rw [checkedAccess, run_bind, run_get]
    dsimp only
    rw [run_bind_ok _ hlin, run_bind_ok _ hspans, run_pure]
  obtain ⟨k, hk⟩ := noteHits_run (fun d => d.dataHits la.toNat 4 write) s
  refine ⟨p, k, ?_, hip⟩
  rw [access, run_bind_ok _ hcheck]
  dsimp only
  rw [run_bind_ok _ hk, run_pure]

theorem run_readSpans_apic {s : State} {p : Span} {off : Nat} (h : IsApicSpan p off) (hl : s.ins.lock = false) :
    readSpans [p] s = (do let v ← apicLoad off; pure v.toNat : M Nat) s := by
  obtain ⟨ha, hlen, hal, hoff⟩ := h
  have hany : anyApic [p] = true := by simp [anyApic, ha]
  have hop : apicOperand [p] s = some off := by simp [apicOperand, hlen, hal, hl, hoff]
  rw [readSpans, readVia, hany, if_pos rfl, run_bind, run_get]
  dsimp only
  rw [hop]

theorem run_writeSpans_apic {s : State} {p : Span} {off : Nat} (h : IsApicSpan p off) (hl : s.ins.lock = false) (v : Word) :
    writeSpans [p] 4 v.toNat s = apicStore off v s := by
  obtain ⟨ha, hlen, hal, hoff⟩ := h
  have hany : anyApic [p] = true := by simp [anyApic, ha]
  have hop : apicOperand [p] s = some off := by simp [apicOperand, hlen, hal, hl, hoff]
  rw [writeSpans, writeVia, hany, if_pos rfl, run_bind, run_get]
  dsimp only
  rw [hop, BitVec.ofNat_toNat, BitVec.setWidth_eq]

theorem run_locMem_apic {s : State} {m : Ea} {write : Bool} {off : Nat} (h : ApicOperand s m (kindOf write) off) :
    ∃ p k, locMem m 4 write s = .ok (.mem [p]) (s.withHit k) ∧ IsApicSpan p off := by
  obtain ⟨p, k, hrun, hp⟩ := run_access_apic h
  refine ⟨p, k, ?_, hp⟩
  rw [locMem, run_bind, run_get]
  dsimp only
  rw [run_bind_ok _ hrun, run_pure]

theorem run_load_apic {s : State} {m : Ea} {off : Nat} (r : Reg) (h : ApicOperand s m .read off) (hl : s.ins.lock = false) :
    ∃ k, movGvEv r (.mem m) s = (do let v ← apicLoad off; modify fun u => u.setR32 r v : M Unit) (s.withHit k) := by
  obtain ⟨p, k, hloc, hp⟩ := run_locMem_apic (write := false) h
  refine ⟨k, ?_⟩
  have hread := run_readSpans_apic (s := s.withHit k) hp hl
  have hw : bits s.o32 = 32 := by rw [h.o32]; rfl
  rw [movGvEv, run_bind, run_getW]
  dsimp only
  rw [hw, run_bind, readRm, run_bind, show locRm (.mem m) (32 / 8) false = locMem m 4 false from rfl, hloc]
  dsimp only
  rw [readLoc, run_bind, hread, run_bind, run_bind]
  cases apicLoad off (s.withHit k) with
  | error e u => rfl
  | ok v u =>
    simp only [run_pure, writeLoc, State.setRw, BitVec.ofNat_toNat, BitVec.setWidth_eq, if_true]

theorem run_store_apic {s : State} {m : Ea} {off : Nat} (r : Reg) (h : ApicOperand s m .write off) (hl : s.ins.lock = false) :
    ∃ k, movEvGv (.mem m) r s = apicStore off (s.r32 r) (s.withHit k) := by
  obtain ⟨p, k, hloc, hp⟩ := run_locMem_apic (write := true) h
  refine ⟨k, ?_⟩
  have hw : bits s.o32 = 32 := by rw [h.o32]; rfl
  have hread : readG 32 r s = .ok (s.r32 r) s := by
    simp only [readG, readLoc, run_bind, run_get, run_pure, BitVec.setWidth_eq]
  rw [movEvGv, run_bind, run_getW]
  dsimp only
  rw [hw, run_bind_ok _ hread, writeRm, run_bind, show locRm (.mem m) (32 / 8) true = locMem m 4 true from rfl, hloc]
  dsimp only
  exact run_writeSpans_apic (s := s.withHit k) hp hl (s.r32 r)

/-! ### Completion -/

/-- The state with another local APIC, other messages on the bus, and other draws. -/
def State.apicked (s : State) (a : Apic) (b : List BusMsg) (n : Nat) : State := { s with apic := a, bus := b, free := n }

theorem passed_apicked {s : State} (hs : s.ready) (k : BitVec 4) (a : Apic) (b : List BusMsg) (n : Nat) :
    Passed { s with apic := a, bus := b } ((s.start.withHit k).apicked a b n) := by
  have htr : ((s.start.withHit k).apicked a b n).tr = { Trans.clear with hit := k } :=
    congrArg (fun t : Trans => { t with hit := k }) hs.2
  refine ⟨by constructor <;> rfl, rfl, ?_, ?_, ?_⟩ <;> rw [htr] <;> rfl

theorem unlocked_of_lockOk {s : State} (h : s.lockOk false = true) : s.ins.lock = false := by
  simpa [State.lockOk] using h

/-- A store in the APIC page completes with what it makes of the APIC and what it sends. -/
theorem completes_apicStore {r : Reg} {m : Ea} {off : Nat} {s : State} {q : State → Prop} {p : Apic → List BusMsg → Prop}
    (hs : s.ready) (hl : s.lockOk false = true) (h : s.apicAt m .write = some off)
    (hrun : ∀ u : State, u.apic = s.apic → u.bus = s.bus →
      Runs (apicStore off (s.r32 r)) u fun _ t => ∃ a b n, t = u.apicked a b n ∧ p a b)
    (hq : ∀ a b t, p a b → Untouched s t → FlagsSame s t → Falls { s with apic := a, bus := b } t → q t) :
    Completes (.movEvGv (.mem m) r) s q := by
  obtain ⟨k, hbody⟩ := run_store_apic r (apicAt_eq_some h).start (unlocked_of_lockOk hl)
  rw [start_r32] at hbody
  obtain ⟨_, t, ht, a, b, n, rfl, hp⟩ := hrun (s.start.withHit k) rfl rfl
  refine completes_passed (i := .movEvGv (.mem m) r) (body := movEvGv (.mem m) r) rfl hl ⟨_, _, hbody.trans ht,
    { s with apic := a, bus := b }, _, Like.refl _, passed_apicked hs k a b n, fun t hg hm hf ht => ?_⟩
  exact hq a b t hp (untouched_of hg hm) hf ht

/-- A load in the APIC page completes with what it reads and what it makes of the APIC. -/
theorem completes_apicLoad {r : Reg} {m : Ea} {off : Nat} {s : State} {q : State → Prop} {p : Word → Apic → Prop}
    (hs : s.ready) (hl : s.lockOk false = true) (h : s.apicAt m .read = some off)
    (hrun : ∀ u : State, u.apic = s.apic →
      Runs (apicLoad off) u fun v t => ∃ a, t = u.apicked a u.bus u.free ∧ p v a)
    (hq : ∀ v a t, p v a → t.gpr = (s.setR32 r v).gpr → MemSame s t → FlagsSame s t → Falls { s with apic := a } t → q t) :
    Completes (.movGvEv r (.mem m)) s q := by
  obtain ⟨k, hbody⟩ := run_load_apic r (apicAt_eq_some h).start (unlocked_of_lockOk hl)
  obtain ⟨v, t, ht, a, rfl, hp⟩ := hrun (s.start.withHit k) rfl
  refine completes_passed (i := .movGvEv r (.mem m)) (body := movGvEv r (.mem m)) rfl hl ⟨_, _,
    hbody.trans (by rw [run_bind_ok _ ht, run_modify]), { s with apic := a }, _, Like.refl _, ?_, fun t hg hm hf ht => ?_⟩
  · rw [setR32_eq]
    exact (passed_apicked hs k a s.bus s.free).gpr _
  · refine hq v a t hp (hg.trans ?_) (memSame_of hm) ?_ ht
    · rfl
    · exact hf

end Sys2Proof.Machine

/-! SUPPORT. The registers of the local APIC: what loads return and stores write. -/
namespace Sys2Proof.Machine
open Host

/-! ### Loads -/

theorem groupWord_eq (x : BitVec 256) (k : Nat) : groupWord x k = vectorWord x k := by
  unfold groupWord vectorWord field
  ext i hi
  simp

/-- Every row of the table is what the load of its offset returns. -/
theorem read_of_table {a : Apic} {off : Nat} {x : Word} (h : (off, x) ∈ a.table) : a.read off = some x := by
  simp only [Apic.table, List.mem_append, List.mem_cons, Prod.mk.injEq, List.mem_map, List.mem_range, List.not_mem_nil,
    or_false] at h
  rcases h with ((h | ⟨k, hk, rfl, rfl⟩) | ⟨k, hk, rfl, rfl⟩) | ⟨k, hk, rfl, rfl⟩
  · rcases h with ⟨rfl, rfl⟩ | ⟨rfl, rfl⟩ | ⟨rfl, rfl⟩ | ⟨rfl, rfl⟩ | ⟨rfl, rfl⟩ | ⟨rfl, rfl⟩ | ⟨rfl, rfl⟩ | ⟨rfl, rfl⟩ | ⟨rfl, rfl⟩ |
      ⟨rfl, rfl⟩ | ⟨rfl, rfl⟩ | ⟨rfl, rfl⟩ | ⟨rfl, rfl⟩ | ⟨rfl, rfl⟩ | ⟨rfl, rfl⟩ | ⟨rfl, rfl⟩ | ⟨rfl, rfl⟩ | ⟨rfl, rfl⟩ |
      ⟨rfl, rfl⟩ | ⟨rfl, rfl⟩ <;> rfl
  · rw [← groupWord_eq]
    interval_cases k <;> rfl
  · rw [← groupWord_eq]
    interval_cases k <;> rfl
  · rw [← groupWord_eq]
    interval_cases k <;> rfl

/-- The offsets that have a register. -/
def apicOffsets : List Nat :=
  [0x20, 0x30, 0x80, 0x90, 0xA0, 0xB0, 0xD0, 0xE0, 0xF0, 0x280, 0x300, 0x310, 0x320, 0x340, 0x350, 0x360, 0x370, 0x380, 0x390,
   0x3E0, 0x100, 0x110, 0x120, 0x130, 0x140, 0x150, 0x160, 0x170, 0x180, 0x190, 0x1A0, 0x1B0, 0x1C0, 0x1D0, 0x1E0, 0x1F0, 0x200,
   0x210, 0x220, 0x230, 0x240, 0x250, 0x260, 0x270]

theorem table_offsets (a : Apic) : a.table.map Prod.fst = apicOffsets := rfl

theorem read_beyond (a : Apic) {off : Nat} (h : 0x400 ≤ off) : a.read off = none := by
  unfold Apic.read
  by_cases hm : off % 16 ≠ 0
  · rw [if_pos hm]
  · dsimp only
    simp (disch := omega) only [if_neg]

theorem mem_apicOffsets {a : Apic} {off : Nat} (h : (a.read off).isSome = true) : off ∈ apicOffsets := by
  have hlt : off < 0x400 := by
    by_contra hge
    rw [read_beyond a (by omega)] at h
    cases h
  have hm : off % 16 = 0 := by
    by_contra hm
    rw [Apic.read, if_pos hm] at h
    cases h
  obtain ⟨k, rfl⟩ : ∃ k, off = 16 * k := ⟨off / 16, by omega⟩
  have hk : k < 64 := by omega
  have hall : ∀ k < 64, 16 * k ∈ apicOffsets ∨ k ∈ [0, 1, 4, 5, 6, 7, 12, 41, 42, 43, 44, 45, 46, 47, 51, 58, 59, 60, 61, 63] := by
    decide
  rcases hall k hk with hin | hout
  · exact hin
  · simp only [List.mem_cons, List.not_mem_nil, or_false] at hout
    rcases hout with rfl | rfl | rfl | rfl | rfl | rfl | rfl | rfl | rfl | rfl | rfl | rfl | rfl | rfl | rfl | rfl | rfl | rfl |
      rfl | rfl <;> cases h

theorem read_none_of_table {a : Apic} {off : Nat} (h : ∀ x ∈ a.table, x.1 ≠ off) : a.read off = none := by
  have hoff : off ∉ apicOffsets := by
    rw [← table_offsets a]
    intro hmem
    obtain ⟨x, hx, he⟩ := List.mem_map.1 hmem
    exact h x hx he
  cases hr : a.read off with
  | none => rfl
  | some v => exact absurd (mem_apicOffsets (a := a) (by rw [hr]; rfl)) hoff

theorem run_apicLoad {s : State} {off : Nat} {x : Word} (h : s.apic.read off = some x) :
    ∃ v, apicLoad off s = .ok v s ∧ v &&& ~~~apicUnfixed off x = x &&& ~~~apicUnfixed off x := by
  refine ⟨if (off = 0x350 ∨ off = 0x360) ∧ edgeEntry x then setBit x 14 (Config.remoteIrr s.free) else x,
    by simp only [apicLoad, run_bind, run_get, h, run_pure], ?_⟩
  have hedge : edgeEntry x = true ↔ field x 8 3 = 4#3 ∨ field x 8 3 ≠ 7#3 ∧ bit x 15 = false := by
    simp [edgeEntry]
  by_cases hp : off = 0x350 ∨ off = 0x360
  · by_cases he : edgeEntry x = true
    · have hmask : apicUnfixed off x = 0x4000#32 := if_pos ⟨hp, hedge.1 he⟩
      rw [if_pos ⟨hp, he⟩, hmask]
      have h14 : (0x4000#32) = BitVec.twoPow 32 14 := rfl
      rw [h14]
      unfold setBit
      split <;> ext i hi <;>
        simp only [BitVec.getElem_and, BitVec.getElem_or, BitVec.getElem_not, BitVec.getElem_twoPow] <;>
        cases decide (i = 14) <;> simp
    · rw [if_neg fun hc => he hc.2]
  · rw [if_neg fun hc => hp hc.1]

theorem loadsTable {r : Reg} {m : Ea} {off : Nat} {x : Word} {s : State} (hs : s.ready) (hl : s.lockOk false = true)
    (hat : s.apicAt m .read = some off) (hx : (off, x) ∈ s.apic.table) :
    Completes (.movGvEv r (.mem m)) s fun t => ∃ v : Word,
      v &&& ~~~apicUnfixed off x = x &&& ~~~apicUnfixed off x ∧ t.gpr = (s.setR32 r v).gpr ∧ MemSame s t ∧
        FlagsSame s t ∧ Falls s t := by
  refine completes_apicLoad (p := fun v a => a = s.apic ∧ v &&& ~~~apicUnfixed off x = x &&& ~~~apicUnfixed off x) hs hl hat
    (fun u hu => ?_) fun v a t ⟨ha, hv⟩ hg hm hf ht => ⟨v, hv, hg, hm, hf, ?_⟩
  · obtain ⟨v, hrun, hv⟩ := run_apicLoad (s := u) (off := off) (x := x) (by rw [hu]; exact read_of_table hx)
    exact ⟨v, u, hrun, u.apic, rfl, hu, hv⟩
  · rw [ha] at ht
    exact ht

/-! ### Priorities -/

theorem topVector_of_isTop {x : BitVec 256} {v : Nat} (h : IsTop x v) : topVector x = v := by
  have hspec := highestBit_spec x 256
  unfold topVector
  rcases h with ⟨rfl, rfl⟩ | ⟨hv, hbit, hup⟩
  · cases hh : highestBit (0 : BitVec 256) 256 with
    | none => rfl
    | some k =>
      rw [hh] at hspec
      have hk : bit (0 : BitVec 256) k = true := hspec.2.1
      simp [bit] at hk
  · cases hh : highestBit x 256 with
    | none =>
      rw [hh] at hspec
      exact absurd hbit (by rw [hspec v hv]; decide)
    | some k =>
      rw [hh] at hspec
      obtain ⟨hk, hkb, hkup⟩ := hspec
      rcases Nat.lt_trichotomy v k with hlt | heq | hgt
      · exact absurd hkb (by rw [hup k hlt]; decide)
      · exact heq.symm
      · exact absurd hbit (by rw [hkup v hgt hv]; decide)

theorem isTop_lt {x : BitVec 256} {v : Nat} (h : IsTop x v) : v < 256 := by
  rcases h with ⟨-, rfl⟩ | ⟨h, -⟩
  · decide
  · exact h

/-- The upper four bits of a vector or a priority. -/
theorem field_high (b : Byte) : (field b 4 4 : BitVec 4).toNat = b.toNat / 16 := by
  unfold field
  rw [BitVec.extractLsb'_toNat, Nat.shiftRight_eq_div_pow]
  have := b.isLt
  omega

theorem and_high (b : Byte) : (b &&& 0xF0).toNat = b.toNat / 16 * 16 := by
  revert b
  decide

theorem ppr_toNat {a : Apic} {i : Nat} (hi : IsTop a.isr i) :
    a.ppr.toNat = if i / 16 ≤ a.tpr.toNat / 16 then a.tpr.toNat else i / 16 * 16 := by
  have hlt := isTop_lt hi
  have hv : (BitVec.ofNat 8 i).toNat = i := by rw [BitVec.toNat_ofNat]; omega
  unfold Apic.ppr
  rw [topVector_of_isTop hi]
  dsimp only
  have hle : field a.tpr 4 4 ≥ field (BitVec.ofNat 8 i) 4 4 ↔ i / 16 ≤ a.tpr.toNat / 16 := by
    rw [ge_iff_le, BitVec.le_def, field_high, field_high, hv]
  split_ifs with h1 h2 h2
  · rfl
  · exact absurd (hle.1 h1) h2
  · exact absurd (hle.2 h2) h1
  · rw [and_high, hv]

theorem apr_toNat {a : Apic} {i r : Nat} (hi : IsTop a.isr i) (hr : IsTop a.irr r) :
    a.apr.toNat = if r / 16 ≤ a.tpr.toNat / 16 ∧ i / 16 < a.tpr.toNat / 16 then a.tpr.toNat
      else max (a.tpr.toNat / 16) (max (i / 16) (r / 16)) * 16 := by
  have hilt := isTop_lt hi
  have hrlt := isTop_lt hr
  have hiv : (BitVec.ofNat 8 i).toNat = i := by rw [BitVec.toNat_ofNat]; omega
  have hrv : (BitVec.ofNat 8 r).toNat = r := by rw [BitVec.toNat_ofNat]; omega
  unfold Apic.apr
  rw [topVector_of_isTop hi, topVector_of_isTop hr]
  dsimp only
  have ht' := and_high a.tpr
  have hi' := and_high (BitVec.ofNat 8 i)
  have hr' := and_high (BitVec.ofNat 8 r)
  rw [hiv] at hi'
  rw [hrv] at hr'
  simp only [ge_iff_le, gt_iff_lt, BitVec.le_def, BitVec.lt_def]
  generalize a.tpr &&& 0xF0 = t at ht' ⊢
  generalize BitVec.ofNat 8 i &&& 0xF0 = x at hi' ⊢
  generalize BitVec.ofNat 8 r &&& 0xF0 = y at hr' ⊢
  split_ifs <;> omega

end Sys2Proof.Machine

/-! SUPPORT. Stores to the registers of the local APIC. -/
namespace Sys2Proof.Machine
open Host

/-! ### Offsets without a register -/

theorem error_masked {a : Apic} (h : bit a.lvtError 16 = true) {e : Nat} {m : Byte} (hm : m = BitVec.twoPow 8 e) (he : e < 8) :
    a.error e = { a with esrPending := a.esrPending ||| m } := by
  subst hm
  by_cases hb : bit a.esrPending e = true
  · have hsame : a.esrPending ||| BitVec.twoPow 8 e = a.esrPending := by
      apply BitVec.eq_of_getLsbD_eq
      intro i hi
      simp only [BitVec.getLsbD_or, BitVec.getLsbD_twoPow, he, decide_true, Bool.true_and]
      by_cases hie : e = i
      · subst hie
        rw [show a.esrPending.getLsbD e = true from hb, Bool.true_or]
      · simp [hie]
    rw [Apic.error, if_pos hb, hsame]
  · rw [Apic.error, if_neg hb]
    dsimp only
    rw [if_pos h]
    rfl

/-- The APIC with the illegal-register error noted. -/
def Apic.misread (a : Apic) : Apic := { a with esrPending := a.esrPending ||| 0x80#8 }

theorem loadsAbsent {r : Reg} {m : Ea} {off : Nat} {s : State} (hs : s.ready) (hl : s.lockOk false = true)
    (hno : ∀ x ∈ s.apic.table, x.1 ≠ off) (hmask : bit s.apic.lvtError 16 = true) (hat : s.apicAt m .read = some off) :
    Completes (.movGvEv r (.mem m)) s fun t =>
      t.gpr = (s.setR32 r 0).gpr ∧ MemSame s t ∧ FlagsSame s t ∧ Falls { s with apic := s.apic.misread } t := by
  refine completes_apicLoad (p := fun v a => v = 0 ∧ a = s.apic.misread) hs hl hat (fun u hu => ?_)
    fun v a t ⟨hv, ha⟩ hg hm hf ht => ?_
  · have herr : u.apic.error 7 = s.apic.misread := by rw [hu]; exact error_masked hmask (by decide) (by decide)
    refine ⟨0, u.apicked s.apic.misread u.bus u.free, ?_, s.apic.misread, rfl, rfl, rfl⟩
    simp only [apicLoad, run_bind, run_get, hu, read_none_of_table hno, modifyApic, run_modify, run_pure]
    rw [← herr, hu]
    rfl
  · subst hv ha
    exact ⟨hg, hm, hf, ht⟩

theorem storesAbsent {r : Reg} {m : Ea} {off : Nat} {s : State} (hs : s.ready) (hl : s.lockOk false = true)
    (hno : ∀ x ∈ s.apic.table, x.1 ≠ off) (hmask : bit s.apic.lvtError 16 = true) (hat : s.apicAt m .write = some off) :
    Completes (.movEvGv (.mem m) r) s fun t => Untouched s t ∧ FlagsSame s t ∧ Falls { s with apic := s.apic.misread } t := by
  refine completes_apicStore (p := fun a b => a = s.apic.misread ∧ b = s.bus) hs hl hat (fun u hu hb => ?_)
    fun a b t ⟨ha, hb⟩ hg hf ht => ?_
  · have herr : u.apic.error 7 = s.apic.misread := by rw [hu]; exact error_masked hmask (by decide) (by decide)
    refine ⟨(), u.apicked s.apic.misread u.bus u.free, ?_, s.apic.misread, u.bus, u.free, rfl, rfl, hb⟩
    simp only [apicStore, run_bind, run_get, hu, read_none_of_table hno, modifyApic, run_modify]
    rw [← herr, hu]
    rfl
  · subst ha hb
    exact ⟨hg, hf, ht⟩

/-! ### Stores that write a register -/

theorem isSome_read {a : Apic} {off : Nat} (h : off ∈ apicOffsets) : ∃ x, a.read off = some x := by
  rw [← table_offsets a] at h
  obtain ⟨⟨o, x⟩, hx, rfl⟩ := List.mem_map.1 h
  exact ⟨x, read_of_table hx⟩

theorem lvtValue_eq (a : Apic) (mask old v : Word) : a.lvtValue mask old v = lvtPut mask old v (bit a.svr 8) := by
  unfold Apic.lvtValue lvtPut Apic.enabled blend
  cases bit a.svr 8 with
  | true => simp
  | false => rfl

theorem run_writeLvt {s : State} {l : Lvt} {v : Word} (h : l.allows (field v 8 3) = true) :
    writeLvt l v s = .ok () { s with apic := s.apic.setLvt l (lvtPut l.mask (s.apic.lvt l) v (bit s.apic.svr 8)) } := by
  rw [writeLvt, if_pos h, modifyApic, run_modify, lvtValue_eq]

theorem withSvr_eq (a : Apic) (v : Word) :
    (let b := { a with svr := (field v 0 10 &&& 0x3F0#10) ||| 0x00F#10 }
     if b.enabled then b else b.maskAll) = a.withSvr v := by
  have hbit : bit ((v.setWidth 10 &&& 0x3F0#10) ||| 0x00F#10 : BitVec 10) 8 = bit v 8 := by
    simp [bit]
  have hf : (field v 0 10 : BitVec 10) = v.setWidth 10 := by
    unfold field
    ext i hi
    simp
  simp only [hf, Apic.enabled, hbit, Apic.withSvr]
  cases bit v 8 <;> rfl

theorem field_zero {w : Nat} (v : BitVec w) (n : Nat) : (field v 0 n : BitVec n) = v.setWidth n := by
  unfold field
  ext i hi
  simp

theorem run_apicStore_plain {s : State} {off : Nat} (v : Word) (h : off ∈ apicOffsets)
    (hk : off ∉ [0x20, 0x80, 0xB0, 0xD0, 0xE0, 0xF0, 0x280, 0x300, 0x310, 0x320, 0x340, 0x350, 0x360, 0x370, 0x380, 0x3E0]) :
    apicStore off v s = .ok () s := by
  obtain ⟨y, hy⟩ := isSome_read (a := s.apic) h
  have hmul : ∀ o ∈ apicOffsets, o % 16 = 0 := by decide
  have hm := hmul off h
  simp only [List.mem_cons, List.not_mem_nil, or_false, not_or] at hk
  simp only [apicStore, run_bind, run_get, hy]
  simp (disch := omega) only [if_neg, run_pure]

theorem run_apicStore_row {s : State} {off : Nat} {v : Word} {a : Apic} (h : (off, a) ∈ s.apic.stores v) :
    apicStore off v s = .ok () { s with apic := a } := by
  have hread (o : Nat) (ho : o ∈ apicOffsets) : ∃ y, s.apic.read o = some y := isSome_read ho
  simp only [Apic.stores, List.mem_append, or_assoc] at h
  rcases h with h | h | h | h | h | h | h
  · split_ifs at h with hid
    · simp only [List.mem_singleton, Prod.mk.injEq] at h
      obtain ⟨rfl, rfl⟩ := h
      obtain ⟨y, hy⟩ := hread 0x20 (by decide)
      have hgo : (s.apic.outgoing.isSome && decide (field v 24 4 ≠ s.apic.id)) = false := by
        rcases hid with hid | hid
        · rw [Option.isNone_iff_eq_none.1 hid]
          rfl
        · simp [hid]
      have hwrite : writeId v s = .ok () { s with apic := { s.apic with id := field v 24 4 } } := by
        simp only [writeId, run_bind, run_get]
        rw [hgo, if_neg Bool.false_ne_true, modifyApic, run_modify]
      simp only [apicStore, run_bind, run_get, hy]
      exact hwrite
    · cases h
  · simp only [List.mem_cons, Prod.mk.injEq, List.not_mem_nil, or_false, ← field_zero v 8, ← withSvr_eq] at h
    rcases h with ⟨rfl, rfl⟩ | ⟨rfl, rfl⟩ | ⟨rfl, rfl⟩ | ⟨rfl, rfl⟩ | ⟨rfl, rfl⟩ | ⟨rfl, rfl⟩ | ⟨rfl, rfl⟩ | ⟨rfl, rfl⟩ | ⟨rfl, rfl⟩
    · obtain ⟨y, hy⟩ := hread 0x80 (by decide)
      simp only [apicStore, run_bind, run_get, hy]
      rfl
    · obtain ⟨y, hy⟩ := hread 0xD0 (by decide)
      simp only [apicStore, run_bind, run_get, hy]
      rfl
    · obtain ⟨y, hy⟩ := hread 0xE0 (by decide)
      simp only [apicStore, run_bind, run_get, hy]
      rfl
    · obtain ⟨y, hy⟩ := hread 0xF0 (by decide)
      simp only [apicStore, run_bind, run_get, hy]
      rfl
    · obtain ⟨y, hy⟩ := hread 0x280 (by decide)
      simp only [apicStore, run_bind, run_get, hy]
      rfl
    · obtain ⟨y, hy⟩ := hread 0x320 (by decide)
      simp only [apicStore, run_bind, run_get, hy]
      exact run_writeLvt (l := .timer) rfl
    · obtain ⟨y, hy⟩ := hread 0x370 (by decide)
      simp only [apicStore, run_bind, run_get, hy]
      exact run_writeLvt (l := .error) rfl
    · obtain ⟨y, hy⟩ := hread 0x380 (by decide)
      simp only [apicStore, run_bind, run_get, hy]
      rfl
    · obtain ⟨y, hy⟩ := hread 0x3E0 (by decide)
      simp only [apicStore, run_bind, run_get, hy]
      rfl
  · split_ifs at h with hmode
    · simp only [List.mem_singleton, Prod.mk.injEq] at h
      obtain ⟨rfl, rfl⟩ := h
      obtain ⟨y, hy⟩ := hread 0x340 (by decide)
      simp only [apicStore, run_bind, run_get, hy]
      exact run_writeLvt (l := .perf) (decide_eq_true hmode)
    · cases h
  · split_ifs at h with hmode
    · simp only [List.mem_cons, Prod.mk.injEq, List.not_mem_nil, or_false] at h
      rcases h with ⟨rfl, rfl⟩ | ⟨rfl, rfl⟩
      · obtain ⟨y, hy⟩ := hread 0x350 (by decide)
        simp only [apicStore, run_bind, run_get, hy]
        exact run_writeLvt (l := .lint0) (decide_eq_true hmode)
      · obtain ⟨y, hy⟩ := hread 0x360 (by decide)
        simp only [apicStore, run_bind, run_get, hy]
        exact run_writeLvt (l := .lint1) (decide_eq_true hmode)
    · cases h
  · split_ifs at h with hout
    · simp only [List.mem_singleton, Prod.mk.injEq] at h
      obtain ⟨rfl, rfl⟩ := h
      obtain ⟨y, hy⟩ := hread 0x310 (by decide)
      have hnone : s.apic.outgoing.isSome = false := by rw [Option.isNone_iff_eq_none.1 hout]; rfl
      have hwrite : (if s.apic.outgoing.isSome then stop .apicPending
          else modifyApic fun a => { a with icrHigh := v &&& 0xFF000000#32 } : M Unit) s =
          .ok () { s with apic := { s.apic with icrHigh := v &&& 0xFF000000#32 } } := by
        rw [hnone, if_neg Bool.false_ne_true, modifyApic, run_modify]
      simp only [apicStore, run_bind, run_get, hy]
      exact hwrite
    · cases h
  · simp only [List.map_cons, List.map_nil, List.mem_cons, Prod.mk.injEq, List.not_mem_nil, or_false] at h
    rcases h with ⟨rfl, rfl⟩ | ⟨rfl, rfl⟩ | ⟨rfl, rfl⟩ | ⟨rfl, rfl⟩ <;> exact run_apicStore_plain v (by decide) (by decide)
  · simp only [List.mem_map, List.mem_range, Prod.mk.injEq] at h
    obtain ⟨k, hk, rfl, rfl⟩ := h
    have hall : ∀ k < 24, 0x100 + 16 * k ∈ apicOffsets ∧ 0x100 + 16 * k ∉
        [0x20, 0x80, 0xB0, 0xD0, 0xE0, 0xF0, 0x280, 0x300, 0x310, 0x320, 0x340, 0x350, 0x360, 0x370, 0x380, 0x3E0] := by decide
    obtain ⟨hin, hout⟩ := hall k hk
    exact run_apicStore_plain v hin hout

theorem storesTable {r : Reg} {m : Ea} {off : Nat} {a : Apic} {s : State} (hs : s.ready) (hl : s.lockOk false = true)
    (hat : s.apicAt m .write = some off) (ha : (off, a) ∈ s.apic.stores (s.r32 r)) :
    Completes (.movEvGv (.mem m) r) s fun t => Untouched s t ∧ FlagsSame s t ∧ Falls { s with apic := a } t := by
  refine completes_apicStore (p := fun b l => b = a ∧ l = s.bus) hs hl hat (fun u hu hb => ?_) fun b l t ⟨hb, hl'⟩ hg hf ht => ?_
  · exact ⟨(), u.apicked a u.bus u.free, run_apicStore_row (by rw [hu]; exact ha), a, u.bus, u.free, rfl, rfl, hb⟩
  · subst hb hl'
    exact ⟨hg, hf, ht⟩

/-! ### Stores while a message is still to be delivered -/

theorem exec_apicStore_stop {r : Reg} {m : Ea} {off : Nat} {s : State} {f : Fault} (hl : s.lockOk false = true)
    (hat : s.apicAt m .write = some off) (h : ∀ u : State, u.apic = s.apic → apicStore off (s.r32 r) u = stop f u) :
    exec (.movEvGv (.mem m) r) s = .fault f := by
  obtain ⟨k, hbody⟩ := run_store_apic r (apicAt_eq_some hat).start (unlocked_of_lockOk hl)
  rw [start_r32, h (s.start.withHit k) rfl] at hbody
  exact exec_of_stop (body := movEvGv (.mem m) r) rfl hl hbody

theorem run_storeId_pending {s : State} {v : Word} (h : s.apic.outgoing.isSome = true) (hid : field v 24 4 ≠ s.apic.id) :
    apicStore 0x20 v s = stop .apicIdChange s := by
  obtain ⟨y, hy⟩ := isSome_read (a := s.apic) (off := 0x20) (by decide)
  have hgo : (s.apic.outgoing.isSome && decide (field v 24 4 ≠ s.apic.id)) = true := by simp [h, hid]
  have hwrite : writeId v s = stop .apicIdChange s := by
    simp only [writeId, run_bind, run_get]
    rw [hgo, if_pos rfl]
  simp only [apicStore, run_bind, run_get, hy]
  exact hwrite

theorem run_storeIcr_pending {s : State} {v : Word} {off : Nat} (h : s.apic.outgoing.isSome = true) (ho : off = 0x300 ∨ off = 0x310) :
    apicStore off v s = stop .apicPending s := by
  have hgo (x : M Unit) : (if s.apic.outgoing.isSome then stop .apicPending else x : M Unit) s = stop .apicPending s := by
    rw [h, if_pos rfl]
  rcases ho with rfl | rfl
  · obtain ⟨y, hy⟩ := isSome_read (a := s.apic) (off := 0x300) (by decide)
    simp only [apicStore, run_bind, run_get, hy]
    exact hgo _
  · obtain ⟨y, hy⟩ := isSome_read (a := s.apic) (off := 0x310) (by decide)
    simp only [apicStore, run_bind, run_get, hy]
    exact hgo _

/-! ### The end of an interrupt -/

theorem setBit_true {w : Nat} (x : BitVec w) (i : Nat) : setBit x i true = x ||| BitVec.twoPow w i := rfl
theorem setBit_false {w : Nat} (x : BitVec w) (i : Nat) : setBit x i false = x &&& ~~~BitVec.twoPow w i := rfl

theorem clearRemote_eq {entry : Word} {v : Nat} (hv : v < 256) : clearRemote entry v = lvtEnded entry v := by
  have hvec : (field entry 0 8 : BitVec 8) = BitVec.ofNat 8 v ↔ (entry &&& 0xFF#32).toNat = v := by
    rw [field_zero, ← BitVec.toNat_inj, BitVec.toNat_setWidth, BitVec.toNat_ofNat, BitVec.toNat_and,
      show (0xFF#32).toNat = 2 ^ 8 - 1 from rfl, Nat.and_two_pow_sub_one_eq_mod, Nat.mod_eq_of_lt hv]
  unfold clearRemote lvtEnded
  by_cases h : (entry &&& 0xFF#32).toNat = v
  · rw [if_pos h, if_pos (hvec.2 h)]
    rfl
  · rw [if_neg h, if_neg fun e => h (hvec.1 e)]

/-- The APIC after the end of the interrupt with vector `v`, which is not 0. -/
def Apic.ended (a : Apic) (v : Nat) : Apic :=
  let b := { a with isr := a.isr &&& ~~~BitVec.twoPow 256 v }
  if bit a.tmr v then { b with lvtLint0 := lvtEnded a.lvtLint0 v, lvtLint1 := lvtEnded a.lvtLint1 v, arbId := 0 } else b

theorem run_storeEoi {s : State} {v : Nat} (x : Word) (hv : IsTop s.apic.isr v) :
    apicStore 0xB0 x s = .ok () (if v = 0 then s
      else { s with apic := s.apic.ended v, bus := if bit s.apic.tmr v then .eoi (BitVec.ofNat 8 v) :: s.bus else s.bus }) := by
  obtain ⟨y, hy⟩ := isSome_read (a := s.apic) (off := 0xB0) (by decide)
  have hlt := isTop_lt hv
  have heoi : apicStore 0xB0 x s = (match s.apic.eoi with
      | (b, e) => do
        modifyApic fun _ => b
        match e with
        | some x => do
          emit (.eoi x)
          modifyApic fun a => { a with arbId := 0 }
        | none => pure () : M Unit) s := by
    simp only [apicStore, run_bind, run_get, hy]
    rfl
  rw [heoi, Apic.eoi, topVector_of_isTop hv]
  dsimp only
  by_cases h0 : v = 0
  · rw [if_pos h0, if_pos h0]
    rfl
  · rw [if_neg h0, if_neg h0]
    by_cases ht : bit s.apic.tmr v = true
    · simp only [ht, if_true, run_bind, modifyApic, run_modify, run_emit, Apic.ended, clearRemote_eq hlt, setBit_false]
    · simp only [ht, if_false, run_bind, modifyApic, run_modify, Apic.ended, run_pure, setBit_false, Bool.false_eq_true]

theorem storesEoi {r : Reg} {m : Ea} {v : Nat} {s : State} (hs : s.ready) (hl : s.lockOk false = true)
    (hat : s.apicAt m .write = some 0xB0) (hv : IsTop s.apic.isr v) :
    Completes (.movEvGv (.mem m) r) s fun t => Untouched s t ∧ FlagsSame s t ∧
      (if v = 0 then Falls s t else Falls { s with apic := s.apic.ended v, bus := if bit s.apic.tmr v then .eoi (BitVec.ofNat 8 v) :: s.bus else s.bus } t) := by
  refine completes_apicStore (p := fun b l => b = (if v = 0 then s.apic else s.apic.ended v) ∧
    l = (if v = 0 then s.bus else if bit s.apic.tmr v then .eoi (BitVec.ofNat 8 v) :: s.bus else s.bus)) hs hl hat
    (fun u hu hb => ?_) fun b l t ⟨hb, hl'⟩ hg hf ht => ?_
  · rw [← hu] at hv
    refine ⟨(), _, run_storeEoi (s.r32 r) hv, ?_⟩
    rw [hu, hb]
    by_cases h0 : v = 0
    · exact ⟨u.apic, u.bus, u.free, by rw [if_pos h0]; rfl, by rw [if_pos h0]; exact hu, by rw [if_pos h0]; exact hb⟩
    · exact ⟨_, _, u.free, by rw [if_neg h0]; rfl, by rw [if_neg h0], by rw [if_neg h0]⟩
  · subst hb hl'
    refine ⟨hg, hf, ?_⟩
    by_cases h0 : v = 0
    · rw [if_pos h0]
      simpa only [if_pos h0] using ht
    · rw [if_neg h0]
      simpa only [if_neg h0] using ht

end Sys2Proof.Machine

/-! SUPPORT. Messages of the local APIC, and its interrupts. -/
namespace Sys2Proof.Machine
open Host

/-! ### A message that is sent -/

theorem request_cases (a : Apic) (v : Nat) (level : Bool) :
    ∃ irr tmr ok, a.request v level = ({ a with irr := irr, tmr := tmr }, ok) := by
  unfold Apic.request
  split
  · exact ⟨a.irr, a.tmr, _, rfl⟩
  · split
    · exact ⟨a.irr, a.tmr, _, rfl⟩
    · exact ⟨_, _, _, rfl⟩

theorem inject_cases (a : Apic) (l : Lvt) :
    ∃ irr tmr ok, a.inject l = ({ a with irr := irr, tmr := tmr } : Apic).setStatus l ok := by
  obtain ⟨irr, tmr, ok, h⟩ := request_cases a (field (a.lvt l) 0 8).toNat false
  exact ⟨irr, tmr, !ok, by rw [Apic.inject, h]⟩

/-- An error is recorded, and raises the error interrupt at most. -/
theorem error_cases (a : Apic) (e : Nat) :
    ∃ p irr tmr lvt, a.error e = { a with esrPending := p, irr := irr, tmr := tmr, lvtError := lvt } := by
  unfold Apic.error
  split
  · exact ⟨_, _, _, _, rfl⟩
  · dsimp only
    split
    · exact ⟨_, _, _, _, rfl⟩
    · split
      · exact ⟨_, _, _, _, rfl⟩
      · obtain ⟨irr, tmr, ok, h⟩ := inject_cases { a with esrPending := setBit a.esrPending e true } .error
        exact ⟨_, irr, tmr, _, h⟩

theorem bit_setBit_of {w : Nat} {x : BitVec w} {i j : Nat} (hj : bit x j = true) : bit (setBit x i true) j = true := by
  have hx : x.getLsbD j = true := hj
  simp [bit, setBit_true, hx]

theorem inject_esr (a : Apic) (l : Lvt) : (a.inject l).esrPending = a.esrPending := by
  obtain ⟨irr, tmr, ok, h⟩ := inject_cases a l
  rw [h]
  cases l <;> rfl

theorem error_sets {a : Apic} {e : Nat} (he : e < 8) : bit (a.error e).esrPending e = true := by
  unfold Apic.error
  split
  · assumption
  · dsimp only
    split
    · exact bit_setBit_same he
    · split
      · exact bit_setBit_of (bit_setBit_same he)
      · rw [inject_esr]
        exact bit_setBit_same he

theorem error_keeps {a : Apic} {e j : Nat} (h : bit a.esrPending j = true) : bit (a.error e).esrPending j = true := by
  unfold Apic.error
  split
  · exact h
  · dsimp only
    split
    · exact bit_setBit_of h
    · split
      · exact bit_setBit_of (bit_setBit_of h)
      · rw [inject_esr]
        exact bit_setBit_of h

theorem sendFailed_error (a : Apic) : SendFailed a (a.error 2) := by
  refine ⟨error_sets (by decide), ?_, fun hm => error_masked hm (by decide) (by decide)⟩
  obtain ⟨p, irr, tmr, lvt, h⟩ := error_cases a 2
  rw [h]

/-- The interrupt command that the low word `v` gives. -/
def Apic.commanded (a : Apic) (v : Word) : Apic := { a with icrLow := v &&& 0xCCFFF#32 }

/-- The fixed message that it sends to another APIC. -/
def Apic.fixedMsg (a : Apic) (v : Word) : ApicMsg :=
  { mode := 0, vector := v.setWidth 8, levelTrigger := false, assert := true, logical := false,
    dest := field a.icrHigh 24 8, arb := a.arbId }

/-- A message for other APICs alone, of which nothing has been taken yet. -/
def ApicMsg.toOthers (m : ApicMsg) : Outgoing := { msg := m, selfInt := false, toSelf := false, toOthers := true }

/-- What a fixed message for another APIC asks of the low word of the command register. -/
structure FixedCommand (v : Word) : Prop where
  mode : (field (v &&& 0xCCFFF#32) 8 3 : BitVec 3) = 0
  short : (field (v &&& 0xCCFFF#32) 18 2 : BitVec 2) = 0
  logical : bit (v &&& 0xCCFFF#32) 11 = false
  assert : bit (v &&& 0xCCFFF#32) 14 = true
  level : bit (v &&& 0xCCFFF#32) 15 = false
  vector : (field (v &&& 0xCCFFF#32) 0 8 : BitVec 8) = v.setWidth 8

theorem fixedCommand_of {v : Word} (h : v &&& 0xCCF00#32 = 0x4000#32) : FixedCommand v := by
  have hbit (i : Nat) (hi : i < 32) : (v.getLsbD i && (0xCCF00#32).getLsbD i) = (0x4000#32).getLsbD i := by
    rw [← BitVec.getLsbD_and, h]
  have hb (i : Nat) (hi : i < 32) (hm : (0xCCF00#32).getLsbD i = true) : v.getLsbD i = (0x4000#32).getLsbD i := by
    rw [← hbit i hi, hm, Bool.and_true]
  have h8 : v[8] = false := hb 8 (by decide) (by decide)
  have h9 : v[9] = false := hb 9 (by decide) (by decide)
  have h10 : v[10] = false := hb 10 (by decide) (by decide)
  have h11 : v[11] = false := hb 11 (by decide) (by decide)
  have h14 : v[14] = true := hb 14 (by decide) (by decide)
  have h15 : v[15] = false := hb 15 (by decide) (by decide)
  have h18 : v[18] = false := hb 18 (by decide) (by decide)
  have h19 : v[19] = false := hb 19 (by decide) (by decide)
  refine ⟨?_, ?_, ?_, ?_, ?_, ?_⟩
  · unfold field
    ext i hi
    interval_cases i <;> simp [h8, h9, h10]
  · unfold field
    ext i hi
    interval_cases i <;> simp [h18, h19]
  · simp [bit, h11]
  · simp [bit, h14]
  · simp [bit, h15]
  · rw [field_zero]
    ext i hi
    interval_cases i <;> simp

theorem command_fixed {a : Apic} {v : Word} (h : FixedCommand v) : (a.commanded v).command = a.fixedMsg v := by
  simp only [Apic.command, Apic.commanded, h.mode, h.short, h.logical, h.vector]
  rfl

theorem addressees_fixed {a : Apic} {v : Word} (hne : (field a.icrHigh 24 4 : BitVec 4) ≠ 15)
    (hid : (field a.icrHigh 24 4 : BitVec 4) ≠ a.id) : (a.commanded v).addressees (a.fixedMsg v) 0 = (a.fixedMsg v).toOthers := by
  have hdest : (field (field a.icrHigh 24 8 : BitVec 8) 0 4 : BitVec 4) = field a.icrHigh 24 4 := by
    unfold field
    ext i hi
    simp [show i < 8 by omega]
  have hno : (a.commanded v).matches false (field a.icrHigh 24 8) = false := by
    have hid' : (field a.icrHigh 24 4 : BitVec 4) ≠ (a.commanded v).id := hid
    simp only [Apic.matches, Bool.false_eq_true, if_false, hdest, hne, hid', or_self, decide_false]
  simp only [Apic.addressees, Apic.fixedMsg, hno]
  rfl

theorem rest_toOthers {m : ApicMsg} (hm : m.mode = 0) (r : Taken) :
    m.toOthers.rest .none r = if r = .accepted then none else some m.toOthers := by
  cases r <;> simp [Outgoing.rest, ApicMsg.toOthers, hm]

/-- What becomes of the APIC with the answer of the others. -/
theorem runs_attempt_others {s : State} (m : ApicMsg) (hm : m.mode = 0) :
    Runs (attempt m.toOthers) s fun _ t => ∃ n a, t = { s with apic := a, free := n } ∧
      (a = { s.apic with outgoing := none, arbId := 0 } ∨
        a = { s.apic with outgoing := some m.toOthers, arbId := 0 } ∨
        SendFailed { s.apic with outgoing := some m.toOthers, arbId := 0 } a) := by
  have h1 : (decide (m.mode = 1) : Bool) = false := by rw [hm]; decide
  have hask : ∃ r, askOthers m s = .ok r { s with free := s.free + 1 } := ⟨_, rfl⟩
  obtain ⟨r, hr⟩ := hask
  have hrun : attempt m.toOthers s =
      .ok () { s with free := s.free + 1, apic :=
        (let b := { s.apic with outgoing := m.toOthers.rest .none r, arbId := 0 }
         if (true && decide (r = .none)) = true then b.error 2 else b) } := by
    have hself : m.toOthers.toSelf = false := rfl
    have hothers : m.toOthers.toOthers = true := rfl
    have hmsg : m.toOthers.msg = m := rfl
    have hint : m.toOthers.selfInt = false := rfl
    simp only [attempt, hself, hothers, hmsg, hint, h1, run_bind, run_pure, Bool.false_eq_true, if_false, Bool.false_and, Bool.not_false, Bool.and_self, if_true,
      hr, modifyApic, run_modify, decide_true]
  refine ⟨(), _, hrun, s.free + 1, _, rfl, ?_⟩
  rw [rest_toOthers hm]
  cases r with
  | accepted => exact .inl rfl
  | retry => exact .inr (.inl rfl)
  | none => exact .inr (.inr (sendFailed_error _))

theorem icrCheck_fixed : icrCheck 0 true false 0 = .send := by decide

/-- A fixed message for another APIC is sent, and is delivered or waits. -/
theorem runs_storeIcr {s : State} {v : Word} (hout : s.apic.outgoing = none) (hv : v &&& 0xCCF00#32 = 0x4000#32)
    (hvec : 16 ≤ v.toNat % 256) (hne : (field s.apic.icrHigh 24 4 : BitVec 4) ≠ 15) (hid : (field s.apic.icrHigh 24 4 : BitVec 4) ≠ s.apic.id) :
    Runs (apicStore 0x300 v) s fun _ t => ∃ a b n, t = s.apicked a b n ∧ b = .apic (s.apic.fixedMsg v) 0 :: s.bus ∧
      (a = { s.apic.commanded v with outgoing := none, arbId := 0 } ∨
        a = { s.apic.commanded v with outgoing := some ((s.apic.fixedMsg v).toOthers), arbId := 0 } ∨
        SendFailed { s.apic.commanded v with outgoing := some ((s.apic.fixedMsg v).toOthers), arbId := 0 } a) := by
  have hc := fixedCommand_of hv
  obtain ⟨y, hy⟩ := isSome_read (a := s.apic) (off := 0x300) (by decide)
  have hstore : apicStore 0x300 v s = (if s.apic.outgoing.isSome then stop .apicPending
      else do
        modifyApic fun a => { a with icrLow := v &&& 0x000CCFFF#32 }
        sendIcr : M Unit) s := by
    simp only [apicStore, run_bind, run_get, hy]
    rfl
  have hsend : sendIcr { s with apic := s.apic.commanded v } =
      attempt ((s.apic.fixedMsg v).toOthers) { s with apic := s.apic.commanded v, bus := .apic (s.apic.fixedMsg v) 0 :: s.bus } := by
    have hlow : ¬ (((s.apic.fixedMsg v).mode = 0 ∨ (s.apic.fixedMsg v).mode = 1) ∧ (s.apic.fixedMsg v).vector.toNat < 16) := by
      have : (s.apic.fixedMsg v).vector.toNat = v.toNat % 256 := BitVec.toNat_setWidth ..
      omega
    have hs : (field (s.apic.commanded v).icrLow 18 2 : BitVec 2) = 0 := hc.short
    have hasrt : bit (s.apic.commanded v).icrLow 14 = true := hc.assert
    have hlvl : bit (s.apic.commanded v).icrLow 15 = false := hc.level
    have hcmd : ({ s with apic := s.apic.commanded v } : State).apic.command = s.apic.fixedMsg v := command_fixed hc
    have hcheck : icrCheck (s.apic.fixedMsg v).mode true false 0 = .send := by
      have : (s.apic.fixedMsg v).mode = 0 := rfl
      rw [this]
      decide
    have hadr := addressees_fixed (v := v) hne hid
    simp only [sendIcr, run_bind, run_get, hcmd, hs, hasrt, hlvl, hcheck]
    rw [if_neg hlow, run_bind, whenM, if_pos (by decide), run_emit]
    dsimp only
    rw [hadr]
  have hrun : apicStore 0x300 v s =
      attempt (s.apic.fixedMsg v).toOthers { s with apic := s.apic.commanded v, bus := .apic (s.apic.fixedMsg v) 0 :: s.bus } := by
    rw [hstore, hout, if_neg (by decide), run_bind, modifyApic, run_modify]
    exact hsend
  obtain ⟨_, t, ht, n, a, rfl, ha⟩ := runs_attempt_others (s := { s with
    apic := s.apic.commanded v, bus := .apic (s.apic.fixedMsg v) 0 :: s.bus }) (s.apic.fixedMsg v) rfl
  exact ⟨(), _, hrun.trans ht, a, _, n, rfl, rfl, ha⟩

end Sys2Proof.Machine

/-! SUPPORT. Acceptance and dispensing of interrupts by the local APIC. -/
namespace Sys2Proof.Machine
open Host

theorem storesIcr {r : Reg} {m : Ea} {s : State} (hs : s.ready) (hl : s.lockOk false = true) (hat : s.apicAt m .write = some 0x300)
    (hout : s.apic.outgoing = none) (hv : s.r32 r &&& 0xCCF00#32 = 0x4000#32) (hvec : 16 ≤ (s.r32 r).toNat % 256)
    (hne : (field s.apic.icrHigh 24 4 : BitVec 4) ≠ 15) (hid : (field s.apic.icrHigh 24 4 : BitVec 4) ≠ s.apic.id) :
    Completes (.movEvGv (.mem m) r) s fun t => Untouched s t ∧ FlagsSame s t ∧
      Falls { s with bus := .apic (s.apic.fixedMsg (s.r32 r)) 0 :: s.bus, apic := t.apic } t ∧
        (t.apic = { s.apic.commanded (s.r32 r) with outgoing := none, arbId := 0 } ∨
          t.apic = { s.apic.commanded (s.r32 r) with outgoing := some (s.apic.fixedMsg (s.r32 r)).toOthers, arbId := 0 } ∨
          SendFailed { s.apic.commanded (s.r32 r) with outgoing := some (s.apic.fixedMsg (s.r32 r)).toOthers, arbId := 0 } t.apic) := by
  refine completes_apicStore (p := fun a b => b = .apic (s.apic.fixedMsg (s.r32 r)) 0 :: s.bus ∧
      (a = { s.apic.commanded (s.r32 r) with outgoing := none, arbId := 0 } ∨
        a = { s.apic.commanded (s.r32 r) with outgoing := some (s.apic.fixedMsg (s.r32 r)).toOthers, arbId := 0 } ∨
        SendFailed { s.apic.commanded (s.r32 r) with outgoing := some (s.apic.fixedMsg (s.r32 r)).toOthers, arbId := 0 } a))
    hs hl hat (fun u hu hb => ?_) fun a b t ⟨hb, ha⟩ hg hf ht => ?_
  · have hrun := runs_storeIcr (s := u) (v := s.r32 r) (by rw [hu]; exact hout) hv hvec (by rw [hu]; exact hne) (by rw [hu]; exact hid)
    rw [hu, hb] at hrun
    exact hrun
  · subst hb
    have hapic : t.apic = a := by
      obtain ⟨-, ⟨⟨-, -, happ, -⟩, -⟩, -⟩ := ht
      exact happ
    rw [hapic]
    exact ⟨hg, hf, ht, ha⟩

/-! ### A message of another agent -/

theorem matches_physical {a : Apic} {dest : Byte} (h : (field dest 0 4 : BitVec 4) = 15 ∨ (field dest 0 4 : BitVec 4) = a.id) :
    a.matches false dest = true := by
  rw [Apic.matches, if_neg Bool.false_ne_true]
  exact decide_eq_true h

/-- What a fixed message with a physical destination does at an enabled APIC that it addresses. -/
theorem run_busMessage_fixed {m : ApicMsg} {s : State} (hon : s.apicOn = true) (hen : bit s.apic.svr 8 = true) (hm : m.mode = 0)
    (hlog : m.logical = false) (hdest : (field m.dest 0 4 : BitVec 4) = 15 ∨ (field m.dest 0 4 : BitVec 4) = s.apic.id) :
    busMessage m s = (do
      let r ← takeFixed m
      modifyApic fun a => a.rotate m.arb
      match r with
      | .accepted => pure ()
      | .retry => do
        let arb ← draw 4
        modify fun s => { s with events := s.events ++ [.apic { m with arb := arb }] }
      | .none => do
        let unheard ← drawBool
        whenM (m.illegal || unheard) (modifyApic fun a => a.error 3) : M Unit) s := by
  have h5 : ¬ (m.mode = 5 ∧ m.levelTrigger = true ∧ (!m.assert) = true) := by
    rw [hm]
    exact fun h => absurd h.1 (by decide)
  have htake : takeMessage m false m.single s = takeFixed m s := by
    have hen' : (!s.apic.enabled && !false) = false := by rw [Apic.enabled, hen]; rfl
    rw [takeMessage, run_bind, run_get]
    dsimp only
    rw [if_pos (.inl hm), hen', if_neg Bool.false_ne_true, if_neg (by rw [hm]; decide)]
  have hmatch : s.apic.matches m.logical m.dest = true := by rw [hlog]; exact matches_physical hdest
  rw [busMessage, run_bind, run_get]
  dsimp only
  rw [hon, Bool.not_true, if_neg Bool.false_ne_true, if_neg h5, hmatch, if_pos rfl, run_bind, htake]
  exact (run_bind _ _ _).symm

theorem takesFixed {m : ApicMsg} {s : State} (hon : s.apicOn = true) (hen : bit s.apic.svr 8 = true) (hm : m.mode = 0)
    (hlog : m.logical = false) (hdest : (field m.dest 0 4 : BitVec 4) = 15 ∨ (field m.dest 0 4 : BitVec 4) = s.apic.id)
    (hedge : m.levelTrigger = false) (hv : 16 ≤ m.vector.toNat) (hirr : bit s.apic.irr m.vector.toNat = false)
    (htpr : (field s.apic.tpr 4 4 : BitVec 4) ≠ 15) :
    busMessage m s = .ok () { s with apic := (s.apic.requested m.vector.toNat).rotate m.arb } := by
  have hreq : s.apic.request m.vector.toNat false = (s.apic.requested m.vector.toNat, true) := by
    rw [Apic.request, if_neg htpr, hirr, Bool.false_and, if_neg Bool.false_ne_true]
    rfl
  have htake : takeFixed m s = .ok .accepted { s with apic := s.apic.requested m.vector.toNat } := by
    rw [takeFixed, run_bind, run_get]
    dsimp only
    rw [if_neg (by omega), hedge, Bool.false_and, if_neg Bool.false_ne_true, hreq, run_bind, run_modify]
    rfl
  rw [run_busMessage_fixed hon hen hm hlog hdest, run_bind_ok _ htake, run_bind, modifyApic, run_modify]
  rfl

theorem refusesIllegal {m : ApicMsg} {s : State} (hon : s.apicOn = true) (hen : bit s.apic.svr 8 = true) (hm : m.mode = 0)
    (hlog : m.logical = false) (hdest : (field m.dest 0 4 : BitVec 4) = 15 ∨ (field m.dest 0 4 : BitVec 4) = s.apic.id)
    (hv : m.vector.toNat < 16) :
    ∃ t, busMessage m s = .ok () t ∧ bit t.apic.esrPending 6 = true ∧ bit t.apic.esrPending 3 = true ∧
      (bit s.apic.lvtError 16 = true → t.apic.irr = s.apic.irr) := by
  have htake : takeFixed m s = .ok .none { s with apic := s.apic.error 6 } := by
    rw [takeFixed, run_bind, run_get]
    dsimp only
    rw [if_pos hv, run_bind, run_modify]
    rfl
  have hill : m.illegal = true := by simp [ApicMsg.illegal, hm, hv]
  refine ⟨{ s with apic := ((s.apic.error 6).rotate m.arb).error 3, free := s.free + 1 }, ?_, error_keeps (error_sets (by decide)),
    error_sets (by decide), fun hmask => ?_⟩
  · rw [run_busMessage_fixed hon hen hm hlog hdest, run_bind_ok _ htake, run_bind, modifyApic, run_modify]
    dsimp only
    rw [run_bind, run_drawBool]
    dsimp only
    rw [hill, Bool.true_or, whenM, if_pos rfl, modifyApic, run_modify]
  · have h6 : s.apic.error 6 = { s.apic with esrPending := s.apic.esrPending ||| 0x40#8 } := error_masked hmask (by decide) (by decide)
    have hmask' : bit ((s.apic.error 6).rotate m.arb).lvtError 16 = true := by rw [h6]; exact hmask
    have h3 := error_masked hmask' (e := 3) (m := 0x08#8) (by decide) (by decide)
    dsimp only
    rw [h3, h6]
    rfl

/-! ### Dispensing -/

theorem attendInterrupt_apic {s : State} (hn : s.takesNmi = false) (ht : s.takesIntr = true) (hi : s.lat.intr = none)
    (hw : s.apic.wants = true) (hon : s.apicOn = true) {v : Nat} (hv : s.apic.dispense.2.toNat = v) :
    attendInterrupt { s with smm := { s.smm with ioRec := none } } = .ok (.take (s.interruptAt v .external) .apic) s.woken := by
  have hn' : ({ s with smm := { s.smm with ioRec := none } } : State).takesNmi = false := hn
  have ht' : ({ s with smm := { s.smm with ioRec := none } } : State).takesIntr = true := ht
  have hon' : ({ s with smm := { s.smm with ioRec := none } } : State).apicOn = true := hon
  have hnone : s.lat.intr.isSome = false := by rw [hi]; rfl
  subst hv
  simp only [attendInterrupt, run_bind, run_get, run_ite, hn', ht', hnone, hw, hon', Bool.false_eq_true, if_false,
    Bool.and_self, Bool.and_false, if_true, wake, run_modify, run_pure]
  rfl

theorem wants_of {a : Apic} {v i : Nat} (hv : IsTop a.irr v) (hi : IsTop a.isr i) (htpr : a.tpr.toNat / 16 < v / 16)
    (hisr : i / 16 < v / 16) : a.wants = true := by
  have hlt := isTop_lt hv
  have hne : a.irr ≠ 0 := by
    rcases hv with ⟨-, rfl⟩ | ⟨-, hb, -⟩
    · omega
    · intro h0
      rw [h0] at hb
      simp [bit] at hb
  have hvn : (BitVec.ofNat 8 v).toNat = v := by rw [BitVec.toNat_ofNat]; omega
  have hppr : (field a.ppr 4 4 : BitVec 4).toNat < v / 16 := by
    rw [field_high, ppr_toNat hi]
    split_ifs <;> omega
  refine decide_eq_true ⟨hne, ?_⟩
  rw [gt_iff_lt, BitVec.lt_def, field_high (BitVec.ofNat 8 _), topVector_of_isTop hv, hvn]
  exact hppr

/-- The APIC after vector `v` has been dispensed. -/
def Apic.dispensed (a : Apic) (v : Nat) : Apic :=
  { a with irr := a.irr &&& ~~~BitVec.twoPow 256 v, isr := a.isr ||| BitVec.twoPow 256 v }

theorem dispense_eq {a : Apic} {v : Nat} (hv : IsTop a.irr v) : a.dispense = (a.dispensed v, BitVec.ofNat 8 v) := by
  rw [Apic.dispense, topVector_of_isTop hv]
  rfl

theorem apicIntr_taken {s p : State} {v i : Nat} (h : Awaits s p v) (hnmi : p.lat.nmiPending = false) (hintr : p.lat.intr = none)
    (hif : p.flag fIF = true) (hsti : p.lat.stiShadow = false) (hact : p.lat.activity = .running ∨ p.lat.activity = .halted)
    (hon : p.apicOn = true) (hv : IsTop p.apic.irr v) (hi : IsTop p.apic.isr i) (htpr : p.apic.tpr.toNat / 16 < v / 16)
    (hisr : i / 16 < v / 16) :
    ∃ t, step s = .next t ∧
      RealEntry { p with lat := { p.lat with activity := .running }, apic := p.apic.dispensed v } t v := by
  obtain ⟨hpre, hins, hwf, hlbr, hprot, honly, hinh, hok⟩ := h
  have hboot : p.booting = false := by
    rcases hact with h | h <;> rw [State.booting, h] <;> rfl
  have hno : p.takesNmi = false := by simp [State.takesNmi, hnmi]
  have hyes : p.takesIntr = true := by
    rcases hact with h | h <;> rw [State.takesIntr, hif, hinh, hsti, h] <;> rfl
  have hvec : p.apic.dispense.2.toNat = v := by
    have := isTop_lt hv
    rw [dispense_eq hv, BitVec.toNat_ofNat]
    omega
  have hb := (boundary_idle honly hboot).trans
    (attendInterrupt_apic hno hyes hintr (wants_of hv hi htpr hisr) hon hvec)
  obtain ⟨u, stepping, hstep, hu⟩ := takes_real hpre (congrArg Ins.len hins) hb hprot hlbr hok (.inr rfl)
  have hapic : u.apic = p.apic := apic_of_arrived (s := p.woken) hu
  have hdisp : u.apic.dispense.1 = p.apic.dispensed v := by rw [hapic, dispense_eq hv]
  refine ⟨_, hstep, realEntry_of_nigh (s := p.woken)
    { p with lat := { p.lat with activity := .running }, apic := p.apic.dispensed v } hwf hins hu (l := u.lat) ?_ hdisp⟩
  rw [lat_of_settled hu, decide_eq_false Source.noConfusion, Bool.or_false]
  exact Eq.refl { p.lat with activity := .running, inhibit := false, stiShadow := false, midRep := false }

theorem dispenses {v i : Nat} {s : State} (hs : s.ready) (hins : s.ins = Ins.clear) (hlbr : s.noLbr = true) (hprot : s.prot = false)
    (honly : s.onlyInterrupts = true) (hinh : s.lat.inhibit = false) (hsti : s.lat.stiShadow = false)
    (hnmi : s.lat.nmiPending = false) (hintr : s.lat.intr = none) (hif : s.flag fIF = true)
    (hact : s.lat.activity = .running ∨ s.lat.activity = .halted) (hon : s.apicOn = true) (hv : IsTop s.apic.irr v)
    (hi : IsTop s.apic.isr i) (htpr : s.apic.tpr.toNat / 16 < v / 16) (hisr : i / 16 < v / 16)
    (hok : s.prelude.realVectorOk v = true) :
    ∃ t, step s = .next t ∧ RealEntry { s.prelude with lat := { s.lat with activity := .running }, apic := s.apic.dispensed v } t v := by
  have hwf : Memory.wf s.prelude.mem = true := wf_prelude (s := s) hs.1
  obtain ⟨m, st, c, n, tl, x, hpre⟩ := idles_prelude s
  generalize hp : s.prelude = p at hpre hwf hok ⊢
  have hawaits : Awaits s p v := by
    refine ⟨hp, ?_, hwf, ?_, ?_, ?_, ?_, hok⟩ <;> rw [hpre] <;> assumption
  have hlat : p.lat = s.lat := by rw [hpre]; rfl
  have hapic : p.apic = s.apic := by rw [hpre]; rfl
  rw [← hlat, ← hapic]
  refine apicIntr_taken hawaits ?_ ?_ ?_ ?_ ?_ ?_ ?_ ?_ ?_ hisr <;> rw [hpre] <;> assumption

/-- Settles O45. -/
theorem localApic : Obligations.LocalApic := by
  refine ⟨fun r m off x s hs hl hat hx => loadsTable hs hl hat hx, fun a i r hi hr => ⟨ppr_toNat hi, apr_toNat hi hr⟩,
    fun r m off s hs hl hno hmask => ⟨loadsAbsent hs hl hno hmask, storesAbsent hs hl hno hmask⟩,
    fun r m off a s hs hl hat ha => storesTable hs hl hat ha, fun r m s hl hout => ⟨fun hat hid => ?_, fun hat => ?_⟩,
    fun r m v s hs hl hat hv => ?_, fun r m s hs hl hat hout => ?_, fun m s hon hen hm hlog hdest => ⟨fun hedge hv hirr htpr => ?_, ?_⟩, ?_⟩
  · exact exec_apicStore_stop hl hat fun u hu => run_storeId_pending (by rw [hu]; exact hout) (by rw [hu]; exact hid)
  · rcases hat with hat | hat
    · exact exec_apicStore_stop hl hat fun u hu => run_storeIcr_pending (by rw [hu]; exact hout) (.inl rfl)
    · exact exec_apicStore_stop hl hat fun u hu => run_storeIcr_pending (by rw [hu]; exact hout) (.inr rfl)
  · obtain ⟨t, hrun, hg, hf, ht⟩ := storesEoi (r := r) hs hl hat hv
    refine ⟨t, hrun, hg, hf, ?_⟩
    split_ifs at ht ⊢ with h0 htmr
    · exact ht
    · simpa only [Apic.ended, htmr, if_true] using ht
    · simpa only [Apic.ended, htmr, if_false, Bool.false_eq_true] using ht
  · exact fun hv hvec hne hid => storesIcr hs hl hat hout hv hvec hne hid
  · exact takesFixed hon hen hm hlog hdest hedge hv hirr htpr
  · exact fun hv => refusesIllegal hon hen hm hlog hdest hv
  · intro v i s hs hins hlbr hprot honly hinh hsti hnmi hintr hif hact hon hv hi htpr hisr p hok
    exact dispenses hs hins hlbr hprot honly hinh hsti hnmi hintr hif hact hon hv hi htpr hisr hok

end Sys2Proof.Machine

/-! SUPPORT. Stores one after another, and what depends on memory alone. -/
namespace Sys2Proof.Machine
open Host

/-! ### States that differ in memory, which reads the same -/

theorem MemSame.symm {s t : State} (h : MemSame s t) : MemSame t s := fun k => (h k).symm

theorem MemSame.trans {s t u : State} (h : MemSame s t) (h' : MemSame t u) : MemSame s u := fun k => (h' k).trans (h k)

theorem MemSame.num {s t : State} (h : MemSame s t) (a n : Nat) : t.num a n = s.num a n := by
  rw [State.num, State.num, memBytes_congr fun k _ _ => h k]

/-- A descriptor depends on memory, on the tables and on whether memory is plain. -/
theorem MemSame.descriptor {s t : State} (h : MemSame s t) (ha : t.descAddr = s.descAddr) (hp : t.plain = s.plain) :
    t.descriptor = s.descriptor := by
  funext sel
  unfold State.descriptor
  rw [ha, hp]
  cases s.descAddr sel with
  | none => rfl
  | some a =>
    dsimp only
    rw [h.num]

theorem num_split (s : State) (a n : Nat) : s.num a (n + 1) = s.num a 1 + 256 * s.num (a + 1) n := by
  rw [Nat.add_comm n 1]
  exact num_add s a 1 n

/-- Memory after a store is what the store says it is. -/
theorem stored_unique {s s' t t' : State} {a n v : Nat} (h : Stored s t a n v) (h' : Stored s' t' a n v) (hs : MemSame s s') :
    MemSame t t' := by
  intro k
  obtain ⟨hnum, hframe⟩ := h
  obtain ⟨hnum', hframe'⟩ := h'
  by_cases hout : k < a ∨ a + n ≤ k
  · rw [hframe k hout, hframe' k hout, hs k]
  · obtain ⟨i, hi, rfl⟩ : ∃ i < n, k = a + i := ⟨k - a, by omega, by omega⟩
    refine memRead_of_num ?_
    rw [← num_byte t a hi, ← num_byte t' a hi, hnum, hnum']

/-- The state after stores one after another. -/
def State.storedSeq : List (Nat × Nat × (State → Nat)) → State → State
  | [], s => s
  | (a, n, f) :: rest, s => State.storedSeq rest (s.stored a n (f s))

theorem storedSeq_append (l l' : List (Nat × Nat × (State → Nat))) (s : State) :
    State.storedSeq (l ++ l') s = State.storedSeq l' (State.storedSeq l s) := by
  induction l generalizing s with
  | nil => rfl
  | cons x l ih => exact ih _

theorem storedSeq_wf (l : List (Nat × Nat × (State → Nat))) {s : State} (h : Memory.wf s.mem = true) :
    Memory.wf (State.storedSeq l s).mem = true := by
  induction l generalizing s with
  | nil => exact h
  | cons x l ih => exact ih (wf_memWriteList h)

theorem storedSeq_eq (l : List (Nat × Nat × (State → Nat))) (s : State) :
    State.storedSeq l s = { s with mem := (State.storedSeq l s).mem } := by
  induction l generalizing s with
  | nil => rfl
  | cons x l ih => exact ih _

/-- The values of the stores depend on memory alone. -/
def MemOnly (l : List (Nat × Nat × (State → Nat))) : Prop := ∀ x ∈ l, ∀ s t : State, MemSame s t → x.2.2 t = x.2.2 s

/-- Memory after such stores is that of the state that has made them. -/
theorem storedSeq_same {l : List (Nat × Nat × (State → Nat))} (hl : MemOnly l) {s s' t : State} (hs : Memory.wf s'.mem = true)
    (h : MemSame s s') (ht : StoredSeq l s t) : MemSame t (State.storedSeq l s') := by
  induction l generalizing s s' with
  | nil => exact ht.symm.trans h
  | cons x l ih =>
    obtain ⟨a, n, f⟩ := x
    obtain ⟨m, hm, hrest⟩ := ht
    have hf : f s' = f s := hl (a, n, f) List.mem_cons_self s s' h
    have hstep : MemSame { s with mem := m } (s'.stored a n (f s')) :=
      stored_unique hm (by rw [← hf]; exact stored_memWriteList hs rfl) h
    exact ih (fun y hy => hl y (List.mem_cons_of_mem _ hy)) (wf_memWriteList hs) hstep hrest

theorem StoredSeq.congr {l : List (Nat × Nat × (State → Nat))} {s t t' : State} (h : StoredSeq l s t) (ht : MemSame t t') :
    StoredSeq l s t' := by
  induction l generalizing s with
  | nil => exact MemSame.trans h ht
  | cons x l ih =>
    obtain ⟨m, hm, hrest⟩ := h
    exact ⟨m, hm, ih hrest⟩

/-- The state after the accessed flags of descriptors have been set. -/
def State.markedSeq : List (Option Nat) → State → State
  | [], s => s
  | o :: rest, s => State.markedSeq rest (s.markedAcc o)

theorem markedSeq_eq (l : List (Option Nat)) (s : State) : State.markedSeq l s = { s with mem := (State.markedSeq l s).mem } := by
  induction l generalizing s with
  | nil => rfl
  | cons o l ih =>
    rw [State.markedSeq, ih, markedAcc_eq s o]

theorem markedSeq_wf (l : List (Option Nat)) {s : State} (h : Memory.wf s.mem = true) :
    Memory.wf (State.markedSeq l s).mem = true := by
  induction l generalizing s with
  | nil => exact h
  | cons o l ih => exact ih (markedAcc_wf h o)

theorem accessed_unique {s s' t t' : State} {o : Option Nat} (h : Accessed s t o) (h' : Accessed s' t' o) (hs : MemSame s s') :
    MemSame t t' := by
  cases o with
  | none => exact (MemSame.symm h).trans (hs.trans h')
  | some a =>
    have h'' : Stored s' t' a 1 (s.num a 1 ||| 1) := by rw [← hs.num]; exact h'
    exact stored_unique h h'' hs

theorem accessed_congr {s s' t t' : State} {o : Option Nat} (h : Accessed s t o) (hs : MemSame s s') (ht : MemSame t t') :
    Accessed s' t' o := by
  cases o with
  | none => exact (MemSame.symm hs).trans (MemSame.trans h ht)
  | some a =>
    obtain ⟨hnum, hframe⟩ := h
    exact ⟨by rw [ht.num, hs.num]; exact hnum, fun k hk => by rw [ht k, hs k]; exact hframe k hk⟩

theorem markedSeq_same {l : List (Option Nat)} {s s' t : State} (hs : Memory.wf s'.mem = true) (h : MemSame s s')
    (ht : AccessedSeq l s t) : MemSame t (State.markedSeq l s') := by
  induction l generalizing s s' with
  | nil => exact MemSame.trans (MemSame.symm ht) h
  | cons o l ih =>
    obtain ⟨m, hm, hrest⟩ := ht
    exact ih (markedAcc_wf hs o) (accessed_unique hm (accessed_of hs rfl) h) hrest

theorem accessedSeq_of {l : List (Option Nat)} {s s' t : State} (hs : Memory.wf s'.mem = true) (h : MemSame s s')
    (ht : t.mem = (State.markedSeq l s').mem) : AccessedSeq l s t := by
  induction l generalizing s s' with
  | nil =>
    intro k
    rw [ht]
    exact h k
  | cons o l ih =>
    have hacc : Accessed s' (s'.markedAcc o) o := accessed_of hs rfl
    refine ⟨(s'.markedAcc o).mem, accessed_congr hacc (MemSame.symm h) (fun k => rfl), ?_⟩
    exact ih (markedAcc_wf hs o) (fun k => rfl) ht

end Sys2Proof.Machine

/-! SUPPORT. A task switch up to its commit point. -/
namespace Sys2Proof.Machine
open Host

/-! ### The places a task switch finds -/

theorem like_linearSpans {s u : State} (h : Like s u) (hp : s.plain = true) {a : Word} {n : Nat} (write user : Bool) (hn : 0 < n)
    (hle : a.toNat + n ≤ 0xFEE00000) : Runs (linearSpans a n write user) u fun ps t => ps = spansAt a.toNat n ∧ Like s t := by
  obtain ⟨k, st, c, b, rfl⟩ := h
  exact ⟨_, _, linearSpans_plain (s := s.noisy k st c b) hp a n write user hn hle, rfl, like_noisy s k st c b⟩

theorem like_tssHolds {s u : State} (h : Like s u) {last : Nat} (hl : last ≤ s.sys.tr.limit.toNat) :
    Runs (tssHolds last) u fun _ t => Like s t :=
  like_get_bind h fun k st n b => runs_if_neg (by rw [noisy_sys]; omega) (runs_pure (like_noisy s k st n b))

/-- Where the descriptor of the current task is. -/
def State.oldDesc (s : State) : Word := s.sys.gdtr.base + (s.sys.tr.sel &&& 0xFFF8#16).setWidth 32

/-- What `State.canLeaveTask` asks. -/
structure CanLeave (s : State) : Prop where
  wide : bit s.sys.tr.type 3 = true
  limit : 95 ≤ s.sys.tr.limit.toNat
  plain : s.plain = true
  room : (s.sys.tr.base + 32).toNat + 64 ≤ 0xFEE00000
  desc : isNull s.sys.tr.sel = false → (s.sys.tr.sel &&& 0xFFF8#16).toNat + 7 ≤ s.sys.gdtr.limit.toNat ∧
    s.oldDesc.toNat + 8 ≤ 0xFEE00000

theorem canLeave_of {s : State} (h : s.canLeaveTask = true) : CanLeave s := by
  simp only [State.canLeaveTask, Bool.and_eq_true, Bool.or_eq_true, decide_eq_true_eq, plainAt_iff] at h
  obtain ⟨⟨⟨h1, h2⟩, h3, h4⟩, h5⟩ := h
  refine ⟨h1, h2, h3, h4, fun hn => ?_⟩
  rcases h5 with h5 | ⟨h5, -, h6⟩
  · rw [hn] at h5
    cases h5
  · exact ⟨h5, h6⟩

theorem like_oldTaskDesc {s u : State} (h : Like s u) (hc : CanLeave s) :
    Runs oldTaskDesc u fun o t => o = (if isNull s.sys.tr.sel then none else some s.oldDesc) ∧ Like s t := by
  refine like_get_bind h fun k st n b => ?_
  rw [noisy_sys]
  by_cases hn : isNull s.sys.tr.sel = true
  · exact runs_if_pos hn (runs_pure ⟨(if_pos hn).symm, like_noisy s k st n b⟩)
  · obtain ⟨hlim, -⟩ := hc.desc (Bool.not_eq_true _ ▸ hn)
    exact runs_if_neg hn (runs_if_neg (by omega) (runs_pure ⟨(if_neg hn).symm, like_noisy s k st n b⟩))

/-! ### The outgoing task is saved -/

theorem leBytes_leNat (bs : List Byte) : leBytes bs.length (leNat bs) = bs := by
  induction bs with
  | nil => rfl
  | cons b bs ih =>
    have hb := b.isLt
    have hlow : (b.toNat + 256 * leNat bs) % 256 = b.toNat := by omega
    have hhigh : (b.toNat + 256 * leNat bs) / 256 = leNat bs := by omega
    rw [List.length_cons, leNat, leBytes, hhigh, ih]
    congr 1
    apply BitVec.eq_of_toNat_eq
    rw [BitVec.toNat_ofNat]
    exact hlow

theorem zx_toNat (v : Half) : (v.setWidth 32 : Word).toNat = v.toNat := by
  rw [BitVec.toNat_setWidth]
  omega

/-- The fields that a task switch saves in a 32-bit TSS. -/
def State.taskFields (s : State) (image : Word) : List Nat :=
  [s.eip, image, s.gpr.eax, s.gpr.ecx, s.gpr.edx, s.gpr.ebx, s.gpr.esp, s.gpr.ebp, s.gpr.esi, s.gpr.edi].map BitVec.toNat ++
    [s.seg.es, s.seg.cs, s.seg.ss, s.seg.ds].map (fun r => r.sel.toNat) ++ [s.seg.fs.sel.toNat, s.seg.gs.sel.toNat]

theorem leBytes_savedTask (s : State) (image : Word) : leBytes 64 (s.savedTask image) = (s.taskFields image).flatMap (leBytes 4) := by
  have hle := leBytes_leNat ([s.eip, image, s.gpr.eax, s.gpr.ecx, s.gpr.edx, s.gpr.ebx, s.gpr.esp, s.gpr.ebp, s.gpr.esi, s.gpr.edi,
    s.seg.es.sel.setWidth 32, s.seg.cs.sel.setWidth 32, s.seg.ss.sel.setWidth 32, s.seg.ds.sel.setWidth 32,
    s.seg.fs.sel.setWidth 32, s.seg.gs.sel.setWidth 32].flatMap fun x => leBytes 4 x.toNat)
  simp only [List.flatMap_cons, List.flatMap_nil, List.length_append, leBytes_length, List.length_nil] at hle
  simp only [State.savedTask, State.taskFields, List.flatMap_cons, List.flatMap_nil, List.map_cons, List.map_nil, List.cons_append,
    List.nil_append]
  simp only [zx_toNat] at hle ⊢
  exact hle

theorem noisy_written (s : State) (k : BitVec 4) (st st' : List StaleByte) (n n' : Nat) (b : Bool) (a : Nat) (bs : List Byte) :
    ({ s.noisy k st n b with mem := memWriteList (s.noisy k st n b).mem a bs, stale := st', free := n' } : State) =
      State.noisy { s with mem := memWriteList s.mem a bs } k st' n' b := rfl

theorem like_saveTask {s u : State} (h : Like s u) (hc : CanLeave s) (image : Word) (a : Nat) :
    Runs (saveTask (spansAt a 64) image) u fun _ t => Like (s.stored a 64 (s.savedTask image)) t := by
  obtain ⟨k, st, n, b, rfl⟩ := h
  have hp : (s.noisy k st n b).plain = true := by rw [noisy_plain]; exact hc.plain
  have hwide : (s.noisy k st n b).sys.tr.tss32 = true := by rw [noisy_sys]; exact hc.wide
  obtain ⟨st', n', hw⟩ := writeFields_covers hp (m := 4) (k := 0) (s.taskFields image) (covers_spansAt a 64) (Nat.le_refl 64)
  have hrun : saveTask (spansAt a 64) image (s.noisy k st n b) =
      writeFields (spansAt a 64) 4 0 (s.taskFields image) (s.noisy k st n b) := by
    rw [saveTask, run_bind, run_get]
    dsimp only
    rw [if_pos hwide]
    rfl
  refine ⟨(), _, hrun.trans hw, k, st', n', b, ?_⟩
  rw [noisy_written, State.stored, leBytes_savedTask, Nat.add_zero]

/-! ### The busy flags -/

theorem like_setBusy {s u : State} (h : Like s u) (hp : s.plain = true) (a : Nat) (b : Bool) :
    Runs (putBusy (spansAt a 4) b) u fun x t => x = (s.num a 4).testBit 9 ∧
      Like (s.stored a 4 (setBit (BitVec.ofNat 32 (s.num a 4)) 9 b).toNat) t := by
  refine runs_bind (q := fun _ t => Like s t) ?_ fun _ v hv => ?_
  · obtain ⟨k, st, n, c, rfl⟩ := h
    exact ⟨_, _, accessGap_plain (s := s.noisy k st n c) hp, like_noisy s k st n c⟩
  · refine like_locked hv fun v1 h1 => runs_bind (like_readSpans h1 hp a 4) fun x v2 ⟨hx, h2⟩ => ?_
    subst hx
    exact runs_bind (like_writeSpans h2 hp a 4 _) fun _ v3 h3 => runs_pure ⟨rfl, h3⟩

theorem setBit_busy_num (s : State) (a : Nat) : (setBit (BitVec.ofNat 32 (s.num a 4)) 9 true).toNat = s.num a 4 ||| 0x200 := by
  rw [setBit_busy, Nat.mod_eq_of_lt]
  exact Nat.or_lt_two_pow (num_lt s a 4) (by decide)

theorem setBit_idle_num (s : State) (a : Nat) : (setBit (BitVec.ofNat 32 (s.num a 4)) 9 false).toNat = s.num a 4 &&& 0xFFFFFDFF := by
  have hlt : s.num a 4 < 2 ^ 32 := num_lt s a 4
  rw [setBit_false, BitVec.toNat_and, BitVec.toNat_ofNat, Nat.mod_eq_of_lt hlt]
  rfl

/-- The busy flag of the outgoing task is cleared by JMP and IRET. -/
def State.freesOld (s : State) (k : Switch) : List (Nat × Nat × (State → Nat)) :=
  if (k = .jmp ∨ k = .iret) ∧ isNull s.sys.tr.sel = false
  then [(s.oldDesc.toNat + 4, 4, fun u => u.num (s.oldDesc.toNat + 4) 4 &&& 0xFFFFFDFF)] else []

/-- The busy flag of the new task is set by all but IRET. -/
def takesNew (k : Switch) (a : Nat) : List (Nat × Nat × (State → Nat)) :=
  if k = .iret then [] else [(a + 4, 4, fun u => u.num (a + 4) 4 ||| 0x200)]

theorem passBusy_eq (k : Switch) (tsel : Half) (ob nb : List Span) : passBusy k tsel ob nb =
    ((if ((decide (k = .jmp ∨ k = .iret)) && !ob.isEmpty) = true then putBusy ob false else pure false : M Bool) >>= fun was =>
      (if k = .iret then pure false else putBusy nb true : M Bool) >>= fun busy =>
        whenM busy (do
          whenM was (do
            let _ ← putBusy ob true
            pure ())
          raiseGP tsel)) := by
  unfold passBusy
  split_ifs <;> rfl

theorem like_passBusy {s x u : State} {k : Switch} (tsel : Half) {a : Nat} {ob : List Span} (h : Like x u) (hp : x.plain = true)
    (hob : ob = if isNull s.sys.tr.sel then [] else spansAt (s.oldDesc.toNat + 4) 4)
    (hfree : k ≠ .iret → ((State.storedSeq (s.freesOld k) x).num (a + 4) 4).testBit 9 = false) :
    Runs (passBusy k tsel ob (spansAt (a + 4) 4)) u fun _ t =>
      Like (State.storedSeq (takesNew k a) (State.storedSeq (s.freesOld k) x)) t := by
  have hempty : ob.isEmpty = isNull s.sys.tr.sel := by
    rw [hob]
    cases isNull s.sys.tr.sel with
    | true => rfl
    | false => exact spansAt_ne_nil _ _
  rw [passBusy_eq]
  refine runs_bind (q := fun _ t => Like (State.storedSeq (s.freesOld k) x) t) ?_ fun was v hv => ?_
  · by_cases hk : k = .jmp ∨ k = .iret
    · cases hn : isNull s.sys.tr.sel with
      | true =>
        have hno : s.freesOld k = [] := if_neg fun hc => by rw [hn] at hc; exact absurd hc.2 (by decide)
        rw [hno]
        refine runs_if_neg ?_ (runs_pure h)
        simp [hempty, hn]
      | false =>
        have hyes : s.freesOld k = [(s.oldDesc.toNat + 4, 4, fun u => u.num (s.oldDesc.toNat + 4) 4 &&& 0xFFFFFDFF)] := if_pos ⟨hk, hn⟩
        rw [hyes]
        refine runs_if_pos ?_ ?_
        · simpa [hempty, hn] using hk
        · rw [hob, hn, if_neg Bool.false_ne_true]
          refine runs_mono (like_setBusy h hp _ false) fun _ t ⟨_, ht⟩ => ?_
          rw [setBit_idle_num] at ht
          exact ht
    · have hno : s.freesOld k = [] := if_neg fun hc => hk hc.1
      rw [hno]
      refine runs_if_neg ?_ (runs_pure h)
      simp [hk]
  · have hp1 : (State.storedSeq (s.freesOld k) x).plain = true := by rw [storedSeq_eq]; exact hp
    by_cases hk : k = .iret
    · rw [takesNew, if_pos hk, if_pos hk]
      refine runs_bind (q := fun b t => b = false ∧ Like (State.storedSeq (s.freesOld k) x) t) (runs_pure ⟨rfl, hv⟩)
        fun busy v1 ⟨hb, h1⟩ => ?_
      subst hb
      exact runs_pure h1
    · rw [takesNew, if_neg hk, if_neg hk]
      refine runs_bind (like_setBusy hv hp1 _ true) fun busy v1 ⟨hb, h1⟩ => ?_
      rw [hfree hk] at hb
      subst hb
      rw [setBit_busy_num] at h1
      exact runs_pure h1

end Sys2Proof.Machine

/-! SUPPORT. The image of the new task. -/
namespace Sys2Proof.Machine
open Host

theorem num_low (s : State) (a : Nat) : BitVec.ofNat 16 (s.num a 4) = BitVec.ofNat 16 (s.num a 2) := by
  have hsum : s.num a 4 = s.num a 2 + 256 ^ 2 * s.num (a + 2) 2 := num_add s a 2 2
  apply BitVec.eq_of_toNat_eq
  rw [BitVec.toNat_ofNat, BitVec.toNat_ofNat, hsum]
  omega

theorem like_image32 {s u : State} (h : Like s u) (hp : s.plain = true) (b : Nat) :
    Runs (image32 (spansAt b 104)) u fun i t => i = s.taskAt b ∧ Like s t := by
  obtain ⟨k, st, n, c, rfl⟩ := h
  have hp' : (s.noisy k st n c).plain = true := by rw [noisy_plain]; exact hp
  have hf := readFields_covers hp' (m := 4) (k := 32) (c := 17) (covers_spansAt b 104) (by decide)
  have ht := readSpans_covers hp' (covers_runsFrom (covers_spansAt b 104) (k := 100) (m := 2) (by decide))
  refine ⟨_, _, by rw [image32, run_bind_ok _ hf, run_bind_ok _ ht, run_pure], ?_, like_noisy s k st n c⟩
  simp only [State.taskAt, nth, noisy_num, ← num_low]
  rfl

/-- The state at the commit point of a task switch (42_task_management.md R730 step 5). -/
def State.committed (s : State) (tr : Seg) : State :=
  { s with sys := { s.sys with tr := tr, cr0 := setBit s.sys.cr0 3 true },
           dbg := { s.dbg with dr7 := s.dbg.dr7 &&& ~~~0x55#32 } }

theorem runs_inNewTask {α : Type} {x : M α} {s : State} {q : α → State → Prop} (h : Runs x s q) : Runs (inNewTask x) s q := by
  obtain ⟨a, t, hx, hq⟩ := h
  exact ⟨a, t, by rw [inNewTask, hx], hq⟩

/-- The flags of a task that is entered. -/
def taskFlags (k : Switch) (i : TaskImage) : Word := definedFlags (setBit i.eflags fNT (decide (k = .call ∨ k = .int) || bit i.eflags fNT))

/-- The end of a task switch, whose segments `m` loads. -/
def endTask (m : M Unit) (i : TaskImage) : M Unit := do
  m
  let s ← get
  if s.eip.toNat > s.seg.cs.limit.toNat then raiseGP0
  else modify fun s => { s with dbg := { s.dbg with pendT := s.dbg.pendT || i.trap } }

/-- The TR of a task that is entered. -/
def enteredTr (tsel : Half) (d : Desc) : Seg := { Seg.ofDesc tsel d with type := 11 }

theorem recover_pure {α : Type} (a : α) : recover (pure a : M α) = pure (.ok a) := rfl

/-- Without paging the new task's image is read at the places that were found. -/
theorem run_enterTask_flat {s : State} (hp : s.paging = false) (k : Switch) {tsel : Half} {d : Desc} (ps linkAt : List Span)
    (hty : (Seg.ofDesc tsel d).type = 9 ∨ (Seg.ofDesc tsel d).type = 11) :
    enterTask k tsel d ps linkAt none s = (do
      modify fun t => t.committed (enteredTr tsel d)
      whenM (decide (k = .call ∨ k = .int)) (writeSpans linkAt 2 s.sys.tr.sel.toNat)
      let i ← image32 ps
      modify fun t => t.taskLoaded i (taskFlags k i)
      if bit (taskFlags k i) fVM then endTask (taskLdtV86 i.ldt) i else endTask (taskSegments i) i : M Unit) s := by
  have htr : ({ Seg.ofDesc tsel d with type := (Seg.ofDesc tsel d).type ||| 2 } : Seg) = enteredTr tsel d := by
    unfold enteredTr
    rcases hty with h | h <;> rw [h] <;> rfl
  have hwide : (enteredTr tsel d).tss32 = true := (by decide : bit (11 : BitVec 4) 3 = true)
  rw [enterTask, run_bind, run_get]
  dsimp only
  rw [htr]
  simp only [hp, Bool.and_false, Bool.false_eq_true, if_false, recover_pure, pure_bind, hwide, if_true]
  rfl

/-- The state that a task switch has loaded, in which the segments are still to be loaded. -/
def State.imaged (s : State) (k : Switch) (tsel : Half) (d : Desc) (base : Nat) : State :=
  (s.committed (enteredTr tsel d)).taskLoaded (s.taskAt base) (taskFlags k (s.taskAt base))

theorem committed_plain (s : State) (tr : Seg) : (s.committed tr).plain = s.plain := by
  have hpg : (s.committed tr).paging = s.paging := by
    have hbit : bit (setBit s.sys.cr0 3 true) 31 = bit s.sys.cr0 31 := by simp [bit, setBit_true]
    exact hbit
  rw [State.plain, hpg]
  rfl

theorem like_enterTask {x u : State} {k : Switch} {tsel : Half} {d : Desc} {base : Nat} {linkAt : List Span} {q : Unit → State → Prop}
    (h : Like x u) (hp : x.plain = true) (hty : (Seg.ofDesc tsel d).type = 9 ∨ (Seg.ofDesc tsel d).type = 11)
    (hlink : k = .call ∨ k = .int → linkAt = spansAt base 2)
    {y : State} (hy : y = if k = .call ∨ k = .int then x.stored base 2 x.sys.tr.sel.toNat else x)
    (hvm : bit (taskFlags k (y.taskAt base)) fVM = false)
    (he : ∀ v, Like (y.imaged k tsel d base) v → Runs (endTask (taskSegments (y.taskAt base)) (y.taskAt base)) v q) :
    Runs (enterTask k tsel d (spansAt base 104) linkAt none) u q := by
  obtain ⟨c, st, n, b, rfl⟩ := h
  have hflat : (x.noisy c st n b).paging = false := paging_of_plain (by rw [noisy_plain]; exact hp)
  rw [Runs, run_enterTask_flat hflat k _ _ hty]
  have hc : Like (x.committed (enteredTr tsel d)) ((x.noisy c st n b).committed (enteredTr tsel d)) := ⟨c, st, n, b, rfl⟩
  refine runs_bind (runs_modify (q := fun _ t => Like (x.committed (enteredTr tsel d)) t) hc) fun _ v hv => ?_
  have hpy : (y.committed (enteredTr tsel d)).plain = true := by
    rw [committed_plain, hy]
    split <;> exact hp
  refine runs_bind (q := fun _ t => Like (y.committed (enteredTr tsel d)) t) ?_ fun _ v1 h1 => ?_
  · by_cases hk : k = .call ∨ k = .int
    · rw [hlink hk, noisy_sys]
      rw [if_pos hk] at hy
      rw [hy]
      exact runs_if_pos (decide_eq_true hk) (like_writeSpans hv (by rw [committed_plain]; exact hp) base 2 x.sys.tr.sel.toNat)
    · rw [if_neg hk] at hy
      rw [hy]
      exact runs_if_neg (by simpa using hk) (runs_pure hv)
  · refine runs_bind (like_image32 h1 hpy base) fun i v2 ⟨hi, h2⟩ => ?_
    obtain rfl : i = y.taskAt base := hi
    refine runs_bind (like_modify (f := fun t => t.taskLoaded (y.taskAt base) (taskFlags k (y.taskAt base))) h2
      fun _ _ _ _ _ => rfl) fun _ v3 h3 => runs_if_neg (by rw [hvm]; exact Bool.false_ne_true) (he v3 h3)

end Sys2Proof.Machine

/-! SUPPORT. The data segment registers of the new task. -/
namespace Sys2Proof.Machine
open Host

/-- The data segment registers of a task, with what each becomes, beside the descriptors that are read for them: a null selector
has none. -/
inductive DataRegs (y : State) (cpl : BitVec 2) :
    List (SegReg × Half × Seg × Option Nat) → List (SegReg × Half × Word × Desc) → Prop
  | nil : DataRegs y cpl [] []
  | null {r : SegReg} {sel : Half} {l : List (SegReg × Half × Seg × Option Nat)} {ds : List (SegReg × Half × Word × Desc)}
      (hn : isNull sel = true) (hrest : DataRegs y cpl l ds) :
      DataRegs y cpl ((r, sel, (y.seg.get r).nulled sel, none) :: l) ds
  | desc {r : SegReg} {sel : Half} {w : Word} {d : Desc} {l : List (SegReg × Half × Seg × Option Nat)}
      {ds : List (SegReg × Half × Word × Desc)} (hn : isNull sel = false) (hd : y.descriptor sel = some (w.toNat, d))
      (hread : isReadable (descS d) (descType d) = true) (hpres : descP d = true)
      (hlevel : descConforming d = true ∨ cpl ≤ descDpl d) (hrest : DataRegs y cpl l ds) :
      DataRegs y cpl ((r, sel, Seg.ofDesc sel d, accessedByte w.toNat d) :: l) ((r, sel, w, d) :: ds)

/-- What `State.taskData` asks of a selector that is not null. -/
theorem taskData_eq_some {y : State} {cpl : BitVec 2} {g : Seg} {sel : Half} {p : Seg × Option Nat} (hn : isNull sel = false)
    (h : y.taskData cpl g sel = some p) :
    ∃ a d, y.descriptor sel = some (a, d) ∧ isReadable (descS d) (descType d) = true ∧ descP d = true ∧
      (descConforming d = true ∨ cpl ≤ descDpl d) ∧ p = (Seg.ofDesc sel d, accessedByte a d) := by
  rw [State.taskData, hn, if_neg Bool.false_ne_true] at h
  cases hd : y.descriptor sel with
  | none =>
    rw [hd] at h
    exact absurd h.symm (Option.some_ne_none p)
  | some q =>
    obtain ⟨a, d⟩ := q
    rw [hd] at h
    dsimp only at h
    split_ifs at h with hc
    simp only [Bool.and_eq_true, Bool.or_eq_true, decide_eq_true_eq] at hc
    obtain ⟨⟨h1, h2⟩, h3⟩ := hc
    exact ⟨a, d, rfl, h1, h2, h3, (Option.some.inj h).symm⟩

/-- The descriptors that a task switch reads for its data segment registers. -/
theorem like_taskDataDescs {y u : State} {cpl : BitVec 2} {l : List (SegReg × Half × Seg × Option Nat)}
    (h : Like y u) (hl : ∀ e ∈ l, ∃ g, y.taskData cpl g e.2.1 = some e.2.2 ∧
      (isNull e.2.1 = true → e.2.2 = ((y.seg.get e.1).nulled e.2.1, none))) :
    Runs (taskDataDescs (l.map fun e => (e.1, e.2.1))) u fun ds t => DataRegs y cpl l ds ∧ Like y t := by
  induction l generalizing u with
  | nil => exact runs_pure ⟨.nil, h⟩
  | cons e l ih =>
    obtain ⟨r, sel, p⟩ := e
    obtain ⟨g, hg, hnull⟩ := hl (r, sel, p) List.mem_cons_self
    have hrest := fun {u : State} (h : Like y u) => ih h fun e he => hl e (List.mem_cons_of_mem _ he)
    rw [List.map_cons, taskDataDescs]
    by_cases hn : isNull sel = true
    · have hp : p = ((y.seg.get r).nulled sel, none) := hnull hn
      subst hp
      refine runs_if_pos hn (runs_mono (hrest h) fun ds t ⟨hds, ht⟩ => ⟨.null hn hds, ht⟩)
    · have hn' : isNull sel = false := Bool.not_eq_true _ ▸ hn
      obtain ⟨a, d, hd, hread, hpres, hlevel, rfl⟩ := taskData_eq_some hn' hg
      refine runs_if_neg hn (runs_bind (like_needDesc h 10 hd) fun q v ⟨hw, hq, hv⟩ => ?_)
      obtain ⟨w, d'⟩ := q
      obtain rfl : d' = d := hq
      obtain rfl : w.toNat = a := hw
      have hs : descS d' = true := by
        simp only [isReadable, isData, isCode, Bool.or_eq_true, Bool.and_eq_true] at hread
        rcases hread with ⟨hs, -⟩ | ⟨⟨hs, -⟩, -⟩ <;> exact hs
      refine runs_if_neg (by rw [hs]; exact Bool.false_ne_true) (runs_bind (hrest hv) fun ds t ⟨hds, ht⟩ => ?_)
      exact runs_pure ⟨.desc hn' hd hread hpres hlevel hds, ht⟩

theorem DataRegs.check {y : State} {cpl : BitVec 2} {l : List (SegReg × Half × Seg × Option Nat)}
    {ds : List (SegReg × Half × Word × Desc)} (h : DataRegs y cpl l ds) (v : Nat) {bad : Half → Desc → Bool}
    (hbad : ∀ sel d, isReadable (descS d) (descType d) = true → descP d = true → bad sel d = false) :
    taskDataCheck v bad ds = pure () := by
  induction h with
  | nil => rfl
  | null hn hrest ih => exact ih
  | desc hn hd hread hpres hlevel hrest ih => rw [taskDataCheck, hbad _ _ hread hpres, if_neg Bool.false_ne_true, ih]

/-- The data segment registers loaded, each with its accessed flag set before it. -/
def State.dataLoaded (z : State) (l : List (SegReg × Half × Seg × Option Nat)) : State :=
  l.foldl (fun z e => (z.markedAcc e.2.2.2).withSeg e.1 e.2.2.1) z

theorem withSeg_get (z : State) (r : SegReg) : z.withSeg r (z.seg.get r) = z := by
  unfold State.withSeg
  cases r <;> rfl

theorem markedAcc_plain (z : State) (o : Option Nat) : (z.markedAcc o).plain = z.plain := by
  rw [markedAcc_eq]
  rfl

theorem markedAcc_seg (z : State) (o : Option Nat) : (z.markedAcc o).seg = z.seg := by
  rw [markedAcc_eq]

theorem DataRegs.load {y z u : State} {cpl : BitVec 2} {l : List (SegReg × Half × Seg × Option Nat)}
    {ds : List (SegReg × Half × Word × Desc)} (h : DataRegs y cpl l ds) (hz : z.plain = true)
    (hseg : ∀ e ∈ l, isNull e.2.1 = true → z.seg.get e.1 = e.2.2.1)
    (hnd : (l.map Prod.fst).Nodup) (hu : Like z u) : Runs (taskDataLoad cpl ds) u fun _ t => Like (z.dataLoaded l) t := by
  induction h generalizing z u with
  | nil => exact runs_pure hu
  | @null r sel l ds hn hrest ih =>
    have hkeep : z.seg.get r = (y.seg.get r).nulled sel := hseg _ List.mem_cons_self hn
    rw [List.map_cons, List.nodup_cons] at hnd
    have hsame : (z.markedAcc none).withSeg r ((y.seg.get r).nulled sel) = z := by
      rw [← hkeep]
      exact withSeg_get z r
    rw [State.dataLoaded, List.foldl_cons]
    dsimp only
    rw [hsame]
    exact ih hz (fun e he => hseg e (List.mem_cons_of_mem _ he)) hnd.2 hu
  | @desc r sel w d l ds hn hd hread hpres hlevel hrest ih =>
    obtain ⟨-, -, -, ⟨-, hle⟩, -⟩ := State.descriptor_eq_some.1 hd
    rw [List.map_cons, List.nodup_cons] at hnd
    have hpass : ¬ (!descConforming d && decide (descDpl d < cpl)) = true := by
      rcases hlevel with hc | hc
      · simp [hc]
      · simp [BitVec.not_lt.2 hc]
    refine runs_if_neg hpass (runs_bind (like_setDescAccessed hu rfl ⟨hz, hle⟩) fun _ v hv =>
      runs_bind (like_putSeg hv r (Seg.ofDesc sel d)) fun _ v1 h1 => ?_)
    refine ih (by rw [← hz, ← markedAcc_plain z (accessedByte w.toNat d)]; rfl) (fun e he => ?_) hnd.2 h1
    have hne : e.1 ≠ r := fun hr => hnd.1 (List.mem_map.2 ⟨e, he, hr⟩)
    have hget : (((z.markedAcc (accessedByte w.toNat d)).withSeg r (Seg.ofDesc sel d)).seg).get e.1 = z.seg.get e.1 := by
      rw [State.withSeg, markedAcc_seg]
      dsimp only
      rw [Segs.get_set, if_neg hne]
    rw [hget]
    exact hseg e (List.mem_cons_of_mem _ he)

end Sys2Proof.Machine

/-! SUPPORT. The segments of the new task. -/
namespace Sys2Proof.Machine
open Host

/-- The LDT of a task that can be loaded. -/
theorem like_taskLdt {y u : State} {sel : Half} {l : Seg} (h : Like y u) (hl : y.taskLdtr sel = some l) :
    Runs (taskLdt sel) u fun b t => b = true ∧ Like (y.withLdtr l) t := by
  rw [State.taskLdtr] at hl
  by_cases hn : isNull sel = true
  · rw [if_pos hn] at hl
    obtain rfl := Option.some.inj hl
    exact runs_if_pos hn (runs_bind (like_modify (f := fun t => t.withLdtr (t.sys.ldtr.nulled sel)) h fun _ _ _ _ _ => rfl)
      fun _ v hv => runs_pure ⟨rfl, hv⟩)
  · rw [if_neg hn] at hl
    by_cases hti : bit sel 2 = true
    · rw [if_pos hti] at hl
      exact absurd hl.symm (Option.some_ne_none l)
    · rw [if_neg hti] at hl
      cases hd : y.descriptor sel with
      | none =>
        rw [hd] at hl
        exact absurd hl.symm (Option.some_ne_none l)
      | some p =>
        obtain ⟨a, d⟩ := p
        rw [hd] at hl
        dsimp only at hl
        split_ifs at hl with hc
        obtain rfl := Option.some.inj hl
        simp only [Bool.and_eq_true, Bool.not_eq_true', decide_eq_true_eq] at hc
        obtain ⟨⟨hs, hty⟩, hpres⟩ := hc
        refine runs_if_neg hn (runs_if_neg hti (runs_bind (like_needDesc h 10 hd) fun q v ⟨_, hq, hv⟩ => ?_))
        obtain ⟨w, d'⟩ := q
        obtain rfl : d' = d := hq
        refine runs_if_neg (by simp [hs, hty]) (runs_bind (q := fun _ t => Like (y.withLdtr (Seg.ofDesc sel d')) t) ?_
          fun _ v1 h1 => runs_pure ⟨hpres, h1⟩)
        exact runs_if_pos hpres (like_modify (f := fun t => t.withLdtr (Seg.ofDesc sel d')) hv fun _ _ _ _ _ => rfl)

/-- What `taskCodeOk` and `taskStackOk` ask. -/
theorem taskCodeOk_iff {sel : Half} {d : Desc} : taskCodeOk sel d = true ↔ descCode d = true ∧ csDplBad sel d = false ∧ descP d = true := by
  have hlevel : (if descConforming d then decide (descDpl d ≤ rpl sel) else decide (descDpl d = rpl sel)) = !csDplBad sel d := by
    unfold csDplBad
    cases descConforming d with
    | true => simp only [if_true, gt_iff_lt, ← BitVec.not_le, decide_not, Bool.not_not]
    | false => simp only [Bool.false_eq_true, if_false, ne_eq, decide_not, Bool.not_not]
  rw [taskCodeOk, hlevel, Bool.and_eq_true, Bool.and_eq_true, Bool.not_eq_true', and_assoc]

theorem taskStackOk_iff {sel : Half} {d : Desc} {cpl : BitVec 2} : taskStackOk sel d cpl = true ↔
    isWritable (descS d) (descType d) = true ∧ descP d = true ∧ descDpl d = cpl ∧ rpl sel = cpl := by
  simp only [taskStackOk, Bool.and_eq_true, decide_eq_true_eq, and_assoc]

theorem like_taskStack {y u : State} {i : TaskImage} {cd sd : Nat × Desc} (h : Like y u) (hcs : isNull i.cs = false)
    (hss : isNull i.ss = false) (hcd : y.descriptor i.cs = some cd) (hsd : y.descriptor i.ss = some sd)
    (hcok : taskCodeOk i.cs cd.2 = true) (hsok : taskStackOk i.ss sd.2 (rpl i.cs) = true) :
    Runs (taskStack i) u fun q t => (∃ wc ws, q = (some (wc, cd.2), ws, sd.2) ∧ wc.toNat = cd.1 ∧ ws.toNat = sd.1) ∧ Like y t := by
  obtain ⟨-, hbad, -⟩ := taskCodeOk_iff.1 hcok
  obtain ⟨hw, hpres, hdpl, -⟩ := taskStackOk_iff.1 hsok
  refine runs_bind (q := fun o t => (∃ w, o = some (w, cd.2) ∧ w.toNat = cd.1) ∧ Like y t) ?_ fun o v ⟨⟨wc, ho, hwc⟩, hv⟩ => ?_
  · exact runs_if_neg (by rw [hcs]; exact Bool.false_ne_true) (like_fetchDesc h hcd)
  · subst ho
    refine runs_bind (q := fun _ t => Like y t) (runs_if_neg (by simp [hbad]) (runs_pure hv)) fun _ v1 h1 => ?_
    refine runs_if_neg (by rw [hss]; exact Bool.false_ne_true) (runs_bind (like_needDesc h1 10 hsd) fun q v2 ⟨hws, hq, h2⟩ => ?_)
    obtain ⟨ws, d⟩ := q
    obtain rfl : d = sd.2 := hq
    refine runs_if_neg (by rw [hw]; exact Bool.false_ne_true) (runs_if_neg (by rw [hpres]; exact Bool.false_ne_true)
      (runs_if_neg (fun hne => hne hdpl) (runs_pure ⟨⟨wc, ws, rfl, hwc, hws⟩, h2⟩)))

/-- The state after CS and SS of the new task have been loaded, with their accessed flags set. -/
def State.stacked (y : State) (i : TaskImage) (cd sd : Nat × Desc) : State :=
  (((y.markedAcc (accessedByte cd.1 cd.2)).withSeg .cs (Seg.ofDesc i.cs cd.2)).markedAcc (accessedByte sd.1 sd.2)).withSeg .ss
    (Seg.ofDesc i.ss sd.2)

theorem withSeg_plain (z : State) (r : SegReg) (g : Seg) : (z.withSeg r g).plain = z.plain := rfl
theorem withLdtr_plain (z : State) (g : Seg) : (z.withLdtr g).plain = z.plain := rfl

theorem stacked_plain (y : State) (i : TaskImage) (cd sd : Nat × Desc) : (y.stacked i cd sd).plain = y.plain := by
  rw [State.stacked, withSeg_plain, markedAcc_plain, withSeg_plain, markedAcc_plain]

/-- The segments of a task that passes its checks. -/
theorem like_taskSegments {y u : State} {i : TaskImage} {l : Seg} {cd sd : Nat × Desc} {ls : List (SegReg × Half × Seg × Option Nat)}
    (h : Like y u) (hp : y.plain = true) (hl : y.taskLdtr i.ldt = some l) (hcs : isNull i.cs = false) (hss : isNull i.ss = false)
    (hcd : (y.withLdtr l).descriptor i.cs = some cd) (hsd : (y.withLdtr l).descriptor i.ss = some sd)
    (hcok : taskCodeOk i.cs cd.2 = true) (hsok : taskStackOk i.ss sd.2 (rpl i.cs) = true)
    (hls : (ls.map fun e => (e.1, e.2.1)) = i.dataRegs)
    (hdata : ∀ e ∈ ls, ∃ g, ((y.withLdtr l).stacked i cd sd).taskData (rpl i.cs) g e.2.1 = some e.2.2 ∧
      (isNull e.2.1 = true → e.2.2 = ((((y.withLdtr l).stacked i cd sd).seg.get e.1).nulled e.2.1, none)))
    (hkeep : ∀ e ∈ ls, isNull e.2.1 = true → ((y.withLdtr l).stacked i cd sd).seg.get e.1 = e.2.2.1) :
    Runs (taskSegments i) u fun _ t => Like (((y.withLdtr l).stacked i cd sd).dataLoaded ls) t := by
  obtain ⟨hcode, -, hcpres⟩ := taskCodeOk_iff.1 hcok
  obtain ⟨-, -, hdpl, hrpl⟩ := taskStackOk_iff.1 hsok
  obtain ⟨-, -, -, ⟨-, hcle⟩, -⟩ := State.descriptor_eq_some.1 hcd
  obtain ⟨-, -, -, ⟨-, hsle⟩, -⟩ := State.descriptor_eq_some.1 hsd
  refine runs_bind (like_taskLdt h hl) fun here v ⟨hhere, hv⟩ => ?_
  subst hhere
  refine runs_bind (like_taskStack hv hcs hss hcd hsd hcok hsok) fun q v1 ⟨⟨wc, ws, hq, hwc, hws⟩, h1⟩ => ?_
  subst hq
  dsimp only
  refine runs_bind (q := fun _ t => Like (y.withLdtr l) t) (runs_pure h1) fun _ v2 h2 => ?_
  refine runs_if_neg (by rw [hcode]; exact Bool.false_ne_true) (runs_if_neg (by rw [hcpres]; exact Bool.false_ne_true) ?_)
  refine runs_bind (like_setDescAccessed h2 hwc ⟨hp, hcle⟩) fun _ v3 h3 => runs_bind (like_putSeg h3 .cs (Seg.ofDesc i.cs cd.2)) fun _ v4 h4 => ?_
  refine runs_if_neg (fun hne => hne (hdpl.trans hrpl.symm)) ?_
  have hp4 : (((y.withLdtr l).markedAcc (accessedByte cd.1 cd.2)).withSeg .cs (Seg.ofDesc i.cs cd.2)).plain = true := by
    rw [withSeg_plain, markedAcc_plain]
    exact hp
  refine runs_bind (like_setDescAccessed h4 hws ⟨hp4, hsle⟩) fun _ v5 h5 => runs_bind (like_putSeg h5 .ss (Seg.ofDesc i.ss sd.2)) fun _ v6 h6 => ?_
  have h6' : Like ((y.withLdtr l).stacked i cd sd) v6 := h6
  have hnd : (ls.map Prod.fst).Nodup := by
    have hfst : ls.map Prod.fst = i.dataRegs.map Prod.fst := by rw [← hls, List.map_map]; rfl
    rw [hfst]
    exact (by decide : [SegReg.ds, .es, .fs, .gs].Nodup)
  rw [← hls]
  refine runs_bind (like_taskDataDescs h6' hdata) fun ds v7 ⟨hds, h7⟩ => ?_
  rw [hds.check 10 fun _ _ hr _ => by rw [hr]; rfl, hds.check 11 fun _ _ _ hp => by rw [hp]; rfl]
  refine runs_bind (q := fun _ t => Like ((y.withLdtr l).stacked i cd sd) t) (runs_pure h7) fun _ v8 h8 =>
    runs_bind (q := fun _ t => Like ((y.withLdtr l).stacked i cd sd) t) (runs_pure h8) fun _ v9 h9 => ?_
  exact hds.load (by rw [stacked_plain]; exact hp) hkeep hnd h9

end Sys2Proof.Machine

/-! SUPPORT. The state in which a task switch leaves the processor. -/
namespace Sys2Proof.Machine
open Host

/-! ### The segments loaded, as one change of the state -/

theorem markedAcc_mem_congr {s t : State} (h : s.mem = t.mem) (o : Option Nat) : (s.markedAcc o).mem = (t.markedAcc o).mem := by
  cases o with
  | none => exact h
  | some a =>
    rw [State.markedAcc, State.markedAcc, State.stored, State.stored, State.num, State.num, h]

theorem markedSeq_mem_congr (l : List (Option Nat)) {s t : State} (h : s.mem = t.mem) :
    (State.markedSeq l s).mem = (State.markedSeq l t).mem := by
  induction l generalizing s t with
  | nil => exact h
  | cons o l ih => exact ih (markedAcc_mem_congr h o)

theorem dataLoaded_eq (ls : List (SegReg × Half × Seg × Option Nat)) (z : State) : z.dataLoaded ls =
    { z with seg := ls.foldl (fun g e => g.set e.1 e.2.2.1) z.seg, mem := (State.markedSeq (ls.map fun e => e.2.2.2) z).mem } := by
  induction ls generalizing z with
  | nil => rfl
  | cons e ls ih =>
    have hstep : (z.markedAcc e.2.2.2).withSeg e.1 e.2.2.1 =
        { z with seg := z.seg.set e.1 e.2.2.1, mem := (z.markedAcc e.2.2.2).mem } := by
      rw [State.withSeg, markedAcc_eq]
    rw [State.dataLoaded, List.foldl_cons, ← State.dataLoaded, ih, hstep, List.map_cons, State.markedSeq, List.foldl_cons]
    congr 1
    exact markedSeq_mem_congr _ rfl

theorem stacked_eq (y : State) (i : TaskImage) (cd sd : Nat × Desc) : y.stacked i cd sd =
    { y with seg := { y.seg with cs := Seg.ofDesc i.cs cd.2, ss := Seg.ofDesc i.ss sd.2 },
             mem := (State.markedSeq [accessedByte cd.1 cd.2, accessedByte sd.1 sd.2] y).mem } := by
  have hmem : (y.stacked i cd sd).mem = (State.markedSeq [accessedByte cd.1 cd.2, accessedByte sd.1 sd.2] y).mem :=
    markedAcc_mem_congr (s := (y.markedAcc (accessedByte cd.1 cd.2)).withSeg .cs (Seg.ofDesc i.cs cd.2))
      (t := y.markedAcc (accessedByte cd.1 cd.2)) rfl _
  rw [← hmem, State.stacked, State.withSeg, markedAcc_eq, State.withSeg, markedAcc_eq]
  rfl

/-! ### The end of the switch -/

/-- A task entered with the segment registers `g`, in memory `m`. -/
def State.inTask (y : State) (k : Switch) (tsel : Half) (d : Desc) (l : Seg) (g : Segs) (m : List Cell) : State :=
  { (y.imaged k tsel d (descBase d).toNat).withLdtr l with
    mem := m, seg := g,
    dbg := { y.dbg with dr7 := y.dbg.dr7 &&& ~~~0x55#32, pendT := y.dbg.pendT || (y.taskAt (descBase d).toNat).trap } }

/-- The segment registers of a task. -/
def TaskImage.segs (i : TaskImage) (cd sd : Nat × Desc) (ds es fs gs : Seg × Option Nat) : Segs :=
  { es := es.1, cs := Seg.ofDesc i.cs cd.2, ss := Seg.ofDesc i.ss sd.2, ds := ds.1, fs := fs.1, gs := gs.1 }

/-- The data segment registers of a task, with what each is loaded with. -/
def TaskImage.loads (i : TaskImage) (ds es fs gs : Seg × Option Nat) : List (SegReg × Half × Seg × Option Nat) :=
  [(.ds, i.ds, ds), (.es, i.es, es), (.fs, i.fs, fs), (.gs, i.gs, gs)]

theorem like_endTask {y u : State} {k : Switch} {tsel : Half} {d : Desc} {l : Seg} {cd sd : Nat × Desc}
    {ds es fs gs : Seg × Option Nat} {i : TaskImage} (hi : i = y.taskAt (descBase d).toNat)
    (h : Runs (taskSegments i) u fun _ t =>
      Like ((((y.imaged k tsel d (descBase d).toNat).withLdtr l).stacked i cd sd).dataLoaded (i.loads ds es fs gs)) t)
    (hoff : i.eip.toNat ≤ (descLimit cd.2).toNat) :
    Runs (endTask (taskSegments i) i) u fun _ t => Like (y.inTask k tsel d l (i.segs cd sd ds es fs gs)
      (State.markedSeq [accessedByte cd.1 cd.2, accessedByte sd.1 sd.2, ds.2, es.2, fs.2, gs.2] y).mem) t := by
  subst hi
  refine runs_bind h fun _ v hv => ?_
  have hmem : (State.markedSeq [ds.2, es.2, fs.2, gs.2] { (y.imaged k tsel d (descBase d).toNat).withLdtr l with
      seg := { (y.imaged k tsel d (descBase d).toNat).seg with
        cs := Seg.ofDesc (y.taskAt (descBase d).toNat).cs cd.2, ss := Seg.ofDesc (y.taskAt (descBase d).toNat).ss sd.2 },
      mem := (State.markedSeq [accessedByte cd.1 cd.2, accessedByte sd.1 sd.2]
        ((y.imaged k tsel d (descBase d).toNat).withLdtr l)).mem }).mem =
      (State.markedSeq [accessedByte cd.1 cd.2, accessedByte sd.1 sd.2, ds.2, es.2, fs.2, gs.2] y).mem :=
    markedSeq_mem_congr [ds.2, es.2, fs.2, gs.2] (t := State.markedSeq [accessedByte cd.1 cd.2, accessedByte sd.1 sd.2] y)
      (markedSeq_mem_congr [accessedByte cd.1 cd.2, accessedByte sd.1 sd.2] (t := y) rfl)
  rw [dataLoaded_eq, stacked_eq] at hv
  refine like_get_bind hv fun c st n b => runs_if_neg (not_lt.2 hoff) ?_
  refine runs_mono (like_modify (f := fun t => { t with dbg := { t.dbg with pendT := t.dbg.pendT || (y.taskAt (descBase d).toNat).trap } })
    (like_noisy _ c st n b) fun _ _ _ _ _ => rfl) fun _ t ht => ?_
  rw [← hmem]
  exact ht

end Sys2Proof.Machine

/-! SUPPORT. A task switch as a whole. -/
namespace Sys2Proof.Machine
open Host

/-! ### The target of a switch -/

/-- What `State.taskTarget` asks. -/
theorem taskTarget_eq_some {s : State} {k : Switch} {tsel : Half} {a : Nat} {d : Desc} (h : s.taskTarget k tsel = some (a, d)) :
    bit tsel 2 = false ∧ isNull tsel = false ∧ s.descriptor tsel = some (a, d) ∧ descS d = false ∧
      descType d = (if k = .iret then 11 else 9) ∧ descP d = true ∧ 0x67 ≤ (descLimit d).toNat ∧ s.sysReach (descBase d).toNat 104 := by
  have hsel : ¬ (bit tsel 2 || isNull tsel) = true := by
    intro hc
    rw [State.taskTarget, if_pos hc] at h
    cases h
  rw [State.taskTarget, if_neg hsel] at h
  rw [Bool.or_eq_true, not_or, Bool.not_eq_true, Bool.not_eq_true] at hsel
  cases hd : s.descriptor tsel with
  | none =>
    rw [hd] at h
    exact absurd h.symm (Option.some_ne_none (a, d))
  | some p =>
    rw [hd] at h
    dsimp only at h
    obtain ⟨hc, hp⟩ := Option.ite_none_right_eq_some.1 h
    obtain rfl : p = (a, d) := Option.some.inj hp
    simp only [Bool.and_eq_true, Bool.not_eq_true', decide_eq_true_eq, plainAt_iff] at hc
    obtain ⟨⟨⟨⟨hs, hty⟩, hp⟩, hlim⟩, hr⟩ := hc
    exact ⟨hsel.1, hsel.2, rfl, hs, hty, hp, hlim, hr⟩

theorem like_tssTarget {s u : State} (h : Like s u) {k : Switch} {tsel : Half} {a : Nat} {d : Desc}
    (ht : s.taskTarget k tsel = some (a, d)) : Runs (tssTarget k tsel) u fun p t => (p.1.toNat = a ∧ p.2 = d) ∧ Like s t := by
  obtain ⟨hti, hn, hd, hs, hty, hp, hlim, -⟩ := taskTarget_eq_some ht
  refine runs_if_neg (by rw [hti]; exact Bool.false_ne_true) (runs_if_neg (by rw [hn]; exact Bool.false_ne_true) ?_)
  refine runs_bind (like_needDesc h _ hd) fun p v ⟨hw, hpd, hv⟩ => ?_
  obtain ⟨w, d'⟩ := p
  obtain rfl : d' = d := hpd
  have hkind : ¬(descS d' || !decide (if k = .iret then descType d' = 3 ∨ descType d' = 11 else descType d' = 1 ∨ descType d' = 9)) = true := by
    rw [hs, hty]
    by_cases hk : k = .iret <;> simp [hk]
  have hwide : ¬ (descLimit d').toNat < (if bit (descType d') 3 then 0x67 else 0x2B) := by
    split <;> omega
  exact runs_if_neg hkind (runs_if_neg (by rw [hp]; exact Bool.false_ne_true) (runs_if_neg hwide (runs_pure ⟨⟨hw, rfl⟩, hv⟩)))

/-! ### The switch -/

/-- The flags of the outgoing task as they are saved: IRET clears NT (42_task_management.md R730). -/
def savedFlags (k : Switch) (image : Word) : Word := if k = .iret then setBit image fNT false else image

/-- The state with the stores of a task switch made. -/
def State.switched (s : State) (k : Switch) (a base : Nat) (image : Word) : State :=
  State.storedSeq (s.taskEnters k a base) (State.storedSeq (s.taskSaves k image) s)

theorem switched_eq (s : State) (k : Switch) (a base : Nat) (image : Word) :
    s.switched k a base image = { s with mem := (s.switched k a base image).mem } := by
  rw [State.switched, storedSeq_eq, storedSeq_eq]

theorem switched_link (s : State) (k : Switch) (a base : Nat) (image : Word) : s.switched k a base image =
    if k = .call ∨ k = .int
    then (State.storedSeq (takesNew k a) (State.storedSeq (s.taskSaves k image) s)).stored base 2 s.sys.tr.sel.toNat
    else State.storedSeq (takesNew k a) (State.storedSeq (s.taskSaves k image) s) := by
  rw [State.switched, State.taskEnters, storedSeq_append]
  by_cases hk : k = .call ∨ k = .int
  · rw [if_pos hk, if_pos hk]
    rfl
  · rw [if_neg hk, if_neg hk]
    rfl

section
variable {s : State} {k : Switch} {tsel : Half} {a : Nat} {d : Desc} {image : Word} {q : Unit → State → Prop}

theorem storedSeq_sys (l : List (Nat × Nat × (State → Nat))) (s : State) :
    (State.storedSeq l s).sys = s.sys ∧ (State.storedSeq l s).plain = s.plain := by
  rw [storedSeq_eq]
  exact ⟨rfl, rfl⟩

theorem storedSeq_taskSaves (s : State) (k : Switch) (image : Word) : State.storedSeq (s.taskSaves k image) s =
    State.storedSeq (s.freesOld k) (s.stored (s.sys.tr.base + 32).toNat 64 (s.savedTask image)) := by
  rw [State.taskSaves, storedSeq_append]
  rfl

/-- The task switch with its places found. -/
theorem like_passTask {u : State} (h : Like s u) (hc : CanLeave s) (ht : s.taskTarget k tsel = some (a, d))
    (hfree : k ≠ .iret → ((State.storedSeq (s.taskSaves k (savedFlags k image)) s).num (a + 4) 4).testBit 9 = false)
    {y : State} (hy : y = s.switched k a (descBase d).toNat (savedFlags k image))
    (hvm : bit (taskFlags k (y.taskAt (descBase d).toNat)) fVM = false)
    (he : ∀ v, Like (y.imaged k tsel d (descBase d).toNat) v →
      Runs (endTask (taskSegments (y.taskAt (descBase d).toNat)) (y.taskAt (descBase d).toNat)) v q)
    {ob linkAt : List Span} (hob : ob = if isNull s.sys.tr.sel then [] else spansAt (s.oldDesc.toNat + 4) 4)
    (hlink : k = .call ∨ k = .int → linkAt = spansAt (descBase d).toNat 2) :
    Runs (do
      saveTask (spansAt (s.sys.tr.base + 32).toNat 64) (savedFlags k image)
      passBusy k tsel ob (spansAt (a + 4) 4)
      inNewTask (enterTask k tsel d (spansAt (descBase d).toNat 104) linkAt none)) u q := by
  obtain ⟨-, -, -, hs, hty, -, -, -⟩ := taskTarget_eq_some ht
  have hkind : (Seg.ofDesc tsel d).type = 9 ∨ (Seg.ofDesc tsel d).type = 11 := by
    rw [show (Seg.ofDesc tsel d).type = descType d from if_neg (by rw [hs]; exact Bool.false_ne_true)]
    by_cases hk : k = .iret
    · exact .inr (hty.trans (if_pos hk))
    · exact .inl (hty.trans (if_neg hk))
  refine runs_bind (like_saveTask h hc (savedFlags k image) (s.sys.tr.base + 32).toNat) fun _ v1 h1 => ?_
  refine runs_bind (like_passBusy tsel h1 ((stored_plain ..).trans hc.plain) hob (by rw [← storedSeq_taskSaves]; exact hfree))
    fun _ v2 h2 => runs_inNewTask ?_
  rw [← storedSeq_taskSaves] at h2
  have hsys := storedSeq_sys (takesNew k a) (State.storedSeq (s.taskSaves k (savedFlags k image)) s)
  rw [(storedSeq_sys (s.taskSaves k _) s).1, (storedSeq_sys (s.taskSaves k _) s).2] at hsys
  refine like_enterTask (x := State.storedSeq (takesNew k a) (State.storedSeq (s.taskSaves k (savedFlags k image)) s)) h2
    (hsys.2.trans hc.plain) hkind hlink ?_ hvm he
  rw [hsys.1, hy]
  exact switched_link s k a _ _

theorem runs_if_bind {α β : Type} {c : Prop} [Decidable c] {x z : M α} {f : α → M β} {u : State} {q : β → State → Prop}
    (h : Runs ((if c then x else z : M α) >>= f) u q) : Runs (if c then x >>= f else z >>= f) u q := by
  split <;> rename_i hc
  · rwa [if_pos hc] at h
  · rwa [if_neg hc] at h

/-- A task switch whose new task is loaded by what `he` says. -/
theorem like_taskSwitch {u : State} (h : Like s u) (hc : CanLeave s) {w : Word} (hw : w.toNat = a) (ht : s.taskTarget k tsel = some (a, d))
    (hfree : k ≠ .iret → ((State.storedSeq (s.taskSaves k (savedFlags k image)) s).num (a + 4) 4).testBit 9 = false)
    {y : State} (hy : y = s.switched k a (descBase d).toNat (savedFlags k image))
    (hvm : bit (taskFlags k (y.taskAt (descBase d).toNat)) fVM = false)
    (he : ∀ v, Like (y.imaged k tsel d (descBase d).toNat) v →
      Runs (endTask (taskSegments (y.taskAt (descBase d).toNat)) (y.taskAt (descBase d).toNat)) v q) :
    Runs (taskSwitch k tsel w d image none) u q := by
  obtain ⟨-, -, hd, -, hty, -, -, -, hbase⟩ := taskTarget_eq_some ht
  obtain ⟨-, -, -, ⟨-, hroom⟩, -⟩ := State.descriptor_eq_some.1 hd
  have hwide : bit (descType d) 3 = true := by
    rw [hty]
    by_cases hk : k = .iret
    · rw [if_pos hk]; rfl
    · rw [if_neg hk]; rfl
  have hplus : ∀ p : Word, p.toNat + 8 ≤ 0xFEE00000 → (p + 4).toNat = p.toNat + 4 := fun p hp =>
    toNat_add_lt hp (k := 4) (by decide)
  have hw4 : (w + 4).toNat = a + 4 := by rw [hplus w (by omega), hw]
  have htail := fun {u : State} (h : Like s u) {ob linkAt : List Span} => like_passTask (image := image) (ob := ob) (linkAt := linkAt)
    h hc ht hfree hy hvm he
  refine like_get_bind h fun c st n b => ?_
  dsimp only
  rw [noisy_sys, Seg.tss32, hc.wide, if_pos rfl, hwide, if_pos rfl]
  refine runs_bind (like_tssHolds (like_noisy s c st n b) hc.limit) fun _ v1 h1 => ?_
  refine runs_bind (like_oldTaskDesc h1 hc) fun old v2 ⟨hold, h2⟩ => ?_
  rw [savePlaces, Seg.tss32, hc.wide, if_pos rfl]
  refine runs_bind (like_linearSpans h2 hc.plain true false (by decide) hc.room) fun sp v3 ⟨hsp, h3⟩ => ?_
  subst hsp
  refine runs_bind (like_linearSpans h3 hc.plain false false (by decide) hbase) fun ps v4 ⟨hps, h4⟩ => ?_
  subst hps
  refine runs_if_bind (runs_bind (q := fun l t => (k = .call ∨ k = .int → l = spansAt (descBase d).toNat 2) ∧ Like s t) ?_
    fun linkAt v5 ⟨hlink, h5⟩ => ?_)
  · by_cases hk : k = .call ∨ k = .int
    · exact runs_if_pos hk (runs_mono (like_linearSpans h4 hc.plain true false (by decide) (by omega)) fun _ t ⟨hl, ht⟩ => ⟨fun _ => hl, ht⟩)
    · exact runs_if_neg hk (runs_pure ⟨fun hyes => absurd hyes hk, h4⟩)
  · refine runs_bind (like_linearSpans h5 hc.plain true false (by decide) (by omega)) fun nb v6 ⟨hnb, h6⟩ => ?_
    rw [hw4] at hnb
    subst hnb
    by_cases hn : isNull s.sys.tr.sel = true
    · rw [if_pos hn] at hold
      subst hold
      exact htail h6 (if_pos hn).symm hlink
    · rw [if_neg hn] at hold
      subst hold
      obtain ⟨-, hdesc⟩ := hc.desc (Bool.not_eq_true _ ▸ hn)
      refine runs_bind (like_linearSpans h6 hc.plain true false (by decide) ?_) fun ob v7 ⟨hob, h7⟩ => ?_
      · rw [hplus _ hdesc]
        omega
      · rw [hplus _ hdesc] at hob
        exact htail h7 (hob.trans (if_neg hn).symm) hlink

end

end Sys2Proof.Machine

/-! SUPPORT. A task switch does what the statement says. -/
namespace Sys2Proof.Machine
open Host

/-! ### What depends on memory alone -/

theorem MemSame.taskAt {s t : State} (h : MemSame s t) (b : Nat) : t.taskAt b = s.taskAt b := by
  simp only [State.taskAt, h.num]

theorem memOnly_taskSaves (s : State) (k : Switch) (image : Word) : MemOnly (s.taskSaves k image) := by
  intro x hx u t hm
  rw [State.taskSaves, List.mem_append, List.mem_singleton] at hx
  rcases hx with rfl | hx
  · rfl
  · split at hx
    · obtain rfl := List.mem_singleton.1 hx
      exact congrArg (· &&& 0xFFFFFDFF) (hm.num _ _)
    · exact absurd hx List.not_mem_nil

theorem memOnly_taskEnters (s : State) (k : Switch) (a base : Nat) : MemOnly (s.taskEnters k a base) := by
  intro x hx u t hm
  rw [State.taskEnters, List.mem_append] at hx
  rcases hx with hx | hx
  · split at hx
    · exact absurd hx List.not_mem_nil
    · obtain rfl := List.mem_singleton.1 hx
      exact congrArg (· ||| 0x200) (hm.num _ _)
  · split at hx
    · obtain rfl := List.mem_singleton.1 hx
      rfl
    · exact absurd hx List.not_mem_nil

theorem AccessedSeq.congr {l : List (Option Nat)} {s t t' : State} (h : AccessedSeq l s t) (ht : t'.mem = t.mem) : AccessedSeq l s t' := by
  induction l generalizing s with
  | nil => exact fun k => (congrArg (memRead · k) ht).trans (h k)
  | cons o l ih =>
    obtain ⟨m, hm, hrest⟩ := h
    exact ⟨m, hm, ih hrest⟩

theorem descAddr_congr {s t : State} (hg : t.sys.gdtr = s.sys.gdtr) (hl : t.sys.ldtr = s.sys.ldtr) : t.descAddr = s.descAddr := by
  funext sel
  unfold State.descAddr
  rw [hg, hl]

/-- A descriptor in the GDT does not depend on LDTR. -/
theorem MemSame.descriptor_gdt {s t : State} (h : MemSame s t) {sel : Half} (hti : bit sel 2 = false) (hg : t.sys.gdtr = s.sys.gdtr)
    (hp : t.plain = s.plain) : t.descriptor sel = s.descriptor sel := by
  have haddr : t.descAddr sel = s.descAddr sel := by
    simp only [State.descAddr, hti, hg, Bool.false_eq_true, if_false]
  unfold State.descriptor
  rw [haddr, hp]
  cases s.descAddr sel with
  | none => rfl
  | some a =>
    dsimp only
    rw [h.num]

theorem MemSame.taskLdtr {s t : State} (h : MemSame s t) {sel : Half} (hg : t.sys.gdtr = s.sys.gdtr) (hp : t.plain = s.plain)
    (hl : t.sys.ldtr.nulled sel = s.sys.ldtr.nulled sel) : t.taskLdtr sel = s.taskLdtr sel := by
  have hnull : ∀ r : Seg, ({ r with sel := sel, valid := false } : Seg) = r.nulled sel := fun _ => rfl
  unfold State.taskLdtr
  rw [hnull, hnull, hl]
  by_cases hti : bit sel 2 = true
  · rw [if_pos hti, if_pos hti]
  · rw [h.descriptor_gdt (Bool.not_eq_true _ ▸ hti) hg hp]

theorem taskData_congr {s t : State} {cpl : BitVec 2} {g : Seg} {sel : Half} (h : t.descriptor = s.descriptor) :
    t.taskData cpl g sel = s.taskData cpl g sel := by
  unfold State.taskData
  rw [h]

theorem taskData_null {s : State} {cpl : BitVec 2} {g : Seg} {sel : Half} {p : Seg × Option Nat} (h : s.taskData cpl g sel = some p)
    (hn : isNull sel = true) : p = (g.nulled sel, none) := by
  rw [State.taskData, if_pos hn] at h
  exact (Option.some.inj h).symm

/-! ### The flags of the new task -/

theorem taskFlags_eq (k : Switch) (i : TaskImage) : taskFlags k i =
    setBit ((i.eflags &&& 0x3F7FD5#32) ||| 2#32) 14 (decide (k = .call ∨ k = .int) || bit i.eflags 14) := by
  have hset : ∀ e : Word, definedFlags (setBit e 14 true) = setBit ((e &&& 0x3F7FD5#32) ||| 2#32) 14 true := by
    intro e
    rw [setBit_true, setBit_true, definedFlags, BitVec.and_or_distrib_right, BitVec.or_assoc, BitVec.or_assoc]
    rfl
  have hclear : ∀ e : Word, definedFlags (setBit e 14 false) = setBit ((e &&& 0x3F7FD5#32) ||| 2#32) 14 false := by
    intro e
    rw [setBit_false, setBit_false, definedFlags, BitVec.and_or_distrib_right, BitVec.and_assoc, BitVec.and_assoc,
      BitVec.and_comm _ (0x003F7FD5#32)]
    rfl
  unfold taskFlags
  generalize hb : (decide (k = .call ∨ k = .int) || bit i.eflags 14) = b
  rw [show (decide (k = .call ∨ k = .int) || bit i.eflags fNT) = b from hb]
  cases b with
  | true => exact hset _
  | false => exact hclear _

theorem taskFlags_vm (k : Switch) (i : TaskImage) : bit (taskFlags k i) fVM = bit i.eflags 17 := by
  rw [taskFlags_eq]
  generalize (decide (k = .call ∨ k = .int) || bit i.eflags 14) = b
  cases b with
  | true => simp [bit, setBit_true, fVM]
  | false => simp [bit, setBit_false, fVM]

/-! ### The new task is entered -/

section
variable {s u : State} {k : Switch} {tsel : Half} {d : Desc} {mv mw my : List Cell}

/-- The segments of a new task that passes its checks. -/
theorem like_newSegments {i : TaskImage} {l : Seg} {cd sd : Nat × Desc} (hwf : Memory.wf my = true) (hp : s.plain = true)
    (hs : MemSame { s with mem := mv } { s with mem := my })
    (hi : State.taskAt { s with mem := my } (descBase d).toNat = i)
    (hl : State.taskLdtr { s with mem := mv } i.ldt = some l) (hvm : bit i.eflags 17 = false) (hcs : isNull i.cs = false)
    (hss : isNull i.ss = false) (hcd : State.descriptor { s with mem := mv, sys := { s.sys with ldtr := l } } i.cs = some cd)
    (hsd : State.descriptor { s with mem := mv, sys := { s.sys with ldtr := l } } i.ss = some sd)
    (hcok : taskCodeOk i.cs cd.2 = true) (hsok : taskStackOk i.ss sd.2 (rpl i.cs) = true)
    (hacc : AccessedSeq [accessedByte cd.1 cd.2, accessedByte sd.1 sd.2] { s with mem := mv } { s with mem := mw })
    (hdata : ∀ r ∈ [(s.seg.ds, i.ds), (s.seg.es, i.es), (s.seg.fs, i.fs), (s.seg.gs, i.gs)],
      (State.taskData { s with mem := mw, sys := { s.sys with ldtr := l } } (rpl i.cs) r.1 r.2).isSome = true)
    (hu : Like (State.imaged { s with mem := my } k tsel d (descBase d).toNat) u) :
    ∃ ds es fs gs : Seg × Option Nat,
      (let x : State := { s with mem := mw, sys := { s.sys with ldtr := l } }
       x.taskData (rpl i.cs) s.seg.ds i.ds = some ds ∧ x.taskData (rpl i.cs) s.seg.es i.es = some es ∧
         x.taskData (rpl i.cs) s.seg.fs i.fs = some fs ∧ x.taskData (rpl i.cs) s.seg.gs i.gs = some gs) ∧
      Runs (taskSegments i) u fun _ t =>
        Like ((((State.imaged { s with mem := my } k tsel d (descBase d).toNat).withLdtr l).stacked i cd sd).dataLoaded
          (i.loads ds es fs gs)) t := by
  obtain ⟨z, hz⟩ : ∃ z, z = State.imaged { s with mem := my } k tsel d (descBase d).toNat := ⟨_, rfl⟩
  have hzseg : z.seg = s.seg.unusable i := by
    rw [hz, State.imaged, hi]
    exact if_neg (by rw [taskFlags_vm, hvm]; exact Bool.false_ne_true)
  have hzplain : z.plain = s.plain := by
    rw [hz]
    exact committed_plain { s with mem := my } (enteredTr tsel d)
  have hzmem : z.mem = my := by rw [hz]; rfl
  have hzsys : z.sys.gdtr = s.sys.gdtr ∧ z.sys.ldtr.nulled i.ldt = s.sys.ldtr.nulled i.ldt := by
    rw [hz, State.imaged, hi]
    exact ⟨rfl, rfl⟩
  have hzl : z.taskLdtr i.ldt = some l := by
    rw [← hl]
    exact MemSame.taskLdtr (fun j => by rw [hzmem]; exact hs j) hzsys.1 hzplain hzsys.2
  have hzdesc : (z.withLdtr l).descriptor = State.descriptor { s with mem := mv, sys := { s.sys with ldtr := l } } :=
    MemSame.descriptor (fun j => (congrArg (memRead · j) hzmem).trans (hs j)) (descAddr_congr hzsys.1 rfl) hzplain
  have hmarked := markedSeq_same hwf hs hacc
  obtain ⟨st, hst⟩ : ∃ st, st = (z.withLdtr l).stacked i cd sd := ⟨_, rfl⟩
  have hstmem : st.mem = (State.markedSeq [accessedByte cd.1 cd.2, accessedByte sd.1 sd.2] { s with mem := my }).mem := by
    rw [hst, stacked_eq]
    exact markedSeq_mem_congr _ hzmem
  have hstdesc : st.descriptor = State.descriptor { s with mem := mw, sys := { s.sys with ldtr := l } } := by
    refine MemSame.descriptor (fun j => (congrArg (memRead · j) hstmem).trans (hmarked j)) (descAddr_congr ?_ ?_) ?_
    · rw [hst, stacked_eq]
      exact hzsys.1
    · rw [hst, stacked_eq]
      rfl
    · rw [hst, stacked_plain]
      exact hzplain
  have hstseg : st.seg = { s.seg.unusable i with cs := Seg.ofDesc i.cs cd.2, ss := Seg.ofDesc i.ss sd.2 } := by
    rw [hst, stacked_eq, ← hzseg]
    rfl
  have hseg : ∀ e ∈ i.dataRegs, st.seg.get e.1 = (s.seg.get e.1).nulled e.2 := by
    rw [hstseg]
    intro e he
    simp only [TaskImage.dataRegs, List.mem_cons, List.not_mem_nil, or_false] at he
    rcases he with rfl | rfl | rfl | rfl <;> rfl
  obtain ⟨ds, hds⟩ := Option.isSome_iff_exists.1 (hdata (s.seg.ds, i.ds) (by simp))
  obtain ⟨es, hes⟩ := Option.isSome_iff_exists.1 (hdata (s.seg.es, i.es) (by simp))
  obtain ⟨fs, hfs⟩ := Option.isSome_iff_exists.1 (hdata (s.seg.fs, i.fs) (by simp))
  obtain ⟨gs, hgs⟩ := Option.isSome_iff_exists.1 (hdata (s.seg.gs, i.gs) (by simp))
  have hloads : ∀ e ∈ i.loads ds es fs gs, (e.1, e.2.1) ∈ i.dataRegs ∧
      State.taskData { s with mem := mw, sys := { s.sys with ldtr := l } } (rpl i.cs) (s.seg.get e.1) e.2.1 = some e.2.2 := by
    intro e he
    simp only [TaskImage.loads, List.mem_cons, List.not_mem_nil, or_false] at he
    rcases he with rfl | rfl | rfl | rfl
    · exact ⟨by simp [TaskImage.dataRegs], hds⟩
    · exact ⟨by simp [TaskImage.dataRegs], hes⟩
    · exact ⟨by simp [TaskImage.dataRegs], hfs⟩
    · exact ⟨by simp [TaskImage.dataRegs], hgs⟩
  rw [← hz]
  refine ⟨ds, es, fs, gs, ⟨hds, hes, hfs, hgs⟩, ?_⟩
  refine like_taskSegments (by rw [hz]; exact hu) (hzplain.trans hp) hzl hcs hss (hzdesc ▸ hcd) (hzdesc ▸ hsd) hcok hsok rfl ?_ ?_
  · intro e he
    obtain ⟨hreg, hload⟩ := hloads e he
    refine ⟨s.seg.get e.1, by rw [← hst, taskData_congr hstdesc]; exact hload, fun hn => ?_⟩
    rw [← hst, hseg _ hreg, taskData_null hload hn]
    rfl
  · intro e he hn
    obtain ⟨hreg, hload⟩ := hloads e he
    rw [← hst, hseg _ hreg, taskData_null hload hn]

theorem like_newTask (hwf : Memory.wf my = true) (hp : s.plain = true)
    (hs : MemSame { s with mem := mv } { s with mem := my })
    (hstart : TaskStarts s { s with mem := mv } { s with mem := mw } (descBase d).toNat)
    (hu : Like (State.imaged { s with mem := my } k tsel d (descBase d).toNat) u) :
    Runs (endTask (taskSegments (State.taskAt { s with mem := mv } (descBase d).toNat))
      (State.taskAt { s with mem := mv } (descBase d).toNat)) u fun _ t =>
      ∃ F, Like F t ∧ TaskEntered s { s with mem := mv } { s with mem := mw } { F with ins := Ins.clear } k tsel d ∧
        F.msr = s.msr ∧ F.tr.keepRf = true ∧ F.sys.cr3 = s.sys.cr3 := by
  obtain ⟨cd, sd, l, hl, hvm, hcs, hss, ⟨hcd, hsd⟩, hcok, hsok, hoff, hacc, hdata⟩ := hstart
  have hi : State.taskAt { s with mem := my } (descBase d).toNat = State.taskAt { s with mem := mv } (descBase d).toNat := hs.taskAt _
  generalize hib : State.taskAt { s with mem := mv } (descBase d).toNat = i at *
  obtain ⟨ds, es, fs, gs, hregs, hsegs⟩ := like_newSegments hwf hp hs hi hl hvm hcs hss hcd hsd hcok hsok hacc hdata hu
  refine runs_mono (like_endTask hi.symm hsegs hoff) fun _ t ht => ⟨_, ht, ?_, rfl, rfl, ?_⟩
  · unfold TaskEntered
    rw [hib]
    refine ⟨cd, sd, l, ds, es, fs, gs, hl, ⟨hcd, hsd⟩, hregs, ?_, ?_, ?_, ?_, ?_, rfl, ?_⟩
    · exact accessedSeq_of (markedSeq_wf _ hwf) (markedSeq_same hwf hs hacc) rfl
    · exact congrArg TaskImage.gpr hi
    · exact congrArg TaskImage.eip hi
    · exact (congrArg (taskFlags k) hi).trans (taskFlags_eq k i)
    · exact congrArg (fun j : TaskImage => s.dbg.pendT || j.trap) hi
    · refine ⟨⟨?_, rfl, rfl, rfl, rfl, rfl, rfl, rfl, rfl, rfl, rfl, rfl, rfl, rfl⟩, rfl, rfl, rfl, rfl, rfl, rfl, rfl, rfl, rfl⟩
      refine (congrArg (fun j => if bit (taskFlags k j) fVM then 3 else rpl j.cs) hi).trans ?_
      exact if_neg (by rw [taskFlags_vm, hvm]; exact Bool.false_ne_true)
  · rfl

end

end Sys2Proof.Machine

/-! SUPPORT. Task switches by JMP and CALL, by IRET, and by events. -/
namespace Sys2Proof.Machine
open Host

/-- A task switch to a task that passes its checks enters it. -/
theorem like_switches {s u v w : State} {k : Switch} {tsel : Half} {wa : Word} {a : Nat} {d : Desc} {image : Word}
    (hs : Memory.wf s.mem = true) (h : Like s u) (hc : s.canLeaveTask = true) (hw : wa.toNat = a)
    (ht : s.taskTarget k tsel = some (a, d)) (hsw : Switches s k a d (savedFlags k image) v w) :
    Runs (taskSwitch k tsel wa d image none) u fun _ t =>
      ∃ F, Like F t ∧ TaskEntered s v w { F with ins := Ins.clear } k tsel d ∧ F.msr = s.msr ∧ F.tr.keepRf = true ∧
        F.sys.cr3 = s.sys.cr3 := by
  obtain ⟨hv, hw', ⟨m, hsaves, hidle, henters⟩, hstart⟩ := hsw
  obtain ⟨mv, rfl⟩ : ∃ m, v = { s with mem := m } := ⟨_, hv⟩
  obtain ⟨mw, rfl⟩ : ∃ m, w = { s with mem := m } := ⟨_, hw'⟩
  have hleave := canLeave_of hc
  have hsaved := storedSeq_same (memOnly_taskSaves s k (savedFlags k image)) hs (s' := s) (fun _ => rfl) hsaves
  have hswitched := storedSeq_same (memOnly_taskEnters s k a (descBase d).toNat) (storedSeq_wf _ hs) hsaved henters
  obtain ⟨my, hy⟩ : ∃ my, s.switched k a (descBase d).toNat (savedFlags k image) = { s with mem := my } := ⟨_, switched_eq ..⟩
  have hsame : MemSame { s with mem := mv } { s with mem := my } := by
    rw [← hy]
    exact hswitched
  have hwf : Memory.wf my = true := by
    have hmem : Memory.wf (s.switched k a (descBase d).toNat (savedFlags k image)).mem = true := storedSeq_wf _ (storedSeq_wf _ hs)
    rw [hy] at hmem
    exact hmem
  have hvm : bit (taskFlags k (State.taskAt { s with mem := my } (descBase d).toNat)) fVM = false := by
    obtain ⟨-, -, -, -, hvm, -⟩ := hstart
    rw [hsame.taskAt, taskFlags_vm]
    exact hvm
  refine like_taskSwitch h hleave hw ht (fun hk => ?_) hy.symm hvm fun x hx => ?_
  · rw [hsaved.num]
    exact hidle hk
  · rw [hsame.taskAt]
    exact like_newTask hwf hleave.plain hsame hstart hx

/-- The same task is entered in a state that agrees with another one in what the switch does not write. -/
theorem TaskEntered.at {s s' v w F t : State} {k : Switch} {tsel : Half} {d : Desc} (h : TaskEntered s v w F k tsel d)
    (hsys : s'.sys = s.sys) (hdbg : s'.dbg = s.dbg) (hseg : s'.seg = s.seg) (hmem : t.mem = F.mem) (hgpr : t.gpr = F.gpr)
    (heip : t.eip = F.eip) (hfl : t.eflags = F.eflags) (hsg : t.seg = F.seg) (hp : t.dbg.pendT = F.dbg.pendT)
    (hq : ∀ n e y, QuietButSeg { s with cpl := n, dbg := e, sys := y } F → QuietButSeg { s' with cpl := n, dbg := e, sys := y } t) :
    TaskEntered s' v w t k tsel d := by
  obtain ⟨cd, sd, l, ds, es, fs, gs, hl, hcode, hdata, hacc, h1, h2, h3, h4, h5, h6⟩ := h
  refine ⟨cd, sd, l, ds, es, fs, gs, hl, ?_, ?_, hacc.congr hmem, hgpr.trans h1, heip.trans h2, hfl.trans h3, ?_, hsg.trans h5, ?_⟩
  · rw [hsys]
    exact hcode
  · rw [hsys, hseg]
    exact hdata
  · rw [hp, h4, hdbg]
  · rw [hsys, hdbg]
    exact hq _ _ _ h6

theorem QuietButSeg.trans {s t u : State} (h : QuietButSeg s t) (h' : QuietButSeg t u) : QuietButSeg s u := by
  obtain ⟨⟨a1, a2, a3, a4, a5, a6, a7, a8, a9, -, a11, a12, a13, a14⟩, b1, b2, b3, c1, c2, c3, c4, c5, c6⟩ := h
  obtain ⟨⟨a1', a2', a3', a4', a5', a6', a7', a8', a9', hins, a11', a12', a13', a14'⟩, b1', b2', b3', c1', c2', c3', c4', c5', c6'⟩ := h'
  refine ⟨⟨a1'.trans a1, a2'.trans a2, a3'.trans a3, a4'.trans a4, a5'.trans a5, a6'.trans a6, a7'.trans a7, a8'.trans a8,
    a9'.trans a9, hins, a11'.trans a11, a12'.trans a12, a13'.trans a13, ?_⟩, b1'.trans b1, b2'.trans b2, b3'.trans b3, c1'.trans c1,
    c2'.trans c2, c3'.trans c3, c4'.trans c4, c5'.trans c5, c6'.trans c6⟩
  unfold Latches.same at a14 a14' ⊢
  rw [a14', a14]

/-- An instruction whose body ends in a new task completes with it. -/
theorem TaskEntered.completed {s v w F u s0 : State} {k : Switch} {tsel : Half} {d : Desc}
    (h : TaskEntered s.after v w { F with ins := Ins.clear } k tsel d) (hk : F.tr.keepRf = true) (hu : Like F u) :
    TaskEntered s v w (u.completed s0) k tsel d := by
  have hquiet : QuietButSeg { F with ins := Ins.clear } (u.completed s0) := ((Still.like (s := F) (x := F)
    ⟨rfl, rfl, rfl, rfl, rfl, rfl, rfl, rfl, rfl, rfl, rfl, rfl, rfl, rfl, rfl, rfl⟩ hu).quiet s0).1
  obtain ⟨c, st, n, b, rfl⟩ := hu
  exact h.at rfl rfl rfl rfl rfl rfl (completed_eflags_kept hk) rfl rfl fun _ _ _ hq => hq.trans hquiet

/-! ### JMP and CALL -/

/-- What `State.taskSelector` asks. -/
theorem taskSelector_eq_some {s : State} {sel tsel : Half} (h : s.taskSelector sel = some tsel) :
    ∃ ga g, isNull sel = false ∧ s.descriptor sel = some (ga, g) ∧ descS g = false ∧ ¬ descDpl g < s.cpl ∧ ¬ descDpl g < rpl sel ∧
      (descType g = 5 ∧ descP g = true ∧ tsel = gateSel g ∨ descType g = 9 ∧ tsel = sel) := by
  rw [State.taskSelector] at h
  cases hn : isNull sel with
  | true =>
    rw [hn] at h
    cases h
  | false =>
    rw [hn, if_neg Bool.false_ne_true] at h
    cases hd : s.descriptor sel with
    | none =>
      rw [hd] at h
      cases h
    | some p =>
      obtain ⟨ga, g⟩ := p
      rw [hd] at h
      dsimp only at h
      obtain ⟨hpriv, h⟩ := Option.ite_none_left_eq_some.1 h
      simp only [Bool.or_eq_true, decide_eq_true_eq, not_or, Bool.not_eq_true] at hpriv
      obtain ⟨⟨hs, hcpl⟩, hrpl⟩ := hpriv
      refine ⟨ga, g, rfl, rfl, hs, hcpl, hrpl, ?_⟩
      by_cases hg : descType g = 5
      · rw [if_pos hg] at h
        obtain ⟨hp, h⟩ := Option.ite_none_right_eq_some.1 h
        exact .inl ⟨hg, hp, (Option.some.inj h).symm⟩
      · rw [if_neg hg] at h
        obtain ⟨ht, h⟩ := Option.ite_none_right_eq_some.1 h
        exact .inr ⟨ht, (Option.some.inj h).symm⟩

/-- The switch that a JMP or a CALL makes. -/
def farSwitch (call : Bool) : Switch := if call then .call else .jmp

/-- A far transfer to a TSS or to a task gate switches tasks. -/
theorem like_farToTask {s u : State} (h : Like s u) {call : Bool} {sel tsel : Half} {off : Word} {a : Nat} {d : Desc}
    (hm : s.mode8086 = false) (hsel : s.taskSelector sel = some tsel) (ht : s.taskTarget (farSwitch call) tsel = some (a, d))
    {q : Unit → State → Prop}
    (hq : ∀ w v, w.toNat = a → Like s v → Runs (taskSwitch (farSwitch call) tsel w d s.eflags none) v q) :
    Runs (farTransfer call sel off) u q := by
  obtain ⟨ga, g, hn, hdg, hs, hcpl, hrpl, hkind⟩ := taskSelector_eq_some hsel
  have hty : (descType g).toNat = 5 ∨ (descType g).toNat = 9 := by
    rcases hkind with ⟨hty, -⟩ | ⟨hty, -⟩
    · exact .inl (by rw [hty]; rfl)
    · exact .inr (by rw [hty]; rfl)
  refine like_get_bind h fun c st n b => ?_
  refine runs_if_neg (Bool.eq_false_iff.1 hm) (like_get_bind (like_noisy s c st n b) fun c st n b => ?_)
  rw [hn, if_neg Bool.false_ne_true]
  refine runs_bind (like_needDesc (like_noisy s c st n b) 13 hdg) fun p v ⟨_, hd', hv⟩ => ?_
  obtain ⟨w', g'⟩ := p
  obtain rfl : g' = g := hd'
  dsimp only
  rw [hs, Bool.not_false, if_pos rfl]
  refine runs_if_neg (by omega) (runs_if_pos (by omega) (like_get_bind hv fun c st n b => ?_))
  refine runs_if_neg (by simp [hcpl, hrpl]) ?_
  refine runs_if_bind (runs_bind (q := fun x t => x = tsel ∧ Like s t) ?_ fun x v ⟨hx, hv⟩ => ?_)
  · rcases hkind with ⟨hty, hp, rfl⟩ | ⟨hty, rfl⟩
    · exact runs_if_pos hty (runs_if_neg (by simp [hp]) (runs_pure ⟨rfl, like_noisy s c st n b⟩))
    · exact runs_if_neg (by rw [hty]; decide) (runs_pure ⟨rfl, like_noisy s c st n b⟩)
  · subst hx
    refine runs_bind (like_tssTarget hv ht) fun p x ⟨⟨hw, hpd⟩, hx⟩ => ?_
    obtain ⟨w, t⟩ := p
    obtain rfl : t = d := hpd
    exact hq w x hw hx

theorem task_by_far {call : Bool} {f : FarForm} {tsel : Half} {a : Nat} {d : Desc} {s v w : State} (hs : s.ready)
    (hl : s.lockOk false = true) (hlbr : s.noLbr = true) (hm : s.mode8086 = false) (hok : f.ok s = true)
    (hsel : s.taskSelector (f.sel s) = some tsel) (ht : s.taskTarget (farSwitch call) tsel = some (a, d))
    (hc : s.canLeaveTask = true) (hsw : Switches s.after (farSwitch call) a d s.eflags v w) :
    Completes (f.instr call) s fun t => TaskEntered s v w t (farSwitch call) tsel d := by
  have hflags : savedFlags (farSwitch call) s.eflags = s.eflags := if_neg (by cases call <;> decide)
  obtain ⟨body, hex, hb⟩ := like_farForm (call := call) hok fun x hx =>
    like_farToTask hx (sel := f.sel s) (off := f.off s) hm hsel ht fun wa x' hwa hx' =>
      like_switches (s := s.start) (image := s.eflags) hs.1 hx' hc hwa ht (by rw [hflags]; exact hsw)
  refine completes_of_ends hex hl (runs_mono hb fun _ u ⟨F, hu, hent, hmsr, hkeep, _⟩ => ⟨fun _ => ?_, hent.completed hkeep hu⟩)
  obtain ⟨c, st, n, b, rfl⟩ := hu
  rw [noisy_noLbr, State.noLbr, hmsr]
  exact hlbr

/-! ### IRET -/

theorem task_by_iret {a : Nat} {d : Desc} {s v w : State} (hs : s.ready) (hl : s.lockOk false = true) (hlbr : s.noLbr = true)
    (hp : s.protMode = true) (hnt : s.flag fNT = true) (hno : s.noReturn = []) (hlim : 1 ≤ s.sys.tr.limit.toNat)
    (hlink : s.plainAt s.sys.tr.base 2 = true)
    (ht : s.taskTarget .iret (BitVec.ofNat 16 (s.num s.sys.tr.base.toNat 2)) = some (a, d)) (hc : s.canLeaveTask = true)
    (hsw : Switches s.after .iret a d (setBit s.eflags 14 false) v w) :
    Completes .iretIretd s fun t => TaskEntered { s with lat := { s.lat with nmiBlocked := false } } v w t .iret
      (BitVec.ofNat 16 (s.num s.sys.tr.base.toNat 2)) d := by
  obtain ⟨hprot, hvm⟩ : s.prot = true ∧ s.flag fVM = false := by simpa [State.protMode] using hp
  have hi : iret s.o32 s.start = (do taskReturn; iretTail s.o32 s.start : M Unit) s.start := by
    unfold iret
    rw [run_bind, run_get]
    dsimp only
    rw [if_neg (by simp [State.v86, show s.start.flag fVM = false from hvm]),
      if_pos (by simp [show s.start.prot = true from hprot, show s.start.flag fVM = false from hvm, show s.start.flag fNT = true from hnt])]
    rfl
  have hbody : Runs taskReturn s.start fun _ t => ∃ F, Like F t ∧ TaskEntered s.after v w { F with ins := Ins.clear } .iret
      (BitVec.ofNat 16 (s.num s.sys.tr.base.toNat 2)) d ∧ F.msr = s.msr ∧ F.tr.keepRf = true ∧ F.sys.cr3 = s.sys.cr3 := by
    refine like_get_bind (Like.refl s.start) fun c st n b => ?_
    refine runs_bind (like_tssHolds (like_noisy s.start c st n b) hlim) fun _ v1 h1 => ?_
    refine runs_bind (like_sysRead h1 (a := s.sys.tr.base) (n := 2) ((plainAt_iff s _ 2).1 hlink) (by decide)) fun x v2 ⟨hx, h2⟩ => ?_
    subst hx
    refine runs_bind (like_tssTarget (s := s.start) h2 ht) fun p v3 ⟨⟨hw, hpd⟩, h3⟩ => ?_
    obtain ⟨wa, t⟩ := p
    obtain rfl : t = d := hpd
    exact like_switches (s := s.start) (image := s.eflags) hs.1 h3 hc hw ht hsw
  obtain ⟨_, u, hrun, F, hF, hent, hmsr, hkeep, hcr3⟩ := hbody
  have hbar : s.start.badRestart F.seg.cs.sel F.eip F.sys.cr3 s.o32 = false := by
    rw [State.badRestart, show s.start.noReturn = [] from hno]
    rfl
  obtain ⟨_, x, hrun', hx⟩ := like_iretTail hF hbar
  refine completes_of_ends (i := .iretIretd) (body := iretBody) rfl hl ⟨_, x, hi.trans ((run_bind_ok _ hrun).trans hrun'), fun _ => ?_, ?_⟩
  · obtain ⟨c, st, n, b, rfl⟩ := hx
    rw [noisy_noLbr, State.noLbr, show (s.start.returnedTo F).msr = s.msr from hmsr]
    exact hlbr
  · have hquiet : QuietButSeg { s.start.returnedTo F with ins := Ins.clear } (x.completed s) :=
      ((Still.like (s := s.start.returnedTo F) (x := s.start.returnedTo F)
        ⟨rfl, rfl, rfl, rfl, rfl, rfl, rfl, rfl, rfl, rfl, rfl, rfl, rfl, rfl, rfl, rfl⟩ hx).quiet s).1
    obtain ⟨c, st, n, b, rfl⟩ := hx
    refine hent.at rfl rfl rfl rfl rfl rfl (completed_eflags_kept rfl) rfl rfl fun m e y hq => ?_
    refine QuietButSeg.trans ?_ hquiet
    obtain ⟨⟨a1, a2, a3, a4, a5, a6, a7, a8, a9, a10, a11, a12, a13, a14⟩, hrest⟩ := hq
    have hnone : s.start.frameTaken = s.noReturn := by
      rw [State.frameTaken, show s.start.noReturn = [] from hno, hno]
      rfl
    refine ⟨⟨a1, a2, a3, a4, a5, a6, a7, a8, a9, a10, a11, a12, hnone, ?_⟩, hrest⟩
    exact congrArg (fun l : Latches => { l with nmiBlocked := false }) a14

end Sys2Proof.Machine

/-! SUPPORT. An event that is delivered through a task gate; the obligation on task switches. -/
namespace Sys2Proof.Machine
open Host

/-- What follows a delivery that records no branch, is no debug exception and no machine check. -/
theorem run_afterDelivery {s : State} {e : Entry} (hvec : e.vec ≠ 18) (hdbg : e.isDebug = false) (hlbr : s.noLbr = true)
    (stepping : Bool) (cs : Half) (eip cr3 : Word) : afterDelivery e stepping cs eip cr3 s =
      .ok () (s.settled (s.marksAfter cs eip cr3) (decide (e.src = .nmi)) stepping) := by
  have hno : ¬ (e.vec = 18 ∧ e.src = .abort ∧ (!bit s.msr.mcgStatus 0) = true) := fun hx => hvec hx.1
  rw [afterDelivery, run_bind, run_modify, if_neg hno]
  dsimp only
  rw [hdbg, if_neg Bool.false_ne_true, run_bind, run_get]
  dsimp only
  refine (run_bind_ok _ (run_recordBranch (by exact hlbr) true e.from_ s.eip)).trans ?_
  cases stepping with
  | true =>
    rw [State.settled, Bool.or_true]
    rfl
  | false =>
    rw [State.settled, Bool.or_false]
    rfl

theorem like_gateDesc {s u : State} (h : Like s u) {a : Word} (hr : s.sysReach a.toNat 8) :
    Runs (readDesc a) u fun x t => x = BitVec.ofNat 64 (s.num a.toNat 8) ∧ Like s t := by
  obtain ⟨c, st, n, b, rfl⟩ := h
  exact ⟨_, _, run_readDesc (s := s.noisy c st n b) ⟨by rw [noisy_plain]; exact hr.1, hr.2⟩, by rw [noisy_num], like_noisy s c st n b⟩

theorem noisy_image (e : Entry) (s : State) (c : BitVec 4) (st : List StaleByte) (n : Nat) (b : Bool) :
    e.image (s.noisy c st n b) = e.image s := rfl

section
variable {a : Nat} {d g : Desc} {e : Entry} {s v w : State}

/-- A task gate leads to its task. -/
theorem like_taskGate {u : State} (h : Like s u)
    (hg : g = BitVec.ofNat 64 (s.num (s.sys.idtr.base + BitVec.ofNat 32 (8 * e.vec)).toNat 8))
    (hlim : 8 * e.vec + 7 ≤ s.sys.idtr.limit.toNat) (hplain : s.plainAt (s.sys.idtr.base + BitVec.ofNat 32 (8 * e.vec)) 8 = true)
    (hs : descS g = false) (hty : descType g = 5) (hp : descP g = true) (hsoft : e.src = .soft → s.cpl ≤ descDpl g)
    (ht : s.taskTarget .int (gateSel g) = some (a, d)) {q : Unit → State → Prop}
    (hq : ∀ wa x, wa.toNat = a → Like s x → Runs (taskSwitch .int (gateSel g) wa d (e.image s) e.code) x q) :
    Runs (deliverProt e) u q := by
  refine like_get_bind h fun c st n b => ?_
  refine runs_if_neg (by rw [noisy_sys]; omega) (runs_bind (like_gateDesc (like_noisy s c st n b) ((plainAt_iff s _ 8).1 hplain))
    fun x v ⟨hx, hv⟩ => ?_)
  obtain rfl : x = g := hx.trans hg.symm
  have hkind : (descS x || !((descType x).toNat = 5 || (descType x).toNat = 6 || (descType x).toNat = 7 ||
      (descType x).toNat = 14 || (descType x).toNat = 15)) = false := by
    rw [hs, hty]
    rfl
  refine runs_if_neg (by rw [hkind]; exact Bool.false_ne_true) (runs_if_neg (fun hno => ?_) (runs_if_neg (by simp [hp])
    (runs_if_pos (by rw [hty]; rfl) ?_)))
  · rw [Bool.and_eq_true, decide_eq_true_eq, decide_eq_true_eq] at hno
    exact BitVec.not_lt.2 (hsoft hno.1) hno.2
  · refine runs_bind (like_tssTarget hv ht) fun p y ⟨⟨hw, hpd⟩, hy⟩ => ?_
    obtain ⟨wa, t⟩ := p
    obtain rfl : t = d := hpd
    exact hq wa y hw hy

theorem task_by_event (hs : s.ready) (hlbr : s.noLbr = true) (hprot : s.prot = true) (hcode : e.code = none) (hvec : e.vec ≠ 18)
    (hsrc : e.src ≠ .nmi) (hdbg : e.isDebug = false)
    (hg : g = BitVec.ofNat 64 (s.num (s.sys.idtr.base + BitVec.ofNat 32 (8 * e.vec)).toNat 8))
    (hlim : 8 * e.vec + 7 ≤ s.sys.idtr.limit.toNat) (hplain : s.plainAt (s.sys.idtr.base + BitVec.ofNat 32 (8 * e.vec)) 8 = true)
    (hgs : descS g = false) (hty : descType g = 5) (hp : descP g = true) (hsoft : e.src = .soft → s.cpl ≤ descDpl g)
    (ht : s.taskTarget .int (gateSel g) = some (a, d)) (hc : s.canLeaveTask = true)
    (hsw : Switches s .int a d (e.image s) v w) :
    ∃ t, deliver e s = .ok () t ∧ TaskEntered { s with ins := Ins.clear, noReturn := s.marksElsewhere } v w
      { t with ins := Ins.clear } .int (gateSel g) d := by
  obtain ⟨_, u, hrun, F, hF, hent, hmsr, -, -⟩ : Runs (deliverProt e) s fun _ t =>
      ∃ F, Like F t ∧ TaskEntered s v w { F with ins := Ins.clear } .int (gateSel g) d ∧ F.msr = s.msr ∧ F.tr.keepRf = true ∧
        F.sys.cr3 = s.sys.cr3 := by
    refine like_taskGate (Like.refl s) hg hlim hplain hgs hty hp hsoft ht fun wa x hwa hx => ?_
    rw [hcode]
    exact like_switches (image := e.image s) hs.1 hx hc hwa ht hsw
  obtain ⟨c, st, n, b, rfl⟩ := hF
  have hafter := run_afterDelivery (s := F.noisy c st n b) hvec hdbg (by rw [noisy_noLbr, State.noLbr, hmsr]; exact hlbr)
    (s.flag fTF && bit s.msr.debugCtl 1) s.seg.cs.sel s.eip s.sys.cr3
  refine ⟨_, (?_ : deliver e s = .ok () ((F.noisy c st n b).settled
    ((F.noisy c st n b).marksAfter s.seg.cs.sel s.eip s.sys.cr3) (decide (e.src = .nmi)) (s.flag fTF && bit s.msr.debugCtl 1))), ?_⟩
  · rw [deliver, run_bind, run_get]
    dsimp only
    rw [if_pos hprot]
    exact (run_bind_ok _ hrun).trans hafter
  · refine hent.at rfl rfl rfl rfl rfl rfl rfl rfl rfl fun m f y hq => ?_
    obtain ⟨⟨a1, a2, a3, a4, a5, a6, a7, a8, a9, a10, a11, a12, a13, a14⟩, hrest⟩ := hq
    have hmarks : (F.noisy c st n b).marksAfter s.seg.cs.sel s.eip s.sys.cr3 = s.marksElsewhere := by
      rw [State.marksAfter, State.marksElsewhere, show (F.noisy c st n b).noReturn = s.noReturn from a13]
    refine ⟨⟨a1, a2, a3, a4, a5, a6, a7, a8, a9, rfl, a11, a12, hmarks, ?_⟩, hrest⟩
    have hlat := congrArg (fun l : Latches => { l with inhibit := false, stiShadow := false, midRep := false }) a14
    have hnmi : ((F.noisy c st n b).lat.nmiBlocked || decide (e.src = .nmi)) = F.lat.nmiBlocked := by
      rw [decide_eq_false hsrc, Bool.or_false]
      rfl
    rw [State.settled, hnmi]
    exact hlat

end

/-- Settles O46: each clause leads to `taskSwitch`, which `like_switches` follows through. -/
theorem taskSwitches : Obligations.TaskSwitches := by
  refine ⟨?_, ?_, ?_⟩
  case refine_1 =>
    intro call f tsel a d s v w hs hl hlbr hm hok hsel k ht hc hsw
    exact task_by_far hs hl hlbr hm hok hsel ht hc hsw
  case refine_2 =>
    intro a d s v w hs hl hlbr hp hnt hno hlim hlink tsel ht hc hsw
    exact task_by_iret hs hl hlbr hp hnt hno hlim hlink ht hc hsw
  case refine_3 =>
    intro a d e s v w hs hlbr hprot hcode hvec hsrc hdbg g hlim hplain hgs hty hp hsoft ht hc hsw
    exact task_by_event hs hlbr hprot hcode hvec hsrc hdbg rfl hlim hplain hgs hty hp hsoft ht hc hsw

end Sys2Proof.Machine
